-- ==== Sys2Proof/Word.lean ====
section
/-! DEFINITION. The words of the device: bytes, counters, and the unit of exact time.

The manual's registers, counters and packet fields are bit vectors; lengths, indexes and
exact times are natural numbers. -/

namespace Sys2Proof

/-- A byte of a packet, a folio image or a register (R5). -/
abbrev Byte := BitVec 8

/-- A 32-bit counter or serial number. -/
abbrev U32 := BitVec 32

/-- A 64-bit counter. -/
abbrev U64 := BitVec 64

/-- A sequence of bytes, the first at the lowest address. -/
abbrev Bytes := List Byte

/-- A saturating increment (R11): a counter of all ones keeps its value. -/
def satInc {n : Nat} (c : BitVec n) : BitVec n :=
  if c = BitVec.allOnes n then c else c + 1#n

/-- A saturating addition of `k` (R11). -/
def satAdd {n : Nat} (c : BitVec n) (k : Nat) : BitVec n :=
  if c.toNat + k < 2 ^ n then BitVec.ofNat n (c.toNat + k) else BitVec.allOnes n

/-- Exact times are counted in ticks. One nanosecond is 5,292 ticks; every frame, line and
sample instant of the manual is a whole number of ticks (R30). -/
abbrev ticksPerNs : Nat := 5292

/-- Ticks in one step of the time base, 1.25 ns (R16). -/
abbrev ticksPerStep : Nat := 6615

/-- Ticks in one second. -/
abbrev ticksPerSec : Nat := 5292000000000

/-- Ticks in one microsecond. -/
abbrev ticksPerUs : Nat := 5292000

/-- Ticks in one millisecond. -/
abbrev ticksPerMs : Nat := 5292000000

end Sys2Proof
end

