-- ==== Sys2Proof/Syntax.lean ====
section
/-! DEFINITION. The commands of the device: one constructor of `Instr` for each row of
spec/opcode_table.json.

A row that is an opcode of Table 04.11 carries the checked request (`Req`). A row that is an
event carries what the outside world or the device's own timing brings with it: which unit, and
the values that arrive. -/

namespace Sys2Proof

/-- A source of command packets (Table 04.7): a PCIe queue pair, a session on MGT0 or MGT1, a
station of the fold bus, the safety UART, the stitch link's command channel, the debug mailbox; or, for a command that
the partner forwards (R109), the endpoint number of R225 it arrived on there. -/
inductive Endpoint where
  | qp (n : Nat)
  | session (port idx : Nat)
  | fold (station : Nat)
  | safety
  | stitch
  | debug
  | forwarded (n : Nat)
  | copied
  deriving DecidableEq, Repr

/-- A command that has passed steps 1-6 of Table 04.3, as the transport stamped it: the endpoint
and the port it was bound to, its receipt time in ticks (R85), the header fields of Table 04.1
and the parameter bytes. `dup` marks the repetition of a read that R113 executes again. -/
structure Req where
  ep : Endpoint
  port : Nat
  receipt : Nat
  flags : Nat
  seq : Nat
  notAfter : Nat
  crc : Nat
  dup : Bool
  params : Bytes
  deriving DecidableEq, Repr

/-- A fault that strikes an element (R51, Table 02.11, R518), or the occurrence of a named event source for a cause outside
the tables (R512). `voted` a single fault in a copy of a voted spine element; `voteLost` a second one; `essence` a word read
with one symbol wrong, `essenceBad` with more (the ring entry written at `line` of frame `k`); `rest` a word corrected at
rest; `grant` a corrected and `grantBad` an uncorrectable grant mask of a source, `fallbackBad` an uncorrectable word of a
pen's fallback entry; `ancBad` an ANC word of `line` of frame `k` with more than one symbol wrong, `blackBad` such a word of
the black line that destination `d` reads; `evtFixed` and `evtBad` a fault in the event system; `source` an occurrence of an
event source; `unfinished` a command under way that Vegen could not complete, with the low byte of its internal fault code
(R123). -/
inductive HwFault where
  | voted (cls copy : Nat)
  | voteLost (cls : Nat)
  | essence (slot d k line : Nat)
  | essenceBad (slot d k line : Nat)
  | rest (slot line : Nat)
  | grant (slot : Nat)
  | grantBad (slot : Nat)
  | fallbackBad (pen entry : Nat)
  | ancBad (slot k line : Nat)
  | blackBad (d line : Nat)
  | evtFixed (element : Nat)
  | evtBad (element : Nat)
  | logBad (element serial : Nat)
  | source (src inst detail : Nat)
  | unfinished (opcode port seq code : Nat)
  deriving DecidableEq, Repr

/-- What the integrity checks found on a received line (R134, R135): CRC errors of the first and second
stream, an SD field with an EDH checkword error, TRS and line number errors, whether the received
EDH flags are non-zero, and whether the payload ID disagrees with the measured raster. -/
structure LineErr where
  crc1 : Nat
  crc2 : Nat
  edh : Nat
  trs : Nat
  edhFlags : Bool
  pidWrong : Bool
  deriving DecidableEq, Repr

/-- An ST 291 packet as it arrived on a line (R136): horizontal or vertical space, data stream, link of a
gang, and its 10-bit words: DID, SDID or DBN, DC, user data, checksum. -/
structure AncPkt where
  line : Nat
  hanc : Bool
  stream : Nat
  link : Nat
  words : List Nat
  deriving DecidableEq, Repr

/-- An Ethernet frame as it arrived (R163): from the destination address to the end of the payload, and
whether its FCS was good. -/
structure RxFrame where
  bytes : Bytes
  fcsGood : Bool
  deriving DecidableEq, Repr

/-- Who reads an uncorrectable burst of the in-package memory (R235): a line of a synchroniser's input
frame `k`, a line of a layer's frame `k`, `n` words of a delay line from the `first`, section `sec` of a
colophon half, the system mirror, or another user, which the burst does not change. -/
inductive DramUser where
  | syncLine (i k line : Nat)
  | layerLine (e l k line : Nat)
  | delay (sec j first n : Nat)
  | colophon (half sec : Nat)
  | mirror
  | other
  deriving DecidableEq, Repr

/-- A subframe of an AES3 frame as decoded (R304, R306): its 24-bit sample, its channel status, validity and
user bits, and whether it had a parity error or a biphase-mark violation. -/
structure AesSub where
  sample : Int
  c : Bool
  v : Bool
  u : Bool
  bad : Bool
  deriving DecidableEq, Repr

/-- An AES3 frame as decoded: whether it began with a Z preamble, how many of its preambles broke the order,
and its subframes. -/
structure AesFrame where
  z : Bool
  disorder : Nat
  a : AesSub
  b : AesSub
  deriving DecidableEq, Repr

/-- What a standby takes from the holder's state copy for its DPLL (R366). -/
structure DpllCopy where
  state : Nat
  rung : Nat
  selected : Option Nat
  rho : Int
  learntSys : Int
  learntAtom : Int
  bound : Option Nat
  deriving DecidableEq, Repr

/-- A channel's record of a measurement epoch as latched (Table 14.4), with what the integrity checks take from it
(Table 14.5): the post-fit residual and five times its sigma in ps, the ionospheric delay at L1 in ps, and the
residual of the single difference between antennas in 0.001 cycle. -/
structure GnssRec where
  channel : Nat
  flags : Nat
  cn0 : Nat
  lockS : Nat
  txPs : Nat
  carrier : Int
  doppler : Int
  resid : Int
  sigma5 : Nat
  iono : Option Int
  diff : Option Nat
  deriving DecidableEq, Repr

/-- A measurement epoch: the records, the noise power of the streams against their medians in 0.01 dB, the clock
estimates by constellation in ps, whether all antenna differences agree, the solution (time base less GNSS-derived TAI) and
its sigma in ps, the change the DPLL's rate predicts since the last epoch in ps, and the position solved, its
PDOP times 10 and the uncertainty of the average in mm. -/
structure GnssEpoch where
  recs : List GnssRec
  noise : List Int
  clocks : List (Nat × Int)
  common : Bool
  offset : Int
  sigma : Nat
  predicted : Int
  position : List Int
  pdop : Nat
  posUnc : Nat
  deriving DecidableEq, Repr

/-- A satellite the receiver sees or searches: constellation, number, elevation and azimuth in 0.01 degrees. -/
structure Sat where
  con : Nat
  svid : Nat
  elevation : Int
  azimuth : Nat
  deriving DecidableEq, Repr

/-- What start-up meets (Table 18.2): the strap levels, SYSREF as measured in Hz (0 absent), whether the ROOT MDLL
locked, whether the entropy tests passed, whether the flash and its layout header can be read, the DRAM channels that fail
training with the failed step, and the persistent key records that fail their tag. -/
structure BootIn where
  bootSrc : Nat
  side : Nat
  foldAddr : Nat
  sysref : Nat
  mdll : Bool
  entropy : Bool
  flash : Bool
  fails : List (Nat × Nat)
  badKeys : List Nat
  deriving DecidableEq, Repr

/-- What arrives on a management Ethernet port (R558, R505): a frame that carries no connection; a TLS handshake on a new
connection to a TCP port, whether its cryptography holds, the public keys its client certificate chains to (the leaf's first)
and the TAI ns between which its certificates are valid; the plain text of records of a session; an acknowledgement of all
that a session has sent; the end of a session. -/
inductive MgtIn where
  | frame (bytes : Bytes)
  | connect (tcpPort : Nat) (good : Bool) (keys : List Bytes) (validFrom validTo : Nat)
  | data (idx records : Nat) (bytes : Bytes)
  | ack (idx : Nat)
  | close (idx : Nat)
  deriving DecidableEq, Repr

/-- A function of the JTAG port (Table 19.20); the last four act on a control core. -/
inductive JtagFn where
  | bypass | idcode | sample | extest | mailbox
  | halt (core : Nat)
  | singleStep (core : Nat)
  | registers (core : Nat)
  | resume (core : Nat)
  deriving DecidableEq, Repr

/-- The commands and events of the device, one constructor for each row of the table. -/
inductive Instr where
  /-- DEV_INFO (R126). -/
  | devInfo (r : Req)
  /-- DEV_PING (R125). -/
  | devPing (r : Req)
  /-- DEV_PORT_STATE (R127). -/
  | devPortState (r : Req)
  /-- DEV_BIND (R107). -/
  | devBind (r : Req)
  /-- DEV_BIND_READ (R107). -/
  | devBindRead (r : Req)
  /-- QIR_OPEN (R72). -/
  | qirOpen (r : Req)
  /-- QIR_WRITE (R73). -/
  | qirWrite (r : Req)
  /-- QIR_SEAL (R74). -/
  | qirSeal (r : Req)
  /-- QIR_SWAP (R75). -/
  | qirSwap (r : Req)
  /-- QIR_STATUS (R61). -/
  | qirStatus (r : Req)
  /-- QIR_READ (R72). -/
  | qirRead (r : Req)
  /-- QIR_DISCARD (R61). -/
  | qirDiscard (r : Req)
  /-- QIR_STAGE_READ (R79). -/
  | qirStageRead (r : Req)
  /-- DRV_SUBMIT (R82). -/
  | drvSubmit (r : Req)
  /-- DRV_CANCEL (R88). -/
  | drvCancel (r : Req)
  /-- DRV_QUEUE_READ (R89). -/
  | drvQueueRead (r : Req)
  /-- DRV_RESULTS (R89). -/
  | drvResults (r : Req)
  /-- DRV_STATUS (R89). -/
  | drvStatus (r : Req)
  /-- SPN_ROUTE (R53). -/
  | spnRoute (r : Req)
  /-- SPN_ROUTE_READ (R54). -/
  | spnRouteRead (r : Req)
  /-- SPN_SOURCE_STATUS (R55). -/
  | spnSourceStatus (r : Req)
  /-- SPN_GRANT (R56). -/
  | spnGrant (r : Req)
  /-- SPN_FALLBACK (R57). -/
  | spnFallback (r : Req)
  /-- SPN_COUNTERS (R58). -/
  | spnCounters (r : Req)
  /-- SPN_STORE (R59). -/
  | spnStore (r : Req)
  /-- LAN_STATUS (R156). -/
  | lanStatus (r : Req)
  /-- LAN_COUNTERS (R157). -/
  | lanCounters (r : Req)
  /-- LAN_EQ (R153). -/
  | lanEq (r : Req)
  /-- LAN_PRBS (R154). -/
  | lanPrbs (r : Req)
  /-- LAN_EYE (R155). -/
  | lanEye (r : Req)
  /-- PKT_STATUS (R195). -/
  | pktStatus (r : Req)
  /-- PKT_COUNTERS (R196). -/
  | pktCounters (r : Req)
  /-- FLW_STATUS (R197). -/
  | flwStatus (r : Req)
  /-- PKT_LAUNCH (R189). -/
  | pktLaunch (r : Req)
  /-- PKT_WATCH (R193). -/
  | pktWatch (r : Req)
  /-- FAB_STATUS (R227). -/
  | fabStatus (r : Req)
  /-- FAB_COUNTERS (R228). -/
  | fabCounters (r : Req)
  /-- FAB_RETRAIN (R229). -/
  | fabRetrain (r : Req)
  /-- STI_STATUS (R230). -/
  | stiStatus (r : Req)
  /-- MEM_STATUS (R260). -/
  | memStatus (r : Req)
  /-- MEM_TRAINING (R261). -/
  | memTraining (r : Req)
  /-- FSY_STATUS (R262). -/
  | fsyStatus (r : Req)
  /-- AUD_STATUS (R295). -/
  | audStatus (r : Req)
  /-- AUD_PARAM_WRITE (R296). -/
  | audParamWrite (r : Req)
  /-- AUD_GAIN (R297). -/
  | audGain (r : Req)
  /-- AUD_METER (R298). -/
  | audMeter (r : Req)
  /-- AUD_SHEPHERD (R299). -/
  | audShepherd (r : Req)
  /-- AUD_SHEPHERD_READ (R300). -/
  | audShepherdRead (r : Req)
  /-- APT_STATUS (R316). -/
  | aptStatus (r : Req)
  /-- APT_CHSTAT (R317). -/
  | aptChstat (r : Req)
  /-- APT_COUNTERS (R318). -/
  | aptCounters (r : Req)
  /-- LAY_STATUS (R347). -/
  | layStatus (r : Req)
  /-- LAY_SET (R348). -/
  | laySet (r : Req)
  /-- LAY_SHEPHERD_WRITE (R349). -/
  | layShepherdWrite (r : Req)
  /-- LAY_SHEPHERD_SHOW (R350). -/
  | layShepherdShow (r : Req)
  /-- LAY_SHEPHERD_READ (R351). -/
  | layShepherdRead (r : Req)
  /-- REF_STATUS (R377). -/
  | refStatus (r : Req)
  /-- REF_SELECT (R378). -/
  | refSelect (r : Req)
  /-- REF_HOLDOVER (R379). -/
  | refHoldover (r : Req)
  /-- CLK_STATUS (R380). -/
  | clkStatus (r : Req)
  /-- TIM_READ (R419). -/
  | timRead (r : Req)
  /-- TIM_BOUND (R420). -/
  | timBound (r : Req)
  /-- PTP_STATUS (R421). -/
  | ptpStatus (r : Req)
  /-- PTP_SESSIONS (R422). -/
  | ptpSessions (r : Req)
  /-- NTS_STATUS (R423). -/
  | ntsStatus (r : Req)
  /-- TIM_SET (R388). -/
  | timSet (r : Req)
  /-- GNS_STATUS (R444). -/
  | gnsStatus (r : Req)
  /-- GNS_CHANNELS (R445). -/
  | gnsChannels (r : Req)
  /-- GNS_AID (R446). -/
  | gnsAid (r : Req)
  /-- GNS_MEAS (R447). -/
  | gnsMeas (r : Req)
  /-- TWN_STATUS (R480). -/
  | twnStatus (r : Req)
  /-- TWN_HEALTH (R468). -/
  | twnHealth (r : Req)
  /-- TWN_YIELD (R458). -/
  | twnYield (r : Req)
  /-- TWN_SYNC (R471). -/
  | twnSync (r : Req)
  /-- FLK_STATUS (R481). -/
  | flkStatus (r : Req)
  /-- FLK_REPORT (R482). -/
  | flkReport (r : Req)
  /-- FLK_MEMBERS (R483). -/
  | flkMembers (r : Req)
  /-- KEY_STATUS (R499). -/
  | keyStatus (r : Req)
  /-- KEY_LOAD (R496). -/
  | keyLoad (r : Req)
  /-- KEY_GENERATE (R497). -/
  | keyGenerate (r : Req)
  /-- KEY_ERASE (R498). -/
  | keyErase (r : Req)
  /-- IMP_GET (R503). -/
  | impGet (r : Req)
  /-- LCS_ADVANCE (R485). -/
  | lcsAdvance (r : Req)
  /-- EVT_READ (R512). -/
  | evtRead (r : Req)
  /-- EVT_CONFIG (R525). -/
  | evtConfig (r : Req)
  /-- EVT_CLEAR (R520). -/
  | evtClear (r : Req)
  /-- COL_READ (R524). -/
  | colRead (r : Req)
  /-- COL_RELEASE (R523). -/
  | colRelease (r : Req)
  /-- EVT_INJECT (R526). -/
  | evtInject (r : Req)
  /-- UPD_BEGIN (R540). -/
  | updBegin (r : Req)
  /-- UPD_WRITE (R540). -/
  | updWrite (r : Req)
  /-- UPD_VERIFY (R540). -/
  | updVerify (r : Req)
  /-- UPD_ACTIVATE (R541). -/
  | updActivate (r : Req)
  /-- UPD_CONFIRM (R545). -/
  | updConfirm (r : Req)
  /-- UPD_STATUS (R532). -/
  | updStatus (r : Req)
  /-- CAS_WRITE (R536). -/
  | casWrite (r : Req)
  /-- CAS_READ (R536). -/
  | casRead (r : Req)
  /-- DIA_LOOPBACK (R571). -/
  | diaLoopback (r : Req)
  /-- DIA_SELFTEST (R572). -/
  | diaSelftest (r : Req)
  /-- DIA_REG_READ (R570). -/
  | diaRegRead (r : Req)
  /-- DIA_REG_WRITE (R570). -/
  | diaRegWrite (r : Req)
  /-- COMMAND_RECEIPT (R102). -/
  | commandReceipt (ep : Endpoint) (packet : Bytes)
  /-- HELD_COMMAND_TIMEOUT (R463). -/
  | heldCommandTimeout (port seq : Nat)
  /-- SAFETY_UART_FRAME (R108). -/
  | safetyUartFrame (frame : Bytes)
  /-- MGT_FRAME_RECEIVE (R558). -/
  | mgtFrameReceive (port : Nat) (input : MgtIn)
  /-- MGT_SESSION_ACK_TIMEOUT (R558). -/
  | mgtSessionAckTimeout
  /-- SESSION_IDLE_TIMEOUT (R505). -/
  | sessionIdleTimeout
  /-- SESSION_KEY_UPDATE (R505). -/
  | sessionKeyUpdate
  /-- SWITCH_POINT (R42). -/
  | switchPoint (d k : Nat)
  /-- LINE_WRITE (R31). `within`: ticks into the present TIME cycle at which the line was complete. -/
  | lineWrite (slot line fmt within : Nat) (data : List Nat) (err : LineErr)
  /-- DESTINATION_LINE_READ (R45). -/
  | destinationLineRead (d k line : Nat)
  /-- SOURCE_STATE_EVALUATION (R39). -/
  | sourceStateEvaluation (slot : Nat)
  /-- SOURCE_FRAME_LOSS (R39). -/
  | sourceFrameLoss (slot : Nat)
  /-- SOURCE_EVALUATION_CYCLE (R41). -/
  | sourceEvaluationCycle (slot : Nat)
  /-- SPINE_SCRUB_PASS (R51). -/
  | spineScrubPass (us corrected : Nat)
  /-- HARDWARE_FAULT (R51). -/
  | hardwareFault (f : HwFault)
  /-- DEST_FORMAT_QUIET_POINT (R595). -/
  | destFormatQuietPoint (d : Nat)
  /-- DEST_FORMAT_COMPLETE (R595). -/
  | destFormatComplete (d : Nat)
  /-- DROVER_EVENT_APPLY (R84). -/
  | droverEventApply (serial : Nat)
  /-- QUIRE_SWAP_APPLY (R76). -/
  | quireSwapApply
  /-- SWAP_COMPLETE (R78). -/
  | swapComplete
  /-- QUIRE_DIGEST_DONE (R62). -/
  | quireDigestDone
  /-- STAGED_ITEM_START (R79). -/
  | stagedItemStart (i : Nat)
  /-- STAGED_ITEM_COMPLETE (R80). -/
  | stagedItemComplete (i : Nat)
  /-- STAGED_ITEM_TIMEOUT (R80). -/
  | stagedItemTimeout (i : Nat)
  /-- RX_LOCK (R132). -/
  | rxLock (lane : Nat)
  /-- RX_ALIGN (R132). -/
  | rxAlign (lane fmt level : Nat)
  /-- RX_LOCK_LOSS (R132). -/
  | rxLockLoss (lane : Nat) (clock : Bool)
  /-- HUNT_DWELL_EXPIRY (R133). -/
  | huntDwellExpiry (lane : Nat)
  /-- GANG_DESKEW (R141). -/
  | gangDeskew (lane skewNs : Nat)
  /-- ANC_PACKET_RECEIVE (R136). -/
  | ancPacketReceive (lane : Nat) (pkt : AncPkt)
  /-- AUDIO_PACKET_DEEMBED (R137). -/
  | audioPacketDeembed (lane group check : Nat) (samples : List (List Int))
  /-- AUDIO_GROUP_ABSENT (R138). -/
  | audioGroupAbsent (lane group : Nat)
  /-- TX_LINE_START (R146). -/
  | txLineStart (lane k line dropped : Nat)
  /-- TX_RELOCK_END (R151). -/
  | txRelockEnd (lane : Nat)
  /-- PRBS_CHECKER_LOCK (R154). -/
  | prbsCheckerLock (lane : Nat)
  /-- PRBS_CHECKER_UNLOCK (R154). -/
  | prbsCheckerUnlock (lane errors : Nat)
  /-- PORT_UP (R159). -/
  | portUp (port skewNs : Nat)
  /-- PORT_DOWN (R159). -/
  | portDown (port faults : Nat)
  /-- FRAME_RECEIVE (R163). -/
  | frameReceive (port : Nat) (frame : RxFrame)
  /-- PAUSE_EXPIRY (R167). -/
  | pauseExpiry (port : Nat)
  /-- MEMBERSHIP_REPORT_SEND (R168). -/
  | membershipReportSend (i : Nat)
  /-- FLOW_AGEING_CYCLE (R172). -/
  | flowAgeingCycle
  /-- MERGE_RECORD_AGEING (R180). -/
  | mergeRecordAgeing
  /-- MEDIA_PACKET_LAUNCH (R185). -/
  | mediaPacketLaunch (flow k i : Nat)
  /-- MEDIA_PACKET_LATE_DROP (R188). -/
  | mediaPacketLateDrop (port : Nat)
  /-- FRAME_TRANSMIT (R187). -/
  | frameTransmit (port : Nat)
  /-- HOST_FRAME_LAUNCH (R189). -/
  | hostFrameLaunch (port : Nat)
  /-- TC_ENTRY_AGEING (R191). -/
  | tcEntryAgeing
  /-- PORT_WAKE (R193). -/
  | portWake (port : Nat) (frame : Option RxFrame)
  /-- FABRIC_SIGNAL_DETECT (R207). -/
  | fabricSignalDetect (lane : Nat)
  /-- TRAINING_FRAME_RECEIVE (R208). -/
  | trainingFrameReceive (lane : Nat) (inverted : Bool) (control status : Nat)
  /-- BLOCK_LOCK (R204). -/
  | blockLock (lane logical skewNs : Nat)
  /-- BLOCK_LOCK_LOSS (R204). -/
  | blockLockLoss (lane : Nat)
  /-- CAPS_RECEIVE (R209). -/
  | capsReceive (lane : Nat) (caps : Bytes)
  /-- LANE_STATE_TIMEOUT (R207). -/
  | laneStateTimeout (lane : Nat)
  /-- CELL_RECEIVE (R210). -/
  | cellReceive (lane : Nat) (cell : Bytes) (flagged : Bool)
  /-- FABRIC_MERGE_AGEING (R217). -/
  | fabricMergeAgeing
  /-- PICTURE_CELL_SEND (R216). -/
  | pictureCellSend (stream k line j : Nat)
  /-- FRAME_STATUS_SEND (R214). -/
  | frameStatusSend (stream k line : Nat)
  /-- AUDIO_CELL_SEND (R215). -/
  | audioCellSend (stream n0 : Nat)
  /-- STITCH_FRAME_RECEIVE (R223). -/
  | stitchFrameReceive (frame : Bytes)
  /-- STITCH_REORDER_TIMEOUT (R223). -/
  | stitchReorderTimeout
  /-- STITCH_ACK_SEND (R223). -/
  | stitchAckSend
  /-- STITCH_RESEND_TIMEOUT (R224). -/
  | stitchResendTimeout
  /-- STITCH_LINK_DOWN (R224). -/
  | stitchLinkDown
  /-- DRAM_TEMP_POLL (R240). -/
  | dramTempPoll (group : Nat) (temps : List Int)
  /-- DRAM_WCK_RETRAIN (R245). -/
  | dramWckRetrain (chan : Nat) (ps : Int)
  /-- DRAM_UNCORRECTABLE_READ (R235). -/
  | dramUncorrectableRead (chan extent : Nat) (user : DramUser)
  /-- DRAM_GROUP_OUT (R246). -/
  | dramGroupOut (group cause : Nat)
  /-- DRAM_ACCESS_REFUSED (R247). -/
  | dramAccessRefused (group pen port : Nat)
  /-- DRAM_PATROL_SCRUB (R237). -/
  | dramPatrolScrub (chan corrected : Nat)
  /-- DRAM_AUTO_SELF_REFRESH (R242). -/
  | dramAutoSelfRefresh (chan : Nat)
  /-- DRAM_SELF_REFRESH_EXIT (R242). -/
  | dramSelfRefreshExit (chan : Nat)
  /-- FSY_CHOOSE (R254). -/
  | fsyChoose (i j : Nat) (copied : Option Nat)
  /-- FSY_OWN_DECISION (R255). -/
  | fsyOwnDecision (i j : Nat)
  /-- FSY_OUTPUT_LINE (R253). -/
  | fsyOutputLine (i j line : Nat)
  /-- FSY_MOVE_RESTART (R257). -/
  | fsyMoveRestart (i : Nat)
  /-- AUDIO_SAMPLE_PERIOD (R271). -/
  | audioSamplePeriod (sec n : Nat) (copied : Option (List Nat))
  /-- PROGRAM_BANK_EXCHANGE (R280). -/
  | programBankExchange
  /-- AUDIO_CHANGE_APPLY (R294). -/
  | audioChangeApply (sec : Nat)
  /-- GAIN_NATIVE_TIMEOUT (R282). -/
  | gainNativeTimeout (sec key : Nat)
  /-- GAIN_RAMP_END (R283). -/
  | gainRampEnd (sec key : Nat)
  /-- DOMFREE_CLOCK_CHANGE (R269). -/
  | domfreeClockChange (st milliHz : Nat)
  /-- BRIDGE_LOCK (R270). -/
  | bridgeLock (b : Nat) (locked : Bool)
  /-- SHEPHERD_INSERT_FADE_END (R290). -/
  | shepherdInsertFadeEnd (channel : Nat)
  /-- AES3_FRAME_RECEIVE (R304). -/
  | aes3FrameReceive (port rate : Nat) (frame : AesFrame) (copied : Option Bool)
  /-- AUDIO_PORT_NO_SIGNAL (R304). -/
  | audioPortNoSignal (port : Nat)
  /-- AES3_FRAME_SEND (R310). -/
  | aes3FrameSend (port n : Nat)
  /-- TDM_FRAME (R313). -/
  | tdmFrame (port n rate : Nat) (good : Bool) (slots : List Int) (copied : Option Nat)
  /-- LAYER_OUTPUT_LINE (R330). -/
  | layerOutputLine (e k line : Nat)
  /-- LAYER_FORMAT_CHANGE_START (R345). -/
  | layerFormatChangeStart (e : Nat)
  /-- LAYER_FORMAT_CHANGE_END (R345). -/
  | layerFormatChangeEnd (e : Nat)
  /-- SHEPHERD_CHANGE_APPLY (R343). -/
  | shepherdChangeApply (e : Nat)
  /-- TAI_SECOND_EVALUATION (R359). -/
  | taiSecondEvaluation (meas : List (Nat × Int))
  /-- REFERENCE_PULSE (R353). -/
  | referencePulse (r stamp : Nat)
  /-- ATOM_COUNT_CYCLE (R353). -/
  | atomCountCycle (ppt : Int)
  /-- REFERENCE_ACTIVITY_FAULT (R354). -/
  | referenceActivityFault (r : Nat)
  /-- REFERENCE_HOLD_EXPIRY (R354). -/
  | referenceHoldExpiry (r : Nat)
  /-- DPLL_PHASE_UPDATE (R360). -/
  | dpllPhaseUpdate (err : Int) (copied : Option DpllCopy)
  /-- LADDER_ADVANCE (R361). -/
  | ladderAdvance
  /-- SYNTH_LOCK_LOSS (R375). -/
  | synthLockLoss (domain : Nat)
  /-- SYNTH_RELOCK (R375). -/
  | synthRelock (domain : Nat)
  /-- SYSREF_LOSS (R374). -/
  | sysrefLoss (root : Bool)
  /-- PULSE_OUTPUT_EDGE (R367). -/
  | pulseOutputEdge (o k : Nat)
  /-- ACQUISITION_STEP (R385). -/
  | acquisitionStep (copied : Option Int)
  /-- TIM_SET_APPLY (R388). -/
  | timSetApply
  /-- HST_TIME_NS_READ (R390). -/
  | hstTimeNsRead
  /-- PTP_MESSAGE_RECEIVE (R393). -/
  | ptpMessageReceive (p : Nat) (addr msg : Bytes)
  /-- PTP_MESSAGE_SEND (R395). -/
  | ptpMessageSend (p kind : Nat) (session : Option Nat)
  /-- ANNOUNCE_RECEIPT_TIMEOUT (R396). -/
  | announceReceiptTimeout (p : Nat)
  /-- UNICAST_GRANT_AGEING (R399). -/
  | unicastGrantAgeing
  /-- LEAP_SECOND (R392). -/
  | leapSecond
  /-- KEY_ROLLOVER (R403). -/
  | keyRollover (inst : Nat)
  /-- NTP_REQUEST (R407). -/
  | ntpRequest (port : Nat) (addr msg : Bytes)
  /-- NTS_KE_HANDSHAKE (R408). -/
  | ntsKeHandshake (port conn : Nat) (opened good : Bool) (keys : Bytes)
  /-- NTS_KE_TIMEOUT (R408). -/
  | ntsKeTimeout (conn : Nat)
  /-- RATE_LIMITER_AGEING (R411). -/
  | rateLimiterAgeing
  /-- GNSS_CLOCK_STAMP (R426). -/
  | gnssClockStamp (stamp : Nat)
  /-- GNSS_NO_CLOCK (R426). -/
  | gnssNoClock
  /-- GNSS_STREAM_CHECK (R426). -/
  | gnssStreamCheck (stream extreme total : Nat) (equal : Bool)
  /-- CHANNEL_ALLOCATION (R429). -/
  | channelAllocation (sats : List Sat)
  /-- SEARCH_DWELL (R432). -/
  | searchDwell (channel : Nat) (detected : Bool)
  /-- CHANNEL_PULLIN_DONE (R430). -/
  | channelPullinDone (channel : Nat)
  /-- CHANNEL_LOCK_LOSS (R430). -/
  | channelLockLoss (channel : Nat)
  /-- REACQ_TIMEOUT (R430). -/
  | reacqTimeout (channel : Nat)
  /-- NAV_MESSAGE_DECODE (R436). -/
  | navMessageDecode (channel message : Nat) (bits : Bytes)
  /-- MEASUREMENT_EPOCH (R433). -/
  | measurementEpoch (e : GnssEpoch)
  /-- GNSS_HOLD_TIMEOUT (R439). -/
  | gnssHoldTimeout
  /-- STITCH_CYCLE_END (R451). -/
  | stitchCycleEnd
  /-- CROOK_CLAIM (R452). -/
  | crookClaim
  /-- STARTING_WAIT_EXPIRY (R455). -/
  | startingWaitExpiry
  /-- RESTART_OVERRUN (R454). -/
  | restartOverrun
  /-- SELFTEST_RUN (R466). -/
  | selftestRun (item : Nat) (pass : Bool)
  /-- RESYNC_PHASE_END (R469). -/
  | resyncPhaseEnd (ok : Bool)
  /-- FLOCK_HELLO_SEND (R476). -/
  | flockHelloSend
  /-- FLOCK_MESSAGE_RECEIVE (R474). -/
  | flockMessageReceive (port station : Nat) (addr msg : Bytes)
  /-- MEMBER_AGEING (R476). -/
  | memberAgeing
  /-- KEY_USE_REQUEST (R489). -/
  | keyUseRequest (slot world alg requester : Nat)
  /-- DRBG_RESEED (R493). -/
  | drbgReseed
  /-- ENTROPY_HEALTH_FAIL (R493). -/
  | entropyHealthFail (test : Nat)
  /-- CRYPTO_CHUNK_BOUNDARY (R509). -/
  | cryptoChunkBoundary (arrived : List (Nat × Nat × Nat))
  /-- BLOCK_RESET_RECOVERED (R514). -/
  | blockResetRecovered (block inst : Nat)
  /-- CORE_WATCHDOG (R511). -/
  | coreWatchdog (core task : Nat)
  /-- COLOPHON_WRITE_DONE (R522). -/
  | colophonWriteDone (cut : Option (Nat × Nat))
  /-- EVT_PEND_WRITE (R520). -/
  | evtPendWrite (n value : Nat)
  /-- EVT_SUMMARY_WRITE (R519). -/
  | evtSummaryWrite (value : Nat)
  /-- EVT_BLK_STATUS_READ (R519). -/
  | evtBlkStatusRead (b : Nat)
  /-- RFC_EVENTS_WRITE (R371). -/
  | rfcEventsWrite (value : Nat)
  /-- BOOT_STATUS_WRITE (R531). -/
  | bootStatusWrite (value : Nat)
  /-- RESET_ASSERT (R528). -/
  | resetAssert (lowNs : Nat)
  /-- RESET_RELEASE (R529). -/
  | resetRelease (b : BootIn)
  /-- CHIP_RESET (R528). -/
  | chipReset (copied : Option Nat)
  /-- CONTROL_PLANE_RESTART (R543). -/
  | controlPlaneRestart
  /-- VEGEN_REGISTER (R543). -/
  | vegenRegister
  /-- UPDATE_ACTIVATION_DUE (R541). -/
  | updateActivationDue
  /-- CONFIRM_TIMER_EXPIRY (R546). -/
  | confirmTimerExpiry
  /-- DEEP_UPDATE_PHASE (R547). -/
  | deepUpdatePhase (phase : Nat) (good : Bool)
  /-- HST_DOORBELL (R551). -/
  | hstDoorbell (q value : Nat)
  /-- HST_CQ_HEAD (R551). -/
  | hstCqHead (q value : Nat)
  /-- SUBMISSION_FETCH (R551). -/
  | submissionFetch (q : Nat) (entry packet : Option Bytes)
  /-- COMPLETION_WRITE (R552). -/
  | completionWrite (q : Nat)
  /-- HST_QP_CFG_WRITE (R553). -/
  | hstQpCfgWrite (q value : Nat)
  /-- INTERRUPT_MODERATION_TIMEOUT (R555). -/
  | interruptModerationTimeout (q : Nat)
  /-- DESCRIPTOR_TAIL_WRITE (R557). -/
  | descriptorTailWrite (value : Nat)
  /-- RECEIVE_HEAD_WRITE (R557). -/
  | receiveHeadWrite (value : Nat)
  /-- LAUNCH_HEAD_WRITE (R557). -/
  | launchHeadWrite (value : Nat)
  /-- HOST_FRAME_DELIVER (R556). -/
  | hostFrameDeliver (len : Nat)
  /-- HST_MBOX_GO (R550). -/
  | hstMboxGo (value : Nat)
  /-- MBOX_FETCH_DONE (R550). -/
  | mboxFetchDone (package : Option Bytes) (fails : List (Nat × Nat)) (badKeys : List Nat)
  /-- REGISTER_WRITE (R9). -/
  | registerWrite (bar off value : Nat)
  /-- PERST_ASSERT (R587). -/
  | perstAssert (low : Bool)
  /-- FOLD_SLOT_SEND (R560). -/
  | foldSlotSend
  /-- FOLD_FRAME_RECEIVE (R559). -/
  | foldFrameReceive (frame : Bytes)
  /-- FOLD_TENURE_END (R561). -/
  | foldTenureEnd
  /-- FOLD_FRAME_DROP (R561). -/
  | foldFrameDrop
  /-- FOLD_SILENCE_TIMEOUT (R562). -/
  | foldSilenceTimeout
  /-- BUS_LOCK_TIMEOUT (R564). -/
  | busLockTimeout (master addr : Nat) (released : Bool)
  /-- ROM_REMAP_WRITE (R563). -/
  | romRemapWrite
  /-- DEBUG_MAILBOX_WRITE (R569). -/
  | debugMailboxWrite (word : Nat)
  /-- JTAG_INSTRUCTION (R569). -/
  | jtagInstruction (fn : JtagFn)
  /-- AVS_REQUEST (R577). -/
  | avsRequest (ack : Bool) (slewNs : Nat)
  /-- GOVERNOR_ADMISSION (R581). -/
  | governorAdmission
  /-- SUPPLY_UNDERVOLTAGE (R580). -/
  | supplyUndervoltage (rail mv : Nat)
  /-- SUPPLY_RESTORED (R580). -/
  | supplyRestored (readings : List Nat)
  /-- POWER_UP (R578). -/
  | powerUp
  /-- THERMAL_THRESHOLD (R585). -/
  | thermalThreshold (temps : List Int)
  /-- CLOCK_REFERENCE_ACTIVITY_RESTORED (R354). -/
  | clockReferenceActivityRestored (r : Nat)
  /-- GNSS_CLOCK_RETURN (R426). -/
  | gnssClockReturn
  /-- FOLD_TOKEN_PHASE_START (R561). -/
  | foldTokenPhaseStart
  /-- FOLD_POLL_RESPONSE_TIMEOUT (R562). -/
  | foldPollResponseTimeout
  /-- ERR_N_MINIMUM_HOLD_END (R521). -/
  | errNMinimumHoldEnd
  /-- KEY_SHARE_RERANDOMISATION (R491). -/
  | keyShareRerandomisation
  /-- PORT_BRING_UP_COMPLETE (R162). -/
  | portBringUpComplete (port : Nat)
  deriving DecidableEq, Repr

end Sys2Proof
end

