-- ==== Sys2Proof/Decode.lean ====
section
/-! DEFINITION. The commands that the opcode table spells by bits: none of its rows gives bits. -/

namespace Sys2Proof

/-- The command that the word `w` of `nbits` bits spells by the table: no row of the table gives bits,
so no word spells one. DESIGN CHOICE (safe, log 4). -/
def decodeTableWord (_nbits _w : Nat) : Option Instr := none

end Sys2Proof
end

