-- ==== Sys2Proof/Machine/Catalogue.lean ====
section
/-! DEFINITION. The opcode catalogue (R125, Table 04.11), the port numbers (Table 04.4), the
availability of ports by life-cycle state (Table 04.6) and the status codes (Table 04.9). -/

namespace Sys2Proof.Machine

/-- Port codes of the catalogue (R125). -/
inductive PortCode where
  | root | safety | flock | partner | factory | debug | pen | origin | any
  deriving DecidableEq, Repr

/-- A row of the catalogue: opcode, ports, and the flags c (cached and held), s (may be scheduled),
g (may be staged) and a (accepted at all times). -/
structure CatRow where
  opcode : Nat
  ports : List PortCode
  c : Bool
  s : Bool
  g : Bool
  a : Bool
  deriving DecidableEq, Repr

/-- Table 04.11. -/
def catalogue (opcode : Nat) : Option CatRow :=
  match opcode with
  | 0x0101 => some ⟨0x0101, [.any], false, false, false, true⟩ -- DEV_INFO
  | 0x0102 => some ⟨0x0102, [.any], false, false, false, true⟩ -- DEV_PING
  | 0x0103 => some ⟨0x0103, [.any], false, false, false, true⟩ -- DEV_PORT_STATE
  | 0x0104 => some ⟨0x0104, [.root], true, false, false, false⟩ -- DEV_BIND
  | 0x0105 => some ⟨0x0105, [.root, .factory], false, false, false, false⟩ -- DEV_BIND_READ
  | 0x0201 => some ⟨0x0201, [.root], true, false, false, false⟩ -- QIR_OPEN
  | 0x0202 => some ⟨0x0202, [.root], true, false, false, false⟩ -- QIR_WRITE
  | 0x0203 => some ⟨0x0203, [.root], true, false, false, false⟩ -- QIR_SEAL
  | 0x0204 => some ⟨0x0204, [.root], true, true, true, false⟩ -- QIR_SWAP
  | 0x0205 => some ⟨0x0205, [.any], false, false, false, false⟩ -- QIR_STATUS
  | 0x0206 => some ⟨0x0206, [.root, .factory], false, false, false, false⟩ -- QIR_READ
  | 0x0207 => some ⟨0x0207, [.root], true, false, false, false⟩ -- QIR_DISCARD
  | 0x0208 => some ⟨0x0208, [.any], false, false, false, false⟩ -- QIR_STAGE_READ
  | 0x0301 => some ⟨0x0301, [.root, .flock, .pen], true, true, false, false⟩ -- DRV_SUBMIT
  | 0x0302 => some ⟨0x0302, [.root, .origin], true, false, false, false⟩ -- DRV_CANCEL
  | 0x0303 => some ⟨0x0303, [.root, .flock, .pen, .factory], false, false, false, false⟩ -- DRV_QUEUE_READ
  | 0x0304 => some ⟨0x0304, [.root, .flock, .pen, .factory], false, false, false, false⟩ -- DRV_RESULTS
  | 0x0305 => some ⟨0x0305, [.any], false, false, false, false⟩ -- DRV_STATUS
  | 0x0401 => some ⟨0x0401, [.root, .flock, .pen], true, true, false, false⟩ -- SPN_ROUTE
  | 0x0402 => some ⟨0x0402, [.root, .flock, .pen, .factory], false, false, false, false⟩ -- SPN_ROUTE_READ
  | 0x0403 => some ⟨0x0403, [.root, .flock, .pen, .factory], false, false, false, false⟩ -- SPN_SOURCE_STATUS
  | 0x0404 => some ⟨0x0404, [.root, .pen], true, true, false, false⟩ -- SPN_GRANT
  | 0x0405 => some ⟨0x0405, [.root, .pen], true, false, false, false⟩ -- SPN_FALLBACK
  | 0x0406 => some ⟨0x0406, [.root, .pen, .factory], false, false, false, false⟩ -- SPN_COUNTERS
  | 0x0407 => some ⟨0x0407, [.root, .factory], false, false, false, false⟩ -- SPN_STORE
  | 0x0501 => some ⟨0x0501, [.root, .pen, .factory], false, false, false, false⟩ -- LAN_STATUS
  | 0x0502 => some ⟨0x0502, [.root, .pen, .factory], false, false, false, false⟩ -- LAN_COUNTERS
  | 0x0503 => some ⟨0x0503, [.root, .factory], true, false, false, false⟩ -- LAN_EQ
  | 0x0504 => some ⟨0x0504, [.root, .factory], true, false, false, false⟩ -- LAN_PRBS
  | 0x0505 => some ⟨0x0505, [.root, .factory], false, false, false, false⟩ -- LAN_EYE
  | 0x0601 => some ⟨0x0601, [.root, .factory], false, false, false, false⟩ -- PKT_STATUS
  | 0x0602 => some ⟨0x0602, [.root, .factory], false, false, false, false⟩ -- PKT_COUNTERS
  | 0x0603 => some ⟨0x0603, [.root, .pen, .factory], false, false, false, false⟩ -- FLW_STATUS
  | 0x0604 => some ⟨0x0604, [.root], true, false, false, false⟩ -- PKT_LAUNCH
  | 0x0605 => some ⟨0x0605, [.root], true, false, false, false⟩ -- PKT_WATCH
  | 0x0701 => some ⟨0x0701, [.root, .factory], false, false, false, false⟩ -- FAB_STATUS
  | 0x0702 => some ⟨0x0702, [.root, .factory], false, false, false, false⟩ -- FAB_COUNTERS
  | 0x0703 => some ⟨0x0703, [.root, .factory], true, false, false, false⟩ -- FAB_RETRAIN
  | 0x0704 => some ⟨0x0704, [.root, .partner, .factory], false, false, false, false⟩ -- STI_STATUS
  | 0x0801 => some ⟨0x0801, [.root, .factory], false, false, false, false⟩ -- MEM_STATUS
  | 0x0802 => some ⟨0x0802, [.root, .factory, .debug], false, false, false, false⟩ -- MEM_TRAINING
  | 0x0803 => some ⟨0x0803, [.root, .pen, .factory], false, false, false, false⟩ -- FSY_STATUS
  | 0x0901 => some ⟨0x0901, [.root, .pen, .factory], false, false, false, false⟩ -- AUD_STATUS
  | 0x0902 => some ⟨0x0902, [.root, .pen], true, false, false, false⟩ -- AUD_PARAM_WRITE
  | 0x0903 => some ⟨0x0903, [.root, .pen], true, false, false, false⟩ -- AUD_GAIN
  | 0x0904 => some ⟨0x0904, [.root, .pen, .factory], false, false, false, false⟩ -- AUD_METER
  | 0x0905 => some ⟨0x0905, [.safety], true, false, false, false⟩ -- AUD_SHEPHERD
  | 0x0906 => some ⟨0x0906, [.root, .safety, .factory], false, false, false, false⟩ -- AUD_SHEPHERD_READ
  | 0x0A01 => some ⟨0x0A01, [.root, .factory], false, false, false, false⟩ -- APT_STATUS
  | 0x0A02 => some ⟨0x0A02, [.root, .pen, .factory], false, false, false, false⟩ -- APT_CHSTAT
  | 0x0A03 => some ⟨0x0A03, [.root, .factory], false, false, false, false⟩ -- APT_COUNTERS
  | 0x0B01 => some ⟨0x0B01, [.root, .pen, .safety, .factory], false, false, false, false⟩ -- LAY_STATUS
  | 0x0B02 => some ⟨0x0B02, [.root, .pen], true, false, false, false⟩ -- LAY_SET
  | 0x0B03 => some ⟨0x0B03, [.safety], true, false, false, false⟩ -- LAY_SHEPHERD_WRITE
  | 0x0B04 => some ⟨0x0B04, [.safety], true, false, false, false⟩ -- LAY_SHEPHERD_SHOW
  | 0x0B05 => some ⟨0x0B05, [.root, .safety, .factory], false, false, false, false⟩ -- LAY_SHEPHERD_READ
  | 0x0C01 => some ⟨0x0C01, [.root, .flock, .factory], false, false, false, false⟩ -- REF_STATUS
  | 0x0C02 => some ⟨0x0C02, [.root], true, false, false, false⟩ -- REF_SELECT
  | 0x0C03 => some ⟨0x0C03, [.root, .flock, .factory], false, false, false, false⟩ -- REF_HOLDOVER
  | 0x0C04 => some ⟨0x0C04, [.root, .factory], false, false, false, false⟩ -- CLK_STATUS
  | 0x0D01 => some ⟨0x0D01, [.any], false, false, false, true⟩ -- TIM_READ
  | 0x0D02 => some ⟨0x0D02, [.root, .flock, .factory], false, false, false, false⟩ -- TIM_BOUND
  | 0x0D03 => some ⟨0x0D03, [.root, .flock, .factory], false, false, false, false⟩ -- PTP_STATUS
  | 0x0D04 => some ⟨0x0D04, [.root, .factory], false, false, false, false⟩ -- PTP_SESSIONS
  | 0x0D05 => some ⟨0x0D05, [.root, .factory], false, false, false, false⟩ -- NTS_STATUS
  | 0x0D06 => some ⟨0x0D06, [.root], true, false, false, false⟩ -- TIM_SET
  | 0x0E01 => some ⟨0x0E01, [.root, .flock, .factory], false, false, false, false⟩ -- GNS_STATUS
  | 0x0E02 => some ⟨0x0E02, [.root, .factory], false, false, false, false⟩ -- GNS_CHANNELS
  | 0x0E03 => some ⟨0x0E03, [.root, .flock], true, false, false, false⟩ -- GNS_AID
  | 0x0E04 => some ⟨0x0E04, [.root, .factory], false, false, false, false⟩ -- GNS_MEAS
  | 0x0F01 => some ⟨0x0F01, [.any], false, false, false, false⟩ -- TWN_STATUS
  | 0x0F02 => some ⟨0x0F02, [.root, .partner, .factory], false, false, false, false⟩ -- TWN_HEALTH
  | 0x0F03 => some ⟨0x0F03, [.root], true, false, false, false⟩ -- TWN_YIELD
  | 0x0F04 => some ⟨0x0F04, [.partner], true, false, false, false⟩ -- TWN_SYNC
  | 0x0F05 => some ⟨0x0F05, [.root, .flock, .factory], false, false, false, false⟩ -- FLK_STATUS
  | 0x0F06 => some ⟨0x0F06, [.flock], true, false, false, false⟩ -- FLK_REPORT
  | 0x0F07 => some ⟨0x0F07, [.root, .flock, .factory], false, false, false, false⟩ -- FLK_MEMBERS
  | 0x1001 => some ⟨0x1001, [.root, .factory], false, false, false, false⟩ -- KEY_STATUS
  | 0x1002 => some ⟨0x1002, [.root, .factory], true, false, false, false⟩ -- KEY_LOAD
  | 0x1003 => some ⟨0x1003, [.root, .factory], true, false, false, false⟩ -- KEY_GENERATE
  | 0x1004 => some ⟨0x1004, [.root, .factory], true, false, false, false⟩ -- KEY_ERASE
  | 0x1005 => some ⟨0x1005, [.any], false, false, false, true⟩ -- IMP_GET
  | 0x1006 => some ⟨0x1006, [.root, .factory], true, false, false, false⟩ -- LCS_ADVANCE
  | 0x1101 => some ⟨0x1101, [.root, .factory, .debug], false, false, false, false⟩ -- EVT_READ
  | 0x1102 => some ⟨0x1102, [.root], true, false, false, false⟩ -- EVT_CONFIG
  | 0x1103 => some ⟨0x1103, [.root], true, false, false, false⟩ -- EVT_CLEAR
  | 0x1104 => some ⟨0x1104, [.root, .factory, .debug], false, false, false, false⟩ -- COL_READ
  | 0x1105 => some ⟨0x1105, [.root, .factory], true, false, false, false⟩ -- COL_RELEASE
  | 0x1106 => some ⟨0x1106, [.factory], true, false, false, false⟩ -- EVT_INJECT
  | 0x1201 => some ⟨0x1201, [.root, .factory], true, false, false, false⟩ -- UPD_BEGIN
  | 0x1202 => some ⟨0x1202, [.root, .factory], true, false, false, false⟩ -- UPD_WRITE
  | 0x1203 => some ⟨0x1203, [.root, .factory], true, false, false, false⟩ -- UPD_VERIFY
  | 0x1204 => some ⟨0x1204, [.root, .flock], true, true, false, false⟩ -- UPD_ACTIVATE
  | 0x1205 => some ⟨0x1205, [.root], true, false, false, false⟩ -- UPD_CONFIRM
  | 0x1206 => some ⟨0x1206, [.root, .factory], false, false, false, false⟩ -- UPD_STATUS
  | 0x1207 => some ⟨0x1207, [.root, .factory], true, false, false, false⟩ -- CAS_WRITE
  | 0x1208 => some ⟨0x1208, [.root, .factory], false, false, false, false⟩ -- CAS_READ
  | 0x1301 => some ⟨0x1301, [.root, .factory], true, false, false, false⟩ -- DIA_LOOPBACK
  | 0x1302 => some ⟨0x1302, [.root, .factory], true, false, false, false⟩ -- DIA_SELFTEST
  | 0x1303 => some ⟨0x1303, [.factory, .debug], false, false, false, false⟩ -- DIA_REG_READ
  | 0x1304 => some ⟨0x1304, [.factory, .debug], true, false, false, false⟩ -- DIA_REG_WRITE
  | _ => none

/-- Port numbers (Table 04.4). -/
abbrev portRoot : Nat := 0x100
abbrev portSafety : Nat := 0x101
abbrev portFlock : Nat := 0x102
abbrev portPartner : Nat := 0x103
abbrev portFactory : Nat := 0x104
abbrev portDebug : Nat := 0x105

/-- Whether a port number is a pen port (Table 04.4). -/
def isPen (p : Nat) : Bool := decide (p < 0x100)

/-- Whether a port number carries a port code of the catalogue. `origin` is the port that submitted
the event named; every port that may submit events can be one. -/
def portHas (p : Nat) : PortCode → Bool
  | .root => decide (p = portRoot)
  | .safety => decide (p = portSafety)
  | .flock => decide (p = portFlock)
  | .partner => decide (p = portPartner)
  | .factory => decide (p = portFactory)
  | .debug => decide (p = portDebug)
  | .pen => isPen p
  | .origin => isPen p || decide (p = portFlock)
  | .any => true

/-- Availability of a port in a life-cycle state (Table 04.6). -/
def portAvailable (p lc : Nat) : Bool :=
  if isPen p then decide (lc = 2 ∨ lc = 3)
  else if p = portRoot ∨ p = portSafety ∨ p = portPartner then decide (1 ≤ lc ∧ lc ≤ 4)
  else if p = portFlock then decide (1 ≤ lc ∧ lc ≤ 3)
  else if p = portFactory then decide (lc = 0 ∨ lc = 1 ∨ lc = 4)
  else if p = portDebug then decide (lc ≤ 2 ∨ lc = 4)
  else false

/-! Status codes (Table 04.9). -/
abbrev stOk : Nat := 0x0000
abbrev stDuplicate : Nat := 0x0001
abbrev stAccepted : Nat := 0x0010
abbrev stBadLength : Nat := 0x0102
abbrev stUnknown : Nat := 0x0103
abbrev stBadParam : Nat := 0x0104
abbrev stStale : Nat := 0x0105
abbrev stNotPermitted : Nat := 0x0201
abbrev stNotOwner : Nat := 0x0202
abbrev stLifecycle : Nat := 0x0203
abbrev stExpired : Nat := 0x0301
abbrev stTooLate : Nat := 0x0302
abbrev stSuperseded : Nat := 0x0303
abbrev stBusy : Nat := 0x0401
abbrev stNoCapacity : Nat := 0x0402
abbrev stNotActive : Nat := 0x0501
abbrev stFenced : Nat := 0x0502
abbrev stDigest : Nat := 0x0601
abbrev stStaging : Nat := 0x0701

end Sys2Proof.Machine
end

