-- ==== Sys2Proof/Machine/Base.lean ====
section
/-! DEFINITION. Sparse tables in one canonical form, and the byte order of packets and folios.

A table of the device (registers, slots, lanes, folio bytes) is a list of (index, value) pairs
with strictly rising indexes and no entry equal to what an unlisted index reads as. -/

namespace Sys2Proof.Machine

/-- The value of a sparse table at `k`; an unlisted index reads as `d k`. -/
def mget {α : Type} (d : Nat → α) : List (Nat × α) → Nat → α
  | [], k => d k
  | (a, v) :: t, k => if a = k then v else mget d t k

/-- Removes the entry at `k`. -/
def mdel {α : Type} : List (Nat × α) → Nat → List (Nat × α)
  | [], _ => []
  | (a, v) :: t, k => if a = k then mdel t k else (a, v) :: mdel t k

/-- Inserts or replaces the entry at `k`, keeping the indexes rising. -/
def mput {α : Type} : List (Nat × α) → Nat → α → List (Nat × α)
  | [], k, v => [(k, v)]
  | (a, w) :: t, k, v =>
    if a = k then (k, v) :: t
    else if k < a then (k, v) :: (a, w) :: t
    else (a, w) :: mput t k v

/-- Writes `v` at `k`; writing what an unlisted index reads as removes the entry. -/
def mset {α : Type} [DecidableEq α] (d : Nat → α) (m : List (Nat × α)) (k : Nat) (v : α) :
    List (Nat × α) :=
  if v = d k then mdel m k else mput m k v

/-- Applies `f` to the value at `k`. -/
def mmod {α : Type} [DecidableEq α] (d : Nat → α) (m : List (Nat × α)) (k : Nat) (f : α → α) :
    List (Nat × α) :=
  mset d m k (f (mget d m k))

/-- Strictly rising indexes, all above `lo`, and no entry equal to its default. -/
def mwfFrom {α : Type} [DecidableEq α] (d : Nat → α) : Nat → List (Nat × α) → Bool
  | _, [] => true
  | lo, (a, v) :: t => decide (lo ≤ a) && decide (v ≠ d a) && mwfFrom d (a + 1) t

/-- The canonical form of a sparse table. -/
def mwf {α : Type} [DecidableEq α] (d : Nat → α) (m : List (Nat × α)) : Bool := mwfFrom d 0 m

/-- The `k` low bytes of `n`, least significant first (R5). -/
def le : Nat → Nat → Bytes
  | 0, _ => []
  | k + 1, n => BitVec.ofNat 8 n :: le k (n / 256)

/-- A signed number in `k` bytes, two's complement (R6). -/
def leI (k : Nat) (n : Int) : Bytes := le k (n % (256 ^ k : Nat)).toNat

/-- The number spelled by bytes, least significant first (R5). -/
def leNat : Bytes → Nat
  | [] => 0
  | b :: t => b.toNat + 256 * leNat t

/-- `n` zero bytes. -/
def zeros (n : Nat) : Bytes := List.replicate n 0#8

/-- `n` bytes of 0xFF: a record the caller may not read (R110). -/
def ffs (n : Nat) : Bytes := List.replicate n 0xFF#8

/-- The `len` bytes of `ps` from offset `o`. -/
def slice (ps : Bytes) (o len : Nat) : Bytes := (ps.drop o).take len

/-- The unsigned field of `k` bytes at offset `o` of a parameter block. -/
def rd (ps : Bytes) (o k : Nat) : Nat := leNat (slice ps o k)

/-- The signed field of `k` bytes at offset `o`. -/
def rdI (ps : Bytes) (o k : Nat) : Int :=
  let n := rd ps o k
  if n < 256 ^ k / 2 then (n : Int) else (n : Int) - (256 ^ k : Nat)

/-- All bytes from `o` for `len` are zero (a reserved field, R8). -/
def isZero (ps : Bytes) (o len : Nat) : Bool := (slice ps o len).all (· == 0#8)

/-- Bit `b` of a number. -/
def bit (n b : Nat) : Bool := n.testBit b

/-- The field [hi:lo] of a number (R6). -/
def bits (n hi lo : Nat) : Nat := n / 2 ^ lo % 2 ^ (hi + 1 - lo)

/-- One if true. -/
def b2n (b : Bool) : Nat := if b then 1 else 0

/-- Division rounded up. -/
def cdiv (a b : Nat) : Nat := (a + b - 1) / b

/-- A table of 32-bit counters by index, those at zero unlisted. -/
abbrev Counts := List (Nat × U32)

/-- The value of a counter. -/
def cGet (m : Counts) (k : Nat) : U32 := mget (fun _ => 0#32) m k

/-- Adds `n` to a counter, saturating (R11). -/
def cAdd (m : Counts) (k n : Nat) : Counts := mmod (fun _ => 0#32) m k (satAdd · n)

/-- The counters `0` to `n − 1` as little-endian words. -/
def cBytes (m : Counts) (n : Nat) : Bytes := (List.range n).flatMap fun j => le 4 (cGet m j).toNat

/-- Adds `n` to a 64-bit counter of a table, saturating (R11). -/
def nAdd (m : List (Nat × Nat)) (k n : Nat) : List (Nat × Nat) :=
  mmod (fun _ => 0) m k (fun v => min (v + n) (2 ^ 64 - 1))

/-- Bytes in network order, most significant first. -/
def be (k n : Nat) : Bytes := (le k n).reverse

/-- The number spelled by bytes in network order. -/
def beNat (bs : Bytes) : Nat := leNat bs.reverse

/-- The unsigned field of `k` bytes in network order at offset `o`. -/
def rdB (ps : Bytes) (o k : Nat) : Nat := beNat (slice ps o k)

/-- The field of `n` bits at bit offset `o`, counted from the most significant bit of the first
byte. -/
def rdBits (ps : Bytes) (o n : Nat) : Nat :=
  let first := o / 8
  let last := (o + n + 7) / 8
  rdB ps first (last - first) / 2 ^ (8 * last - o - n) % 2 ^ n

/-- Keeps at most the last `n` elements of a log. -/
def keepLast {α : Type} (n : Nat) (l : List α) : List α := l.drop (l.length - n)

/-- Replaces the first element satisfying `p` through `f`. -/
def updFirst {α : Type} (p : α → Bool) (f : α → α) : List α → List α
  | [] => []
  | a :: t => if p a then f a :: t else a :: updFirst p f t

/-- One step of CRC-32C over a byte, reflected polynomial 0x82F6_3B78 (R100). -/
def crcByte (c : U32) (b : Byte) : U32 :=
  let x := c ^^^ b.setWidth 32
  let f (v : U32) : U32 := if v.getLsbD 0 then (v >>> 1) ^^^ 0x82F63B78#32 else v >>> 1
  f (f (f (f (f (f (f (f x)))))))

/-- CRC-32C (R100): initial value and final exclusive-or all ones. -/
def crc32c (bs : Bytes) : U32 := bs.foldl crcByte 0xFFFFFFFF#32 ^^^ 0xFFFFFFFF#32

/-- The least whole number whose square is at least `n`, found by bisection on `fuel` bits. -/
def sqrtUpAux (n : Nat) : Nat → Nat → Nat
  | 0, r => if r * r < n then r + 1 else r
  | f + 1, r =>
    let t := r + 2 ^ f
    if t * t ≤ n then sqrtUpAux n f t else sqrtUpAux n f r

/-- The square root of `n`, rounded up. -/
def sqrtUp (n : Nat) : Nat := sqrtUpAux n 64 0

end Sys2Proof.Machine
end

