-- ==== Sys2Proof/Machine/StCore.lean ====
section
/-! DEFINITION. State of the command ports, the quires, the drover, the event collector and the
time base (chapters 03, 04, 13 and 17 of the manual). -/

namespace Sys2Proof.Machine

/-! ### Command ports (chapter 04) -/

/-- A reply packet as it leaves the device (R101, Table 04.2). -/
structure Reply where
  ep : Endpoint
  port : Nat
  opcode : Nat
  flags : Nat
  seq : Nat
  timeNs : Nat
  status : Nat
  detail : Nat
  params : Bytes
  deriving DecidableEq, Repr

/-- One entry of a port's held set (R112, R113, Table 17.15). -/
structure HeldEntry where
  seq : Nat
  opcode : Nat
  crc : Nat
  complete : Bool
  cached : Bool
  status : Nat
  detail : Nat
  params : Bytes
  deriving DecidableEq, Repr

/-- Sequence state and counters of one port (R112-R114, Table 04.13). `held` is ascending in
sequence. -/
structure PortState where
  held : List HeldEntry := []
  floor : Nat := 0
  crcErrors : U32 := 0
  stale : U32 := 0
  duplicates : U32 := 0
  expired : U32 := 0
  refused : U32 := 0
  deriving DecidableEq, Repr

/-- A command received and checked through step 6, waiting to start (R102, R122). -/
structure Waiting where
  opcode : Nat
  req : Req
  deriving DecidableEq, Repr

/-- A result record (R89, Table 03.19), with the payload of its event. -/
structure DrvResult where
  seq : Nat
  port : Nat
  entry : Nat
  kind : Nat
  outcome : Nat
  status : Nat
  applied : Nat
  target : Nat
  serial : U32
  payload : Bytes
  deriving DecidableEq, Repr

/-- A command that has executed and whose reply comes later; `info` is what its opcode keeps for the
reply, such as the status of each entry refused at receipt; `outs` the results of its events so far. -/
structure Deferred where
  opcode : Nat
  req : Req
  info : List Nat
  outs : List DrvResult := []
  deriving DecidableEq, Repr

/-- A reply held until the partner acknowledges the stitch cycle carrying its result (R120). -/
structure HeldReply where
  cycle : Nat
  reply : Reply
  deriving DecidableEq, Repr

/-- Counters of one transport (R99, R102 step 1 and 2, R108). -/
structure Transport where
  dropped : U32 := 0
  crcErrors : U32 := 0
  framing : U32 := 0
  deriving DecidableEq, Repr

/-- The command front end of the device. -/
structure Cmds where
  ports : List (Nat × PortState) := []
  waiting : List Waiting := []
  deferred : List Deferred := []
  heldReplies : List HeldReply := []
  transports : List (Nat × Transport) := []
  deriving DecidableEq, Repr

/-! ### Quires and drover (chapter 03) -/

/-- The content of one quire: the folio bytes that differ from the factory defaults, keyed by
folio type × 2^27 + offset; the body lengths that differ from the defaults; and the header
fields of R65. DESIGN CHOICE (unsafe, log 10). DESIGN CHOICE (safe, log 23). -/
structure Quire where
  cells : List (Nat × Byte) := []
  lens : List (Nat × Nat) := []
  minEpoch : Nat := 0
  creatorTag : Nat := 0
  deriving DecidableEq, Repr

/-- Shadow quire states (Table 03.1). -/
inductive ShadowState where
  | empty | opened | sealed | locked | pendingOpen
  deriving DecidableEq, Repr

/-- State of a staged item (Table 03.16). -/
inductive ItemState where
  | waiting | inProgress | done | failed
  deriving DecidableEq, Repr

/-- One staged item (R79, Table 03.16). `step` is its step of Table 03.15; `bound` its completion bound in ticks,
counted from `started`, its quiet point or admission (R80). -/
structure StageItem where
  step : Nat
  folio : Nat
  index : Nat
  state : ItemState
  status : Nat
  started : Nat
  bound : Nat
  doneTime : Nat
  deriving DecidableEq, Repr

/-- A pending drover event: the record of Table 03.17 with its origin (R83), its submission
serial, its flags, its entry time and its arming instant (R86), in ticks. -/
structure DrvEvent where
  time : Nat
  kind : Nat
  op : Nat
  target : Nat
  minEpoch : Nat
  changeId : Nat
  payload : Bytes
  port : Nat
  seq : Nat
  entry : Nat
  serial : U32
  scheduled : Bool
  bestEffort : Bool
  staged : Bool
  digest : Bytes
  entered : Nat
  armed : Option Nat
  deriving DecidableEq, Repr

/-- A swap under way: its event, and the old active quire, whose class S items stay in force at the outputs
that have not yet taken the new state (R77, R78); the check instant T in ticks. `taken` lists destinations by
number and layer engines by 2000 + number. -/
structure Swapping where
  event : DrvEvent
  old : Quire
  time : Nat
  taken : List (Nat × Bool)
  deriving DecidableEq, Repr

/-- The quires and the staged application (R60-R81). -/
structure QuireState where
  active : Quire := {}
  baseDigest : Bytes := []
  changeCount : U32 := 0
  shadow : Quire := {}
  shadowState : ShadowState := .empty
  assembly : List (Nat × Byte) := []
  shadowDigest : Option Bytes := none
  swapping : Option Swapping := none
  target : Quire := {}
  staging : List StageItem := []
  deriving DecidableEq, Repr

/-- The drover (R82-R96); the counters are those of Table 03.21. `belowSince` is the instant from
which the bound has stayed at or below nine-tenths of the fence bound (R92). -/
structure Drover where
  queue : List DrvEvent := []
  serial : U32 := 0
  results : List DrvResult := []
  resultSerial : U32 := 0
  tooLate : U32 := 0
  superseded : U32 := 0
  fencedCount : U32 := 0
  fenced : Bool := true
  belowSince : Option Nat := none
  deriving DecidableEq, Repr

/-! ### Event collector (chapter 17) -/

/-- An event record (R512, Table 17.3). -/
structure EvRec where
  serial : U32
  source : Nat
  inst : Nat
  time : Nat
  count : U32
  detail : U32
  reaction : Nat
  blockState : Nat
  throttled : Bool
  injected : Bool
  rom : Bool
  last : Nat
  deriving DecidableEq, Repr

/-- The trigger of a fatal sequence under way (R522, Table 17.10); `time` in ticks. -/
structure Fatal where
  source : Nat
  inst : Nat
  detail : Nat
  reaction : Nat
  time : Nat
  deriving DecidableEq, Repr

/-- A last-gasp record (R524, Table 17.17). -/
structure LastGasp where
  source : Nat
  inst : Nat
  detail : Nat
  time : Nat
  reaction : Nat
  role : Nat
  temperature : Int
  brownout : Bool
  cycle : Nat
  txSeq : Nat
  rxExpected : Nat
  serial : U32
  rails : List Nat
  deriving DecidableEq, Repr

/-- One half of the colophon region (R522, R523): its dump while it holds one unreleased. -/
structure ColHalf where
  held : Bool := false
  bytes : Bytes := []
  order : Nat := 0
  deriving DecidableEq, Repr

/-- A block or one of its parts in block reset (R514, Table 17.6). -/
structure BlockReset where
  block : Nat
  inst : Nat
  since : Nat
  deriving DecidableEq, Repr

/-- The event collector and the colophon (R510-R526). `occ` counts occurrences by source, `blkOcc` by block; `total` is the
number of records ever entered and `readTotal` how many of them EVT_READ has passed; `flashCopied` how many last-gasp
records were ever copied to flash, `gaspCopied` the serial up to which; `romMode` is R518's fall-back; `trap` a non-maskable
trap waiting for the control-plane restart it causes. For R10: `sameAt` is the instant of the newest occurrence, `sameSet`
the pending bits that occurrences set at it, `sameOcc` by block the count before it and how many occurred at it;
`overflowAt` and `gaspAt` when the flags of EVT_SUMMARY were last set. -/
structure Events where
  occ : List (Nat × U32) := []
  pend : BitVec 1280 := 0
  log : List EvRec := []
  serial : U32 := 0
  unread : Nat := 0
  lost : U32 := 0
  blkOcc : List (Nat × BitVec 16) := []
  overflow : Bool := false
  lastGaspFlag : Bool := false
  romMode : Bool := false
  errn : Bool := false
  errnSince : Nat := 0
  trap : Bool := false
  resetting : List BlockReset := []
  fatal : Option Fatal := none
  half0 : ColHalf := {}
  half1 : ColHalf := {}
  dumps : Nat := 0
  retention : List LastGasp := []
  flashRing : List LastGasp := []
  flashCopied : Nat := 0
  gaspSerial : U32 := 0
  gaspCopied : U32 := 0
  sameAt : Option Nat := none
  sameSet : BitVec 1280 := 0
  sameOcc : List (Nat × (BitVec 16 × Nat)) := []
  overflowAt : Option Nat := none
  gaspAt : Option Nat := none
  deriving DecidableEq, Repr

/-! ### Time base (chapters 01 and 13) -/

/-- The time base (R16, R381, R382): seconds, increments of 1.25 ns, the 48-bit accumulator,
the rate word and the acquired flag. -/
structure TimeBase where
  sec : BitVec 48 := 0
  inc : Nat := 0
  acc : BitVec 48 := 0
  rho : Int := 0
  acquired : Bool := false
  deriving DecidableEq, Repr

end Sys2Proof.Machine
end

