-- ==== Sys2Proof/Machine/Quire.lean ====
section
/-! DEFINITION. The folios of a quire (Table 03.4): kinds, sizes, factory defaults, and the fields
read from them. -/

namespace Sys2Proof.Machine

/-- Folio types (Table 03.4). -/
abbrev fSources : Nat := 1
abbrev fDests : Nat := 2
abbrev fBindings : Nat := 3
abbrev fPens : Nat := 4
abbrev fGrants : Nat := 5
abbrev fTiming : Nat := 6
abbrev fLanes : Nat := 7
abbrev fPacket : Nat := 8
abbrev fFlows : Nat := 9
abbrev fFabric : Nat := 10
abbrev fDram : Nat := 11
abbrev fProgram : Nat := 12
abbrev fParams : Nat := 13
abbrev fAudioPorts : Nat := 14
abbrev fLayers : Nat := 15
abbrev fRef : Nat := 16
abbrev fTime : Nat := 17
abbrev fGnss : Nat := 18
abbrev fFlock : Nat := 19
abbrev fEvents : Nat := 20
abbrev fMgmt : Nat := 21

/-- Kind of a folio (R67). -/
inductive FolioKind where
  | dense | keyed | image
  deriving DecidableEq, Repr

/-- Kind, entry size and number of entries of each folio type; for a keyed folio the greatest
number of entries (Table 03.4 and the owning chapters). -/
def folioMeta : Nat → FolioKind × Nat × Nat
  | 1 => (.dense, 16, 1536)
  | 2 => (.dense, 16, 1536)
  | 3 => (.keyed, 8, 3072)
  | 4 => (.dense, 40, 256)
  | 5 => (.dense, 32, 1536)
  | 6 => (.keyed, 4, 128)
  | 7 => (.dense, 32, 256)
  | 8 => (.dense, 192, 64)
  | 9 => (.keyed, 80, 16384)
  | 10 => (.dense, 528, 68)
  | 14 => (.dense, 128, 73)
  | 15 => (.dense, 1184, 64)
  | 20 => (.dense, 8, 1280)
  | _ => (.image, 0, 1)

/-- The body length a folio has by factory default. -/
def defaultLen (ty : Nat) : Nat :=
  match folioMeta ty with
  | (.dense, sz, n) => sz * n
  | (.keyed, _, _) => 0
  | (.image, _, _) =>
    match ty with
    | 11 => 3136
    | 12 => 0x258B0
    | 13 => 16
    | 16 => 896
    | 17 => 2880
    | 18 => 128
    | 19 => 256
    | 21 => 768
    | _ => 0

/-- The byte at `o` of a block whose fields are (offset, size, value), zero elsewhere. -/
def fieldByte : List (Nat × Nat × Nat) → Nat → Byte
  | [], _ => 0#8
  | (a, k, v) :: t, o =>
    if a ≤ o ∧ o < a + k then BitVec.ofNat 8 (v / 256 ^ (o - a)) else fieldByte t o

/-- The default reaction byte of an event source (Table 17.2, R548, R577). -/
def defaultReaction (src : Nat) : Nat :=
  if src ∈ [3, 65, 902, 903, 1249, 1250] then 0x45
  else if src ∈ [577, 580, 674, 1057, 1105, 1106, 1107, 1170, 1216, 1265] then 0x05
  else if src = 0 then 0x02
  else if src ∈ [1, 2, 66, 68, 161, 162, 352, 353, 481, 482, 576, 578, 672, 673, 832, 896, 897, 898,
      899, 900, 901, 992, 1056, 1104, 1108, 1168, 1169, 1217, 1218, 1219, 1248, 1251, 1266] then 0x01
  else 0x00

/-- The event sources that have a meaning (Table 17.2, R548, R577); the others are reserved (R510). -/
def namedSources : List Nat :=
  [0, 1, 2, 3, 64, 65, 66, 67, 68, 69, 160, 161, 162, 224, 225, 352, 353, 480, 481, 482, 576, 577, 578, 579, 580, 672, 673,
    674, 768, 832, 896, 897, 898, 899, 900, 901, 902, 903, 992, 1056, 1057, 1104, 1105, 1106, 1107, 1108, 1168, 1169, 1170,
    1216, 1217, 1218, 1219, 1248, 1249, 1250, 1251, 1264, 1265, 1266]

/-- The sources whose reaction is fixed (Table 17.2). -/
def fixedSource (src : Nat) : Bool := decide (src ∈ [3, 65, 902, 903, 1249, 1250, 1265])

/-- The factory default layer record (R333). -/
def layerByte (o : Nat) : Byte := fieldByte [(1, 1, 1), (2, 2, 1024)] o

/-- The factory default byte of folio `ty` at offset `o` (R27, R69, R148, R161, R219, R248, R272,
R281, R301, R333, R372, R416, R442, R473, R511, R567). DESIGN CHOICE (safe, log 23). -/
def defaultByte (ty o : Nat) : Byte :=
  match ty with
  | 2 => fieldByte [(2, 2, 0xFFFF)] (o % 16)
  | 4 =>
    let p := o % 40
    if p = 0 then (if o = 0 then 1#8 else 0#8)
    else if p < 8 then 0#8 else fieldByte [(2, 2, 0xFFFF)] ((p - 8) % 4)
  | 7 =>
    fieldByte [(8, 2, 16 * (o / 32)), (10, 1, 16), (11, 1, 16), (12, 2, 16 * (o / 32)),
      (0x12, 1, 10)] (o % 32)
  | 8 =>
    fieldByte [(0x16, 2, 9216), (0x18, 1, 4), (0x19, 1, 4), (0x40, 2, 0xFFFF)] (o % 192)
  | 10 => fieldByte [(8, 4, 0xFFFFFFFF), (12, 4, 0xFFFFFFFF)] (o % 528)
  | 11 =>
    fieldByte [(0, 2, 1), (5, 1, 25), (6, 1, 1), (7, 1, 10), (8, 2, 240),
      (0x10, 8, 0x0102040506060707)] o
  | 12 =>
    if o < 0x40 then
      fieldByte [(0, 4, 0x4D524741), (4, 2, 1), (8, 4, 0x258B0), (0x14, 4, 0x258B0),
        (0x1C, 4, 0x258B0), (0x20, 4, 0x258B0), (0x28, 4, 0x258B0)] o
    else if o < 0x1040 then (if o % 4 = 0 then 0xFF#8 else 0#8)
    else if 0x5040 ≤ o ∧ o < 0x25040 then 0xFF#8
    else if 0x25040 ≤ o ∧ o < 0x250B0 then
      fieldByte [(0, 1, (o - 0x25040) / 16)] ((o - 0x25040) % 16)
    else 0#8
  | 13 => fieldByte [(0, 2, 1)] o
  | 14 => if o / 128 = 72 then fieldByte [(1, 1, 0xFF)] (o % 128) else 0#8
  | 15 =>
    let p := o % 1184
    if p < 0x20 then fieldByte [(2, 2, 0x2260), (8, 2, 256), (10, 2, 2048), (12, 2, 2048)] p
    else layerByte (p % 32)
  | 16 =>
    if o < 0x40 then fieldByte [(0, 2, 1), (4, 2, 300), (6, 2, 100), (8, 4, 1500)] o
    else if o < 0x220 then
      let i := (o - 0x40) / 32
      let kind := if i < 8 then 1 else if i < 12 then 3 else i - 8
      fieldByte [(0, 1, kind), (0x0C, 2, 500), (0x0E, 2, 1000), (0x10, 2, 10)] ((o - 0x40) % 32)
    else
      fieldByte [(0x220, 4, 10000000), (0x224, 4, 2), (0x228, 4, 1000),
        (0x230, 4, 1000000), (0x234, 4, 10), (0x238, 4, 200),
        (0x240, 4, 100000), (0x244, 4, 60), (0x248, 4, 50),
        (0x250, 4, 10000), (0x254, 4, 600), (0x258, 4, 20),
        (0x260, 4, 1000), (0x264, 4, 3600), (0x268, 4, 10),
        (0x2A0, 4, 1000000), (0x2A4, 4, 100000000), (0x2A8, 4, 1200), (0x2AC, 4, 100),
        (0x2B0, 4, 10000), (0x2B4, 4, 1000000), (0x2B8, 4, 20), (0x2BC, 4, 10)] o
  | 17 =>
    if o < 0x40 then fieldByte [(0, 2, 1), (2, 1, 0xFF), (3, 1, 0xFF), (4, 2, 37)] o
    else if o < 0x240 then
      fieldByte [(1, 1, 1), (2, 1, 127), (4, 1, 128), (5, 1, 128), (6, 1, 0xFE), (7, 1, 0xFD),
        (8, 1, 0xFD), (9, 1, 3), (0x10, 2, 0xFFFF)] (o % 64)
    else 0#8
  | 18 =>
    fieldByte [(0, 2, 1), (2, 1, 0x0E), (3, 1, 3), (5, 1, 10), (6, 1, 4), (7, 1, 1),
      (0x54, 4, 3600), (0x64, 1, 2), (0x65, 1, 4), (0x66, 2, 100), (0x68, 2, 30), (0x6A, 2, 50),
      (0x6C, 2, 20), (0x6E, 1, 55), (0x6F, 1, 10), (0x70, 2, 300), (0x72, 1, 6),
      (0x74, 4, 14400)] o
  | 19 =>
    fieldByte [(0, 2, 1), (3, 1, 5), (4, 4, 0x3FFFF), (8, 4, 1000), (0x0E, 2, 0xFFFF),
      (0x20, 2, 2000), (0x24, 2, 0xFFFF), (0x26, 1, 0xFF), (0xE8, 4, 0x3FFFF),
      (0xEC, 1, 0xFF)] o
  | 20 => if o % 8 = 0 then BitVec.ofNat 8 (defaultReaction (o / 8)) else 0#8
  | 21 =>
    if o < 0x40 then fieldByte [(0, 2, 1), (4, 4, 921600)] o
    else if o < 0xC0 then fieldByte [(4, 2, 0xFFFF)] (o % 64)
    else if o < 0x2B8 then (if o % 8 = 0 then BitVec.ofNat 8 ((o - 0xC0) / 8 + 1) else 0#8)
    else 0#8
  | _ => 0#8

/-- The flat key of a folio byte. -/
def qKey (ty o : Nat) : Nat := ty * 2 ^ 27 + o

/-- What an unlisted folio byte reads as: the factory default. -/
def qDefault (key : Nat) : Byte := defaultByte (key / 2 ^ 27) (key % 2 ^ 27)

/-- The body length of folio `ty`. -/
def qLen (q : Quire) (ty : Nat) : Nat := mget defaultLen q.lens ty

/-- One byte of a folio. DESIGN CHOICE (safe, log 23). -/
def qByte (q : Quire) (ty o : Nat) : Byte := mget qDefault q.cells (qKey ty o)

/-- `len` bytes of a folio from offset `o`. -/
def qBytes (q : Quire) (ty o len : Nat) : Bytes := (List.range len).map fun i => qByte q ty (o + i)

/-- The unsigned field of `k` bytes at offset `o`. -/
def qRd (q : Quire) (ty o k : Nat) : Nat := leNat (qBytes q ty o k)

/-- The signed field of `k` bytes at offset `o`. -/
def qRdI (q : Quire) (ty o k : Nat) : Int :=
  let n := qRd q ty o k
  if n < 256 ^ k / 2 then (n : Int) else (n : Int) - (256 ^ k : Nat)

/-- The whole body of a folio. -/
def qBody (q : Quire) (ty : Nat) : Bytes := qBytes q ty 0 (qLen q ty)

/-- Writes bytes into folio cells from flat key `key`. -/
def cellsWrite : List (Nat × Byte) → Nat → Bytes → List (Nat × Byte)
  | m, _, [] => m
  | m, key, b :: t => cellsWrite (mset qDefault m key b) (key + 1) t

/-- Writes bytes into a folio at offset `o`. DESIGN CHOICE (safe, log 23). -/
def qWrite (q : Quire) (ty o : Nat) (bs : Bytes) : Quire :=
  { q with cells := cellsWrite q.cells (qKey ty o) bs }

/-- Writes a number of `k` bytes into a folio. -/
def qWr (q : Quire) (ty o k v : Nat) : Quire := qWrite q ty o (le k v)

/-- Replaces the whole body of a folio: every listed byte of it is dropped, then the new bytes are
written and the length set. -/
def qReplace (q : Quire) (ty : Nat) (bs : Bytes) : Quire :=
  let kept := q.cells.filter fun c => decide (c.1 / 2 ^ 27 ≠ ty)
  { q with
    cells := cellsWrite kept (qKey ty 0) bs
    lens := mset defaultLen q.lens ty bs.length }

/-- Number of entries of a folio. -/
def qEntries (q : Quire) (ty : Nat) : Nat :=
  match folioMeta ty with
  | (.dense, _, n) => n
  | (.keyed, sz, _) => qLen q ty / sz
  | (.image, _, _) => 1

/-- Byte offset of entry `i` of a dense or keyed folio. -/
def qOff (ty i : Nat) : Nat := (folioMeta ty).2.1 * i

/-- The position of the entry of keyed folio `ty` whose key is `key`. -/
def qFind (q : Quire) (ty key : Nat) : Option Nat :=
  (List.range (qEntries q ty)).find? fun i => decide (qRd q ty (qOff ty i) 2 = key)

/-- The bytes of the keyed entry `key`. -/
def qKeyed (q : Quire) (ty key : Nat) : Option Bytes :=
  (qFind q ty key).map fun i => qBytes q ty (qOff ty i) (folioMeta ty).2.1

/-- All entries of a keyed folio, as byte blocks. -/
def qAll (q : Quire) (ty : Nat) : List Bytes :=
  (List.range (qEntries q ty)).map fun i => qBytes q ty (qOff ty i) (folioMeta ty).2.1

/-- Inserts or replaces a keyed entry in a list of entries kept in strictly ascending key order
(R67). -/
def keyedPut : List Bytes → Bytes → List Bytes
  | [], e => [e]
  | a :: t, e =>
    if rd a 0 2 = rd e 0 2 then e :: t
    else if rd e 0 2 < rd a 0 2 then e :: a :: t
    else a :: keyedPut t e

/-- QIR_WRITE operation 3 on one entry (R73): a dense entry is overwritten, a keyed entry inserted or
replaced. DESIGN CHOICE (safe, log 23). -/
def qUpsert (q : Quire) (ty key : Nat) (entry : Bytes) : Quire :=
  match (folioMeta ty).1 with
  | .dense => qWrite q ty (qOff ty key) entry
  | .keyed => qReplace q ty (keyedPut (qAll q ty) entry).flatten
  | .image => q

/-- QIR_WRITE operation 4 on one entry (R73): a dense entry takes its factory default, a keyed entry
is removed if it is held. -/
def qDelete (q : Quire) (ty key : Nat) : Quire :=
  match (folioMeta ty).1 with
  | .dense =>
    qWrite q ty (qOff ty key)
      ((List.range (folioMeta ty).2.1).map fun i => defaultByte ty (qOff ty key + i))
  | .keyed => qReplace q ty ((qAll q ty).filter fun e => decide (rd e 0 2 ≠ key)).flatten
  | .image => q

/-- Rounds a length up to an 8-byte boundary. -/
def pad8 (n : Nat) : Nat := (n + 7) / 8 * 8

/-- The folio types in ascending order. -/
def folioTypes : List Nat := (List.range 21).map (· + 1)

/-- Offsets of the folio bodies in the image, from the end of the directory (R65). PRESUMED (unsafe, log 24). -/
def imageOffsets (q : Quire) : List Nat → Nat → List (Nat × Nat)
  | [], _ => []
  | ty :: t, o => (ty, o) :: imageOffsets q t (o + pad8 (qLen q ty))

/-- The length of a quire's image, to the end of the last body (Table 03.2). -/
def imageLength (q : Quire) : Nat :=
  match (imageOffsets q folioTypes (32 + 16 * 21)).getLast? with
  | some (ty, o) => o + qLen q ty
  | none => 0

/-- The image of a quire (R65, Tables 03.2 and 03.3), every folio of version 1.
DESIGN CHOICE (safe, log 23). PRESUMED (unsafe, log 24). -/
def quireImage (q : Quire) : Bytes :=
  let offs := imageOffsets q folioTypes (32 + 16 * 21)
  let header := le 4 0x45524951 ++ le 2 1 ++ le 2 21 ++ le 2 q.minEpoch ++ le 2 0 ++
    le 4 (imageLength q) ++ le 8 q.creatorTag ++ le 8 0
  let dir := offs.flatMap fun p =>
    le 2 p.1 ++ le 2 1 ++ le 4 p.2 ++ le 4 (qLen q p.1) ++ le 4 (qEntries q p.1)
  let bodies := offs.flatMap fun p =>
    qBody q p.1 ++
      (if p.1 = 21 then [] else zeros (pad8 (qLen q p.1) - qLen q p.1))
  header ++ dir ++ bodies

/-- The quire an image spells: the bodies its directory names (R65).
PRESUMED (unsafe, log 24). DESIGN CHOICE (unsafe, log 134). -/
def quireOfImage (img : Bytes) : Quire :=
  let q0 : Quire := { minEpoch := rd img 8 2, creatorTag := rd img 0x10 8 }
  (List.range (rd img 6 2)).foldl (fun q i =>
    let d := 32 + 16 * i
    qReplace q (rd img d 2) (slice img (rd img (d + 4) 4) (rd img (d + 8) 4))) q0

end Sys2Proof.Machine
end

