-- ==== Sys2Proof/Config.lean ====
section
/-! DEFINITION. What an implementation fixes, and the free values.

The functions without a body are uninterpreted: a claim holds whatever they are. They stand for
published algorithms the manual only names (SHA-384, ECDSA, AES-GCM ...) and for values the
manual leaves open or that the device measures. -/

namespace Sys2Proof.Config

/-- SHA-384 (R66, R487, R490). PRESUMED (unsafe, log 30). -/
opaque sha384 : Bytes → Bytes

/-- HMAC-SHA256 of a key over a message (R474, Table 16.5). PRESUMED (unsafe, log 30). -/
opaque hmac256 : Bytes → Bytes → Bytes

/-- HMAC-SHA384 of a key over a message (R490). -/
opaque hmac384 : Bytes → Bytes → Bytes

/-- ECDSA P-384 verification of a signature by a public key over a digest (R485, R496, R501). PRESUMED (unsafe, log 30). -/
opaque ecdsaVerify : Bytes → Bytes → Bytes → Bool

/-- ECDSA P-384 signature by a private key over a digest (R503). -/
opaque ecdsaSign : Bytes → Bytes → Bytes

/-- ML-DSA-65 signature by a private key over a message (R503). -/
opaque mldsaSign : Bytes → Bytes → Bytes

/-- AES-256-GCM opening: key, nonce, additional data, ciphertext and tag (R496). PRESUMED (unsafe, log 30). -/
opaque gcmOpen : Bytes → Bytes → Bytes → Bytes → Option Bytes

/-- ECDH P-384 agreement of a private and a public key (R496). -/
opaque ecdh : Bytes → Bytes → Bytes

/-- HKDF-SHA384: salt, key material, info, length (R494-R496). -/
opaque hkdf : Bytes → Bytes → Bytes → Nat → Bytes

/-- HKDF-Expand with SHA-384: pseudo-random key, info, length (R495). -/
opaque hkdfExpand : Bytes → Bytes → Nat → Bytes

/-- AES-256 encryption of a block of 16 bytes under a key (R236). PRESUMED (unsafe, log 30). -/
opaque aes256 : Bytes → Bytes → Bytes

/-- The 16-bit check word of a burst of the in-package memory at a burst address (R235). DESIGN CHOICE (safe, log 31). -/
opaque checkWord : Nat → Bytes → Nat

/-- The refresh interval of a die at a temperature, in ticks (R240). DESIGN CHOICE (safe, log 31). -/
opaque refreshInterval : Int → Nat

/-- The private and public key the DRBG yields: algorithm, draw (R493, R497). -/
opaque keygen : Nat → Nat → Bytes × Bytes

/-- The public part of a private key: algorithm, key (R488). -/
opaque pubOf : Nat → Bytes → Bytes

/-- The root public key of a generation, less one, in the imprint certificate area of flash, if it holds one (R487).
DESIGN CHOICE (unsafe, log 106). -/
opaque rootKey : Nat → Option Bytes

/-- The certificate chain of KS003 in the imprint certificate area of flash (R503). DESIGN CHOICE (unsafe, log 106). -/
opaque imprintChain : Bytes

/-- The device's fused unique secret (R494). DESIGN CHOICE (unsafe, log 106). -/
opaque uniqueSecret : Bytes

/-- A free value of the machine: the n-th one drawn. DESIGN CHOICE (unsafe, log 9). -/
opaque freeNat : Nat → Nat

/-- A free signed value of the machine: the n-th one drawn. DESIGN CHOICE (unsafe, log 9). -/
opaque freeInt : Nat → Int

/-- Free bytes of the machine: the n-th draw. DESIGN CHOICE (unsafe, log 9). -/
opaque freeBytes : Nat → Bytes

/-- Bytes an encrypted NTS cookie or packet field takes: key, plain text (R409, R410). PRESUMED (unsafe, log 30). -/
opaque sivSeal : Bytes → Bytes → Bytes

/-- Opening of an NTS cookie or packet authenticator (R409, R410). -/
opaque sivOpen : Bytes → Bytes → Option Bytes

/-- The ST 352 payload ID of a format, a line rate code, the number of links, a mapping, a link and the colour it carries: the
source's payload ID, or 2^32 + black_colour (R143). DESIGN CHOICE (safe, log 35). -/
opaque payloadId : Nat → Nat → Nat → Nat → Nat → Nat → Bytes

/-- The checkwords of the EDH packet a lane sends: lane, frame, line, and 0 active picture or 1 full field (R142). DESIGN
CHOICE (safe, log 173). -/
opaque edhCheck : Nat → Nat → Nat → Nat → Nat

/-- The orbit data that a satellite's records give at an instant in TAI ns (R431): 0 none valid, 1 an almanac, 2 an
ephemeris within its validity period. The message formats are not the spec's. DESIGN CHOICE (unsafe, log 97). -/
opaque navOrbit : Nat → List (Nat × Bytes) → Nat → Nat

/-- Whether a navigation message is one that R478 sends: an ephemeris, or UTC and ionosphere data. -/
opaque navShared : Nat → Nat → Bool

/-- Parity or CRC of a navigation record as broadcast: constellation, message number, the 40 bytes of bits (R431).
DESIGN CHOICE (unsafe, log 97). -/
opaque navGood : Nat → Nat → Bytes → Bool

/-- Whether a navigation record differs from the one before it as check 2 of Table 14.5 tests: an orbit more than 100 m
off, or a jump in time of week. -/
opaque navJump : Nat → Nat → Bytes → Bytes → Bool

/-- TAI − UTC, pending leap and its TAI ns that a navigation record states, if it states them (R436).
DESIGN CHOICE (unsafe, log 97). -/
opaque navUtc : Nat → Nat → Bytes → Option (Int × Int × Nat)

/-- Numbers the manual names and does not give: the n-th code of a topic.
DESIGN CHOICE (unsafe, log 9). DESIGN CHOICE (unsafe, log 33). -/
opaque code : Nat → Nat → Nat

/-- Bytes whose layout the manual does not give: those of a topic that carry the given numbers.
DESIGN CHOICE (unsafe, log 9). DESIGN CHOICE (unsafe, log 34). -/
opaque layout : Nat → List Nat → Bytes

/-- The ordering code of the part: true for DXK2560-E (R2, R4). -/
opaque extended : Bool

/-- The silicon stepping of the die, from 1 (Table 04.12). -/
opaque stepping : Nat

end Sys2Proof.Config
end

