-- ==== Sys2Proof/Machine/StPacket.lean ====
section
/-! DEFINITION. State of the network ports and the flow table (chapter 06). -/

namespace Sys2Proof.Machine

/-- A frame waiting in a port's egress (R187): its rank of Table 06.6, its launch time in ticks, the bytes
from the destination address to the end of the payload, the transmit flow it belongs to, the ingress
instant of a frame the transparent clock forwards (R192), and a tag under which the egress stamp of a
PTP event message is kept. -/
structure EgFrame where
  rank : Nat
  launch : Nat
  bytes : Bytes
  flow : Option Nat
  ingress : Option Nat
  tag : Option Nat
  deriving DecidableEq, Repr

/-- A host frame queued by PKT_LAUNCH (R189). Instants in ticks. -/
structure HostFrame where
  handle : Nat
  launch : Nat
  dropLate : Bool
  limit : Nat
  stamp : Bool
  bytes : Bytes
  deriving DecidableEq, Repr

/-- A received frame waiting in its class buffer (R164 to R166): port, ingress stamp in units of 0.25 ns,
tag, bytes kept, length as received, whether truncated, and whether the FCS was bad. -/
structure RxRec where
  port : Nat
  ingress : Nat
  tci : Nat
  tagged : Bool
  bytes : Bytes
  original : Nat
  truncated : Bool
  fcsBad : Bool
  deriving DecidableEq, Repr

/-- A network port (Tables 06.14, 06.15). `state` is the code of Table 06.14; `pauseEnd` the instant a
pause ends and `pausedFrom` when it began; `counts` are the sixteen counters in the order of their
offsets; `entering` says a watch entry waits for the port to go down; `fecLocked` and `deskewed` are flags of
Table 06.14. -/
structure NetPort where
  state : Nat := 0
  faults : Nat := 0
  skew : Nat := 0
  wakeCause : Nat := 0
  pauseEnd : Nat := 0
  pausedFrom : Option Nat := none
  stateTime : Nat := 0
  egress : List EgFrame := []
  hostQ : List HostFrame := []
  entering : Bool := false
  fecLocked : Bool := false
  deskewed : Bool := false
  patterns : List (Bytes × Nat) := []
  wakeOnSignal : Bool := false
  watchDropped : Nat := 0
  counts : List (Nat × Nat) := []
  deriving DecidableEq, Repr

/-- A raster line being assembled from ST 2110-20 segments (R174, R175): its RTP timestamp, field, row,
the segments as (pixel offset, bytes), and the least accepted sequence of a later row or frame. -/
structure LinePart where
  ts : Nat
  field : Nat
  row : Nat
  parts : List (Nat × Bytes)
  later : Option Nat
  deriving DecidableEq, Repr

/-- A sample with its channel status, validity and user bits, as bits 2, 0 and 1 of the second
component; bit 3 marks a block start, and bit 4 says that the sample carries such bits (R288). -/
abbrev Smp := Int × Nat

/-- A flow of the flow table (R169 to R186, Table 06.16). For a receive flow: activity (R172), the highest accepted sequence
and lower bound (R180), the merge records as (sequence, last renewal), the run of late discards, lines being assembled, the
measured raster of the frame under way, audio samples by sample number, and the datagrams of ST 2022-6 by sequence, with the
sequence of the first datagram of the frame whose line `nextLine` comes next. `field` and `fieldOld` say that the unit under
way and the one before it had the field bit; `front` is the latest timestamp, field and row seen (R175). `txSeq` is the
continuous count of -40 and -22, and `txKeys` the counts last given, by packet, which both legs of a pair share (R182).
`was` is the entry, empty if none, in force for packets that begin before an instant (R173). `counts` are packets, lost,
duplicates, late, from_b, malformed, resets, then incomplete lines. -/
structure Flow where
  active : Bool := false
  hit : Bool := false
  lastHit : Nat := 0
  staging : Bool := false
  lastTs : Nat := 0
  high : Option Nat := none
  low : Nat := 0
  recs : List (Nat × Nat) := []
  lateRun : Nat := 0
  sent : Nat := 0
  txSeq : Nat := 0
  txKeys : List (Nat × Nat × Nat) := []
  was : Option (Nat × Bytes) := none
  lines : List LinePart := []
  curTs : Nat := 0
  width : Nat := 0
  rows : Nat := 0
  field : Bool := false
  fieldOld : Bool := false
  front : Option (Nat × Nat × Nat) := none
  measured : Nat := 0
  audio : List (Nat × List Smp) := []
  held : List Smp := []
  stream : List (Nat × Bytes) := []
  base : Option Nat := none
  nextLine : Nat := 1
  rateCycle : Nat := 0
  rateBytes : Nat := 0
  counts : Counts := []
  deriving DecidableEq, Repr

/-- An address the transparent clock has learnt (R191). -/
structure TcEntry where
  mac : Bytes
  port : Nat
  hit : Nat
  deriving DecidableEq, Repr

/-- A membership report due (R168): flow, kind (0 unsolicited, 1 answer, 2 leave), and when. -/
structure Report168 where
  flow : Nat
  kind : Nat
  due : Nat
  deriving DecidableEq, Repr

/-- The network ports, the flow table and what they share. `queues` are the class buffers of Table 06.6
by class code and `dropped` the frames each class has dropped (R164); `stamps` the egress stamps of tagged frames. -/
structure Net where
  ports : List (Nat × NetPort) := []
  flows : List (Nat × Flow) := []
  queues : List (Nat × List RxRec) := []
  tc : List TcEntry := []
  tcReplaced : U32 := 0
  reports : List Report168 := []
  queries : U32 := 0
  dropped : Counts := []
  nextHandle : Nat := 0
  stamps : List (Nat × Nat) := []
  deriving DecidableEq, Repr

/-- What an SDI receive chain finds in the words of a line (R134, R136, R137): the active samples, the checks, the ANC
packets, and the embedded audio packets as group, check and sample frames. -/
structure SdiParsed where
  data : List Nat
  err : LineErr
  anc : List AncPkt
  audio : List (Nat × Nat × List (List Int))
  deriving DecidableEq, Repr

/-- What an SDI transmitter puts on a line (R142 to R145): raster line, active samples, ANC packets, payload ID, and embedded
sample frames. -/
structure SdiLine where
  line : Nat
  data : List Nat
  anc : List AncPkt
  payload : Option Bytes
  audio : List (List Smp)
  deriving DecidableEq, Repr

end Sys2Proof.Machine

namespace Sys2Proof.Config

/-- What the receive chain finds in the words of a line of a format (R179): the standards that the spec names lay the words
out, the spec does not. DESIGN CHOICE (safe, log 35). -/
opaque sdiParse : Nat → Nat → Bytes → Option Machine.SdiParsed

/-- The format that the payload header of an ST 2022-6 datagram states (R40, R179). DESIGN CHOICE (safe, log 35). -/
opaque sdiFormat : Bytes → Nat

/-- The 1,376 bytes of a datagram of the serial stream an SDI transmitter would build: format, datagram within the frame, and
the lines it spans (R186). DESIGN CHOICE (safe, log 35). -/
opaque sdiDatagram : Nat → Nat → List Machine.SdiLine → Bytes

end Sys2Proof.Config
end

