-- ==== Sys2Proof/Machine/StAudio.lean ====
section
/-! DEFINITION. State of the audio engine (chapter 09) and the audio ports (chapter 10). -/

namespace Sys2Proof.Machine

/-- States x[n-1], x[n-2], y[n-1], y[n-2] of one biquad section (R276). -/
structure Biquad where
  x1 : Int := 0
  x2 : Int := 0
  y1 : Int := 0
  y2 : Int := 0
  deriving DecidableEq, Repr

/-- A behaviour in progress of one gain (R282, R283): a native step with the sample of its timeout, or a ramp
from a level, with its first sample and length. -/
inductive GainRun where
  | still
  | native (deadline : Nat)
  | ramp (l0 : Int) (n0 len : Nat)
  deriving DecidableEq, Repr

/-- One use of a gain entry by an element's input: the level in force, the target, behaviour and time last
seen, what is in progress, and the input word of the sample before. -/
structure GainUse where
  level : Int
  target : Int
  behaviour : Nat
  time : Nat
  run : GainRun
  prev : Int
  deriving DecidableEq, Repr

/-- A delay line in use (R277, R293): its words, newest first, its group now, and whether it was moved or
passes undelayed. -/
structure DelayLine where
  words : List Int := []
  group : Nat := 0xFF
  moved : Bool := false
  undelayed : Bool := false
  deriving DecidableEq, Repr

/-- One section (Table 09.1): whether it runs on the program last exchanged, the number of its next sample and the instant of
the one before, and the states of its elements, keyed by element, by element × 16 + biquad, by element × 1,024 + input,
by scratch address and by delay line. -/
structure Section where
  onNew : Bool := true
  next : Nat := 0
  at_ : Nat := 0
  scratch : List (Nat × Int) := []
  biquads : List (Nat × Biquad) := []
  gains : List (Nat × GainUse) := []
  delays : List (Nat × DelayLine) := []
  deriving DecidableEq, Repr

/-- An entry of the shepherd insert in force (R289, R290): the 8 bytes of Table 09.13, whether its zone is
on for it, and the fade under way: steps done of `len`; `removed` marks one that fades out because the
table no longer holds it; `absent` that its safety input was absent in the last sample. -/
structure Insert where
  entry : Bytes
  on : Bool
  step : Nat
  len : Nat
  removed : Bool
  absent : Bool
  deriving DecidableEq, Repr

/-- A change by command that waits for a sample boundary (R294): the instant from which it takes effect, and
what it does: a gain entry's level, bytes of idle entries, or the shepherd table for one section. -/
inductive AudioWhat where
  | gain (entry : Nat) (level : Int)
  | idle (set_ offset : Nat) (bytes : Bytes) (copyLive : Bool)
  | insert (entries : List Bytes) (replace : Bool) (mask fadeMs : Nat)
  deriving DecidableEq, Repr

/-- A waiting change: its section, its instant, the command that made it, and what it does. -/
structure AudioChange where
  section_ : Nat
  time : Nat
  port : Nat
  seq : Nat
  what : AudioWhat
  deriving DecidableEq, Repr

/-- A meter of a channel (R298): the greatest magnitude since the last clear, the squares of the samples of
the last 100 ms with their instants, and whether it clipped. -/
structure Meter where
  peak : Nat := 0
  squares : List (Nat × Nat) := []
  clipped : Bool := false
  deriving DecidableEq, Repr

/-- The audio engine (R263 to R300). `prog` is the program of the running bank and `progOld` that of the other,
still run by sections not yet exchanged; `params` and `idle` hold the live and idle copies as the
AUDIO_PARAMS folio of a quire; `exchangeDue` is the instant of a program change awaiting its boundary,
`paramsDue` the sections that have still to take an AUDIO_PARAMS swap. `inputs` are the words of the
input channels as last presented, with their bits, and `absentIn` the channels reported absent;
`outputs` those of the output channels with their sample numbers. `dom48`, `dom441` and `domFree` are the
states of Table 09.11 (R269, R375); `edges441` and `edgesFree` the stamps of their newest sample boundaries, oldest first
(R268, R269). -/
structure Audio where
  bank : Nat := 0
  prog : Quire := {}
  progOld : Quire := {}
  params : Quire := {}
  idle : Quire := {}
  exchangeDue : Option Nat := none
  exchangeTime : Nat := 0
  paramsDue : List Nat := []
  paramsAt : Nat := 0
  sections : List (Nat × Section) := []
  bridges : List (Nat × Bool) := []
  inputs : List (Nat × Smp) := []
  absentIn : List Nat := []
  outputs : List (Nat × Smp) := []
  inserts : List Insert := []
  table : List Bytes := []
  onMask : Nat := 0
  fadeMs : Nat := 0
  insertTime : Nat := 0
  changes : List AudioChange := []
  dom441 : Nat := 0
  domFree : Nat := 0
  dom48 : Nat := 0
  edges441 : List Nat := []
  edgesFree : List Nat := []
  freeMilliHz : Nat := 0
  metersIn : List (Nat × Meter) := []
  metersOut : List (Nat × Meter) := []
  saturations : U32 := 0
  refusedReads : U32 := 0
  ownDecisions : U32 := 0
  safeloads : U32 := 0
  deriving DecidableEq, Repr

/-- One frame of an audio port: the sample and bits of each subframe or slot. -/
abbrev PortFrame := List Smp

/-- A channel status and user block under assembly: bits so far, in order. -/
structure AesBlock where
  cs : List Bool := []
  user : List Bool := []
  deriving DecidableEq, Repr

/-- The last complete block of a subframe: channel status and user bytes. -/
structure AesDone where
  have_ : Bool := false
  cs : Bytes := []
  user : Bytes := []
  crcc : Bool := false
  deriving DecidableEq, Repr

/-- An audio port (Tables 10.5, 10.6, R304 to R313). `good` counts the Z preambles at 192 frames, or the good
frames of a TDM slave, in a row; `since` the frames since the last Z; `lastFrame` is the instant of the
last frame; `buf` the elastic buffer, read once `primed`, and `last` the frame last presented; `outBuf`
the frames waiting to be sent, by sample number, and `outLast` the frame last sent; `asm_` the blocks
being assembled since `asmTime`, `done` the last complete, `passAsm` and `passDone` those of the channels
an output passes, `sending` those being sent; `pos` is the frame within the block an output sends.
`counts` are the eight counters of R318. -/
structure AudioPort where
  state : Nat := 0
  stateTime : Nat := 0
  rate : Nat := 0
  good : Nat := 0
  since : Nat := 0
  badPreambles : Nat := 0
  lastFrame : Nat := 0
  primed : Bool := false
  buf : List PortFrame := []
  last : PortFrame := []
  outBuf : List (Nat × PortFrame) := []
  outPrimed : Bool := false
  outLast : PortFrame := []
  asm_ : List AesBlock := []
  asmTime : Nat := 0
  done : List AesDone := []
  doneTime : Nat := 0
  passAsm : List AesBlock := []
  passDone : List AesDone := []
  sending : List AesDone := []
  pos : Nat := 0
  counts : Counts := []
  deriving DecidableEq, Repr

end Sys2Proof.Machine
end

