-- ==== Sys2Proof/Machine/StDram.lean ====
section
/-! DEFINITION. State of the in-package memory, the frame synchronisers (chapter 08) and the layer
engines (chapter 11). -/

namespace Sys2Proof.Machine

/-- A DRAM channel (R235, R242, R245, Table 08.9). `drift` is the adjustment since training in ps;
`uncorrected` the instants of its last 17 uncorrectable bursts; `second` and `inSecond` count corrected
bursts by second, `lastSecond` those of the second before; `scrubbed` are the extents scrubbed in this scrub period (R237).
`measured` are its group's die temperatures at its last measurement of write timing (R245). Instants are in ticks. -/
structure DramChan where
  selfRefresh : Bool := false
  result : Nat := 2
  failedStep : Nat := 0
  trainedTime : Nat := 0
  eyes : Nat := 0
  drift : Int := 0
  lastRetrain : Nat := 0
  measured : List Int := []
  uncorrected : List Nat := []
  second : Nat := 0
  inSecond : U32 := 0
  lastSecond : U32 := 0
  scrubbed : List Nat := []
  deriving DecidableEq, Repr

/-- A DRAM group (Table 08.8). `temps` are its dies' temperatures and `refresh` their refresh intervals (R240); `counts` are
corrected, uncorrectable, refused, adjustments. -/
structure DramGroup where
  state : Nat := 0
  cause : Nat := 0
  stateTime : Nat := 0
  temps : List Int := []
  refresh : List Nat := []
  counts : Counts := []
  deriving DecidableEq, Repr

/-- A captured frame (R253): frame count, capture start, its lines, those that hold an uncorrectable burst,
and the ANC packets of the frame. -/
structure FrameBuf where
  k : Nat
  start : Nat
  lines : List (Nat × List Nat)
  bad : List Nat
  anc : List AncPkt
  deriving DecidableEq, Repr

/-- What a synchroniser writes as output frame `j` (R254, R256): `mode` 0 the stored frame `k`, 1 black,
2 nothing. -/
structure FsyChoice where
  j : Nat
  mode : Nat
  k : Nat
  deriving DecidableEq, Repr

/-- A frame synchroniser (R253 to R259, Tables 08.7, 08.10). `group` is that of its buffers now, 0xFF where it has none;
`last` the last input frame chosen; `frozen` the frames written by FREEZE in this loss; `restartAt` the end of the output
frame at which a changed entry restarts it (R252); `counts` are drops, repeats, loss frames, realignments, black lines, own
decisions. -/
structure Sync where
  state : Nat := 0
  group : Nat := 0xFF
  afterMove : Bool := false
  realign : Bool := false
  last : Option Nat := none
  frames : List FrameBuf := []
  choices : List FsyChoice := []
  frozen : Nat := 0
  latency : Nat := 0
  restartAt : Option Nat := none
  lastChange : Nat := 0
  counts : Counts := []
  deriving DecidableEq, Repr

/-- The in-package memory. `alloc` gives the pen, plus one, of each allocated extent, keyed by
group × 248 + extent; `colophon` the group of the colophon region, 0xFF if there is none; `scrubFrom` the start of the scrub
period; `mirrorBad` the extents of the system mirror, by group, with a burst that no other copy could repair (R235). -/
structure Dram where
  groups : List (Nat × DramGroup) := []
  chans : List (Nat × DramChan) := []
  alloc : List (Nat × Nat) := []
  colophon : Nat := 0xFF
  syncs : List (Nat × Sync) := []
  scrubFrom : Nat := 0
  mirrorBad : List (Nat × Nat) := []
  deriving DecidableEq, Repr

/-! ### Layer engines (chapter 11) -/

/-- A buffer of a layer store (R326, R327): the layer frame, the layer format and record (Table 11.3) it was
captured under, the display state of its destination (Table 02.16), and its lines by active line number:
black, or the samples read. DEDUCED (unsafe, log 67). -/
structure LayerBuf where
  k : Nat
  fmt : Nat
  disp : Nat
  record : Bytes
  lines : List (Nat × Bool × List Nat)
  deriving DecidableEq, Repr

/-- A layer of an engine: its two buffers, the group of its store now, 0xFF where it found no room, and
whether it waits for a usable frame after a move. -/
structure Layer where
  bufs : List LayerBuf := []
  group : Nat := 0xFF
  moved : Bool := false
  noRoom : Bool := false
  deriving DecidableEq, Repr

/-- What governs output frames from frame `from_` on (R335): bytes 0x000 to 0x09F of the engine's entry. -/
structure LayerEra where
  from_ : Nat
  entry : Bytes
  deriving DecidableEq, Repr

/-- The fade of a zone at an engine (R342): whether the zone is on, the first output frame of the fade last
begun and its length in frames. -/
structure ZoneFade where
  on : Bool := false
  start : Nat := 0
  frames : Nat := 0
  deriving DecidableEq, Repr

/-- The shepherd layer of an engine (R341 to R343): its entry of 16 bytes, empty if none, and the zones. -/
structure ShepNow where
  entry : Bytes := []
  zones : List (Nat × ZoneFade) := []
  deriving DecidableEq, Repr

/-- A layer engine (Table 11.8). `mode` is the instant t_e of a format change under way; `era` what
governed output before the last update; `shep` the shepherd entry in force and `shepBefore` that of the
frames before `shepFrom`; `drawn` whether the shepherd layer was drawn in the last frame and `contrib`
what each layer contributed to it, by the codes of Table 11.8. -/
structure Engine where
  running : Bool := false
  mode : Option Nat := none
  waiting : Bool := false
  layers : List (Nat × Layer) := []
  eras : List LayerEra := []
  shep : ShepNow := {}
  shepBefore : ShepNow := {}
  shepFrom : Nat := 0
  drawn : Bool := false
  contrib : List Nat := []
  unavailable : U32 := 0
  updateTime : Nat := 0
  shepTime : Nat := 0
  deriving DecidableEq, Repr

/-- A shepherd card (R340, R349): the length given at begin, the bytes written, and whether it is
committed. -/
structure Card where
  length : Nat := 0
  data : List (Nat × Byte) := []
  committed : Bool := false
  deriving DecidableEq, Repr

/-- A shepherd change executed and not yet taken by every engine (R343): the instant from which engines take
it, the table, zones and fade it sets, and the engines that still have to take it. -/
structure ShepChange where
  time : Nat
  table : List Bytes
  onMask : Nat
  fade : Nat
  engines : List Nat
  deriving DecidableEq, Repr

/-- The layer engines, the card store and the shepherd table as last written. -/
structure Layers where
  engines : List (Nat × Engine) := []
  cards : List (Nat × Card) := []
  table : List Bytes := []
  onMask : Nat := 0
  fadeFrames : Nat := 0
  changes : List ShepChange := []
  changeTime : Nat := 0
  deriving DecidableEq, Repr

end Sys2Proof.Machine
end

