-- ==== Sys2Proof/Machine/StFabric.lean ====
section
/-! DEFINITION. State of the fabric lanes and the stitch link (chapter 07). -/

namespace Sys2Proof.Machine

/-- A block of 514 bits before scrambling (R198, R199): whether it is a control block, and its payload of 64 bytes. -/
structure Block where
  control : Bool
  payload : Bytes
  deriving DecidableEq, Repr

/-- What a lane's transmitter holds (R198 to R203): the last 58 scrambled bits, the blocks of the codeword under way, how many
blocks have gone, how many data blocks since the last control block, and the run of equal symbols on the line. -/
structure LaneCode where
  scr : BitVec 58 := 0
  waiting : List Block := []
  count : Nat := 0
  data : Nat := 0
  level : Nat := 0
  run : Nat := 0
  deriving DecidableEq, Repr

/-- A fabric lane, or as lanes 64 to 67 a stitch lane (Tables 07.2, 07.6, 07.8). `state` is the code of Table 07.2 since
instant `since`; `hold` FAB_RETRAIN's hold; `fromActive` that BLOCK was entered from ACTIVE; `frames` and `ready` count
consecutive training frames, and `extra` those after; `caps` is the last CAPS payload received, `agreed` that of bring-up,
`ackRun` the consecutive CAPS with ack both ways, `lastCaps` when one was last heard; `locked` block lock; `ask` the tap
requests sent; `code` the transmitter. `streams` gives the instant each receive stream was last seen. `counts` are the
twelve lane counters of R228 in order. Instants are in ticks. -/
structure FabLane where
  state : Nat := 0
  since : Nat := 0
  hold : Bool := false
  fromActive : Bool := false
  inverted : Bool := false
  frames : Nat := 0
  ready : Nat := 0
  extra : Nat := 0
  logical : Nat := 0
  skew : Nat := 0
  deskewed : Bool := false
  caps : Bytes := []
  agreed : Bytes := []
  ownAck : Bool := false
  ackRun : Nat := 0
  lastCaps : Nat := 0
  cm2 : Int := 0
  cm1 : Int := 0
  cp1 : Int := 0
  tapStatus : Nat := 0
  locked : Bool := false
  ask : Nat := 0
  code : LaneCode := {}
  streams : List (Nat × Nat) := []
  counts : List (Nat × Nat) := []
  deriving DecidableEq, Repr

/-- A raster line of a receive stream being assembled from cells (R213, R216): the extended sequence of its
first cell, frame modulo 256, line, the cells held as (offset, bytes), and whether a later line's cell
has been accepted. -/
structure CellPart where
  base : Nat
  frame : Nat
  line : Nat
  parts : List (Nat × Bytes)
  later : Bool
  deriving DecidableEq, Repr

/-- An ANC cell held until its packet is whole (R214): extended sequence, first and last marks, line, bytes. -/
structure AncCell where
  seq : Nat
  first : Bool
  last : Bool
  line : Nat
  bytes : Bytes
  deriving DecidableEq, Repr

/-- A receive stream (R211, R217, R218): the merge of each series, and what is under assembly; `front` is the first sequence
of the latest line begun (R216), `firsts` the first arrival of each recorded cell, by series and sequence. `lateIn` counts
late copies in second `lateSecond`. `counts` are the seven stream counters of R228 in order. -/
structure RxStream where
  pic : Flow := {}
  anc : Flow := {}
  aud : Flow := {}
  fmt : Nat := 0
  lines : List CellPart := []
  ancCells : List AncCell := []
  front : Option Nat := none
  firsts : List ((Nat × Nat) × Nat) := []
  skew : Nat := 0
  lateIn : Nat := 0
  lateSecond : Nat := 0
  counts : Counts := []
  deriving DecidableEq, Repr

/-- A transmit stream: its continuous ancillary count (R212), and the samples waiting by sample number. -/
structure TxStream where
  ancSeq : Nat := 0
  audio : List (Nat × List Smp) := []
  deriving DecidableEq, Repr

/-- A stitch frame sent and not yet released by an acknowledgement (R223, R224). -/
structure StitchOut where
  seq : Nat
  kind : Nat
  body : Bytes
  firstSent : Nat
  deriving DecidableEq, Repr

/-- A stitch frame received ahead of a gap (R223): its header and body, and when it came. -/
structure StitchIn where
  seq : Nat
  frame : Bytes
  time : Nat
  deriving DecidableEq, Repr

/-- The stitch link (R221 to R225, R230). `progress` is the instant of the last ack progress; `unsent` are
frames held while the replay buffer is full; `longest` the longest time in µs that a frame stayed
unreleased in second `longestSecond`, and `lastLongest` that of the second before. `counts` are frames
sent, received, resends, NAKs, CRC failures, link-downs. -/
structure Stitch where
  active : Bool := false
  nextSeq : Nat := 0
  expected : Nat := 0
  replay : List StitchOut := []
  unsent : List (Nat × Bytes) := []
  reorder : List StitchIn := []
  gapSince : Option Nat := none
  ackDue : Bool := false
  progress : Nat := 0
  longest : Nat := 0
  longestSecond : Nat := 0
  lastLongest : Nat := 0
  cycleBytes : Nat := 0
  lastCycleBytes : Nat := 0
  counts : Counts := []
  deriving DecidableEq, Repr

/-- Fabric and stitch. -/
structure Fabric where
  lanes : List (Nat × FabLane) := []
  rx : List (Nat × RxStream) := []
  tx : List (Nat × TxStream) := []
  stitch : Stitch := {}
  deriving DecidableEq, Repr

end Sys2Proof.Machine
end

