-- ==== Sys2Proof/Machine/StHost.lean ====
section
/-! DEFINITION. State of the key store (chapter 16), the host interface, the management ports, the
fold bus and the bus matrix (chapter 19), and the supplies (chapter 20). -/

namespace Sys2Proof.Machine

/-! ### Key store (chapter 16) -/

/-- Slot states (Table 16.7). -/
inductive KeyState where
  | empty | loaded | generated | fixed | damaged
  deriving DecidableEq, Repr

/-- A key slot (R488, Table 16.7). `key` is the key itself, which no command reads; `pub` its public
part and `cert` its certificate chain. -/
structure KeySlot where
  state : KeyState := .empty
  alg : Nat := 0
  world : Nat := 0
  lcsMask : Nat := 0
  master : Nat := 0
  flags : Nat := 0
  version : Nat := 0
  keyId : Bytes := []
  key : Bytes := []
  pub : Bytes := []
  cert : Bytes := []
  deriving DecidableEq, Repr

/-- A user of the shared crypto engine (R509): class, requester code, arrival order, chunks or steps
left. -/
structure CryptoUser where
  cls : Nat
  requester : Nat
  order : Nat
  left : Nat
  deriving DecidableEq, Repr

/-- Fuses, key slots, random source and shared engine (R484-R509). `lifeCycle` is the state code of
R105; `transition` the target of a transition whose started fuse is burnt and done fuse is not;
`colophonKey` and `dataKey` are the DRAM key pairs of 64 bytes, empty when zeroed (R236, R507). -/
structure Keys where
  lifeCycle : Nat := 0
  transition : Option Nat := none
  serial : Bytes := []
  eui64 : Bytes := []
  ownerFuse : Bytes := []
  vendorFuse : Bytes := []
  returnFuse : Bytes := []
  securityCounter : Nat := 0
  slots : List (Nat × KeySlot) := []
  flash : List (Nat × KeySlot) := []
  refused : U32 := 0
  healthy : Bool := true
  reseedTime : Nat := 0
  requests : Nat := 0
  reseeds : Nat := 0
  shareTime : Nat := 0
  shareRounds : Nat := 0
  wrapGen : Nat := 0
  dataKey : Bytes := []
  colophonKey : Bytes := []
  engine : List CryptoUser := []
  serving : Option CryptoUser := none
  boundary : Nat := 0
  order : Nat := 0
  deriving DecidableEq, Repr

/-! ### Host interface (chapter 19) -/

/-- What a consumed submission entry is answered with (Table 19.9): nothing yet, a reply packet, no reply, or the
refusal of the entry. -/
inductive QpAnswer where
  | waits
  | reply (packet : Bytes)
  | noReply
  | refused
  deriving DecidableEq, Repr

/-- A submission entry the device has consumed and not yet completed (Tables 19.8, 19.9); `receipt` in ticks. -/
structure QpEntry where
  tag : Nat
  replyAddr : Nat
  capacity : Nat
  receipt : Nat
  seq : Nat
  answer : QpAnswer
  sqHead : Nat
  deriving DecidableEq, Repr

/-- A queue pair (R551-R555, Tables 19.4, 19.10-19.13). -/
structure Qp where
  sqBase : Nat := 0
  cqBase : Nat := 0
  enable : Bool := false
  sqLog2 : Nat := 4
  cqLog2 : Nat := 4
  fault : Bool := false
  cause : Nat := 0
  sqHead : Nat := 0
  sqTail : Nat := 0
  cqHead : Nat := 0
  cqTail : Nat := 0
  phase : Bool := true
  modCount : Nat := 1
  modTime : Nat := 0
  unsignalled : Nat := 0
  firstUnsignalled : Nat := 0
  entries : List QpEntry := []
  deriving DecidableEq, Repr

/-- One packet ring (R557): base, size, enable, the device's index and the host's index. -/
structure Ring where
  base : Nat := 0
  enable : Bool := false
  log2 : Nat := 4
  dev : Nat := 0
  host : Nat := 0
  phase : Bool := true
  deriving DecidableEq, Repr

/-- A launch completion record (Table 19.16). -/
structure LaunchRec where
  handle : Nat
  outcome : Nat
  stamped : Bool
  netPort : Nat
  egress : Nat
  deriving DecidableEq, Repr

/-- A management session (R505, R558): its management port and index, the command port and key slot it is bound to, whether
validity periods went unchecked, the bytes received and not yet taken as commands. Instants in ticks. -/
structure Session where
  mgt : Nat
  idx : Nat
  port : Nat
  slot : Nat
  unchecked : Bool
  lastRecord : Nat
  records : Nat
  lastUpdate : Nat
  unackedSince : Option Nat
  buf : Bytes
  deriving DecidableEq, Repr

/-- A management Ethernet port (R558): counters. -/
structure MgtPort where
  dropped : U32 := 0
  refusedConnections : U32 := 0
  unauthenticated : U32 := 0
  deriving DecidableEq, Repr

/-- A fold bus frame queued for sending (R559, R561): destination, type, frame sequence, body, when it was first sent, and
whether it has been sent in the present tenure. -/
structure FoldOut where
  dest : Nat
  kind : Nat
  seq : Nat
  body : Bytes
  firstSent : Option Nat := none
  sent : Bool := false
  deriving DecidableEq, Repr

/-- A partly received fold bus message (R559, type CMD): its fragments so far. -/
structure FoldPart where
  source : Nat
  message : Nat
  next : Nat
  body : Bytes
  deriving DecidableEq, Repr

/-- The fold bus station (R559-R562). `heardSlot` gives the last cycle in which a station's SLOT frame was heard; `skipped`
the stations skipped in a poll round; `heardAt` when a frame was last heard in the token phase; `tenureFrom` when the token
was taken; `busyUntil` the end of the frames it has started; `polls` the stations still to poll, the first polled now, and
`pollEnd` the end of its POLL; `slotSent` the cycle of the last SLOT frame sent. -/
structure FoldBus where
  token : Bool := false
  tenureFrom : Nat := 0
  busyUntil : Nat := 0
  queue : List FoldOut := []
  parts : List FoldPart := []
  heardSlot : List (Nat × Nat) := []
  skipped : List Nat := []
  heardAt : Nat := 0
  polls : List Nat := []
  pollEnd : Nat := 0
  slotSent : Option Nat := none
  nextSeq : Nat := 1
  nextMessage : Nat := 0
  crcErrors : U32 := 0
  dropped : U32 := 0
  deriving DecidableEq, Repr

/-- A fetch of a recovery package (R550, Table 19.7). -/
structure Mbox where
  addr : Nat := 0
  len : Nat := 0
  busy : Bool := false
  done : Bool := false
  error : Bool := false
  deriving DecidableEq, Repr

/-- The answer a queue pair's completion waits for: the queue pair, the sequence, and the reply
packet, or none when the command is answered by none. -/
structure QpReply where
  q : Nat
  seq : Nat
  packet : Option Bytes
  deriving DecidableEq, Repr

/-- A packet, fabric or stitch lane under DIA_LOOPBACK (R571): the operation, the pattern, bits checked and errors. -/
structure LaneTest where
  op : Nat
  pattern : Nat
  bits : Nat
  errors : Nat
  deriving DecidableEq, Repr

/-- The host interface and internal control plane (R549-R572). `msixMask` and `msixPend` are the mask bits and the pending
bit array of BAR4, `msixTable` its address and data words; `sram` the bytes written to the control SRAM, by offset; `tests`
the lanes under DIA_LOOPBACK, keyed by class × 256 + lane; `jtag` the JTAG instruction loaded, and `halted` the control
cores halted through it; `perst` says PERST_N is low. -/
structure Host19 where
  qps : List (Nat × Qp) := []
  replies : List QpReply := []
  ringDesc : Ring := {}
  ringRecv : Ring := {}
  ringLaunch : Ring := {}
  launchWaiting : List LaunchRec := []
  shortDescriptors : U32 := 0
  msixMask : BitVec 96 := BitVec.allOnes 96
  msixPend : BitVec 96 := 0
  msixTable : List (Nat × Nat) := []
  mbox : Mbox := {}
  timeSecLatch : Nat := 0
  timeAcqLatch : Bool := false
  sessions : List Session := []
  mgt : List (Nat × MgtPort) := []
  fold : FoldBus := {}
  remap : Bool := false
  sram : List (Nat × Byte) := []
  tests : List (Nat × LaneTest) := []
  dbgIn : Bytes := []
  jtag : JtagFn := .bypass
  extest : Bool := false
  halted : List Nat := []
  perst : Bool := false
  uartRate : Nat := 921600
  deriving DecidableEq, Repr

/-! ### Supplies and thermal (chapter 20) -/

/-- A supply rail (Table 20.4): its last reading in mV and since when it has been valid. -/
structure Rail where
  mv : Nat := 0
  valid : Bool := false
  validSince : Nat := 0
  deriving DecidableEq, Repr

/-- A load waiting for the governor (R581, R582): its class of R582, resource number, kind of Table
20.6, units, and when it began to wait. -/
structure Load where
  cls : Nat
  resource : Nat
  kind : Nat
  units : Nat
  since : Nat
  deriving DecidableEq, Repr

/-- A load admitted: kind, when, its rise in mA and its ramp in ticks. -/
structure Admitted where
  kind : Nat
  resource : Nat
  time : Nat
  rise : Nat
  ramp : Nat
  deriving DecidableEq, Repr

/-- Supplies, voltage requests, governor and temperatures (R576-R585). `lastRequest` is none before the first request;
`attempts` those of the present request not acknowledged; `boosted` that 10 mV are added below 25 °C; `slewUntil` the end of
the voltage's slew; `temps` the sixteen sensors in °C; `thermalHold` and `brownHold` the reset holds of Table 17.10.
DESIGN CHOICE (unsafe, log 10). -/
structure Power where
  rails : List (Nat × Rail) := []
  requestedMv : Nat := 800
  lastRequest : Option Nat := none
  slewUntil : Option Nat := none
  attempts : Nat := 0
  avsFailed : Bool := false
  boosted : Bool := false
  temps : List (Nat × Int) := []
  waiting : List Load := []
  admitted : List Admitted := []
  thermalHold : Bool := false
  brownHold : Bool := false
  deriving DecidableEq, Repr

end Sys2Proof.Machine
end

