-- ==== Sys2Proof/Machine/StLanes.lean ====
section
/-! DEFINITION. State of the media lanes (chapter 05). -/

namespace Sys2Proof.Machine

/-- A media lane, receiver and transmitter (Tables 05.3, 05.5 to 05.9). `rx` and `tx` are the state
codes of Tables 05.3 and 05.8; `rxRate` the code locked to; `hunt` the code now tried, since
`huntSince`; `lastLocked` the code last locked to. `fifo` is the elastic buffer of R138 by audio
group, in arrival order, read once `primed`; `groupSeen` the instant of each group's last packet;
`absent` the groups reported absent. `pidSeen` that the frame being received has brought a payload ID, `pidHave` that
the last frame did. `txAudio` holds the sample frames waiting to be embedded; `relocked` that the serialiser has relocked
for a format its destination has not yet taken (R151).
`gen`, `chk` ... are the pattern generator and checker of R154; `lockSince` when the checker locked.
Instants are in ticks. `counts` are the nine counters of Table 05.9 in order. -/
structure Lane where
  rx : Nat := 0
  rxRate : Nat := 0
  hunt : Nat := 0
  huntSince : Nat := 0
  lastLocked : Nat := 0
  measured : Nat := 0
  levelB : Bool := false
  payload : Bytes := []
  pidSeen : Bool := false
  pidHave : Bool := false
  deskew : Option Nat := none
  edhFlags : Bool := false
  timecode : Nat := 0
  fifo : List (Nat × List (List Int)) := []
  primed : Bool := false
  groupSeen : List (Nat × Nat) := []
  absent : List Nat := []
  tx : Nat := 0
  txRate : Nat := 0
  txAudio : List (List Smp) := []
  relocked : Bool := false
  gen : Bool := false
  chk : Bool := false
  pattern : Nat := 0
  prbsRate : Nat := 0
  inject : Nat := 0
  injectExp : Nat := 0
  injected : Nat := 0
  locked : Bool := false
  lockSince : Nat := 0
  prbsBits : Nat := 0
  prbsErrors : Nat := 0
  adaptSince : Nat := 0
  counts : Counts := []
  deriving DecidableEq, Repr

end Sys2Proof.Machine
end

