-- ==== Sys2Proof/Machine/StSpine.lean ====
section
/-! DEFINITION. State of the spine (chapter 02): source slots, line rings, destination slots. -/

namespace Sys2Proof.Machine

/-- Source states (Table 02.9). -/
inductive SrcState where
  | idle | lost | acquiring | valid | outOfWindow | wrongFormat
  deriving DecidableEq, Repr

/-- A line entry of a ring, tagged with frame count and raster line (R28). `bad` marks an entry
holding a word the essence code cannot correct (R45). -/
structure RingEntry where
  k : Nat
  line : Nat
  data : List Nat
  bad : Bool
  deriving DecidableEq, Repr

/-- ANC packets of one frame (R28). -/
structure AncEntry where
  k : Nat
  packets : List AncPkt
  deriving DecidableEq, Repr

/-- What the spine keeps of one source slot (R31, R39-R41, Table 02.17, Table 02.20). Leads and instants are in ticks.
`frame...` describe the frame being written, `last...` the last frame closed; `run` counts consecutive complete frames of
format `runFmt`, `calm` consecutive frames with every lead from half a line to W less half a line; `stable` is the format
last stable on the slot, 0 if none since it was enabled; `cycles` counts consecutive 1 ms cycles with a packet (opaque), and
`cframe` is the ingress instant of the last packet that begins a compressed frame (R35); `frameStart` and `lastStart` are
the instants the first line of the frame now written and of the last complete frame was written; `fullMin` and `fullMax` are
the leads of the last complete frame; `before` is the state that the present one replaced at `since`. `moving` says that a
staged change of the ring waits for the producer's next frame start; `oldRing` and `oldAnc` are the ring the producer left
at `movedAt`, which destinations read until their next switch point (R52). `ancPassed` is the frame of the packets a
synchroniser in pass-through last gave, and how many of that frame were dropped. -/
structure SrcSlot where
  state : SrcState := .idle
  measured : Nat := 0
  stable : Nat := 0
  ring : List RingEntry := []
  anc : List AncEntry := []
  lastWrite : Nat := 0
  frameOpen : Bool := false
  frameK : Nat := 0
  frameFmt : Nat := 0
  frameLines : Nat := 0
  frameMin : Int := 0
  frameMax : Int := 0
  lastFmt : Nat := 0
  lastMin : Int := 0
  lastMax : Int := 0
  fullMin : Int := 0
  fullMax : Int := 0
  run : Nat := 0
  runFmt : Nat := 0
  calm : Nat := 0
  cycles : Nat := 0
  cycleWritten : Bool := false
  cframe : Nat := 0
  frameStart : Nat := 0
  lastStart : Nat := 0
  frames : U32 := 0
  changes : U32 := 0
  outFrames : U32 := 0
  ancDropped : U32 := 0
  ancPassed : Nat × Nat := (0, 0)
  corrected : U32 := 0
  uncorrectable : U32 := 0
  before : SrcState := .idle
  since : Nat := 0
  moving : Bool := false
  oldRing : List RingEntry := []
  oldAnc : List AncEntry := []
  movedAt : Nat := 0
  deriving DecidableEq, Repr

/-- What the spine keeps of one destination slot (R42, R45, Tables 02.15, 02.16, 02.20).
`shown` is 0xFFFF for black; `display` the state code of Table 02.16; `missNow` says a line was
missed in the frame now read; `transit` that the destination is between the quiet point of a format
item, or an acquisition step, and its next switch point (R595); `switched` the switch point at which it came to show what it
shows, and `wasShown` what it showed before (R35); `delay` the output delay still in force for it while the
destinations of its class move to a new one, one at a time (R52). -/
structure DstSlot where
  shown : Nat := 0xFFFF
  display : Nat := 1
  lineMiss : Bool := false
  missNow : Bool := false
  transit : Bool := false
  lastSwitch : Nat := 0
  wasShown : Nat := 0xFFFF
  switched : Nat := 0
  delay : Option Nat := none
  frames : U32 := 0
  misses : U32 := 0
  switches : U32 := 0
  lossFrames : U32 := 0
  revokedFrames : U32 := 0
  corrected : U32 := 0
  uncorrectable : U32 := 0
  deriving DecidableEq, Repr

/-- The spine: slots, and the counters of SPN_STORE (Table 02.21). `grantBad` lists the sources
whose grant mask cannot be corrected, `fallbackBad` the fallback entries, as 8 × pen + entry, with such a word (Table 02.11);
`delayMoved` keeps for a format class one more than the frame in whose blanking a destination last took a new output delay
(R52). -/
structure Spine where
  src : List (Nat × SrcSlot) := []
  dst : List (Nat × DstSlot) := []
  grantBad : List (Nat × Bool) := []
  fallbackBad : List (Nat × Bool) := []
  delayMoved : List (Nat × Nat) := []
  scrubUs : Nat := 0
  voteCorrections : U32 := 0
  codeCorrections : U32 := 0
  codeUncorrectable : U32 := 0
  deriving DecidableEq, Repr

end Sys2Proof.Machine
end

