-- ==== Sys2Proof/Machine/StTime.lean ====
section
/-! DEFINITION. State of the references (chapter 12), the time service (chapter 13) and the satellite
receiver (chapter 14). Instants are in ticks, those of pulses in hundredths of a tick; bounds in units of
10^-18 s; rates in units of 2^-48 of nominal. -/

namespace Sys2Proof.Machine

/-! ### References (chapter 12) -/

/-- A reference (R352 to R355, R377). `q` is its qualification state of Table 12.2; `offset` that of the
last window in 10^-12, none while none was measured; `phase` the time base less the reference, in ps;
`soak` when its soak (re)started, `qualSince` when it became QUALIFIED, `bridgeSince` when BRIDGING;
`pulses` the last 16 pulse instants in hundredths of a tick. DESIGN CHOICE (unsafe, log 81). -/
structure RefState where
  q : Nat := 0
  active : Bool := false
  offset : Option Int := none
  phase : Int := 0
  soak : Nat := 0
  qualSince : Nat := 0
  bridgeSince : Nat := 0
  faults : BitVec 16 := 0
  rejections : BitVec 16 := 0
  stateTime : Nat := 0
  pulses : List Int := []
  deriving DecidableEq, Repr

/-- A REF_SELECT executed and waiting for the next evaluation (R378). -/
structure PendingSelect where
  op : Nat
  ref : Nat
  req : Req
  deriving DecidableEq, Repr

/-- The DPLL (R357 to R365). `ran` says it has run since reset; `rung` is in use since `rungSince` and the error has been
within its advance since `within`; `errs` are the magnitudes of the filtered phase error of the last 64 s in ps with their
instants; `force` is 0 for none, 1 for the selected reference, 2 for HOLDOVER; `fly` is 1 for ATOM, whose rate is
`atomRate`; `atomSum` and `atomN` gather the counts of the window under way, `atomOk` that its edges are present; `learnSys`
and `learnAtom` are the samples learnt, newest first, and `learntSys`, `learntAtom` their means; `rates` are the rate words
of the last second; `entry` is the instant t counts from and `b0` its B0; `configured`, `reported`, `path`, `servo` and
`growth` the terms of the last evaluation, and `bound` its sum, none while unlimited; `evalTime` is when the bounds were
evaluated and `lockedEval` when last while LOCKED. -/
structure Dpll where
  ran : Bool := false
  state : Nat := 0
  rung : Nat := 0
  rungSince : Nat := 0
  within : Option Nat := none
  errs : List (Nat × Nat) := []
  selected : Option Nat := none
  last : Option Nat := none
  force : Nat := 0
  pendingSel : List PendingSelect := []
  stateTime : Nat := 0
  lockedFor : Nat := 0
  lockedSince : Option Nat := none
  learnSys : List Int := []
  learnAtom : List Int := []
  learntSys : Int := 0
  learntAtom : Int := 0
  fly : Nat := 0
  atomRate : Int := 0
  atomSum : Int := 0
  atomN : Nat := 0
  atomOk : Bool := false
  rates : List (Nat × Int) := []
  entry : Option Nat := none
  b0 : Nat := 0
  configured : Nat := 0
  reported : Nat := 0
  path : Nat := 0
  servo : Nat := 0
  growth : Nat := 0
  bound : Option Nat := none
  evalTime : Nat := 0
  evalSec : Option Nat := none
  lockedEval : Option Nat := none
  holdExpire : Bool := true
  lowEvals : Nat := 0
  bridgedFrom : Nat := 0
  buildOut : Int := 0
  falls : U32 := 0
  large : Bool := false
  rfc : BitVec 6 := 0
  rfcAt : Option Nat := none
  rfcSet : BitVec 6 := 0
  deriving DecidableEq, Repr

/-- A pulse output (R367, R368): the phase in use, in hundredths of a tick, and the number of its last
edge. -/
structure PulseOut where
  phase : Int := 0
  lastEdge : Option Nat := none
  deriving DecidableEq, Repr

/-! ### PTP (chapter 13) -/

/-- A master heard on a PTP port: the fields of its Announce, the instants of the last two, the bound of
its TLV, and where it is addressed. -/
structure Foreign where
  identity : Bytes
  portNo : Nat
  gm : Bytes
  priority1 : Nat
  quality : Nat
  priority2 : Nat
  steps : Nat
  timeSource : Nat
  utc : Option Int
  leap : Int
  bound : Option Nat
  heard : List Nat
  addr : Bytes
  deriving DecidableEq, Repr

/-- A PTP port (R393, R421): its state of IEEE 1588-2019, the masters heard, since when it is in its state,
its counters, and the multicast Delay_Req received in second `reqSecond` and in the second before. -/
structure PtpPort where
  state : Nat := 0
  masters : List Foreign := []
  since : Nat := 0
  timeouts : U32 := 0
  faults : U32 := 0
  reqSecond : Nat := 0
  reqCount : Nat := 0
  reqBefore : Nat := 0
  deriving DecidableEq, Repr

/-- A two-step Sync whose Follow_Up is awaited: sequence, arrival in 2^-16 ns, correction. -/
structure OpenSync where
  seq : Nat
  arrived : Int
  correction : Int
  deriving DecidableEq, Repr

/-- A PTP instance (R393 to R397, R421). `master` is the selected master on its slave port; `syncs` the
valid Syncs and `resp` whether a Delay_Resp came since it was selected; `syncDiff` the last Sync's arrival
less its origin, and `delayReq` the sequence and departure of the last Delay_Req sent; `delivers` says it
delivers Sync (R396); `seqs` are the next sequence numbers by message type; `onNext` that it sends under its
next key. -/
structure PtpInst where
  restarting : Bool := false
  master : Option Foreign := none
  slavePort : Option Nat := none
  syncs : Nat := 0
  resp : Bool := false
  lastSync : Nat := 0
  lastResp : Nat := 0
  open_ : Option OpenSync := none
  syncDiff : Int := 0
  delayReq : Option (Nat × Int) := none
  offset : Int := 0
  pathDelay : Int := 0
  delivers : Bool := false
  seqs : List (Nat × Nat) := []
  authFailures : U32 := 0
  managed : U32 := 0
  frozen : Option Foreign := none
  onNext : Bool := false
  deriving DecidableEq, Repr

/-- A unicast grant (R398, R399): log interval and when it ends. -/
structure Grant where
  log : Int
  ends : Nat
  deriving DecidableEq, Repr

/-- A unicast session (R398, R422). `lastReq` is the instant of the last Delay_Req answered. -/
structure PtpSession where
  index : Nat
  inst : Nat
  netPort : Nat
  v6 : Bool
  auth : Bool
  partner : Bool
  addr : Bytes
  identity : Bytes
  portNo : Nat
  announce : Option Grant
  sync : Option Grant
  delay : Option Grant
  lastReq : Option Nat
  requests : U32
  excess : U32
  deriving DecidableEq, Repr

/-- An entry of the rate limiter (R411): tokens at instant `since`, the last hit, and the second of the last
RATE kiss-o'-death. -/
structure Limit where
  client : Bytes
  tokens : Nat
  since : Nat
  hit : Nat
  kissed : Option Nat
  deriving DecidableEq, Repr

/-- The NTP and NTS service (R407 to R411, R423). `counts` are the nine counters of Table 13.17 in order;
`served` the requests taken in second `second`, `handshakes` the NTS-KE handshakes; `conns` the open NTS-KE
connections with their instants. -/
structure Ntp where
  counts : List (Nat × Nat) := []
  limits : List Limit := []
  second : Nat := 0
  served : Nat := 0
  handshakes : Nat := 0
  conns : List (Nat × Nat) := []
  deriving DecidableEq, Repr

/-! ### Satellite receiver (chapter 14) -/

/-- A tracking channel (R428 to R430, Table 14.9). `dwells` counts the dwells of the search under way, and `detected`
awaits the confirming dwell (R432). -/
structure Channel where
  state : Nat := 0
  signal : Nat := 0
  svid : Nat := 0
  stream : Nat := 0
  used : Bool := false
  nav : Bool := false
  cause : Nat := 0
  cn0 : Nat := 0
  elevation : Int := 0
  azimuth : Nat := 0
  stateTime : Nat := 0
  detected : Bool := false
  dwells : Nat := 0
  deriving DecidableEq, Repr

/-- What the receiver holds of a satellite's navigation data (R431, R437 check 2): constellation, number,
the records by message number, whether they came as an aid, and the messages that disagreed with the broadcast before: while
there is one the satellite is excluded. -/
structure NavData where
  con : Nat
  svid : Nat
  records : List (Nat × Bytes)
  aided : Bool
  odd : List Nat
  deriving DecidableEq, Repr

/-- The UTC data of a constellation (R436): TAI − UTC, the leap pending and its instant, and how many
consecutive broadcasts stated them. -/
structure NavUtc where
  con : Nat
  offset : Int
  delta : Int
  leapNs : Nat
  times : Nat
  deriving DecidableEq, Repr

/-- The satellite receiver (R424 to R447). `state` is that of Table 14.6; `streams` the states of GNS_STATUS; `stamp` the
last GNSS_CLK stamp; `goodClock` that GNSS_CLK is present and on frequency; `goodRun` counts consecutive valid epochs;
`clean` the epochs since the last spoofing failure; `lastValid` the instant, offset in ps and bound growth of the last valid
epoch; `paused` the epochs of TAI seconds awaiting Vegen (R441); `skip8` that check 8 is skipped at the next valid epoch;
`epochs` the last 64 measurement epochs as (TAI ns, records); `surveyN` and `surveySum` how many seconds are averaged and
their sum; `everValid` says there was a valid solution since SEARCH; `counts` are suspect entries, invalid epochs,
exclusions. -/
structure Gnss where
  state : Nat := 0
  goodClock : Bool := false
  stamp : Nat := 0
  streams : List (Nat × Nat) := []
  channels : List (Nat × Channel) := []
  nav : List NavData := []
  utc : List NavUtc := []
  timeAid : Option (Nat × Nat) := none
  posAid : Option (List Int × Nat) := none
  surveySum : List Int := [0, 0, 0]
  surveyN : Nat := 0
  surveyDone : Bool := false
  position : List Int := [0, 0, 0]
  posUnc : Nat := 0
  used : Nat := 0
  checks : Nat := 0
  epoch : Nat := 0
  offset : Int := 0
  uncertainty : Nat := 0
  valid : Bool := false
  everValid : Bool := false
  goodRun : Nat := 0
  clean : Nat := 0
  lastValid : Option (Nat × Int × Nat) := none
  paused : List (Nat × GnssEpoch) := []
  skip8 : Bool := true
  holdSince : Nat := 0
  noise : List Int := [0, 0, 0, 0]
  epochs : List (Nat × List (Nat × Bytes)) := []
  counts : Counts := []
  deriving DecidableEq, Repr

/-- A TIM_SET executed and waiting for the cycle end (R388). -/
structure PendingSet where
  sec : Nat
  ns : Nat
  due : Nat
  req : Req
  deriving DecidableEq, Repr

/-- The references, the clocks and the time service. `bound` is the composed bound E in ns, rounded up, none
while it is unlimited (R412); `synth` the states of the synthesisers by domain number and `losses` the
losses of lock; `secondsSet` says the time base holds TAI seconds (R352); `stepDue` the instant of the
acquisition step; `utc` the offset in force, from source `utcSrc` (1 PTP, 2 GNSS, 3 folio, 0 not yet taken), and
`leapDone` the last leap instant taken; `leapAt` and `leapBy` a leap a received source has announced. -/
structure TimeSvc where
  bound : Option Nat := none
  refs : List (Nat × RefState) := []
  dpll : Dpll := {}
  pulses : List (Nat × PulseOut) := []
  synth : List (Nat × Nat) := []
  losses : Counts := []
  secondsSet : Bool := false
  stepDue : Option Nat := none
  pendingSet : List PendingSet := []
  utc : Int := 0
  utcSrc : Nat := 0
  leapDone : Nat := 0
  leapAt : Nat := 0
  leapBy : Int := 0
  insts : List (Nat × PtpInst) := []
  ports : List (Nat × PtpPort) := []
  sessions : List PtpSession := []
  ntp : Ntp := {}
  gnss : Gnss := {}
  deriving DecidableEq, Repr

end Sys2Proof.Machine
end

