-- ==== Sys2Proof/Machine/StTwin.lean ====
section
/-! DEFINITION. State of the twin pair and the flock (chapter 15), and of start-up and update
(chapter 18); what a state copy and a snapshot carry. -/

namespace Sys2Proof.Machine

/-- Twin roles (Table 15.1). -/
inductive Role where
  | single | starting | syncing | standby | holder | solo
  deriving DecidableEq, Repr

/-- What this twin computed for a cycle (R464, R465): the cycle, its class digests, and the classes
left out of comparison. -/
structure DigestRec where
  cycle : Nat
  digests : List Nat
  skip : List Nat
  deriving DecidableEq, Repr

/-- The change that a command made (Table 15.2): the command and the time base at its execution, from which the
partner makes the same change. DESIGN CHOICE (unsafe, log 163). -/
structure Change where
  opcode : Nat
  req : Req
  time : TimeBase
  deriving DecidableEq, Repr

/-- What the time item of the state copy carries beside the DPLL's state (Table 15.2, R358, R366): the force, the
qualification states of the references, the instants at which state and rung were taken, the entry and B0 of the holdover
bound, the time spent locked, and how many samples the learnt offsets rest on. DESIGN CHOICE (unsafe, log 196). -/
structure DpllMore where
  force : Nat
  quals : List Nat
  stateTime : Nat
  rungSince : Nat
  entry : Option Nat
  b0 : Nat
  locked : Nat
  sysN : Nat
  atomN : Nat
  deriving DecidableEq, Repr

/-- An item of the state copy (Table 15.2): a command's result, that is its held-set entry with the cached reply, and the
change it made; an event entered, cancelled or recorded; an audio or a safety change; the DPLL's state and what goes with
it; a synchroniser's choice of stored frame `k` for output frame `j`, a port's slip, the bridges' states, a store or delay
line moved; the count of a -40 or -22 flow or of a stream's ancillary series; a PTP session changed or ended; SUSPECT
entered or cleared, and an aid. DESIGN CHOICE (unsafe, log 163). -/
inductive CopyItem where
  | cleared
  | result (port : Nat) (entry : HeldEntry)
  | change (c : Change)
  | entered (e : DrvEvent)
  | cancelled (serial : U32)
  | recorded (r : DrvResult)
  | audio (c : Change)
  | safety (c : Change)
  | time (c : DpllCopy) (more : DpllMore)
  | choice (sync j k : Nat)
  | slip (port kind : Nat)
  | bridges (locked : List (Nat × Bool))
  | moved (kind index group : Nat)
  | flowCount (flow count : Nat)
  | seriesCount (stream count : Nat)
  | session (x : PtpSession) (ended : Bool)
  | suspect (n : Nat)
  | aid (params : Bytes)
  | activated (back : Bool) (confirmS : Nat)
  deriving DecidableEq, Repr, Inhabited

/-- The kind of an item (Table 15.2). -/
def CopyItem.kind : CopyItem → Nat
  | .result _ _ => 1 | .change _ => 1 | .activated _ _ => 1
  | .entered _ => 2 | .cancelled _ => 2 | .recorded _ => 2
  | .audio _ => 3
  | .safety _ => 4
  | .time _ _ => 5
  | .choice _ _ _ => 6 | .slip _ _ => 6 | .bridges _ => 6 | .moved _ _ _ => 6
  | .flowCount _ _ => 7 | .seriesCount _ _ => 7
  | .session _ _ => 8
  | .suspect _ => 9 | .cleared => 9 | .aid _ => 9

/-- What the holder sends a returning twin (Table 15.7, phase 3): its quires, drover queue, held sets with their cached
replies, session table, shepherd cards and tables, safety program, idle parameter copies, forces and GNSS aids.
DEDUCED (unsafe, log 165). -/
structure Snapshot where
  active : Quire := {}
  shadow : Quire := {}
  shadowState : ShadowState := .empty
  shadowDigest : Option Bytes := none
  baseDigest : Bytes := []
  changeCount : U32 := 0
  queue : List DrvEvent := []
  serial : U32 := 0
  ports : List (Nat × PortState) := []
  sessions : List PtpSession := []
  cards : List (Nat × Card) := []
  layerTable : List Bytes := []
  layerOn : Nat := 0
  layerFade : Nat := 0
  audioTable : List Bytes := []
  audioOn : Nat := 0
  audioFade : Nat := 0
  idle : Quire := {}
  force : Nat := 0
  timeAid : Option (Nat × Nat) := none
  posAid : Option (List Int × Nat) := none
  nav : List NavData := []
  deriving DecidableEq, Repr, Inhabited

end Sys2Proof.Machine

namespace Sys2Proof.Config

/-- The bytes of an item's data in a STATE frame, whose layout the manual does not give. DESIGN CHOICE (safe, log 58). -/
opaque itemBytes : Machine.CopyItem → Bytes

/-- The item that data of a kind stands for. DESIGN CHOICE (safe, log 58). -/
opaque itemOf : Nat → Bytes → Machine.CopyItem

/-- The bytes of a snapshot in SYNC frames, whose layout the manual does not give. DESIGN CHOICE (safe, log 58). -/
opaque snapshotBytes : Machine.Snapshot → Bytes

/-- The snapshot that such bytes stand for. DESIGN CHOICE (safe, log 58). -/
opaque snapshotOf : Bytes → Machine.Snapshot

end Sys2Proof.Config

namespace Sys2Proof.Machine

/-- The twin engine (R448-R471). Instants and lease ends are in ticks. `lastHeard` is the latest lease end heard, `ownLease`
the end of the last renewal sent, `freeAt` the instant from which a STARTING twin may claim; `stopped` says this twin has
stopped renewing; `doneCycle` counts the cycle ends handled; `slotBody` is the CROOK body due in this station's next SLOT
frame; `copy` lists the items gathered in this cycle, `deferredItems` those of class 3 left over; `stored` holds the STATE
bodies of the cycle under way at a twin without the crook and `lastCopy` the last cycle whose CYCLE_END was received;
`buffered` the copies a SYNCING twin has still to apply, by cycle, and `syncData` the snapshot bytes it has received;
`sendLeft` what the holder has still to send of a snapshot, from offset `sendAt`; `ownClasses` the digest classes in which
this twin made an own decision or withheld a stream in this cycle; `run` counts consecutive differing compared cycles by
class, `clean` compared cycles since any difference; `passes` the tests of an item passed in a row. DESIGN CHOICE (unsafe,
log 132). -/
structure Twin where
  role : Role := .single
  partnerRole : Option Role := none
  partnerEpoch : Nat := 0
  stopped : Bool := false
  lastHeard : Option Nat := none
  ownLease : Option Nat := none
  freeAt : Option Nat := none
  startedAt : Nat := 0
  quietCycles : Nat := 0
  partnerFoldAt : Option Nat := none
  doneCycle : Nat := 0
  slotBody : Bytes := []
  takeovers : U32 := 0
  roleTime : Nat := 0
  conflict : Bool := false
  sideConflicts : U32 := 0
  copy : List CopyItem := []
  deferredItems : List CopyItem := []
  maxCopy : Nat := 0
  maxCopySecond : Nat := 0
  lastMaxCopy : Nat := 0
  stored : List Bytes := []
  lastCopy : Option Nat := none
  overruns : U32 := 0
  missing : U32 := 0
  unsynced : U32 := 0
  ownDecisions : U32 := 0
  ownClasses : List Nat := []
  digestLog : List DigestRec := []
  run : List (Nat × Nat) := []
  mismatches : Counts := []
  lastMismatch : Nat := 0
  clean : Nat := 0
  selftest : Nat := 0
  passes : List (Nat × Nat) := []
  partnerSelftest : Nat := 0
  roundDone : Nat := 0
  lastSelftest : Nat := 0
  trimPs : Int := 0
  gnssDiffPs : Int := 0
  syncPhase : Nat := 0
  syncBytes : Nat := 0
  buffered : List (Nat × List CopyItem) := []
  syncData : Bytes := []
  sendLeft : Bytes := []
  sendAt : Nat := 0
  snapshotCycle : Nat := 0
  snapshotBytes : Nat := 0
  ownSeq : Nat := 0
  partnerSpare : Option Bytes := none
  partnerSpareVerified : Bool := false
  deriving DecidableEq, Repr

/-- A flock member (R476, R483). `heard` is TAI ns of the last HELLO. -/
structure Member where
  flockId : Nat
  serial : Bytes
  epoch : Nat
  side : Nat
  fenced : Bool
  partner : Bool
  bound : Nat
  netPort : Nat
  station : Nat
  addr : Bytes
  heard : Nat
  digest : Bytes
  deriving DecidableEq, Repr

/-- A REPORT in a log (R477, R482): its serial, the reporter and the body of Table 15.11. -/
structure Report where
  serial : U32
  reporter : Nat
  body : Bytes
  deriving DecidableEq, Repr

/-- The flock (R473-R479, R481-R483). `members` by their stable index; `accepted` keeps the highest sequence
accepted by sender, `delayed` the REPORTs held through a control-plane restart (Table 18.11). -/
structure Flock where
  nextSeq : Nat := 0
  members : List (Nat × Member) := []
  accepted : List (Nat × Bytes × Nat) := []
  own : List Report := []
  heard : List Report := []
  ownSerial : U32 := 0
  heardSerial : U32 := 0
  acceptedCount : U32 := 0
  icvFailures : U32 := 0
  replays : U32 := 0
  unknown : U32 := 0
  sent : U32 := 0
  heardCount : U32 := 0
  ownLost : U32 := 0
  duplicateSeen : Bool := false
  delayed : List Bytes := []
  aids : List Bytes := []
  deriving DecidableEq, Repr

/-- Firmware slot states (Table 18.5). -/
inductive SlotState where
  | empty | writing | written | verified | armed | trial | confirmed | bad
  deriving DecidableEq, Repr

/-- A firmware slot (R532, Table 18.9): its state, the header fields of Table 18.6 once checked, and
the package bytes as written. -/
structure FwSlot where
  state : SlotState := .empty
  cls : Option Nat := none
  trialStarts : Nat := 0
  epoch : Nat := 0
  minPartner : Nat := 0
  version : Nat := 0
  secVersion : Nat := 0
  total : Nat := 0
  data : List (Nat × Byte) := []
  digest : Bytes := []
  deriving DecidableEq, Repr

/-- An armed activation (R541): slot, allow_outage, confirm_s, its time in ticks (0 if
unscheduled), and whether it waits for staging to end. -/
structure Activation where
  slot : Nat
  allowOutage : Bool
  confirmS : Nat
  time : Nat
  scheduled : Bool
  waits : Bool
  deriving DecidableEq, Repr

/-- A control-plane restart under way (Table 18.10). -/
structure Restart where
  since : Nat
  forSlot : Option Nat
  fallback : Bool
  deriving DecidableEq, Repr

/-- A case image or a shepherd card being written: its length and the bytes written so far. -/
structure Building where
  which : Nat
  length : Nat
  data : List (Nat × Byte)
  deriving DecidableEq, Repr

/-- Start-up, firmware slots and case images (R527-R548). `stage` and `halt` are those of Table 18.4; `ready` is the READY
output; `inReset` says a chip reset is under way; `restartDue` a restart decided on, its slot and whether it falls back;
`deepPhase` the phase of R547, 0 if none; `confirmEnd` the confirm timer's end in ticks; `loader`, `vegen` and `micro` the
measurements of what runs (R501). DESIGN CHOICE (unsafe, log 10). DESIGN CHOICE (unsafe, log 11). -/
structure Boot where
  straps : Nat := 0
  bootSrc : Nat := 0
  side : Nat := 0
  foldAddr : Nat := 0
  stage : Nat := 0
  halt : Nat := 0
  ready : Bool := false
  inReset : Bool := true
  resetN : Bool := false
  bootCount : BitVec 8 := 0
  running : Nat := 0
  fallbackFlag : Bool := false
  caseSource : Nat := 0
  migrated : Bool := false
  recovery : Bool := false
  slotA : FwSlot := {}
  slotB : FwSlot := {}
  openSlot : Option Nat := none
  armed : Option Activation := none
  restartDue : Option (Nat × Bool) := none
  restart : Option Restart := none
  deepPhase : Nat := 0
  deepSlot : Nat := 0
  plannedReset : Option Nat := none
  confirmEnd : Option Nat := none
  confirmS : Nat := 600
  factoryCase : Bytes := []
  userCase : Bytes := []
  building : Option Building := none
  mailbox : Bytes := []
  epoch : Nat := 1
  vegenVersion : Nat := 0
  loader : Bytes := []
  vegen : Bytes := []
  micro : Bytes := []
  startTime : Nat := 0
  deriving DecidableEq, Repr

end Sys2Proof.Machine
end

