-- ==== Sys2Proof/Machine/State.lean ====
section
/-! DEFINITION. The state of the block: every register, buffer, queue and counter the manual gives
it, the queue of waiting commands, and what it has sent out. -/

namespace Sys2Proof.Machine

/-- No behaviour of the manual leaves the machine without a next state, so no command faults. DESIGN CHOICE (safe, log 8). -/
inductive Fault where
  deriving DecidableEq, Repr

/-- What the model refuses. DESIGN CHOICE (safe, log 8). -/
inductive Refusal where
  /-- Answered only by an arm of `exec` whose row has no meaning yet; safe: nothing is claimed. -/
  | notModelled (mnemonic : String)
  deriving DecidableEq, Repr

/-- What leaves the device, in order of leaving. DESIGN CHOICE (unsafe, log 160). -/
inductive Out where
  /-- A reply packet handed to its endpoint (R101). -/
  | reply (r : Reply)
  /-- An MSI-X vector (Table 19.14). -/
  | msi (vector : Nat)
  /-- A line read by a destination and handed to its consumer; `black` for a line of black. -/
  | line (d k n : Nat) (black : Bool) (data : List Nat)
  /-- A stitch frame, header and body (R222). -/
  | stitch (frame : Bytes)
  /-- A fabric cell sent on a lane (R210). -/
  | cell (lane : Nat) (bytes : Bytes)
  /-- Symbols sent on the line of a fabric lane, or as lanes 64 to 67 of a stitch lane, stuffing included: PAM4 levels, of a
  stitch lane levels 0 and 3 (R198, R221). -/
  | symbols (lane : Nat) (levels : List Nat)
  /-- A flock message sent to the group, the fold bus or a target (R474): its bytes and target index,
  none for the group. -/
  | flock (target : Option Nat) (body : Bytes)
  /-- A fold bus frame: header, body and CRC (R559). -/
  | fold (frame : Bytes)
  /-- A completion entry written to a queue pair's ring (Table 19.9) and the bytes of the reply written
  to the host's buffer. -/
  | completion (q : Nat) (entry : Bytes) (replyAddr : Nat) (reply : Bytes)
  /-- A receive record and the frame bytes written to a posted buffer (Table 19.15). -/
  | received (record frame : Bytes)
  /-- A launch completion record written to its ring (Table 19.16). -/
  | launched (record : Bytes)
  /-- An AVSBus request for VDD_CORE, in mV (R577). -/
  | avs (mv : Nat)
  /-- A COBS frame on the safety UART (R108). -/
  | uart (frame : Bytes)
  /-- A frame on a management Ethernet port (R558). -/
  | mgt (port : Nat) (frame : Bytes)
  /-- A TCP reset that refuses a connection on a management port (R558). -/
  | mgtReset (port : Nat)
  /-- The plain text of records sent on a management session (R505, R558): port, session, bytes. -/
  | session (port idx : Nat) (bytes : Bytes)
  /-- A KeyUpdate sent on a management session (R505). -/
  | keyUpdate (port idx : Nat)
  /-- What passes out through DBG_OUT: a length word and a reply packet (R569). -/
  | debugOut (bytes : Bytes)
  /-- An Ethernet frame sent on a network port, its start in ticks (R187). -/
  | frame (port start : Nat) (bytes : Bytes)
  /-- A raster line on a media lane (R146): lane, frame, line, black or not, the active samples, the ANC
  packets inserted, the payload ID if this line carries it, and the embedded sample frames
  with the bits they carry. -/
  | laneOut (lane k line : Nat) (black : Bool) (data : List Nat) (anc : List AncPkt)
      (payload : Option Bytes) (audio : List (List Smp))
  /-- A frame sent on an AES3 output (R310): whether it starts a block, and per subframe the 24-bit sample
  and the bits C, U and V. -/
  | aes (port : Nat) (blockStart : Bool) (subframes : List (Int × Bool × Bool × Bool))
  /-- A frame driven on a TDM port's data output (R312). -/
  | tdm (port : Nat) (slots : List Int)
  /-- A rising edge of the word clock output (R314): its instant in ticks. -/
  | wordClock (edge : Int)
  /-- A pulse begun on a pulse output (R367): output, the 1.25 ns step of its edge, width in ns, and whether
  it is active low. -/
  | pulse (o step width : Nat) (low : Bool)
  /-- What a read of a register of the host window returned: block offset and value. -/
  | regRead (addr value : Nat)
  /-- A PTP message sent by a PTP port (R395): port entry, the address it goes to (empty for multicast), the
  message. -/
  | ptp (port : Nat) (addr msg : Bytes)
  /-- An NTP answer (R407): network port, client address, the packet. -/
  | ntp (port : Nat) (addr msg : Bytes)
  /-- The NTS-KE records sent on a connection that completed (R408): connection and the cookies. -/
  | ntsKe (conn : Nat) (cookies : List Bytes)
  deriving DecidableEq, Repr

/-- The state of the device. `pending` is the queue of commands waiting, first in, first out; `out`
what the device has sent; `free` counts the free values drawn. -/
structure State where
  pending : List Instr := []
  out : List Out := []
  free : Nat := 0
  tb : TimeBase := {}
  cmds : Cmds := {}
  quire : QuireState := {}
  drv : Drover := {}
  ev : Events := {}
  spine : Spine := {}
  fabric : Fabric := {}
  twin : Twin := {}
  flock : Flock := {}
  boot : Boot := {}
  keys : Keys := {}
  host : Host19 := {}
  power : Power := {}
  time : TimeSvc := {}
  lanes : List (Nat × Lane) := []
  net : Net := {}
  dram : Dram := {}
  layers : Layers := {}
  audio : Audio := {}
  apt : List (Nat × AudioPort) := []
  deriving DecidableEq, Repr

/-- The state right after reset.
DESIGN CHOICE (unsafe, log 5). DESIGN CHOICE (unsafe, log 10). DESIGN CHOICE (unsafe, log 11). PRESUMED (unsafe, log 145). -/
def State.reset : State := {}

end Sys2Proof.Machine
end

