-- ==== Sys2Proof/Machine/Flags.lean ====
section
/-! DEFINITION. What the status pins and status registers show, computed from the state. -/

namespace Sys2Proof.Machine

/-- The time base in ticks since the PTP epoch (R381). DESIGN CHOICE (safe, log 2). -/
def now (s : State) : Nat := s.tb.sec.toNat * ticksPerSec + s.tb.inc * ticksPerStep

/-- The time base in whole nanoseconds, rounded down (R381). -/
def nowNs (s : State) : Nat := s.tb.sec.toNat * 1000000000 + s.tb.inc * 5 / 4

/-- Ticks in a stitch cycle of 250 µs. -/
abbrev cycleTicks : Nat := 250 * ticksPerUs

/-- The number of the present stitch cycle, counted without wrapping (R451). -/
def cycleNow (s : State) : Nat := now s / cycleTicks

/-- Whether a synthesiser runs (R375, R380), by its domain number of Table 12.12. -/
def synthRuns (s : State) (d : Nat) : Bool := decide (mget (fun _ => 0) s.time.synth d = 2)

/-- Whether a role holds the crook (Table 15.1). -/
def Role.holds : Role → Bool
  | .single | .holder | .solo => true
  | _ => false

/-- Role codes (Table 15.1). -/
def Role.code : Role → Nat
  | .single => 0 | .starting => 1 | .syncing => 2 | .standby => 3 | .holder => 4 | .solo => 5

/-- Whether this device holds the crook or has no partner. -/
def holdsCrook (s : State) : Bool := s.twin.role.holds

/-- The CROOK pin (R450, Table 17.10 step 2, R530): low in reset, in a halt and after a fatal
error. -/
def pinCrook (s : State) : Bool :=
  holdsCrook s && s.ev.fatal.isNone && s.boot.ready && decide (s.boot.stage ≠ 15)

/-- Whether the stitch lanes are enabled in the FABRIC folio, so that the device is a twin (R448). -/
def isTwin (s : State) : Bool := decide (qRd s.quire.active fFabric (528 * 64) 1 = 1)

/-- Whether the running package may pair with the partner's epoch, once that is heard (R545).
DEDUCED (unsafe, log 60). -/
def mayPair (s : State) : Bool :=
  let slot := if s.boot.running = 0 then s.boot.slotA else s.boot.slotB
  let lowest := if s.boot.mailbox = [] then slot.minPartner else rd s.boot.mailbox 0xA 2
  decide (s.twin.partnerEpoch = 0) || decide (lowest ≤ s.twin.partnerEpoch)

/-- Whether the device has a partner it must keep in step (R456): a twin whose link is ACTIVE, its partner
strapped to the other side (R453) and of an epoch it may pair with (R545). -/
def hasPartner (s : State) : Bool := isTwin s && s.fabric.stitch.active && !s.twin.conflict && mayPair s

/-- The state of a memory group (Table 08.8). -/
def groupState (s : State) (g : Nat) : Nat := (mget (fun _ => ({} : DramGroup)) s.dram.groups g).state

/-- Whether the system mirror has lost both its groups, so that Vegen cannot run (R234). -/
def mirrorLost (s : State) : Bool := decide (groupState s 0 = 3 ∧ groupState s 1 = 3)

/-- Whether control-plane commands can start: command-ready, no restart under way, not frozen by a
fatal sequence, and the system mirror held somewhere (R234). -/
def vegenUp (s : State) : Bool :=
  s.boot.ready && s.boot.restart.isNone && s.ev.fatal.isNone && !s.boot.inReset && !mirrorLost s

/-- Life-cycle state code (R105). -/
def lifeCycle (s : State) : Nat := s.keys.lifeCycle

/-- HST_STATUS (Table 19.6), but for hold_full, which the hold buffer's fill gives. -/
def heldBytes (s : State) : Nat := (s.cmds.waiting.map fun w => 32 + w.req.params.length).sum

/-- Whether the 4 MiB hold buffer is full (R554). -/
def holdFull (s : State) : Bool := decide (4194304 ≤ heldBytes s)

/-- HST_STATUS (Table 19.6). -/
def hstStatus (s : State) : Nat :=
  b2n s.boot.ready + 2 * b2n s.boot.restart.isSome + 4 * b2n (pinCrook s) + 8 * b2n s.ev.errn +
    16 * b2n s.tb.acquired + 32 * b2n (holdFull s)

/-- A firmware slot. -/
def slotOf (s : State) (n : Nat) : FwSlot := if n = 0 then s.boot.slotA else s.boot.slotB

/-- HST_BOOT_STATUS (Table 18.4). DESIGN CHOICE (unsafe, log 134). -/
def bootStatus (s : State) : Nat :=
  s.boot.stage + 16 * s.boot.halt + 4096 * s.boot.running +
    8192 * b2n (decide ((slotOf s s.boot.running).state = .trial)) +
    16384 * b2n s.boot.fallbackFlag + 32768 * s.boot.caseSource + 131072 * b2n s.boot.migrated +
    262144 * b2n s.boot.recovery + 16777216 * s.boot.bootCount.toNat

/-- The block of an event source (Table 17.1). -/
def blockOf (src : Nat) : Nat :=
  if src < 64 then 0 else if src < 160 then 1 else if src < 224 then 2 else if src < 352 then 3
  else if src < 480 then 4 else if src < 576 then 5 else if src < 672 then 6
  else if src < 768 then 7 else if src < 832 then 8 else if src < 896 then 9
  else if src < 992 then 10 else if src < 1056 then 11 else if src < 1104 then 12
  else if src < 1168 then 13 else if src < 1216 then 14 else if src < 1248 then 15
  else if src < 1264 then 16 else 17

/-- First and last source of a block (Table 17.1). DESIGN CHOICE (unsafe, log 113). -/
def blockRange (b : Nat) : Nat × Nat :=
  ([(0, 63), (64, 159), (160, 223), (224, 351), (352, 479), (480, 575), (576, 671), (672, 767),
    (768, 831), (832, 895), (896, 991), (992, 1055), (1056, 1103), (1104, 1167), (1168, 1215),
    (1216, 1247), (1248, 1263), (1264, 1279)]).getD b (1280, 1279)

/-- Whether a block can be block-reset (Table 17.6). -/
def resettable (b : Nat) : Bool := decide (b ∉ [1, 10, 13, 14, 16, 17])

/-- The lowest pending source of a block, if any. -/
def firstPending (p : BitVec 1280) (b : Nat) : Option Nat :=
  let r := blockRange b
  ((List.range (r.2 + 1 - r.1)).map (· + r.1)).find? fun k => p.getLsbD k

/-- The state of a block (Table 17.6): 3 STOPPED, 2 RESETTING, 1 DEGRADED, 0 NORMAL. -/
def blockState (ev : Events) (b : Nat) : Nat :=
  if ev.fatal.isSome then 3
  else if ev.resetting.any (fun r => decide (r.block = b)) then 2
  else if (firstPending ev.pend b).isSome then 1 else 0

/-- EVT_SUMMARY (Table 17.7). -/
def evtSummary (ev : Events) : Nat :=
  ((List.range 18).map fun b => 2 ^ b * b2n (firstPending ev.pend b).isSome).sum +
    2 ^ 18 * b2n ev.errn + 2 ^ 19 * b2n ev.overflow +
    2 ^ 20 * b2n (ev.half0.held || ev.half1.held) + 2 ^ 21 * b2n ev.lastGaspFlag +
    2 ^ 22 * b2n ev.romMode

/-- EVT_PENDn (Table 17.8). -/
def evtPend (ev : Events) (n : Nat) : Nat := (ev.pend.toNat / 2 ^ (32 * n)) % 2 ^ 32

/-- EVT_BLK_STATUSb (Table 17.9). -/
def evtBlkStatus (ev : Events) (b : Nat) : Nat :=
  (match firstPending ev.pend b with
   | some k => k + 2 ^ 11
   | none => 0) +
    2 ^ 12 * blockState ev b + 2 ^ 16 * (mget (fun _ => 0#16) ev.blkOcc b).toNat

/-- The reaction byte of a source (R513, R518): the EVENTS entry in force, or the factory default
while the ROM fall-back is. -/
def reactionOf (s : State) (src : Nat) : Nat :=
  if s.ev.romMode || fixedSource src then defaultReaction src
  else qRd s.quire.active fEvents (8 * src) 1

/-- Whether a source is counted only (R525). -/
def countOnly (s : State) (src : Nat) : Bool :=
  !s.ev.romMode && bit (qRd s.quire.active fEvents (8 * src + 1) 1) 0

/-- The fence bound in ns (R92). -/
def fenceBound (s : State) : Nat := qRd s.quire.active fFlock 8 4

/-- The flock identity of this device (R64, R473). -/
def flockId (s : State) : Nat :=
  if isTwin s && decide (s.boot.side = 1) then qRd s.quire.active fFlock 0xE8 4
  else qRd s.quire.active fFlock 4 4

/-- twin_side of DEV_INFO (Table 04.12). -/
def twinSide (s : State) : Nat := if isTwin s then s.boot.side else 0xFF

/-- Whether a pen is enabled (Table 03.6). -/
def penEnabled (q : Quire) (p : Nat) : Bool := bit (qRd q fPens (40 * p) 1) 0

/-- The port an endpoint is bound to, if any (R106, R107, Table 04.7). -/
def boundPort (s : State) : Endpoint → Option Nat
  | .qp 0 => some (if lifeCycle s = 2 ∨ lifeCycle s = 3 then portRoot else portFactory)
  | .qp n =>
    if 64 ≤ n then none
    else
      let o := 0xC0 + 8 * (n - 1)
      if bit (qRd s.quire.active fMgmt (o + 1) 1) 0 then some (qRd s.quire.active fMgmt (o + 2) 2)
      else none
  | .session m i =>
    (s.host.sessions.find? fun x => decide (x.mgt = m ∧ x.idx = i)).map fun x => x.port
  | .fold _ => some portFlock
  | .safety => some portSafety
  | .stitch => some portPartner
  | .debug => some portDebug
  | .forwarded _ => none
  | .copied => none

/-- The transport an endpoint belongs to: 0 PCIe, 1 management, 2 fold bus, 3 safety UART, 4 stitch
link, 5 debug mailbox. -/
def transportOf : Endpoint → Nat
  | .qp _ => 0 | .session _ _ => 1 | .fold _ => 2 | .safety => 3 | .stitch => 4 | .debug => 5
  | .forwarded _ => 4
  | .copied => 4

/-! ### Channel status (R145, R306) -/

/-- The eight bits of a byte of a block, the first bit least significant. -/
def byteOfBits (bs : List Bool) : Byte :=
  BitVec.ofNat 8 ((bs.zipIdx.map fun p => b2n p.1 * 2 ^ p.2).sum)

/-- One bit of the CRCC register: x^8 + x^4 + x^3 + x^2 + 1. PRESUMED (unsafe, log 76). -/
def crccBit (c : Nat) (b : Bool) : Nat :=
  let top := b2n (bit c 7) ^^^ b2n b
  let v := c * 2 % 256
  if top = 1 then v ^^^ 0x1D else v

/-- The CRCC over bytes 0 to 22 of a channel status block in transmission order (R306). The byte's bits are
sent least significant first, and the register's last bit is sent first. PRESUMED (unsafe, log 76). -/
def crcc (cs : Bytes) : Byte :=
  let bits_ := (cs.take 23).flatMap fun b => (List.range 8).map fun i => b.getLsbD i
  let c := bits_.foldl crccBit 0xFF
  byteOfBits ((List.range 8).map fun i => bit c (7 - i))

/-- Pads or cuts bytes to a field of `n` bytes. -/
def fit (n : Nat) (bs : Bytes) : Bytes := (bs ++ zeros n).take n

end Sys2Proof.Machine
end

