-- ==== Sys2Proof/Machine/Clock.lean ====
section
/-! DEFINITION. The time base's own advance (R382). -/

namespace Sys2Proof.Machine

/-- The increments in a second (R381). -/
abbrev incsPerSec : Nat := 800000000

/-- One TIME cycle of the time base (R382): the accumulator takes 2^48 + rho, the increment count what
carries out of it, and the seconds what carries out of the count. DESIGN CHOICE (unsafe, log 1). -/
def tickBase (t : TimeBase) : TimeBase :=
  let a := ((t.acc.toNat : Int) + 2 ^ 48 + t.rho).toNat
  let n := t.inc + a / 2 ^ 48
  { t with
    acc := BitVec.ofNat 48 a
    inc := n % incsPerSec
    sec := t.sec + BitVec.ofNat 48 (n / incsPerSec) }

/-- What the device does when no command waits: the time base advances by one TIME cycle, unless the
device is held in reset. DESIGN CHOICE (unsafe, log 1). -/
def tick (s : State) : State :=
  if s.boot.inReset then s else { s with tb := tickBase s.tb }

end Sys2Proof.Machine
end

