-- ==== Sys2Proof/Machine/Coding.lean ====
section
/-! DEFINITION. The coding of fabric and stitch lanes (R198 to R204, R208): blocks, scrambling, Reed-Solomon codewords, line
symbols and stuffing, each with what the receiver does to undo it. -/

namespace Sys2Proof.Machine

/-! ### Blocks (R198, R199) -/

/-- A control block of a type (Table 07.1) with what follows the type byte. -/
def controlBlock (kind : Nat) (rest : Bytes) : Block := ⟨true, le 1 kind ++ fit 63 rest⟩

/-- An IDLE block. -/
def idleBlock : Block := controlBlock 0x1E []

/-- A MARKER block (R205): logical lane, bond size and marker count. -/
def markerBlock (logical size count : Nat) : Block :=
  controlBlock 0x4B (le 1 logical ++ le 1 size ++ zeros 1 ++ le 4 (count % 2 ^ 32))

/-- Bytes as data blocks of 64, the last padded with zeros; four to a cell. -/
def dataBlocks (bs : Bytes) : List Block :=
  (List.range (cdiv bs.length 64)).map fun i => ⟨false, fit 64 (slice bs (64 * i) 64)⟩

/-- A stitch frame's blocks (R222): its header in an SOF block, then its body. -/
def frameBlocks (frame : Bytes) : List Block := controlBlock 0x78 (frame.take 16) :: dataBlocks (frame.drop 16)

/-- Whether a control block's type is one of Table 07.1. -/
def knownControl (b : Block) : Bool := decide (rd b.payload 0 1 ∈ [0x1E, 0x4B, 0x55, 0x78])

/-- What a fabric lane's receiver makes of its blocks (R199), `part` the data blocks of the cell under way: the cells, and how
many control blocks of reserved type it discarded. A control block that is known stands between cells; after any control
block the next data block starts a cell. -/
def readBlocks : List Block → Bytes → List Bytes × Nat
  | [], _ => ([], 0)
  | b :: rest, part =>
    if b.control then
      let r := readBlocks rest []
      (r.1, r.2 + b2n (!knownControl b))
    else
      let p := part ++ b.payload
      if p.length < 256 then readBlocks rest p
      else
        let r := readBlocks rest []
        (p :: r.1, r.2)

/-- The bits of a byte sequence, each byte least significant bit first. -/
def bytesBits (bs : Bytes) : List Bool := bs.flatMap fun b => (List.range 8).map b.getLsbD

/-- The number that bits spell, the first of them least significant. -/
def bitsNat (bs : List Bool) : Nat := bs.foldr (fun b n => 2 * n + b2n b) 0

/-- The bytes of a bit sequence, `n` of them. -/
def bitsBytes : Nat → List Bool → Bytes
  | 0, _ => []
  | n + 1, bs => BitVec.ofNat 8 (bitsNat (bs.take 8)) :: bitsBytes n (bs.drop 8)

/-- The header bits of a block (R198). -/
def headerBits (b : Block) : List Bool := [b.control, !b.control]

/-! ### Scrambling (R200) -/

/-- One bit through the scrambler 1 + x^39 + x^58, `h` the last 58 bits sent, the latest as bit 0: the bit sent. -/
def scrambleBit (h : BitVec 58) (b : Bool) : Bool := (b ^^ h.getLsbD 38) ^^ h.getLsbD 57

/-- The last 58 bits after one more. -/
def pushBit (h : BitVec 58) (b : Bool) : BitVec 58 := (h <<< 1) ||| BitVec.ofNat 58 (b2n b)

/-- The bits that bits go out as. -/
def scramble : BitVec 58 → List Bool → List Bool
  | _, [] => []
  | h, b :: bs =>
    let c := scrambleBit h b
    c :: scramble (pushBit h c) bs

/-- The bits that scrambled bits came from; the history is that of the bits received, so 58 of them set it right. -/
def descramble : BitVec 58 → List Bool → List Bool
  | _, [] => []
  | h, c :: cs => scrambleBit h c :: descramble (pushBit h c) cs

/-- The history after bits have passed. -/
def history (h : BitVec 58) (bs : List Bool) : BitVec 58 := bs.foldl pushBit h

/-- The bits of blocks, their payloads scrambled and their headers not, and the history after them. -/
def blocksBits : BitVec 58 → List Block → List Bool × BitVec 58
  | h, [] => ([], h)
  | h, b :: rest =>
    let out := scramble h (bytesBits b.payload)
    let r := blocksBits (history h out) rest
    (headerBits b ++ out ++ r.1, r.2)

/-- The blocks of a codeword's message bits, `n` of them, with none where the header is invalid, and the history after them.
-/
def bitsBlocks : Nat → BitVec 58 → List Bool → List (Option Block) × BitVec 58
  | 0, h, _ => ([], h)
  | n + 1, h, bs =>
    let body := (bs.drop 2).take 512
    let r := bitsBlocks n (history h body) (bs.drop 514)
    let c := bs.headD false
    let block := if c = (bs.drop 1).headD false then none else some ⟨c, bitsBytes 64 (descramble h body)⟩
    (block :: r.1, r.2)

/-! ### RS(544,514) (R201) -/

/-- A symbol of GF(2^10), with field polynomial x^10 + x^3 + 1. PRESUMED (unsafe, log 191). -/
abbrev Gf := BitVec 10

/-- Multiplication by x. -/
def gfTwice (a : Gf) : Gf := (a <<< 1) ^^^ (if a.msb then 9#10 else 0#10)

/-- The product of two symbols. -/
def gfMul (a b : Gf) : Gf :=
  (List.range 10).foldr (fun i acc => gfTwice acc ^^^ (if b.getMsbD (9 - i) then a else 0#10)) 0#10

/-- A power, by the bits of the exponent, of which it has at most ten. -/
def gfPow (a : Gf) (n : Nat) : Gf :=
  (List.range 10).foldr (fun i acc => let sq := gfMul acc acc; if n.testBit i then gfMul sq a else sq) 1#10

/-- The inverse of a symbol that is not zero. -/
def gfInv (a : Gf) : Gf := gfPow a 1022

/-- The primitive element to a power. -/
def gfAlpha (n : Nat) : Gf := gfPow 2#10 (n % 1023)

/-- The sum of two polynomials, the lowest coefficient first. -/
def gfAddP : List Gf → List Gf → List Gf
  | [], b => b
  | a, [] => a
  | x :: a, y :: b => (x ^^^ y) :: gfAddP a b

/-- The product of two polynomials. -/
def gfMulP : List Gf → List Gf → List Gf
  | [], _ => []
  | x :: a, b => gfAddP (b.map (gfMul x)) (0#10 :: gfMulP a b)

/-- A polynomial's value. -/
def gfEval (p : List Gf) (x : Gf) : Gf := p.foldr (fun c acc => gfMul acc x ^^^ c) 0#10

/-- The generator polynomial: the roots are the first thirty powers of the primitive element. PRESUMED (unsafe, log 191). -/
def rsGenerator : List Gf := (List.range 30).foldl (fun g i => gfMulP g [gfAlpha i, 1#10]) [1#10]

/-- The remainder of a message, first symbol highest, shifted up thirty places: the lowest coefficient first. -/
def rsRemainder (g msg : List Gf) : List Gf :=
  msg.foldl (fun r m =>
    let fb := m ^^^ r.getLastD 0#10
    gfAddP (0#10 :: r.dropLast) ((g.take 30).map (gfMul fb))) (List.replicate 30 0#10)

/-- A codeword: the message and, after it, thirty parity symbols. PRESUMED (unsafe, log 191). -/
def rsEncode (msg : List Gf) : List Gf := msg ++ (rsRemainder rsGenerator msg).reverse

/-- The thirty syndromes of a received word. -/
def rsSyndromes (w : List Gf) : List Gf := (List.range 30).map fun j => gfEval w.reverse (gfAlpha j)

/-- The decoder's search for the error locator (Berlekamp and Massey): locator, the last one, its length, the steps since it
changed, the discrepancy then. -/
structure Locator where
  now : List Gf
  old : List Gf
  len : Nat
  gap : Nat
  disc : Gf

/-- One step of the search, at syndrome `n`. -/
def locatorStep (syn : List Gf) (n : Nat) (l : Locator) : Locator :=
  let d := ((List.range (l.len + 1)).map fun i => gfMul (l.now.getD i 0#10) (syn.getD (n - i) 0#10)).foldl (· ^^^ ·) 0#10
  if d = 0#10 then { l with gap := l.gap + 1 }
  else
    let c := gfMul d (gfInv l.disc)
    let next := gfAddP l.now (List.replicate l.gap 0#10 ++ l.old.map (gfMul c))
    if 2 * l.len ≤ n then ⟨next, l.now, n + 1 - l.len, 1, d⟩ else { l with now := next, gap := l.gap + 1 }

/-- The derivative of a polynomial: its odd coefficients, each a place lower. -/
def gfDerive (p : List Gf) : List Gf := (p.drop 1).zipIdx.map fun c => if c.2 % 2 = 0 then c.1 else 0#10

/-- The codeword within fifteen symbols of a received word of 544, none where the decoder finds none (R201). -/
def rsDecode (w : List Gf) : Option (List Gf) :=
  let syn := rsSyndromes w
  if syn.all (· == 0#10) then some w
  else
    let l := (List.range 30).foldl (fun l n => locatorStep syn n l) ⟨[1#10], [1#10], 0, 1, 1#10⟩
    let places := (List.range 544).filter fun p => gfEval l.now (gfAlpha (1023 - p)) = 0#10
    if 15 < l.len ∨ places.length ≠ l.len then none
    else
      let evaluator := (gfMulP syn l.now).take 30
      let fixed := places.foldl (fun v p =>
        let x := gfAlpha (1023 - p)
        let e := gfMul (gfAlpha p) (gfMul (gfEval evaluator x) (gfInv (gfEval (gfDerive l.now) x)))
        v.set (543 - p) (v.getD (543 - p) 0#10 ^^^ e)) w
      if (rsSyndromes fixed).all (· == 0#10) then some fixed else none

/-- Bits as symbols of ten, the first bit of each least significant, `n` of them. -/
def bitsSymbols : Nat → List Bool → List Gf
  | 0, _ => []
  | n + 1, bs => BitVec.ofNat 10 (bitsNat (bs.take 10)) :: bitsSymbols n (bs.drop 10)

/-- The bits of symbols. -/
def symbolsBits (xs : List Gf) : List Bool := xs.flatMap fun x => (List.range 10).map x.getLsbD

/-! ### Line symbols and stuffing (R202, R203, R221) -/

/-- The PAM4 level of a bit pair, `a` sent first. -/
def grayLevel (a b : Bool) : Nat := if a then (if b then 2 else 3) else b2n b

/-- The bit pair of a level. -/
def grayBits (x : Nat) : List Bool := [decide (2 ≤ x), decide (x = 1 ∨ x = 2)]

/-- Bits as line symbols: PAM4 levels, or on a stitch lane each bit as level 0 or 3. -/
def lineSymbols (nrz : Bool) : List Bool → List Nat
  | [] => []
  | [a] => if nrz then [3 * b2n a] else []
  | a :: b :: rest =>
    if nrz then 3 * b2n a :: 3 * b2n b :: lineSymbols nrz rest else grayLevel a b :: lineSymbols nrz rest

/-- The bits of line symbols. -/
def lineBits (nrz : Bool) (xs : List Nat) : List Bool :=
  xs.flatMap fun x => if nrz then [decide (2 ≤ x)] else grayBits x

/-- The stuff symbol after a run of a level: the far extreme. -/
def stuffLevel (x : Nat) : Nat := if x ≤ 1 then 3 else 0

/-- The run after one more symbol: its level and its length, which a full run of 48 starts afresh. -/
def runNext (r : Nat × Nat) (x : Nat) : Nat × Nat := if r.1 = x ∧ r.2 ≠ 48 then (x, r.2 + 1) else (x, 1)

/-- Symbols with the stuff symbols the line needs, from the run so far. -/
def stuff : Nat × Nat → List Nat → List Nat
  | _, [] => []
  | r, x :: xs =>
    let n := runNext r x
    if n.2 = 48 then x :: stuffLevel x :: stuff (x, 0) xs else x :: stuff n xs

/-- The run after symbols have gone out through `stuff`. -/
def runAfter (r : Nat × Nat) (xs : List Nat) : Nat × Nat :=
  xs.foldl (fun r x => let n := runNext r x; if n.2 = 48 then (x, 0) else n) r

/-- What a receiver makes of the symbols on the line: those that are no stuffing, and how many discarded symbols were not the
extreme expected. A run of 48 waits for the symbol after it. -/
def unstuff : Nat × Nat → List Nat → List Nat × Nat
  | _, [] => ([], 0)
  | r, x :: xs =>
    if r.2 = 48 then
      let t := unstuff (r.1, 0) xs
      (t.1, t.2 + b2n (decide (x ≠ stuffLevel r.1)))
    else
      let t := unstuff (runNext r x) xs
      (x :: t.1, t.2)

/-! ### The transmitter (R198) -/

/-- Ten blocks as a codeword's line symbols, and the history after them. -/
def codeword (nrz : Bool) (h : BitVec 58) (bs : List Block) : List Nat × BitVec 58 :=
  let m := blocksBits h bs
  (lineSymbols nrz (symbolsBits (rsEncode (bitsSymbols 514 m.1))), m.2)

/-- Sends symbols on the line with stuffing: what goes out, and the coder after it. -/
def lineSend (xs : List Nat) (c : LaneCode) : List Nat × LaneCode :=
  (stuff (c.level, c.run) xs, { c with level := (runAfter (c.level, c.run) xs).1, run := (runAfter (c.level, c.run) xs).2 })

/-- One block into the transmitter: the tenth that waits makes a codeword. -/
def pushBlock (nrz : Bool) (c : LaneCode) (b : Block) : List Nat × LaneCode :=
  let waiting := c.waiting ++ [b]
  let c1 := { c with count := c.count + 1, data := if b.control then 0 else c.data + 1, waiting := waiting }
  if waiting.length < 10 then ([], c1)
  else
    let w := codeword nrz c.scr waiting
    lineSend w.1 { c1 with waiting := [], scr := w.2 }

/-- Blocks into the transmitter, in order. -/
def pushBlocks (nrz : Bool) : LaneCode → List Block → List Nat × LaneCode
  | c, [] => ([], c)
  | c, b :: bs =>
    let p := pushBlock nrz c b
    let r := pushBlocks nrz p.2 bs
    (p.1 ++ r.1, r.2)

/-- The receiver's work on a codeword's line symbols without stuffing (R198, R201): the ten blocks, none where its bits
cannot be corrected. -/
def readCodeword (nrz : Bool) (h : BitVec 58) (xs : List Nat) : Option (List (Option Block) × BitVec 58) :=
  (rsDecode (bitsSymbols 544 (lineBits nrz xs))).map fun w => bitsBlocks 10 h (symbolsBits (w.take 514))

/-- What control blocks, true for MARKER, go before `n` blocks that may not be broken (R199, R205): a marker that falls
among them goes first, behind IDLE blocks up to its place, and an IDLE block breaks a run of 63 data blocks. -/
def leadBlocks (bonded : Bool) (n : Nat) (c : LaneCode) : List Bool :=
  let place := c.count % 16384
  if bonded ∧ 16383 < place + n then List.replicate (16383 - place) false ++ [true]
  else if 63 < c.data + n then [false]
  else []

/-! ### Block lock (R204) -/

/-- Whether the two bits of a header position are valid. -/
def headerGood (a b : Bool) : Bool := a != b

/-- The header positions of a bit sequence taken as codewords from an offset on, `n` codewords. -/
def headersFrom (bits : List Bool) (offset n : Nat) : List Bool :=
  (List.range n).flatMap fun c => (List.range 10).map fun i =>
    let o := offset + 5440 * c + 514 * i
    headerGood (bits.getD o false) (bits.getD (o + 1) false)

/-- The first offset at which 64 header positions in a row are valid. -/
def huntLock (bits : List Bool) : Option Nat :=
  (List.range 5440).find? fun o => ((headersFrom bits o 7).take 64).all id

/-- Whether lock is lost: 32 invalid headers among the last 1,024, or 1,000 codewords that cannot be corrected within 1 ms,
given the instants at which such codewords came. -/
def lockLost (headers : List Bool) (bad : List Nat) (t : Nat) : Bool :=
  decide (32 ≤ ((keepLast 1024 headers).filter (!·)).length) ||
    decide (1000 ≤ (bad.filter fun b => decide (t ≤ b + ticksPerMs)).length)

/-! ### Training frames (R208) -/

/-- A field of a training frame: sixteen bits, the least significant first, each as eight symbols. -/
def fieldSymbols (v : Nat) : List Nat :=
  (List.range 16).flatMap fun i =>
    if bit v i then List.replicate 4 3 ++ List.replicate 4 0 else List.replicate 4 0 ++ List.replicate 4 3

/-- The next `n` bits of PRBS13, polynomial x^13 + x^12 + x^2 + x + 1, from the last thirteen, the latest as bit 0. -/
def prbs13 : Nat → BitVec 13 → List Bool
  | 0, _ => []
  | n + 1, h =>
    let b := ((h.getLsbD 12 ^^ h.getLsbD 11) ^^ h.getLsbD 1) ^^ h.getLsbD 0
    b :: prbs13 n ((h <<< 1) ||| BitVec.ofNat 13 (b2n b))

/-- A training frame: marker, control and status, and PRBS13 from a seed; on a stitch lane at levels 0 and 3 only (R221). -/
def trainingFrame (nrz : Bool) (control status : Nat) (seed : BitVec 13) : List Nat :=
  List.replicate 16 3 ++ List.replicate 16 0 ++ fieldSymbols control ++ fieldSymbols status ++
    lineSymbols nrz (prbs13 (if nrz then 4064 else 8128) seed)

/-- The control field's request for one tap (R208): held until the status shows updated or at limit, then hold until the
status is back; else a request may begin. -/
def tapRequest (asked status fresh : Nat) : Nat :=
  if asked ≠ 0 then (if status = 0 then asked else 0) else if status = 0 then fresh % 3 else 0

end Sys2Proof.Machine
end

