-- ==== Sys2Proof/Machine/Ops.lean ====
section
/-! DEFINITION. The shared operations: raising an event, answering a command, running a command
through steps 7 to 13 of Table 04.3. -/

namespace Sys2Proof.Machine

/-- Sends something out. -/
def emit (o : Out) (s : State) : State := { s with out := s.out ++ [o] }

/-- Sends an MSI-X vector, or leaves it pending while it is masked (R555). -/
def sendMsi (v : Nat) (s : State) : State :=
  if s.host.msixMask.getLsbD v then
    { s with host := { s.host with msixPend := s.host.msixPend ||| (1#96 <<< v) } }
  else emit (.msi v) s

/-- Draws a free value: the number of the draw, and the state with the counter advanced. DESIGN CHOICE (unsafe, log 9). -/
def draw (s : State) : Nat × State := (s.free, { s with free := s.free + 1 })

/-- Advances the count of free values drawn. DESIGN CHOICE (safe, log 31). -/
def drawMany (n : Nat) (s : State) : State := { s with free := s.free + n }

/-! ### Fabric and stitch lanes and what they send (R198 to R208) -/

/-- A fabric or stitch lane; what an unlisted one is: OFF. -/
def noFab : Nat → FabLane := fun _ => {}

/-- The state of fabric lane `l`, or as 64 to 67 of a stitch lane. -/
def fabLane (s : State) (l : Nat) : FabLane := mget noFab s.fabric.lanes l

/-- Changes a fabric lane. -/
def setFab (l : Nat) (f : FabLane → FabLane) (s : State) : State :=
  { s with fabric := { s.fabric with lanes := mmod noFab s.fabric.lanes l f } }

/-- Counts on a lane (R228). -/
def fabCount (l k n : Nat) (s : State) : State :=
  setFab l (fun x => { x with counts := nAdd x.counts k n }) s

/-- mode of a FABRIC entry (Table 07.6). -/
def fabMode (q : Quire) (l : Nat) : Nat := qRd q fFabric (528 * l) 1

/-- The lanes of the bond a lane belongs to (R205, R220, R221). -/
def bondLanes (q : Quire) (l : Nat) : List Nat :=
  if 64 ≤ l then [64, 65, 66, 67]
  else if fabMode q (4 * (l / 4)) = 3 then (List.range 4).map fun i => 4 * (l / 4) + i
  else if fabMode q (2 * (l / 2)) = 2 then [2 * (l / 2), 2 * (l / 2) + 1]
  else [l]

/-- Sends what the coder of a lane has made of `plain` symbols (R203): inverted where the folio says so, the stuffing
counted. -/
def sendSymbols (l plain : Nat) (p : List Nat × LaneCode) (s : State) : State :=
  let inv := bit (qRd s.quire.active fFabric (528 * l + 1) 1) 0
  let s1 := setFab l (fun y => { y with code := p.2, counts := nAdd y.counts 6 (p.1.length - plain) }) s
  if p.1 = [] then s1 else emit (.symbols l (if inv then p.1.map (3 - ·) else p.1)) s1

/-- Blocks on a lane's line (R198). A lane that is not in BLOCK, CAPS or ACTIVE sends none and only counts them. -/
def laneBlocks (l : Nat) (bs : List Block) (s : State) : State :=
  let x := fabLane s l
  let nrz := decide (64 ≤ l)
  if x.state < 3 ∨ 5 < x.state then
    setFab l (fun y => { y with code := { y.code with count := y.code.count + bs.length, waiting := [] } }) s
  else
    sendSymbols l ((x.code.waiting.length + bs.length) / 10 * (if nrz then 5440 else 2720)) (pushBlocks nrz x.code bs) s

/-- Sends blocks that may not be broken on lane `l`, behind the control blocks that must come first (R199); the other lanes
of its bond send as many IDLE blocks, so that all have their markers at one block count (R205). Further IDLE blocks, which
would fill the line while nothing is to be sent, are left out. DESIGN CHOICE (unsafe, log 192). -/
def bondSend (l : Nat) (bs : List Block) (s : State) : State :=
  let ls := bondLanes s.quire.active l
  let lead := leadBlocks (decide (1 < ls.length)) bs.length (fabLane s l).code
  ls.foldl (fun t i =>
    let marker := markerBlock (ls.idxOf i) ls.length ((fabLane t i).code.count / 16384)
    laneBlocks i ((lead.map fun m => if m then marker else idleBlock) ++
      if i = l then bs else List.replicate bs.length idleBlock) t) s

/-- A lane's training frame (R208): its tap requests and receiver_ready, from bit lock on, and the status of the peer's
requests. The seed of its PRBS13 is a free value. DESIGN CHOICE (unsafe, log 192). -/
def sendTraining (l : Nat) (s : State) : State :=
  let x := fabLane s l
  let locked := decide (3 ≤ x.frames)
  let seed := BitVec.ofNat 13 (Config.freeNat s.free % 8191 + 1)
  let frame := trainingFrame (decide (64 ≤ l)) (x.ask + 128 * b2n locked) (x.tapStatus + 64 * b2n locked) seed
  sendSymbols l 4352 (lineSend frame x.code) (drawMany 1 s)

/-- The CAPS block of a lane (Table 07.4). A lane can take every receive stream the device merges. DEDUCED (unsafe, log 55).
-/
def ownCaps (s : State) (l : Nat) : Block :=
  let x := fabLane s l
  let ls := bondLanes s.quire.active l
  controlBlock 0x55 (le 1 1 ++ le 1 0 ++ le 1 (if isTwin s then s.boot.side else 2) ++ le 4 (flockId s % 2 ^ 18) ++
    le 2 s.boot.epoch ++ le 1 l ++ le 1 ls.length ++ le 1 (ls.idxOf l) ++ le 1 (b2n x.ownAck) ++ le 2 2048 ++
    le 4 (rd x.caps 4 4) ++ le 1 (rd x.caps 0x0A 1))

/-- Sends a CAPS block (R209). DESIGN CHOICE (unsafe, log 192). -/
def sendCaps (l : Nat) (s : State) : State := bondSend l [ownCaps s l] s

/-! ### Events (R512-R518) -/

/-- Changes the last element that satisfies `p`. -/
def updLast {α : Type} (p : α → Bool) (f : α → α) (l : List α) : List α :=
  (updFirst p f l.reverse).reverse

/-- Whether a record is of the given source and part. -/
def sameSource (src inst : Nat) (r : EvRec) : Bool := decide (r.source = src ∧ r.inst = inst)

/-- Merges one more occurrence at `t` ns into a record (R512). -/
def mergeRec (t : Nat) (thr : Bool) (r : EvRec) : EvRec :=
  { r with count := satInc r.count, last := t, throttled := r.throttled || thr }

/-- What entering an occurrence did: the collector, whether a reaction acts (R515), and whether an
unread record was overwritten. -/
structure Logged where
  ev : Events
  acts : Bool
  lostOne : Bool

/-- Counts an occurrence of a source (R512, R525). -/
def countOcc (src : Nat) (ev : Events) : Events :=
  { ev with
    occ := mmod (fun _ => 0#32) ev.occ src satInc
    blkOcc := mmod (fun _ => 0#16) ev.blkOcc (blockOf src) satInc }

/-- Counts and logs one occurrence at `t` ns (R512, R525): merged into the record of its source and
part of the same microsecond, or into the 16th record of the millisecond, or a new record. -/
def logOcc (t src inst detail rx : Nat) (inj only : Bool) (ev0 : Events) : Logged :=
  let ev := countOcc src ev0
  if only then ⟨ev, true, false⟩
  else
    let mine := ev.log.filter (sameSource src inst)
    let inUs := mine.any fun r => decide (r.time / 1000 = t / 1000)
    let full := decide (16 ≤ (mine.filter fun r => decide (r.time / 1000000 = t / 1000000)).length)
    if inUs || full then
      ⟨{ ev with log := updLast (sameSource src inst) (mergeRec t (full && !inUs)) ev.log },
        false, false⟩
    else
      let r : EvRec :=
        { serial := ev.serial + 1, source := src, inst := inst, time := t, count := 1,
          detail := BitVec.ofNat 32 detail, reaction := rx, blockState := 0, throttled := false,
          injected := inj, rom := ev.romMode, last := t }
      let lose := decide (8192 ≤ ev.unread)
      ⟨{ ev with
          log := keepLast 8192 (ev.log ++ [r])
          serial := ev.serial + 1
          unread := if lose then 8192 else ev.unread + 1
          lost := if lose then satInc ev.lost else ev.lost },
        true, lose⟩

/-- The signal code of a reaction acts (R514): the pending bit, ERR_N, the trap. -/
def signalAct (t src rx : Nat) (ev : Events) : Events :=
  let c := rx % 16
  if c = 0 then ev
  else
    { ev with
      pend := ev.pend ||| (1#1280 <<< src)
      errn := ev.errn || decide (c = 5)
      errnSince := if c = 5 ∧ ev.errn = false then t else ev.errnSince
      trap := ev.trap || decide (c = 2) }

/-- The reset code of a reaction acts (R514, R515): a block or part enters reset, or the fatal
sequence starts. DESIGN CHOICE (unsafe, log 22). DESIGN CHOICE (unsafe, log 113). -/
def resetAct (t src inst detail rx : Nat) (ev : Events) : Events :=
  let c := rx / 16
  if c = 4 then
    { ev with
      fatal := some (ev.fatal.getD ⟨src, inst, detail, rx, t⟩)
      resetting := [] }
  else if c = 3 ∧ ev.fatal.isNone ∧
      ¬ ev.resetting.any (fun r => decide (r.block = blockOf src ∧ r.inst = inst)) then
    { ev with resetting := ev.resetting ++ [⟨blockOf src, inst, t⟩] }
  else ev

/-- Marks the newest record with the state of its block after the reaction (Table 17.3). -/
def stampBlock (src inst : Nat) (ev : Events) : Events :=
  { ev with
    log := updLast (sameSource src inst) (fun r => { r with blockState := blockState ev (blockOf src) })
      ev.log }

/-- The last-gasp record of a trigger (R524, Table 17.17). -/
def lastGasp (s : State) (src inst detail rx : Nat) (brown : Bool) : LastGasp :=
  { source := src, inst := inst, detail := detail, time := nowNs s, reaction := rx,
    role := s.twin.role.code,
    temperature := (s.power.temps.map (·.2)).foldl max (-128),
    brownout := brown, cycle := cycleNow s % 2 ^ 32, txSeq := s.fabric.stitch.nextSeq,
    rxExpected := s.fabric.stitch.expected, serial := s.ev.gaspSerial + 1,
    rails := (List.range 10).map fun i => (mget (fun _ => ({} : Rail)) s.power.rails i).mv }

/-- Writes a last-gasp record into the ring of 16 in retention RAM (R524). -/
def writeGasp (g : LastGasp) (ev : Events) : Events :=
  { ev with retention := keepLast 16 (ev.retention ++ [g]), gaspSerial := g.serial }

/-- Whether an occurrence starts the block reset of block `b` in this state. DESIGN CHOICE (unsafe, log 22). -/
def startsReset (s : State) (src inst rx b : Nat) (acts : Bool) : Bool :=
  acts && decide (rx / 16 = 3 ∧ blockOf src = b) && s.ev.fatal.isNone &&
    !(s.ev.resetting.any fun r => decide (r.block = b ∧ r.inst = inst))

/-- Block reset of the drover (Table 17.6): results log and counters cleared, queue kept. -/
def droverReset (d : Drover) : Drover :=
  { d with results := [], tooLate := 0, superseded := 0, fencedCount := 0 }

/-- Closes an open firmware slot, which becomes EMPTY (R540). -/
def closeSlot (b : Boot) : Boot :=
  match b.openSlot with
  | some 0 => { b with openSlot := none, slotA := {} }
  | some _ => { b with openSlot := none, slotB := {} }
  | none => b

/-- Notes what hardware set and counted at this instant `t`, which a clear by the host at the same instant leaves (R10): the
collector before and after an occurrence of `src`, and whether it set its pending bit. -/
def noteSame (t src : Nat) (set_ : Bool) (old new : Events) : Events :=
  let fresh := decide (new.sameAt ≠ some t)
  let bits := if fresh then 0#1280 else new.sameSet
  let occ := if fresh then [] else new.sameOcc
  let b := blockOf src
  let x := mget (fun _ => (mget (fun _ => 0#16) old.blkOcc b, 0)) occ b
  { new with
    sameAt := some t, sameOcc := mput occ b (x.1, x.2 + 1)
    sameSet := if set_ then bits ||| (1#1280 <<< src) else bits }

/-- One occurrence of a source, with its reaction (R512-R515), without the overflow event it may
cause. The flag says an unread record was overwritten. -/
def raiseOne (inj : Bool) (src inst detail : Nat) (s : State) : State × Bool :=
  let rx := reactionOf s src
  let l := logOcc (nowNs s) src inst detail rx inj (countOnly s src) s.ev
  let go (b : Nat) : Bool := startsReset s src inst rx b l.acts
  let ev1 :=
    if l.acts then
      stampBlock src inst (resetAct (now s) src inst detail rx (signalAct (now s) src rx l.ev))
    else l.ev
  let fatalNow := l.acts && decide (rx / 16 = 4) && s.ev.fatal.isNone
  let ev2 :=
    if fatalNow || (l.acts && decide (src = 1250)) then writeGasp (lastGasp s src inst detail rx (decide (src = 1250))) ev1 else ev1
  let irq := l.acts && decide (rx % 16 = 1) && !s.ev.pend.getLsbD src
  let sig := if irq then sendMsi (64 + blockOf src) s else s
  ({ sig with
      ev := noteSame (now s) src (l.acts && decide (rx % 16 ≠ 0)) s.ev (if go 0 then { ev2 with trap := true } else ev2)
      drv := if go 2 then droverReset s.drv else s.drv
      boot := if go 15 then closeSlot s.boot else s.boot },
    l.lostOne)

/-- An occurrence of an event source (R512): counted, merged and logged, its reaction acting; when an
unread record was overwritten, EV1266 as well. -/
def raiseInj (inj : Bool) (src inst detail : Nat) (s : State) : State :=
  let a := raiseOne inj src inst detail s
  if a.2 then
    let b := raiseOne false 1266 0 a.1.ev.lost.toNat a.1
    { b.1 with ev := { b.1.ev with overflow := true, overflowAt := some (now s) } }
  else a.1

/-- An occurrence of an event source that is no injection. -/
def raise (src inst detail : Nat) (s : State) : State := raiseInj false src inst detail s

/-- Whether an occurrence has put an instance of a block into block reset. -/
def began (b inst : Nat) (s t : State) : Bool :=
  let in_ (x : State) : Bool := x.ev.resetting.any fun r => decide (r.block = b ∧ r.inst = inst)
  in_ t && !in_ s

/-- An occurrence of a source of a resettable block: where it starts a block reset, `enter` is what the block or the
instance does then (R514, Table 17.6). DESIGN CHOICE (unsafe, log 22). -/
def raiseIn (b src inst detail : Nat) (enter : State → State) (s : State) : State :=
  let t := raise src inst detail s
  if began b inst s t then enter t else t

/-- A load waits for the governor once (R581, R582). DESIGN CHOICE (unsafe, log 157). -/
def addLoad (l : Load) (s : State) : State :=
  if s.power.waiting.any fun x => decide (x.resource = l.resource ∧ x.kind = l.kind) then s
  else { s with power := { s.power with waiting := s.power.waiting ++ [l] } }

/-- Whether a load still waits for the governor. -/
def loadWaits (s : State) (resource kind : Nat) : Bool :=
  s.power.waiting.any fun l => decide (l.resource = resource ∧ l.kind = kind)

/-- ERR_N's release (R521): once no pending bit of a source with signal code 5 is set, neither the fall-back
of R518 nor a boot halt (R530) is in force, and it has been asserted for 10 µs. -/
def releaseErrN (s : State) : State :=
  let five := (List.range 1280).any fun k =>
    s.ev.pend.getLsbD k && decide (reactionOf s k % 16 = 5)
  if s.ev.errn && !five && !s.ev.romMode && decide (s.boot.stage ≠ 15) && decide (s.ev.errnSince + 10 * ticksPerUs ≤ now s) then
    { s with ev := { s.ev with errn := false } }
  else s

/-- Vector 84 is sent when ready, restart, crook or the boot stage changed (Table 19.14). -/
def notifyStatus (old s : State) : State :=
  if hstStatus old % 8 = hstStatus s % 8 ∧ old.boot.stage = s.boot.stage then s
  else sendMsi 84 s

/-! ### The stitch link's sender (R222 to R225) -/

/-- A stitch frame (Table 07.7): header and body, its CRC computed with the field zero. -/
def stitchFrame (s : State) (kind flags seq : Nat) (body : Bytes) : Bytes :=
  let head := le 2 seq ++ le 2 s.fabric.stitch.expected ++ le 1 kind ++ le 1 flags ++
    le 2 body.length ++ le 4 (cycleNow s % 2 ^ 32)
  head ++ le 4 (crc32c (head ++ zeros 4 ++ body)).toNat ++ body

/-- Changes the stitch link. -/
def setStitch (f : Stitch → Stitch) (s : State) : State :=
  { s with fabric := { s.fabric with stitch := f s.fabric.stitch } }

/-- A frame on the link: its blocks wholly on one lane, the lanes in turn (R222). DESIGN CHOICE (unsafe, log 192). -/
def stitchEmit (frame : Bytes) (s : State) : State :=
  bondSend (64 + s.fabric.stitch.nextSeq % 4) (frameBlocks frame) (emit (.stitch frame) s)

/-- Puts a new frame on the link, in the replay buffer (R223, R224). -/
def stitchPut (kind : Nat) (body : Bytes) (s : State) : State :=
  let x := s.fabric.stitch
  let s1 := setStitch (fun y =>
    { y with
      nextSeq := (y.nextSeq + 1) % 65536
      replay := y.replay ++ [⟨y.nextSeq, kind, body, now s⟩]
      progress := if y.replay = [] then now s else y.progress
      cycleBytes := y.cycleBytes + body.length
      counts := cAdd y.counts 0 1 }) s
  stitchEmit (stitchFrame s kind 0 x.nextSeq body) s1

/-- Sends a stitch frame: new frames wait while the replay buffer of 4,096 is full (R224); nothing is sent
while the link is not ACTIVE. -/
def stitchSend (kind : Nat) (body : Bytes) (s : State) : State :=
  let x := s.fabric.stitch
  if ¬ x.active then s
  else if 4096 ≤ x.replay.length then setStitch (fun y => { y with unsent := y.unsent ++ [(kind, body)] }) s
  else stitchPut kind body s

/-- The endpoint number that a COMMAND or REPLY body carries (R225): the model numbers queue pairs from 0,
sessions from 0x1000, fold bus stations from 0x3000, and the others from 0x2000; 0xFFFF is the partner's own command.
DEDUCED (unsafe, log 17). -/
def endpointCode : Endpoint → Nat
  | .qp n => n
  | .session p i => 0x1000 + 0x100 * p + i
  | .fold n => 0x3000 + n
  | .safety => 0x2001
  | .debug => 0x2002
  | .stitch => 0xFFFF
  | .forwarded n => n
  | .copied => 0xFFFF

/-- The endpoint a number names. DEDUCED (unsafe, log 17). -/
def endpointOf (n : Nat) : Endpoint :=
  if n < 64 then .qp n
  else if 0x1000 ≤ n ∧ n < 0x2000 then .session (n / 256 % 16) (n % 256)
  else if 0x3000 ≤ n ∧ n < 0x3040 then .fold (n - 0x3000) else if n = 0x2001 then .safety else if n = 0x2002 then .debug
  else .stitch

/-! ### Replies (R101, R120) -/

/-- A reply as a packet (R101, Table 04.2). -/
def replyPacket (r : Reply) : Bytes :=
  let head := le 2 0x5E7A ++ le 1 3 ++ le 1 r.flags ++ le 2 r.opcode ++ le 2 r.params.length ++
    le 8 r.seq ++ le 8 r.timeNs ++ le 2 r.status ++ le 2 r.detail
  head ++ le 4 (crc32c (head ++ zeros 4 ++ r.params)).toNat ++ r.params

/-- Whether the no-reply flag is set (R99). -/
def noReply (flags : Nat) : Bool := bit flags 2

/-- Consistent-overhead byte stuffing (R108): `acc` is the block begun, of less than 254 bytes. -/
def cobs : Bytes → Bytes → Bytes
  | acc, [] => le 1 (acc.length + 1) ++ acc
  | acc, b :: t =>
    if b = 0#8 then le 1 (acc.length + 1) ++ acc ++ cobs [] t
    else if acc.length = 253 then le 1 255 ++ acc ++ [b] ++ cobs [] t
    else cobs (acc ++ [b]) t

/-- Queues a fold bus frame under the next frame sequence; sequence 0 is left to the ACK of R562.
DESIGN CHOICE (unsafe, log 148). -/
def foldPut (dest kind : Nat) (body : Bytes) (s : State) : State :=
  let f := s.host.fold
  let q := f.queue ++ [{ dest := dest, kind := kind, seq := f.nextSeq, body := body }]
  { s with host := { s.host with fold := { f with queue := q, nextSeq := f.nextSeq % 65535 + 1 } } }

/-- A packet in fold bus CMD fragments of 1,532 bytes from the one numbered `n`, `fuel` at most (R559). -/
def foldFragments (dest msg : Nat) : Nat → Nat → Bytes → State → State
  | 0, _, _, s => s
  | fuel + 1, n, p, s =>
    let last := decide (p.length ≤ 1532)
    let s1 := foldPut dest 5 (le 2 msg ++ le 1 n ++ le 1 (b2n last) ++ p.take 1532) s
    if last then s1 else foldFragments dest msg fuel (n + 1) (p.drop 1532) s1

/-- Queues a reply packet for a fold bus station. -/
def foldReply (dest : Nat) (p : Bytes) (s : State) : State :=
  let m := s.host.fold.nextMessage
  foldFragments dest m 256 0 p
    { s with host := { s.host with fold := { s.host.fold with nextMessage := (m + 1) % 65536 } } }

/-- Sends plain text on a management session, if it is still there (R505, R558). -/
def sessionSend (m i : Nat) (bytes : Bytes) (s : State) : State :=
  if s.host.sessions.any fun x => decide (x.mgt = m ∧ x.idx = i) then
    let f (x : Session) : Session :=
      { x with
        records := x.records + 1, lastRecord := now s
        unackedSince := if x.unackedSince.isNone then some (now s) else x.unackedSince }
    emit (.session m i bytes)
      { s with
        host := { s.host with sessions := updFirst (fun x => decide (x.mgt = m ∧ x.idx = i)) f s.host.sessions } }
  else s

/-- A reply packet in the framing of its endpoint's transport (R108, R551, R558, R559, R569). -/
def carryReply (r : Reply) (s : State) : State :=
  let p := replyPacket r
  match r.ep with
  | .qp q => { s with host := { s.host with replies := s.host.replies ++ [⟨q, r.seq, some p⟩] } }
  | .session m i => sessionSend m i (le 4 p.length ++ p) s
  | .fold n => foldReply n p s
  | .safety => emit (.uart (cobs [] p ++ [0#8])) s
  | .debug => emit (.debugOut (le 4 p.length ++ p)) s
  | .stitch => stitchSend 4 (le 2 0xFFFF ++ zeros 6 ++ p) s
  | .forwarded n => stitchSend 4 (le 2 n ++ zeros 6 ++ p) s
  | .copied => s

/-- Hands a reply to its endpoint, unless the command asked for none (R99); for a queue pair the
answer also waits for its completion entry (R551). -/
def sendReply (r : Reply) (s : State) : State :=
  if noReply r.flags then
    match r.ep with
    | .qp q => { s with host := { s.host with replies := s.host.replies ++ [⟨q, r.seq, none⟩] } }
    | _ => s
  else carryReply r (emit (.reply r) s)

/-- The reply to a request (R101). -/
def mkReply (s : State) (opcode : Nat) (r : Req) (status detail : Nat) (params : Bytes) : Reply :=
  { ep := r.ep, port := r.port, opcode := opcode, flags := r.flags / 2 % 16 * 2 + 1, seq := r.seq,
    timeNs := nowNs s, status := status, detail := detail, params := params }

/-! ### Held sets (R112-R115) -/

/-- What an unlisted port holds: nothing. DESIGN CHOICE (unsafe, log 10). -/
def noPort : Nat → PortState := fun _ => {}

/-- The sequence state of a port. -/
def portOf (s : State) (p : Nat) : PortState := mget noPort s.cmds.ports p

/-- Changes the sequence state of a port. -/
def setPort (p : Nat) (f : PortState → PortState) (s : State) : State :=
  { s with cmds := { s.cmds with ports := mmod noPort s.cmds.ports p f } }

/-- Inserts an entry in ascending order of sequence. -/
def heldInsert : List HeldEntry → HeldEntry → List HeldEntry
  | [], e => [e]
  | a :: t, e => if e.seq < a.seq then e :: a :: t else a :: heldInsert t e

/-- Removes the first complete entry of an ascending held set: its sequence and the rest. -/
def heldEvict : List HeldEntry → Option (Nat × List HeldEntry)
  | [] => none
  | a :: t =>
    if a.complete then some (a.seq, t)
    else (heldEvict t).map fun p => (p.1, a :: p.2)

/-- Step 7's recording of a sequence as in progress, removing the lowest complete entry beyond 64
(R113). -/
def heldStart (e : HeldEntry) (p : PortState) : PortState :=
  let h := heldInsert p.held e
  if 64 < h.length then
    match heldEvict h with
    | some (q, rest) => { p with held := rest, floor := max p.floor q }
    | none => { p with held := h }
  else { p with held := h }

/-- Marks a held sequence complete with its reply, kept if it is cached (R115). -/
def heldFinish (seq status detail : Nat) (cache : Bool) (params : Bytes) (p : PortState) :
    PortState :=
  { p with
    held := p.held.map fun e =>
      if e.seq = seq then
        { e with complete := true, cached := cache, status := status, detail := detail,
                 params := if cache then params else [] }
      else e }

/-- The counters of Table 04.13 that a reply status adds to. DESIGN CHOICE (unsafe, log 164). -/
def countStatus (status : Nat) (p : PortState) : PortState :=
  { p with
    stale := if status = stStale then satInc p.stale else p.stale
    duplicates := if status = stDuplicate then satInc p.duplicates else p.duplicates
    expired := if status = stExpired then satInc p.expired else p.expired
    refused := if status = stNotPermitted ∨ status = stLifecycle then satInc p.refused
      else p.refused }

/-- Whether a waiting command is the one a request names. -/
def isWaiting (opcode : Nat) (r : Req) (w : Waiting) : Bool :=
  decide (w.opcode = opcode ∧ w.req.port = r.port ∧ w.req.seq = r.seq ∧ w.req.dup = r.dup)

/-- Takes a command off the list of those waiting. -/
def unwait (opcode : Nat) (r : Req) (s : State) : State :=
  { s with cmds := { s.cmds with waiting := s.cmds.waiting.filter fun w => !isWaiting opcode r w } }

/-- Puts a command on the list of those waiting, unless it is there (R17, R122). DESIGN CHOICE (unsafe, log 16). -/
def await (opcode : Nat) (r : Req) (s : State) : State :=
  if s.cmds.waiting.any (isWaiting opcode r) then s
  else { s with cmds := { s.cmds with waiting := s.cmds.waiting ++ [⟨opcode, r⟩] } }

/-! ### Answers -/

/-- How a command's execution answers: the new state, the status and detail of its reply, the reply
parameters, whether the reply is cached though the opcode is not marked c (a clearing read, R115), and
what is kept for the reply if it comes later. -/
structure Ans where
  st : State
  status : Nat := stOk
  detail : Nat := 0
  params : Bytes := []
  clearing : Bool := false
  later : Option (List Nat) := none

/-- A refusal: nothing changed. -/
def refuse (s : State) (status detail : Nat) : Ans := { st := s, status := status, detail := detail }

/-- A success with reply parameters. -/
def okay (s : State) (params : Bytes) : Ans := { st := s, params := params }

/-- Gathers an item into the state copy of the cycle (R459, Table 15.2); a standby gathers its own session changes, SUSPECT
and aids, which go to the other twin likewise (R401, R440). DEDUCED (unsafe, log 20). -/
def copyItem (it : CopyItem) (s : State) : State :=
  if s.twin.role = .holder ∨ (s.twin.role = .standby ∧ 8 ≤ it.kind) then { s with twin := { s.twin with copy := s.twin.copy ++ [it] } } else s

/-- The change a command makes as the partner makes it: at the same instant of the time base, without a reply.
DESIGN CHOICE (unsafe, log 163). -/
def changeOf (opcode : Nat) (r : Req) (s : State) : Change :=
  ⟨opcode, { r with ep := .copied, flags := r.flags ||| 4, notAfter := 0, dup := false }, s.tb⟩

/-- The commands whose change of state common to both twins is made at execution and travels with the result: bindings, the
shadow quire, grants, fallbacks and the other commands that change the active quire (R60), and UPD_CONFIRM (R545). Those of
Table 15.2's other kinds travel as their own items; what a command does to this twin's own ports, lanes, keys, slots and
logs is not common. DESIGN CHOICE (unsafe, log 163). -/
def copiesChange (opcode : Nat) : Bool :=
  decide (opcode ∈ [0x0104, 0x0201, 0x0202, 0x0203, 0x0207, 0x0404, 0x0405, 0x0503, 0x1102, 0x1205])

/-- Whether this device waits for its partner's acknowledgement before it releases the replies of
c-marked commands (R120, R456). -/
def holdsReplies (s : State) : Bool := decide (s.twin.role = .holder) && hasPartner s

/-- The detail of a reply (Table 04.9): for NOT_PERMITTED the port. -/
def Ans.detailOn (a : Ans) (r : Req) : Nat := if a.status = stNotPermitted then r.port else a.detail

/-- The held-set entry of a command that has ended (R113, R115). -/
def doneEntry (opcode : Nat) (r : Req) (a : Ans) (cache : Bool) : HeldEntry :=
  ⟨r.seq, opcode, r.crc, true, cache, a.status, a.detailOn r, if cache then a.params else []⟩

/-- What the partner is sent of a command that has ended: the change it made, where that is common to both twins, and its
entry, where the reply is cached (R115, R120, Table 15.2). DESIGN CHOICE (unsafe, log 164). -/
def copyResult (row : CatRow) (r : Req) (a : Ans) (cache : Bool) (s : State) : State :=
  let s1 := if copiesChange row.opcode && decide (a.status = stOk) then copyItem (.change (changeOf row.opcode r s)) s else s
  if cache then copyItem (.result r.port (doneEntry row.opcode r a cache)) s1 else s1

/-- Ends a command: its reply is formed, recorded against its sequence, copied to the partner, and sent, or held for the
partner's acknowledgement (R101, R113, R115, R120). DESIGN CHOICE (unsafe, log 164). -/
def conclude (row : CatRow) (r : Req) (a : Ans) : State :=
  let s := a.st
  let failed := decide (0x100 ≤ a.status)
  let cache := row.c || failed || a.clearing
  if r.dup then
    setPort r.port (countStatus stDuplicate)
      (sendReply (mkReply s row.opcode r stDuplicate a.status a.params) s)
  else
    let s1 := copyResult row r a cache (setPort r.port
      (fun p => countStatus a.status (heldFinish r.seq a.status (a.detailOn r) cache a.params p)) s)
    let rep := mkReply s row.opcode r a.status (a.detailOn r) a.params
    if row.c && holdsReplies s then
      { s1 with cmds := { s1.cmds with heldReplies := s1.cmds.heldReplies ++ [⟨cycleNow s, rep⟩] } }
    else sendReply rep s1

/-- Ends a command whose reply came later: its deferred entry is taken off. -/
def concludeLater (row : CatRow) (r : Req) (a : Ans) : State :=
  let s := conclude row r a
  let left := s.cmds.deferred.filter fun w =>
    !decide (w.opcode = row.opcode ∧ w.req.port = r.port ∧ w.req.seq = r.seq)
  { s with cmds := { s.cmds with deferred := left } }

/-- The first failing check of steps 7 to 11 of Table 04.3, with its detail; also the boot halt of
R530 and R502. The repetition of a read that R113 executes again passes none of them. -/
def precheck (row : CatRow) (r : Req) (s : State) : Option (Nat × Nat) :=
  let at_ := r.notAfter * ticksPerNs
  if r.dup then none
  else if r.notAfter ≠ 0 ∧ (at_ < r.receipt ∨ at_ < now s) then some (stExpired, 0)
  else if s.boot.stage = 15 ∧ s.boot.halt = 7 ∧
      row.opcode ∉ [0x0101, 0x0102, 0x0103, 0x0D01, 0x1005] then some (stLifecycle, lifeCycle s)
  else if s.boot.stage = 15 ∧ s.boot.halt ≠ 7 ∧
      row.opcode ∉ [0x0101, 0x0102, 0x0103, 0x1005] then some (stNotActive, 0)
  else if ¬ row.a ∧ ¬ portAvailable r.port (lifeCycle s) then some (stLifecycle, lifeCycle s)
  else if ¬ row.ports.any (portHas r.port) then some (stNotPermitted, r.port)
  else if ¬ row.a ∧ isPen r.port ∧ ¬ penEnabled s.quire.active r.port then
    some (stNotPermitted, r.port)
  else if (bit r.flags 3 ∧ ¬ row.s) ∨ (bit r.flags 4 ∧ ¬ row.g) then some (stBadParam, 0x8003)
  else none

/-- Bytes of class 1 items already in this cycle's state copy (R460), each with its head (Table 15.3). DEDUCED (unsafe, log
20). DEDUCED (unsafe, log 20). -/
def classOneBytes (s : State) : Nat :=
  ((s.twin.copy.filter fun i => decide (i.kind ≤ 4)).map fun i => 4 + (Config.itemBytes i).length).sum

/-- Whether a c-marked command of a port still fits its share of the cycle (R460): 512 KiB, of which
64 KiB only for SAFETY. DEDUCED (unsafe, log 20). -/
def shareFits (row : CatRow) (port : Nat) (s : State) : Bool :=
  !row.c || decide (s.twin.role ≠ .holder) ||
    decide (classOneBytes s < if port = portSafety then 524288 else 458752)

/-- Whether a waiting command starts before a request (R122): a SAFETY command before those of every other
port; else by receipt, port, sequence. DESIGN CHOICE (unsafe, log 16). -/
def startsBefore (w r : Req) : Bool :=
  if w.port = portSafety ∧ r.port ≠ portSafety then true
  else if r.port = portSafety ∧ w.port ≠ portSafety then false
  else
    decide (w.receipt < r.receipt) ||
      (decide (w.receipt = r.receipt) &&
        (decide (w.port < r.port) || (decide (w.port = r.port) && decide (w.seq < r.seq))))

/-- Whether no other waiting command starts before a request (R122). DESIGN CHOICE (unsafe, log 16). -/
def isNext (r : Req) (s : State) : Bool := !(s.cmds.waiting.any fun w => startsBefore w.req r)

/-- Whether a command may start now: in a boot halt of step 5 or later from queue pair 0 only (R530);
else Vegen runs, and this device holds the crook (R109) or the command is the
partner's own; a copied change is made at once. DESIGN CHOICE (unsafe, log 16). -/
def canStart (row : CatRow) (r : Req) (s : State) : Bool :=
  if r.ep = .copied then true
  else if s.boot.stage = 15 then
    decide (r.ep = .qp 0) && decide (s.boot.halt ∈ [3, 5, 6, 7, 9])
  else vegenUp s && (holdsCrook s || decide (r.ep = .stitch)) && shareFits row r.port s && isNext r s

/-- Runs a command from step 7 of Table 04.3 (R102): recorded against its port, checked, executed by
`body`, and answered. A command that may not start stays waiting (R17, R463); a device that is starting takes
none (Table 18.2). DESIGN CHOICE (unsafe, log 5). DEDUCED (unsafe, log 13). DESIGN CHOICE (unsafe, log 159). -/
def command (opcode : Nat) (body : Req → State → Ans) (r : Req) (s : State) : State :=
  match catalogue opcode with
  | none => s
  | some row =>
    if canStart row r s then
      let s0 := unwait opcode r s
      let s1 :=
        if r.dup then s0
        else setPort r.port (heldStart ⟨r.seq, opcode, r.crc, false, false, 0, 0, []⟩) s0
      match precheck row r s with
      | some (st, d) => conclude row r (refuse s1 st d)
      | none =>
        let a := body r s1
        match a.later with
        | some info =>
          { a.st with
            cmds := { a.st.cmds with deferred := a.st.cmds.deferred ++ [⟨opcode, r, info, []⟩] } }
        | none => conclude row r a
    else if s.boot.ready ∨ s.boot.stage = 15 then await opcode r s
    else s

/-- Changes written to items of the active quire by a command add one to the change count (R60).
DEDUCED (unsafe, log 125). -/
def countChange (s : State) : State :=
  { s with quire := { s.quire with changeCount := satInc s.quire.changeCount } }

/-- The parameter length check of step 12: BAD_LENGTH with the expected length. -/
def needLen (n : Nat) (r : Req) (s : State) (k : Unit → Ans) : Ans :=
  if r.params.length = n then k () else refuse s stBadLength n

/-- The first failing parameter check, in order: each is a condition that must hold and the offset of
its field (R123, R594). -/
def firstBad : List (Bool × Nat) → Option Nat
  | [] => none
  | (ok, o) :: t => if ok then firstBad t else some o

/-- Checks the form of the parameters: BAD_PARAM with the offset of the first bad field. -/
def needForm (checks : List (Bool × Nat)) (s : State) (k : Unit → Ans) : Ans :=
  match firstBad checks with
  | some o => refuse s stBadParam o
  | none => k ()

/-- Whether a request carries the scheduled flag. -/
def isScheduled (r : Req) : Bool := bit r.flags 3

/-- Whether a request carries the best-effort flag. -/
def isBestEffort (r : Req) : Bool := bit r.flags 1

/-- Whether a request carries the staged flag. -/
def isStaged (r : Req) : Bool := bit r.flags 4

/-- The event-time check of R85 and R462 for a scheduled command: TOO_LATE inside the drover horizon
of its receipt, or, for a command held through a restart or a switch-over, of its start; BAD_PARAM
beyond 604,800 s. `o` is the offset of the time field. DEDUCED (unsafe, log 19). -/
def timeCheck (r : Req) (s : State) (tNs o : Nat) : Option (Nat × Nat) :=
  let t := tNs * ticksPerNs
  let start := if r.receipt + ticksPerMs < now s then now s else r.receipt
  if ¬ isScheduled r then none
  else if ¬ isBestEffort r ∧ t < start + 2 * ticksPerMs then some (stTooLate, 0)
  else if r.receipt + 604800 * ticksPerSec < t then some (stBadParam, o)
  else none

/-- Counts events refused TOO_LATE (Table 03.21), then refuses with the status. -/
def refuseTimed (s : State) (n status detail : Nat) : Ans :=
  refuse (if status = stTooLate then { s with drv := { s.drv with tooLate := satAdd s.drv.tooLate n } } else s)
    status detail

end Sys2Proof.Machine
end

