-- ==== Sys2Proof/Machine/Cmd.lean ====
section
/-! DEFINITION. Command packets, ports and transports (chapter 04): receipt, the DEV commands. -/

namespace Sys2Proof.Machine

/-- Counts on a transport (R99, R102, R108). -/
def setTransport (t : Nat) (f : Transport → Transport) (s : State) : State :=
  { s with cmds := { s.cmds with transports := mmod (fun _ => ({} : Transport)) s.cmds.transports t f } }

/-- A dropped packet of a queue pair still completes its entry, without a reply (R552). -/
def noAnswer (ep : Endpoint) (seq : Nat) (s : State) : State :=
  match ep with
  | .qp q => { s with host := { s.host with replies := s.host.replies ++ [⟨q, seq, none⟩] } }
  | _ => s

/-- A reply to a packet refused before it is a command (steps 3 to 6 of Table 04.3). DEDUCED (unsafe, log 15). -/
def earlyReply (r : Req) (opcode status detail : Nat) (params : Bytes) (s : State) : State :=
  sendReply (mkReply s opcode r status detail params) s

/-- The same on a bound port, where Table 04.13 counts the reply. -/
def earlyCounted (r : Req) (opcode status detail : Nat) (params : Bytes) (s : State) : State :=
  setPort r.port (countStatus status) (earlyReply r opcode status detail params s)

/-- The BUSY reply to the duplicate of a command still in progress, counted as a duplicate. DEDUCED (unsafe, log 15). -/
def earlyBusy (r : Req) (opcode : Nat) (s : State) : State :=
  setPort r.port (fun p => { p with duplicates := satInc p.duplicates })
    (earlyReply r opcode stBusy 1 [] s)

/-- The highest held sequence of a port, 0 if none. -/
def highSeq (p : PortState) : Nat := (p.held.map (·.seq)).foldl max 0

/-- Carries a command to the crook holder over the stitch link (R109, R225). DEDUCED (unsafe, log 17). -/
def forwardCommand (r : Req) (pkt : Bytes) (s : State) : State :=
  stitchSend 3
    (le 2 (endpointCode r.ep) ++ le 2 r.port ++ zeros 4 ++ le 8 (r.receipt / ticksPerNs) ++ pkt) s

/-- The row of an opcode; one outside the catalogue has no port and no flag. -/
def rowOf (opcode : Nat) : CatRow := (catalogue opcode).getD ⟨opcode, [], false, false, false, false⟩

/-- Steps 7 and 8 of Table 04.3 for an opcode outside the catalogue, once it starts. DEDUCED (unsafe, log 15). -/
def refuseUnknown (opcode : Nat) (r : Req) (s : State) : State :=
  let s1 := setPort r.port (heldStart ⟨r.seq, opcode, r.crc, false, false, 0, 0, []⟩) (unwait opcode r s)
  let late := decide (r.notAfter ≠ 0 ∧ (r.notAfter * ticksPerNs < r.receipt ∨ r.notAfter * ticksPerNs < now s))
  conclude (rowOf opcode) r (refuse s1 (if late then stExpired else stUnknown) 0)

/-- Starts the waiting commands of opcodes outside the catalogue whose turn it is, `fuel` at most (R122). DEDUCED (unsafe,
log 15). -/
def startUnknown : Nat → State → State
  | 0, s => s
  | n + 1, s =>
    match s.cmds.waiting.find? fun w => (catalogue w.opcode).isNone && canStart (rowOf w.opcode) w.req s with
    | some w => startUnknown n (refuseUnknown w.opcode w.req s)
    | none => s

/-- Carries a command to the crook holder (R109). It stays waiting here until its reply or its copied result comes back, but a
read that asks for no reply, of which nothing comes back. DEDUCED (unsafe, log 17). -/
def carryOver (pkt : Bytes) (opcode : Nat) (r : Req) (s : State) : State :=
  let s1 := forwardCommand r pkt s
  if noReply r.flags && !(rowOf opcode).c then unwait opcode r s1 else s1

/-- Takes a command on after step 6: a twin that does not hold the crook carries it to the holder (R109) or holds it (R463),
but for a command of the partner's own, which it executes itself (DEDUCED); otherwise it waits to start.
DEDUCED (unsafe, log 15). -/
def accept (pkt : Bytes) (opcode : Nat) (r : Req) (s : State) : State :=
  let s1 := await opcode r s
  let s2 := match r.ep with
    | .forwarded _ => s1
    | .stitch => s1
    | _ => if !holdsCrook s && s.fabric.stitch.active then carryOver pkt opcode r s1 else s1
  if (catalogue opcode).isNone then startUnknown s2.cmds.waiting.length s2 else s2

/-- Step 6 of Table 04.3 (R113), a command received and not yet started counting as in progress.
DEDUCED (unsafe, log 13). DEDUCED (unsafe, log 15). -/
def checkSequence (pkt : Bytes) (opcode : Nat) (r : Req) (s : State) : State :=
  let p := portOf s r.port
  if r.seq = 0 then earlyCounted r opcode stBadParam 0x8008 [] s
  else
    match p.held.find? fun e => decide (e.seq = r.seq) with
    | some e =>
      if e.opcode ≠ opcode ∨ e.crc ≠ r.crc then earlyCounted r opcode stBadParam 0xFFFE [] s
      else if ¬ e.complete then earlyBusy r opcode s
      else if e.cached then earlyCounted r opcode stDuplicate e.status e.params s
      else accept pkt opcode { r with dup := true } s
    | none =>
      match s.cmds.waiting.find? fun w => decide (w.req.port = r.port ∧ w.req.seq = r.seq) with
      | some w =>
        if w.opcode ≠ opcode ∨ w.req.crc ≠ r.crc then earlyCounted r opcode stBadParam 0xFFFE [] s
        else earlyBusy r opcode s
      | none =>
        if r.seq ≤ p.floor then earlyCounted r opcode stStale 0 (le 8 (highSeq p)) s
        else if p.held.length = 64 ∧ p.held.all fun e => !e.complete then
          earlyReply r opcode stBusy 2 [] s
        else accept pkt opcode r s

/-- The CRC of a packet as R100 computes it. -/
def packetCrc (pkt : Bytes) : Nat :=
  (crc32c (pkt.take 0x1C ++ zeros 4 ++ pkt.drop 0x20)).toNat

/-- Steps 1 to 6 of Table 04.3 on a packet received at `t` on an endpoint bound to `bound` (R102).
DEDUCED (unsafe, log 13). DEDUCED (unsafe, log 18). -/
def receiveAs (ep : Endpoint) (bound : Option Nat) (t : Nat) (pkt : Bytes) (s : State) : State :=
  let flags := rd pkt 3 1
  let opcode := rd pkt 4 2
  let seq := rd pkt 8 8
  let tag := rd pkt 0x18 4
  let r : Req :=
    { ep := ep, port := bound.getD 0xFFFF, receipt := t, flags := flags, seq := seq,
      notAfter := rd pkt 0x10 8, crc := rd pkt 0x1C 4, dup := false, params := pkt.drop 0x20 }
  if pkt.length < 32 ∨ rd pkt 0 2 ≠ 0x5E7A ∨ bit flags 0 then
    noAnswer ep seq
      (setTransport (transportOf ep) (fun t => { t with dropped := satInc t.dropped }) s)
  else if rd pkt 0x1C 4 ≠ packetCrc pkt then
    noAnswer ep seq
      (match bound with
       | some p => setPort p (fun x => { x with crcErrors := satInc x.crcErrors }) s
       | none => setTransport (transportOf ep) (fun t => { t with crcErrors := satInc t.crcErrors }) s)
  else
    match bound with
    | none => earlyReply r opcode stNotPermitted 0xFFFF [] s
    | some p =>
      if rd pkt 2 1 ≠ 3 then earlyCounted r opcode stBadParam 0x8002 [] s
      else if 32 ≤ flags then earlyCounted r opcode stBadParam 0x8003 [] s
      else if 65504 < rd pkt 6 2 ∨ rd pkt 6 2 ≠ pkt.length - 32 then
        earlyCounted r opcode stBadLength 0x8006 [] s
      else if (tag % 65536 ≠ p ∧ tag % 65536 ≠ 0xFFFF) ∨ tag / 65536 ≠ 0 then
        earlyCounted r opcode stNotPermitted p [] s
      else checkSequence pkt opcode r s

/-- A packet handed over by a transport, stamped at this instant (R102); none is taken before command-ready but in a
boot halt (Table 18.2, R530). DEDUCED (unsafe, log 13). DEDUCED (unsafe, log 14). -/
def receivePacket (ep : Endpoint) (pkt : Bytes) (s : State) : State :=
  if s.boot.ready ∨ s.boot.stage = 15 then receiveAs ep (boundPort s ep) (now s) pkt s else s

/-- COMMAND_RECEIPT (R102). DESIGN CHOICE (unsafe, log 5). -/
def execCommandReceipt (ep : Endpoint) (packet : Bytes) (s : State) :
    Host.Outcome State Fault Refusal :=
  .next (receivePacket ep packet s)

/-- Decoding of consistent-overhead byte stuffing (R108), on `fuel` code bytes; none where the frame
does not decode. -/
def cobsDecode : Nat → Bytes → Option Bytes
  | 0, _ => none
  | _ + 1, [] => some []
  | f + 1, c :: t =>
    let n := c.toNat
    if n = 0 ∨ t.length < n - 1 ∨ (t.take (n - 1)).any (· == 0#8) then none
    else
      let rest := t.drop (n - 1)
      (cobsDecode f rest).map fun more =>
        t.take (n - 1) ++ (if n < 255 ∧ rest ≠ [] then [0#8] else []) ++ more

/-- SAFETY_UART_FRAME (R108): the frame's bytes before its closing zero. -/
def execSafetyUartFrame (frame : Bytes) (s : State) : Host.Outcome State Fault Refusal :=
  .next
    (match cobsDecode (frame.length + 1) frame with
     | some pkt =>
       if pkt.length < 32 then
         setTransport 3 (fun t => { t with framing := satInc t.framing }) s
       else receivePacket .safety pkt s
     | none => setTransport 3 (fun t => { t with framing := satInc t.framing }) s)

/-- HELD_COMMAND_TIMEOUT (R463): a command held 1.5 ms that this twin can neither forward nor execute
is refused with NOT_ACTIVE. -/
def execHeldCommandTimeout (port seq : Nat) (s : State) : Host.Outcome State Fault Refusal :=
  .next
    (match s.cmds.waiting.find? fun w => decide (w.req.port = port ∧ w.req.seq = seq) with
     | some w =>
       if !holdsCrook s && !s.fabric.stitch.active &&
           decide (2 * w.req.receipt + 3 * ticksPerMs ≤ 2 * now s) then
         earlyCounted w.req w.opcode stNotActive 0 [] (unwait w.opcode w.req s)
       else s
     | none => s)

/-! ### DEV commands -/

/-- The DEV_INFO reply (Table 04.12). -/
def devInfo (r : Req) (s : State) : Bytes :=
  le 4 0xA00 ++ le 1 (b2n Config.extended) ++ le 1 Config.stepping ++ le 1 (lifeCycle s) ++
    le 1 (twinSide s) ++ le 2 s.boot.epoch ++ le 1 (s.boot.foldAddr % 64) ++
    le 1 (b2n (holdsCrook s)) ++ le 4 (flockId s % 2 ^ 18) ++ le 4 s.boot.vegenVersion ++ zeros 4 ++
    fit 16 s.keys.serial ++ le 2 r.port ++ zeros 6

/-- DEV_INFO (R126). -/
def execDevInfo (r : Req) (s : State) : Host.Outcome State Fault Refusal :=
  .next (command 0x0101 (fun r s => needLen 0 r s fun _ => okay s (devInfo r s)) r s)

/-- DEV_PING (R125): echoes up to 256 parameter bytes. -/
def execDevPing (r : Req) (s : State) : Host.Outcome State Fault Refusal :=
  .next (command 0x0102
    (fun r s =>
      if 256 < r.params.length then refuse s stBadLength 0xFFFF else okay s r.params) r s)

/-- The DEV_PORT_STATE reply (Table 04.13). -/
def portStateBytes (port : Nat) (p : PortState) : Bytes :=
  le 2 port ++ le 2 p.held.length ++ zeros 4 ++ le 8 (highSeq p) ++ le 8 p.floor ++
    le 4 p.crcErrors.toNat ++ le 4 p.stale.toNat ++ le 4 p.duplicates.toNat ++
    le 4 p.expired.toNat ++ le 4 p.refused.toNat ++ zeros 4

/-- DEV_PORT_STATE (R127): a clearing read of the calling port. -/
def execDevPortState (r : Req) (s : State) : Host.Outcome State Fault Refusal :=
  .next (command 0x0103
    (fun r s => needLen 0 r s fun _ =>
      { st := setPort r.port
          (fun p => { p with crcErrors := 0, stale := 0, duplicates := 0, expired := 0, refused := 0 }) s
        params := portStateBytes r.port (portOf s r.port)
        clearing := true }) r s)

/-- The ports a queue pair may be bound to (R107). -/
def bindable (p : Nat) : Bool := isPen p || decide (p = portRoot ∨ p = portFlock)

/-- DEV_BIND (R107): sets one queue-pair binding of the MANAGEMENT folio. -/
def execDevBind (r : Req) (s : State) : Host.Outcome State Fault Refusal :=
  .next (command 0x0104
    (fun r s => needLen 8 r s fun _ =>
      let q := rd r.params 0 1
      needForm
        [(decide (1 ≤ q ∧ q ≤ 63), 0), (decide (rd r.params 1 1 ≤ 1), 1),
          (bindable (rd r.params 2 2), 2), (isZero r.params 4 4, 4)] s fun _ =>
        let act := qWrite s.quire.active fMgmt (0xC0 + 8 * (q - 1)) r.params
        okay (countChange { s with quire := { s.quire with active := act } }) []) r s)

/-- DEV_BIND_READ (R107): all 63 bindings. -/
def execDevBindRead (r : Req) (s : State) : Host.Outcome State Fault Refusal :=
  .next (command 0x0105
    (fun r s => needLen 0 r s fun _ => okay s (qBytes s.quire.active fMgmt 0xC0 504)) r s)

end Sys2Proof.Machine
end

