-- ==== Sys2Proof/Machine/Operands.lean ====
section
/-! DEFINITION. Formats and their instants (chapter 02): rasters, rates, frame and line periods,
switch points, slots of the spine, ring sizes and reservations. All arithmetic is exact (R30). -/

namespace Sys2Proof.Machine

/-! ### Format codes (R24, Tables 02.1 to 02.3) -/

/-- Raster code of a format, bits [15:8]. -/
def rasterOf (f : Nat) : Nat := f / 256

/-- Rate code of a format, bits [7:4]. -/
def rateOf (f : Nat) : Nat := f / 16 % 16

/-- Colour model bit of a format. -/
def colourOf (f : Nat) : Nat := f / 8 % 2

/-- Sample structure of a format, bits [2:0]. -/
def sampleOf (f : Nat) : Nat := f % 8

/-- The opaque raster of ST 2110-22 pass-through. -/
def isOpaque (f : Nat) : Bool := decide (rasterOf f = 0xFE)

/-- The AUTO raster of source slots. -/
def isAuto (f : Nat) : Bool := decide (rasterOf f = 0xFF)

/-- Total lines L of a raster (Table 02.1). -/
def rasterLines (r : Nat) : Nat :=
  match r with
  | 0x01 => 525 | 0x02 => 625 | 0x10 => 750 | 0x20 => 1125 | 0x21 => 1125 | 0x22 => 1125
  | 0x30 => 2250 | 0x40 => 4500 | _ => 0

/-- Active width of a raster (Table 02.1). -/
def rasterWidth (r : Nat) : Nat :=
  match r with
  | 0x01 => 720 | 0x02 => 720 | 0x10 => 1280 | 0x20 => 1920 | 0x21 => 1920 | 0x22 => 1920
  | 0x30 => 3840 | 0x40 => 7680 | _ => 0

/-- Active lines of a raster (Table 02.1). -/
def rasterActive (r : Nat) : Nat :=
  match r with
  | 0x01 => 486 | 0x02 => 576 | 0x10 => 720 | 0x20 => 1080 | 0x21 => 1080 | 0x22 => 1080
  | 0x30 => 2160 | 0x40 => 4320 | _ => 0

/-- The ranges of active raster lines of a raster (Table 02.1). -/
def activeRanges (r : Nat) : List (Nat × Nat) :=
  match r with
  | 0x01 => [(21, 263), (283, 525)] | 0x02 => [(23, 310), (336, 623)] | 0x10 => [(26, 745)]
  | 0x20 => [(21, 560), (584, 1123)] | 0x21 => [(21, 560), (584, 1123)] | 0x22 => [(42, 1121)]
  | 0x30 => [(83, 2242)] | 0x40 => [(165, 4484)] | _ => []

/-- Whether raster line `n` is active (R28). -/
def isActive (r n : Nat) : Bool := (activeRanges r).any fun p => decide (p.1 ≤ n ∧ n ≤ p.2)

/-- The last active line of a frame (R28): the highest raster line listed. -/
def lastActive (r : Nat) : Nat := ((activeRanges r).map (·.2)).foldl max 0

/-- The first active line of a frame. -/
def firstActive (r : Nat) : Nat := ((activeRanges r).map (·.1)).headD 0

/-- Interlaced rasters (Table 02.1). -/
def isInterlaced (r : Nat) : Bool := decide (r = 0x01 ∨ r = 0x02 ∨ r = 0x20)

/-- Raster switch line s (Table 02.7). -/
def switchLine (r : Nat) : Nat :=
  match r with
  | 0x01 => 10 | 0x02 => 6 | 0x30 => 13 | 0x40 => 25 | _ => 7

/-- Default window W of a raster (Table 02.7). -/
def defaultWindow (r : Nat) : Nat := if r = 0x30 ∨ r = 0x40 then 8 else 16

/-- The rate codes a raster permits (Table 02.1). -/
def ratePermitted (r rate : Nat) : Bool :=
  match r with
  | 0x01 => decide (rate = 7)
  | 0x02 => decide (rate = 6)
  | 0x10 => decide (6 ≤ rate ∧ rate ≤ 8)
  | 0x20 => decide (6 ≤ rate ∧ rate ≤ 8)
  | 0x21 => decide (1 ≤ rate ∧ rate ≤ 5)
  | 0x22 => decide (1 ≤ rate ∧ rate ≤ 11)
  | 0x30 => decide (1 ≤ rate ∧ rate ≤ 8)
  | 0x40 => decide (1 ≤ rate ∧ rate ≤ 8)
  | _ => false

/-- The sample codes a raster permits (Table 02.1), with the colour model bit of Table 02.3. -/
def samplePermitted (r colour sample : Nat) : Bool :=
  (if r = 0x01 ∨ r = 0x02 ∨ r = 0x40 then decide (sample = 0) else decide (sample ≤ 5)) &&
    (decide (colour = 0) || decide (sample = 2 ∨ sample = 3 ∨ sample = 5))

/-- A raster format that Table 02.1 permits. -/
def rasterFormat (f : Nat) : Bool :=
  decide (f < 65536) && ratePermitted (rasterOf f) (rateOf f) &&
    samplePermitted (rasterOf f) (colourOf f) (sampleOf f)

/-- A format code a slot may carry (R24): a permitted raster format, opaque, or for a source AUTO. -/
def validFormat (source : Bool) (f : Nat) : Bool :=
  rasterFormat f || decide (f = 0xFE00) || (source && decide (f = 0xFF00))

/-- Bits per pixel of a sample code (Table 02.3). -/
def pixelBits (sample : Nat) : Nat :=
  match sample with
  | 0 => 20 | 1 => 24 | 2 => 30 | 3 => 36 | 4 => 30 | 5 => 48 | _ => 0

/-- The frame rate of a rate code for a progressive raster, as (frames, seconds) (Table 02.2). -/
def rateFrac (rate : Nat) : Nat × Nat :=
  match rate with
  | 1 => (24000, 1001) | 2 => (24, 1) | 3 => (25, 1) | 4 => (30000, 1001) | 5 => (30, 1)
  | 6 => (50, 1) | 7 => (60000, 1001) | 8 => (60, 1) | 9 => (100, 1) | 10 => (120000, 1001)
  | 11 => (120, 1) | _ => (1, 1)

/-- The frame rate of a format as (frames, seconds): interlaced rates count fields (Table 02.2). -/
def frameRate (f : Nat) : Nat × Nat :=
  let p := rateFrac (rateOf f)
  if isInterlaced (rasterOf f) then (p.1, 2 * p.2) else p

/-- T_F in ticks, exact (Table 02.2). DESIGN CHOICE (safe, log 2). -/
def framePeriod (f : Nat) : Nat := ticksPerSec * (frameRate f).2 / (frameRate f).1

/-- T_L in ticks, exact (R29). -/
def linePeriod (f : Nat) : Nat := framePeriod f / rasterLines (rasterOf f)

/-- The output delay O of a format class in lines (R29, Table 03.7). -/
def outputDelay (q : Quire) (f : Nat) : Nat :=
  match qKeyed q fTiming (f / 16 * 16) with
  | some e => rd e 2 1
  | none => defaultWindow (rasterOf f) / 2

/-- A(k) = k × T_F in ticks (R29). -/
def alignInstant (f k : Nat) : Nat := k * framePeriod f

/-- The instant at which destinations of the class read raster line `n` of frame `k` (R29). -/
def readInstant (q : Quire) (f k n : Nat) : Nat :=
  alignInstant f k + (outputDelay q f + n - 1) * linePeriod f

/-- The offset of the switch point in its frame, for an output delay of `o` lines (R32). -/
def offsetWith (o f : Nat) : Nat := (o + switchLine (rasterOf f) - 1) * linePeriod f

/-- The offset of the switch point in its frame (R32). -/
def switchOffset (q : Quire) (f : Nat) : Nat := offsetWith (outputDelay q f) f

/-- t_sw(k) in ticks (R32). -/
def switchInstant (q : Quire) (f k : Nat) : Nat := alignInstant f k + switchOffset q f

/-- The first frame whose switch point is at or after `t` (R34). -/
def switchFrame (q : Quire) (f t : Nat) : Nat := cdiv (t - switchOffset q f) (framePeriod f)

/-- The first switch point at or after `t` (R34). -/
def switchAfter (q : Quire) (f t : Nat) : Nat := switchInstant q f (switchFrame q f t)

/-- The nearest step of the time base to an instant, a tie going to the earlier step (R30). -/
def edgeStep (t : Nat) : Nat :=
  let n := t / ticksPerStep
  if 2 * (t % ticksPerStep) ≤ ticksPerStep then n else n + 1

/-- Whether an exact instant has come: it lies before the end of the present step of the time
base. -/
def reached (s : State) (t : Nat) : Bool := decide (t < now s + ticksPerStep)

/-! ### Slots of the spine (Tables 02.4, 02.5) -/

/-- Default tables of the spine. DESIGN CHOICE (unsafe, log 10). -/
def noSrc : Nat → SrcSlot := fun _ => {}
def noDst : Nat → DstSlot := fun _ => {}

/-- The spine's record of a source slot. -/
def srcSlot (s : State) (i : Nat) : SrcSlot := mget noSrc s.spine.src i

/-- The spine's record of a destination slot. -/
def dstSlot (s : State) (d : Nat) : DstSlot := mget noDst s.spine.dst d

/-- The output delay in force at a destination: the old one while the destinations of its class move one by one (R52). -/
def dstDelay (s : State) (d f : Nat) : Nat := (dstSlot s d).delay.getD (outputDelay s.quire.active f)

/-- The switch point of frame `k` of a destination (R32). -/
def dstSwitch (s : State) (d f k : Nat) : Nat := alignInstant f k + offsetWith (dstDelay s d f) f

/-- The first switch point of a destination at or after `t` (R34). -/
def dstSwitchAfter (s : State) (d f t : Nat) : Nat :=
  dstSwitch s d f (cdiv (t - offsetWith (dstDelay s d f) f) (framePeriod f))

/-- The instant at which a destination reads raster line `n` of frame `k` (R29), with the output delay in force for it. -/
def dstRead (s : State) (d f k n : Nat) : Nat := alignInstant f k + (dstDelay s d f + n - 1) * linePeriod f

/-- What a destination shows at an instant: before the switch point that brought its present source, the one before (R35). -/
def shownAt (s : State) (d t : Nat) : Nat :=
  if t < (dstSlot s d).switched then (dstSlot s d).wasShown else (dstSlot s d).shown

/-- Changes the record of a source slot. -/
def setSrc (i : Nat) (f : SrcSlot → SrcSlot) (s : State) : State :=
  { s with spine := { s.spine with src := mmod noSrc s.spine.src i f } }

/-- Changes the record of a destination slot. -/
def setDst (d : Nat) (f : DstSlot → DstSlot) (s : State) : State :=
  { s with spine := { s.spine with dst := mmod noDst s.spine.dst d f } }

/-- Declared format of a source slot. -/
def srcFormat (q : Quire) (i : Nat) : Nat := qRd q fSources (16 * i) 2

/-- max_format of a source slot. -/
def srcMax (q : Quire) (i : Nat) : Nat := qRd q fSources (16 * i + 2) 2

/-- The format that sizes a source slot: max_format for AUTO, else its own (R36). -/
def srcSizing (q : Quire) (i : Nat) : Nat :=
  if isAuto (srcFormat q i) then srcMax q i else srcFormat q i

/-- Window W of a source slot in lines (Table 02.4). -/
def srcWindow (q : Quire) (i : Nat) : Nat :=
  let w := qRd q fSources (16 * i + 4) 1
  if w = 0 then defaultWindow (rasterOf (srcSizing q i)) else w

/-- anc_alloc of a source slot. -/
def srcAnc (q : Quire) (i : Nat) : Nat := qRd q fSources (16 * i + 5) 1

/-- Owning pen of a source slot. -/
def srcPen (q : Quire) (i : Nat) : Nat := qRd q fSources (16 * i + 6) 1

/-- Whether a source slot is enabled. -/
def srcEnabled (q : Quire) (i : Nat) : Bool := bit (qRd q fSources (16 * i + 7) 1) 0

/-- Format of a destination slot. -/
def dstFormat (q : Quire) (d : Nat) : Nat := qRd q fDests (16 * d) 2

/-- Route of a destination slot, 0xFFFF for none. -/
def dstRoute (q : Quire) (d : Nat) : Nat := qRd q fDests (16 * d + 2) 2

/-- loss_action of a destination slot. -/
def dstLoss (q : Quire) (d : Nat) : Nat := qRd q fDests (16 * d + 4) 1

/-- Owning pen of a destination slot. -/
def dstPen (q : Quire) (d : Nat) : Nat := qRd q fDests (16 * d + 5) 1

/-- Whether a destination slot is enabled. -/
def dstEnabled (q : Quire) (d : Nat) : Bool := bit (qRd q fDests (16 * d + 6) 1) 0

/-- Whether the grant mask of a source has a pen's bit set (R47). -/
def granted (q : Quire) (i p : Nat) : Bool := bit (qRd q fGrants (32 * i + p / 8) 1) (p % 8)

/-- Words of 128 bits in a line of a format (R28). -/
def lineWords (f : Nat) : Nat := cdiv (rasterWidth (rasterOf f) * pixelBits (sampleOf f)) 128

/-- Granules G a source slot occupies (R36). -/
def srcGranules (q : Quire) (i : Nat) : Nat :=
  if ¬ srcEnabled q i then 0
  else if isOpaque (srcFormat q i) then qRd q fSources (16 * i + 8) 2
  else cdiv ((srcWindow q i + 2) * lineWords (srcSizing q i) * 16) 4096 + 2 * srcAnc q i

/-- The reservation R of a source slot in units of 1/2002 bit/s, exact (R37). -/
def srcRate (q : Quire) (i : Nat) : Nat :=
  let f := srcSizing q i
  if isOpaque (srcFormat q i) then qRd q fSources (16 * i + 10) 2 * 1000000 * 2002
  else
    (lineWords f * 128 * rasterLines (rasterOf f) + srcAnc q i * 32768) * (frameRate f).1 *
      (2002 / (frameRate f).2)

/-- The slot indexes. -/
def slotRange : List Nat := List.range 1536

/-- Granules used by every enabled source slot (R38). -/
def granulesUsed (q : Quire) : Nat := (slotRange.map (srcGranules q)).sum

/-- Write reservation of a quire, in 1/2002 bit/s (R37). -/
def writeReserved (q : Quire) : Nat :=
  (slotRange.map fun i => if srcEnabled q i then srcRate q i else 0).sum

/-- Read reservation of a quire, in 1/2002 bit/s: enabled destinations with a route, and enabled
frame synchronisers (R37). -/
def readReserved (q : Quire) : Nat :=
  (slotRange.map fun d =>
    if dstEnabled q d && decide (dstRoute q d < 1536) then srcRate q (dstRoute q d) else 0).sum +
  ((List.range 96).map fun y =>
    if bit (qRd q fDram (0x40 + 32 * y) 1) 0 then srcRate q (qRd q fDram (0x40 + 32 * y + 2) 2)
    else 0).sum

/-- The format now on a source (R40, R42): its declared format, or for AUTO the format last stable on
it. -/
def formatNow (s : State) (i : Nat) : Nat :=
  let f := srcFormat s.quire.active i
  if isAuto f then (srcSlot s i).stable else f

/-- Whether a destination, by number, or a layer engine, as 2000 + number, has taken the state of the
swap under way; true when none is (R77). DEDUCED (unsafe, log 25). -/
def taken (s : State) (k : Nat) : Bool :=
  match s.quire.swapping with
  | some w => mget (fun _ => false) w.taken k
  | none => true

/-- The quire whose class S items are in force at destination or engine `k` (R77). DEDUCED (unsafe, log 25). -/
def inForce (s : State) (k : Nat) : Quire :=
  match s.quire.swapping with
  | some w => if mget (fun _ => false) w.taken k then s.quire.active else w.old
  | none => s.quire.active

/-- The instant at which what is bound to source slot `i` takes the class S items of a swap of time `t`: the first switch
point at or after it on the grid of the format now on the slot (R77, R149); `t` itself where the slot has none.
DEDUCED (unsafe, log 170). -/
def srcPoint (s : State) (i t : Nat) : Nat :=
  let f := formatNow s i
  if rasterFormat f then switchAfter s.quire.active f t else t

/-- The quire whose class S items are in force for what is bound to source slot `i` (R77, R149).
DEDUCED (unsafe, log 170). -/
def inForceSrc (s : State) (i : Nat) : Quire :=
  match s.quire.swapping with
  | some w => if reached s (srcPoint s i w.time) then s.quire.active else w.old
  | none => s.quire.active

/-- Whether a destination's pen may show a source (R46): its owner, or a pen the mask grants; an
uncorrectable mask grants nobody (Table 02.11). -/
def permitted (s : State) (q : Quire) (pen i : Nat) : Bool :=
  decide (srcPen q i = pen) ||
    (granted q i pen && !(mget (fun _ => false) s.spine.grantBad i))

/-- The fallback source of a pen for a format (R50): the used entry for the format whose source lies
in the pen. -/
def fallbackOf (q : Quire) (pen f : Nat) : Option Nat :=
  ((List.range 8).find? fun j =>
    let o := 40 * pen + 8 + 4 * j
    decide (qRd q fPens o 2 = f ∧ qRd q fPens (o + 2) 2 < 1536) &&
      decide (srcPen q (qRd q fPens (o + 2) 2) = pen)).map fun j =>
    qRd q fPens (40 * pen + 8 + 4 * j + 2) 2

/-- The fallback source in force for a pen and format: none where its entry holds an uncorrectable word, which counts as not
permitted (Table 02.11). -/
def fallbackNow (s : State) (q : Quire) (pen f : Nat) : Option Nat :=
  let bad := (List.range 8).any fun j =>
    decide (qRd q fPens (40 * pen + 8 + 4 * j) 2 = f ∧ qRd q fPens (40 * pen + 8 + 4 * j + 2) 2 < 1536) &&
      mget (fun _ => false) s.spine.fallbackBad (8 * pen + j)
  if bad then none else fallbackOf q pen f

/-- Whether a source can be shown in a format now (R42): VALID in that format, and of an enabled pen, since a disabled
pen owns no usable slot (R69; DEDUCED, unsafe, log 42). -/
def showable (s : State) (i f : Nat) : Bool :=
  penEnabled s.quire.active (srcPen s.quire.active i) && (decide ((srcSlot s i).state = .valid) &&
    decide (formatNow s i = f))

/-- The display decision of R42: the display state code of Table 02.16 and the source shown, 0xFFFF
for black. DEDUCED (unsafe, log 42). -/
def chooseShown (s : State) (d : Nat) : Nat × Nat :=
  let q := inForce s d
  let src := dstRoute q d
  let pen := dstPen q d
  let f := dstFormat q d
  if ¬ dstEnabled q d ∨ ¬ penEnabled s.quire.active pen then (1, 0xFFFF)
  else if 1536 ≤ src then (1, 0xFFFF)
  else if ¬ permitted s q pen src then
    match fallbackNow s q pen f with
    | some g => if showable s g f then (4, g) else (5, 0xFFFF)
    | none => (5, 0xFFFF)
  else if showable s src f then (0, src)
  else if dstLoss q d = 1 then
    match fallbackNow s q pen f with
    | some g => if showable s g f then (3, g) else (2, 0xFFFF)
    | none => (2, 0xFFFF)
  else (2, 0xFFFF)

/-- Source state codes (Table 02.9). -/
def SrcState.code : SrcState → Nat
  | .idle => 0 | .lost => 1 | .acquiring => 2 | .valid => 3 | .outOfWindow => 4 | .wrongFormat => 5

/-- A value within a range. -/
def within (lo hi v : Nat) : Bool := decide (lo ≤ v ∧ v ≤ hi)

/-! ### What a media lane carries (R130, Table 05.2) -/

/-- The audio channel limit of a format on a lane or gang of `n` lanes at a rate code and mapping; none where Table 05.2
does not carry it. Mapping 0 on one 3G lane, which the table leaves to the interface, is level A.
DESIGN CHOICE (unsafe, log 169). -/
def carried (n code mapping f : Nat) : Option Nat :=
  let r := rasterOf f
  let rate := rateOf f
  let smp := sampleOf f
  let gen := code % 16
  let fam := gen = 1 || decide (code / 16 = (if rate ∈ [1, 4, 7, 10] then 1 else 0))
  let low := within 1 5 rate
  let high := within 6 8 rate
  let deep := within 1 4 smp
  let slow := (decide (r = 0x20) && high) || (decide (r = 0x21 ∨ r = 0x22) && low)
  let ok (c : Bool) (m : Bool) (limit : Nat) : Option Nat := if c && m && fam then some limit else none
  if ¬ rasterFormat f ∨ smp = 5 then none
  else if n = 1 then
    match gen with
    | 1 => ok (decide (r = 1 ∨ r = 2)) (mapping = 0) 0
    | 2 => ok (decide (smp = 0) && (slow || (decide (r = 0x10) && high))) (mapping = 0) 16
    | 3 =>
      if mapping = 2 then ok (decide (smp = 0 ∧ r = 0x22) && high) true 32
      else ok ((decide (smp = 0 ∧ r = 0x22) && high) || (deep && slow)) (decide (mapping ≤ 1)) 32
    | 4 => ok (decide (smp = 0) && ((decide (r = 0x30) && low) || (decide (r = 0x22) && within 9 11 rate))) (mapping = 0) 32
    | 5 => ok (decide (r = 0x30) && ((decide (smp = 0) && high) || (within 1 3 smp && low))) (mapping = 0) 32
    | 6 => ok (decide (r = 0x30) && within 1 3 smp && high) (mapping = 0) 32
    | _ => none
  else if n = 2 then
    if gen = 2 then ok ((decide (smp = 0 ∧ r = 0x22) && high) || (deep && slow)) (mapping = 0) 16 else none
  else
    match gen with
    | 3 => ok (decide (smp = 0 ∧ r = 0x30) && high) (decide (mapping = 3 ∨ mapping = 4)) 32
    | 4 => ok (decide (smp = 0 ∧ r = 0x40) && low) (decide (mapping = 0 ∨ mapping = 3)) 32
    | 5 => ok (decide (smp = 0 ∧ r = 0x40) && high) (decide (mapping = 0 ∨ mapping = 3)) 32
    | _ => none

/-! ### Bindings (R68, Table 03.5) -/

/-- The slot bound to a producer or consumer: a source slot, or with `dest` a destination slot. -/
def slotBound (q : Quire) (dest : Bool) (kind sub res : Nat) : Option Nat :=
  ((qAll q fBindings).find? fun e =>
    decide (rd e 2 1 = kind ∧ rd e 3 1 = sub ∧ rd e 4 2 = res) &&
      decide (dest = decide (0x8000 ≤ rd e 0 2))).map fun e => rd e 0 2 % 0x8000

/-- The producer or consumer a slot is bound to: kind, sub and resource. -/
def bindingOf (q : Quire) (dest : Bool) (slot : Nat) : Option (Nat × Nat × Nat) :=
  (qKeyed q fBindings (if dest then 0x8000 + slot else slot)).map fun e =>
    (rd e 2 1, rd e 3 1, rd e 4 2)

/-! ### Gangs of media lanes (R19, R131, Table 05.5) -/

/-- A byte field of a lane's folio entry. -/
def lnByte (q : Quire) (l o : Nat) : Nat := qRd q fLanes (32 * l + o) 1

/-- gang. -/
def lnGang (q : Quire) (l : Nat) : Nat := lnByte q l 4

/-- Links of the gang a lane leads: 2, 4, or 1 (Table 05.5). -/
def gangSize (q : Quire) (l : Nat) : Nat :=
  if 256 ≤ l then 1 else if lnGang q l = 1 then 2 else if lnGang q l = 2 then 4 else 1

/-- The leader of the gang a lane belongs to (R19, R131): the lane itself unless it is a member. -/
def laneLeader (q : Quire) (l : Nat) : Nat :=
  if 256 ≤ l ∨ lnGang q l ≠ 3 then l
  else if lnGang q (l / 4 * 4) = 2 then l / 4 * 4
  else l / 2 * 2

/-- The lanes of a gang, from its leader. -/
def gangLanes (q : Quire) (l : Nat) : List Nat :=
  let g := laneLeader q l
  (List.range (gangSize q g)).map (· + g)

/-- Whether a route from a source to a destination is valid by R25 and R26: equal formats, or an AUTO source; to or
from an opaque slot only between opaque slots, for a packet transmit flow.
DEDUCED (unsafe, log 38). DEDUCED (unsafe, log 118). -/
def routeValid (q : Quire) (i d : Nat) : Bool :=
  let a := srcFormat q i
  let b := dstFormat q d
  if isOpaque a || isOpaque b then
    isOpaque a && isOpaque b && ((bindingOf q true d).any fun x => decide (x.1 = 2))
  else decide (a = b) || isAuto a

/-- Whether a destination has yet to take its new format from the staging under way (R151). -/
def formatPending (s : State) (d : Nat) : Bool :=
  s.quire.staging.any fun x => decide (x.folio = fDests ∧ x.index = d ∧ (x.state = .waiting ∨ x.state = .inProgress))

/-- Whether class N items of a swap are still to be applied: active_state STAGING (R79, R81). -/
def stagingNow (s : State) : Bool :=
  s.quire.staging.any fun x => decide (x.state = .waiting ∨ x.state = .inProgress)

/-- The ring of source `i` that destination `d` reads: the old one after a staged change, until its first switch point after
the producer wrote line 1 into the new one (R52). -/
def ringFor (s : State) (d i : Nat) : List RingEntry :=
  let x := srcSlot s i
  if x.oldRing ≠ [] ∧ (dstSlot s d).lastSwitch ≤ x.movedAt then x.oldRing else x.ring

/-- The ANC entries of source `i` that destination `d` reads (R52). -/
def ancFor (s : State) (d i : Nat) : List AncEntry :=
  let x := srcSlot s i
  if x.oldRing ≠ [] ∧ (dstSlot s d).lastSwitch ≤ x.movedAt then x.oldAnc else x.anc

/-- The ANC packets of frame `k` of the source `src` as destination `d` reads them: none of black (R14, R28). -/
def destAnc (s : State) (d src k : Nat) : List AncPkt :=
  if src = 0xFFFF ∨ (dstSlot s d).transit then []
  else (((ancFor s d src).find? fun e => decide (e.k = k)).map (·.packets)).getD []

/-- The instant in whole ns, rounded down. -/
def nsOf (t : Nat) : Nat := t / ticksPerNs

/-- The same for a signed span, rounded down. DESIGN CHOICE (unsafe, log 190). -/
def nsOfInt (t : Int) : Int := t / ticksPerNs

end Sys2Proof.Machine
end

