-- ==== Sys2Proof/Machine/KeyOps.lean ====
section
/-! DEFINITION. Shared operations of the key store (chapter 16) and of the flock (chapter 15). -/

namespace Sys2Proof.Machine

/-- What an unlisted key slot holds: nothing. -/
def noKey : Nat → KeySlot := fun _ => {}

/-- A key slot. -/
def keySlot (s : State) (n : Nat) : KeySlot := mget noKey s.keys.slots n

/-- Whether a slot holds a usable key in the present life-cycle state for a world, an algorithm and a
requester (R489). -/
def keyAllowed (s : State) (slot world alg requester : Nat) : Bool :=
  let k := keySlot s slot
  decide (k.state ≠ .empty ∧ k.state ≠ .damaged ∧ k.world = world ∧ k.alg = alg) &&
    (if world = 6 then decide (requester = 0xF005) else decide (k.master = requester)) &&
    bit k.lcsMask (lifeCycle s)

/-- The shares are re-randomised after every use (R491). -/
def rerandomise (s : State) : State :=
  { s with keys := { s.keys with shareTime := now s, shareRounds := s.keys.shareRounds + 1 } }

/-- The two shares of a slot's key (R491): their exclusive-or is the key; the first is random, drawn anew at every
re-randomisation. -/
def keyShares (s : State) (n : Nat) : Bytes × Bytes :=
  let k := (keySlot s n).key
  let mask := fit k.length (Config.layout 0x491 [n, s.keys.shareTime, s.keys.shareRounds])
  (mask, List.zipWith (· ^^^ ·) mask k)

/-- A refused key use is counted and raises EV1168 (R489). -/
def keyRefused (slot requester : Nat) (s : State) : State :=
  raise 1168 slot requester { s with keys := { s.keys with refused := satInc s.keys.refused } }

/-- SHA-384 as a 48-byte field. -/
def sha384 (bs : Bytes) : Bytes := fit48 (Config.sha384 bs)
where
  /-- Cuts or pads to 48 bytes. -/
  fit48 (bs : Bytes) : Bytes := (bs ++ zeros 48).take 48

/-- The ASCII bytes of a label. -/
def ascii (t : String) : Bytes := t.toUTF8.toList.map fun c => BitVec.ofNat 8 c.toNat

/-- The key identity (R490). -/
def keyIdOf (alg : Nat) (key pub : Bytes) : Bytes :=
  let label := ascii "DXK-KID" ++ le 1 alg
  ((if alg ≤ 3 then Config.hmac384 key label else Config.sha384 (label ++ pub)) ++ zeros 16).take 16

/-- Changes a key slot. -/
def setKey (n : Nat) (k : KeySlot) (s : State) : State :=
  { s with keys := { s.keys with slots := mset noKey s.keys.slots n k } }

/-- A request to use a key (R489, R491): the key if granted, and the state after it. A slot whose recomputed identity
does not match becomes DAMAGED. -/
def keyUse (slot world alg requester : Nat) (s : State) : State × Option KeySlot :=
  let k := keySlot s slot
  if ¬ keyAllowed s slot world alg requester then (keyRefused slot requester s, none)
  else if keyIdOf k.alg k.key k.pub = k.keyId then (rerandomise s, some k)
  else (raise 1169 slot 0 (setKey slot { k with state := .damaged } s), none)

/-- Whether flock membership is enabled (R473). -/
def flockMember (s : State) : Bool := bit (qRd s.quire.active fFlock 2 1) 0

/-- A flock message with its header and ICV (R474, Table 15.10). -/
def flockMessage (s : State) (key : Bytes) (kind minEpoch seq : Nat) (body : Bytes) : Bytes :=
  let side := if isTwin s then s.boot.side else 2
  let head := le 2 0xF10C ++ le 1 1 ++ le 1 kind ++ le 2 body.length ++ le 2 minEpoch ++
    le 4 (flockId s) ++ le 2 s.boot.epoch ++ le 1 side ++ zeros 1 ++ le 8 seq ++ le 8 (nowNs s)
  head ++ body ++ (Config.hmac256 key (head ++ body) ++ zeros 16).take 16

/-- The report targets of the FLOCK folio (Table 15.9). -/
def reportTargets (s : State) : List Nat :=
  (List.range (min 8 (qRd s.quire.active fFlock 0x22 1)))

/-- Sends one flock message to the group and the fold bus, and to the report targets as well when
`targets` is set (R474, R476, R477). A refused message key sends nothing.
DESIGN CHOICE (unsafe, log 63). DESIGN CHOICE (unsafe, log 105). -/
def flockSend (targets : Bool) (kind minEpoch : Nat) (body : Bytes) (s : State) : State :=
  if ¬ flockMember s then s
  else
    let k := keyUse (qRd s.quire.active fFlock 0x0E 2) 9 1 0xF004 s
    match k.2 with
    | none => k.1
    | some slot =>
      let s1 := k.1
      let m := flockMessage s1 slot.key kind minEpoch s1.flock.nextSeq body
      let outs := (if targets then (reportTargets s1).map fun i => Out.flock (some i) m else []) ++
        [Out.flock none m]
      foldPut 0xFF 6 m
        { s1 with
          out := s1.out ++ outs
          flock := { s1.flock with nextSeq := s1.flock.nextSeq + 1 } }

/-- A REPORT body (Table 15.11). -/
def reportBody (s : State) (e : DrvEvent) (outcome status applied : Nat) : Bytes :=
  le 8 e.changeId ++ le 4 (flockId s) ++ le 2 e.port ++ le 2 e.entry ++ le 8 e.seq ++ le 1 e.kind ++
    le 1 outcome ++ le 2 status ++ zeros 4 ++ le 8 applied ++
    (s.quire.baseDigest ++ zeros 48).take 48

/-- An event with a change_id leaves a REPORT (R96, R477): in the own log of 4,096 entries, and sent. -/
def flockReport (e : DrvEvent) (outcome status applied : Nat) (s : State) : State :=
  if e.changeId = 0 then s
  else
    let body := reportBody s e outcome status applied
    let ser := s.flock.ownSerial + 1
    let f := s.flock
    let f' :=
      { f with
        own := keepLast 4096 (f.own ++ [⟨ser, flockId s, body⟩]), ownSerial := ser
        ownLost := if 4096 ≤ f.own.length then satInc f.ownLost else f.ownLost
        sent := satInc f.sent
        delayed := if s.boot.restart.isSome then f.delayed ++ [body] else f.delayed }
    let s1 := { s with flock := f' }
    if s.boot.restart.isSome then s1 else flockSend true 2 1 body s1

end Sys2Proof.Machine
end

