-- ==== Sys2Proof/Machine/DroverOps.lean ====
section
/-! DEFINITION. Shared operations of the drover (chapter 03): entering events, application points,
results. -/

namespace Sys2Proof.Machine

/-- Changes the twin engine. -/
def setTwin (f : Twin → Twin) (s : State) : State := { s with twin := f s.twin }

/-- Event kinds (Table 03.17). -/
abbrev kRoute : Nat := 0x01
abbrev kDest : Nat := 0x02
abbrev kGrant : Nat := 0x08
abbrev kSwap : Nat := 0x10
abbrev kSafeload : Nat := 0x20
abbrev kLayer : Nat := 0x30
abbrev kMarker : Nat := 0x7F

/-- The first engine of the gang an engine belongs to: the nearest engine at or below it that is no
gang member (Table 11.2). -/
def gangLeader (q : Quire) : Nat → Nat
  | 0 => 0
  | e + 1 => if qRd q fLayers (1184 * (e + 1) + 4) 1 = 0xFF then gangLeader q e else e + 1

/-- Whether two events count against one pending limit (R87). -/
def sameTarget (q : Quire) (k1 t1 k2 t2 : Nat) : Bool :=
  if k1 = kRoute ∨ k1 = kDest then decide ((k2 = kRoute ∨ k2 = kDest) ∧ t1 = t2)
  else if k1 = kLayer then decide (k2 = kLayer ∧ gangLeader q t1 = gangLeader q t2)
  else if k1 = kSafeload then decide (k2 = kSafeload ∧ t1 = t2)
  else false

/-- Events pending for a target (R87). -/
def pendingFor (s : State) (kind target : Nat) : Nat :=
  (s.drv.queue.filter fun e => sameTarget s.quire.active kind target e.kind e.target).length

/-- Whether one more event of a kind exceeds the 16 of its target (R87). -/
def targetFull (s : State) (kind target : Nat) : Bool := decide (16 ≤ pendingFor s kind target)

/-- Whether `n` more events overflow the queue (R87). -/
def queueFull (s : State) (n : Nat) : Bool := decide (65536 < s.drv.queue.length + n)

/-- Enters an event into the queue (R86): armed at once on a device with no partner, else at the end
of a stitch cycle. -/
def enqueue (e : DrvEvent) (s : State) : State :=
  let ser := s.drv.serial + 1
  let e' :=
    { e with serial := ser, entered := now s, armed := if hasPartner s then none else some (now s) }
  copyItem (.entered e') { s with drv := { s.drv with queue := s.drv.queue ++ [e'], serial := ser } }

/-- The event of a request (R83): its origin and flags; an unscheduled one is best-effort and timed at
the instant of execution (R53, R82). -/
def mkEvent (r : Req) (s : State) (kind target timeNs changeId entry : Nat) (payload : Bytes) :
    DrvEvent :=
  { time := if isScheduled r then timeNs * ticksPerNs else now s, kind := kind, op := 0,
    target := target, minEpoch := 0, changeId := changeId, payload := payload, port := r.port,
    seq := r.seq, entry := entry, serial := 0, scheduled := isScheduled r,
    bestEffort := isBestEffort r || !isScheduled r, staged := isStaged r, digest := [],
    entered := 0, armed := none }

/-- The sample period of an audio domain in ticks: DOM48 48 kHz, DOM441 44.1 kHz. DESIGN CHOICE (safe, log 2). -/
def domainPeriod (d : Nat) : Nat := if d = 0 then ticksPerSec / 48000 else ticksPerSec / 44100

/-- The first boundary of a grid of period `p` at or after `t`. DESIGN CHOICE (unsafe, log 40). -/
def gridAfter (p t : Nat) : Nat := cdiv t p * p

/-- 41.708 ms, the loss period of R41, in ticks. -/
abbrev lossPeriod : Nat := 41708 * ticksPerUs

/-- Whether a source was VALID at its last evaluation before `b` (R35). -/
def validBefore (x : SrcSlot) (b : Nat) : Bool :=
  if x.since < b then decide (x.state = .valid) else decide (x.before = .valid)

/-- The application point of a change of destination `d` due at `b` (R32, R35): the first switch point
of its format at or after `b`; for an opaque destination the ingress of the first packet of the new
source at or after `b` that begins a compressed frame, or `b` where there is no source to read or it was not VALID before
`b`, or `b` + 41.708 ms. -/
def destPoint (s : State) (d src b : Nat) : Nat :=
  let f := dstFormat (inForce s d) d
  if f = 0 then b
  else if isOpaque f then
    let x := srcSlot s src
    if 1536 ≤ src ∨ ¬ validBefore x b then b
    else
      match x.ring.find? fun e => decide (e.line = 1 ∧ b ≤ e.k) with
      | some e => min e.k (b + lossPeriod)
      | none => if b ≤ x.cframe then min x.cframe (b + lossPeriod) else b + lossPeriod
  else dstSwitchAfter s d f b

/-- The application point of an event at or after its time and its arming instant (R84, R86, Table
03.18); none until it is armed, nor, for the observed boundaries of DOM441 and DOMFREE (R268, R269), until the time base has
stamped one at or after them. DESIGN CHOICE (unsafe, log 40). -/
def appPoint (s : State) (e : DrvEvent) : Option Nat :=
  e.armed.bind fun a =>
    let b := max e.time a
    if e.kind = kRoute then some (destPoint s e.target (rd e.payload 0 2) b)
    else if e.kind = kDest then
      some (destPoint s e.target
        (if rd e.payload 1 1 = 0 then 0xFFFF else dstRoute (inForce s e.target) e.target) b)
    else if e.kind = kSafeload then
      (if e.target = 0 then some (gridAfter (domainPeriod 0) b)
        else (if e.target = 1 then s.audio.edges441 else s.audio.edgesFree).find? fun t => decide (b ≤ t))
    else if e.kind = kLayer then
      some (switchAfter s.quire.active (qRd s.quire.active fLayers (1184 * e.target + 2) 2) b)
    else some b

/-- The fields an event sets at its target, as numbers (R91). -/
def eventFields (q : Quire) (e : DrvEvent) : List Nat :=
  if e.kind = kRoute then [0]
  else if e.kind = kDest then
    (if rd e.payload 0 1 = 0xFF then [] else [1]) ++ (if rd e.payload 1 1 = 0xFF then [] else [2])
  else if e.kind = kGrant then
    if e.op = 3 then (List.range 256).map (· + 100)
    else
      ((List.range 256).filter fun p => bit (rd e.payload (p / 8) 1) (p % 8)).map (· + 100)
  else if e.kind = kSafeload then
    (List.range (min 15 (rd e.payload 0 2))).map fun j => 1000 + rd e.payload (2 + 2 * j) 2
  else if e.kind = kLayer then
    let n := qRd q fLayers (1184 * e.target + 4) 1
    if rd e.payload 0 1 = 2 then (List.range (16 * (if 2 ≤ n ∧ n ≤ 16 then n else 1))).map (· + 10000)
    else
      ((List.range 4).filter (bit (rd e.payload 3 1))).map fun f =>
        10000 + 16 * rd e.payload 1 1 + 4 * rd e.payload 2 1 + f
  else []

/-- Takes an event off the queue. -/
def dequeue (ser : U32) (s : State) : State :=
  { s with drv := { s.drv with queue := s.drv.queue.filter fun e => decide (e.serial ≠ ser) } }

/-- Enters the result record of an event (R89): in the log of 65,536, counted, reported to the flock,
EV0160 raised, kept for a reply that waits for it; an event applied, whole or in part, counts as a change (R60). -/
def addResult (e : DrvEvent) (outcome status applied : Nat) (s : State) : State :=
  let ser := s.drv.resultSerial + 1
  let rec_ : DrvResult :=
    { seq := e.seq, port := e.port, entry := e.entry, kind := e.kind, outcome := outcome,
      status := status, applied := applied, target := e.target, serial := ser, payload := e.payload }
  let d := s.drv
  let d' :=
    { d with
      results := keepLast 65536 (d.results ++ [rec_]), resultSerial := ser
      superseded := if status = stSuperseded then satInc d.superseded else d.superseded
      fencedCount := if status = stFenced then satInc d.fencedCount else d.fencedCount }
  let n := if outcome ≤ 1 ∧ e.kind ≠ kMarker ∧ e.kind ≠ kSwap then satInc s.quire.changeCount
    else s.quire.changeCount
  let own (w : Deferred) : Deferred :=
    if w.req.port = e.port ∧ w.req.seq = e.seq then { w with outs := w.outs ++ [rec_] } else w
  let c := { s.cmds with deferred := s.cmds.deferred.map own }
  flockReport e outcome status applied
    (raise 160 e.target status
      (copyItem (.recorded rec_) { s with drv := d', cmds := c, quire := { s.quire with changeCount := n } }))

/-- A staged item ends (R79, R80): done with status OK, or failed. -/
def finishItem (folio index status : Nat) (s : State) : State :=
  let at_ := nsOf (now s)
  let put (x : StageItem) : StageItem :=
    { x with state := if status = stOk then .done else .failed, status := status, doneTime := at_ }
  { s with
    quire := { s.quire with
      staging := updFirst (fun x => decide (x.folio = folio ∧ x.index = index ∧ x.state = .inProgress)) put
        s.quire.staging } }

/-- A result record as bytes (Table 03.19). -/
def resultBytes (x : DrvResult) : Bytes :=
  le 8 x.seq ++ le 2 x.port ++ le 2 x.entry ++ le 1 x.kind ++ le 1 x.outcome ++ le 2 x.status ++
    le 8 x.applied ++ le 2 x.target ++ zeros 2 ++ le 4 x.serial.toNat

/-- An event record as bytes (Table 03.17). -/
def eventBytes (e : DrvEvent) : Bytes :=
  le 8 (if e.scheduled then nsOf e.time else 0) ++ le 1 e.kind ++ le 1 e.op ++ le 2 e.target ++
    le 2 e.minEpoch ++ zeros 2 ++ le 8 e.changeId ++ zeros 8 ++ (e.payload ++ zeros 32).take 32

/-- Whether serial `a` is later than serial `b`; serials wrap at 2^32. -/
def serialAfter (a b : U32) : Bool := decide (a ≠ b) && decide ((a - b).toNat < 2147483648)

end Sys2Proof.Machine
end

