-- ==== Sys2Proof/Machine/AudioProg.lean ====
section
/-! DEFINITION. The audio program image (Tables 09.2 to 09.8), read from the AUDIO_PROGRAM folio of a quire,
and the engine's arithmetic (R275, R276, R283). -/

namespace Sys2Proof.Machine

/-- The section of an input or output channel's block (Table 09.2), 0xFF if unused. -/
def blockSection (q : Quire) (output : Bool) (ch : Nat) : Nat :=
  qRd q fProgram ((if output then 0x840 else 0x40) + 4 * (ch / 64)) 1

/-- The pen of an input or output channel's block. -/
def blockPen (q : Quire) (output : Bool) (ch : Nat) : Nat :=
  qRd q fProgram ((if output then 0x840 else 0x40) + 4 * (ch / 64) + 1) 1

/-- free_rate of the program header (Table 09.3). -/
def freeRate (q : Quire) : Nat := qRd q fProgram 0x30 4

/-- The rate of a section in Hz (Table 09.1). -/
def sectionRate (q : Quire) (sec : Nat) : Nat :=
  match sec with
  | 0 => 48000 | 1 => 96000 | 2 => 192000 | 3 => 44100 | 4 => 88200 | 5 => 176400
  | 6 => freeRate q | _ => 48000

/-- The width of a section (Table 09.1). -/
def sectionWidth (q : Quire) (sec : Nat) : Nat :=
  let r := sectionRate q sec
  if sec = 0 ∨ sec = 3 then 1 else if sec = 1 ∨ sec = 4 then 2 else if sec = 2 ∨ sec = 5 then 4
  else if r ≤ 48000 then 1 else if r ≤ 96000 then 2 else 4

/-- A header field of the program. -/
def progHead (q : Quire) (o k : Nat) : Nat := qRd q fProgram o k

/-- Element `i` of a program (Table 09.4). -/
def progElement (q : Quire) (i : Nat) : Bytes := qBytes q fProgram (progHead q 0x14 4 + 24 * i) 24

/-- Address `i` of the source list. -/
def progSource (q : Quire) (i : Nat) : Nat := qRd q fProgram (progHead q 0x1C 4 + 4 * i) 4

/-- Parameter set `i` (Table 09.6). -/
def progSet (q : Quire) (i : Nat) : Bytes := qBytes q fProgram (progHead q 0x20 4 + 16 * i) 16

/-- Number of parameter sets. -/
def progSets (q : Quire) : Nat := progHead q 6 2

/-- Delay line `i` (Table 09.7). -/
def progDelay (q : Quire) (i : Nat) : Bytes := qBytes q fProgram (progHead q 0x28 4 + 16 * i) 16

/-- Number of delay lines. -/
def progDelays (q : Quire) : Nat := progHead q 0x24 2

/-- The directory entry of a section. -/
def progDir (q : Quire) (sec : Nat) : Bytes := qBytes q fProgram (0x25040 + 16 * sec) 16

/-- Whether a section is present. -/
def secPresent (q : Quire) (sec : Nat) : Bool := bit (rd (progDir q sec) 1 1) 0

/-- The elements of a section, by number, in execution order. -/
def secElements (q : Quire) (sec : Nat) : List Nat :=
  if secPresent q sec then (List.range (rd (progDir q sec) 8 4)).map (· + rd (progDir q sec) 4 4) else []

/-- Bridge `b`: flags, from, to, pen, source address. -/
def progBridge (q : Quire) (b : Nat) : Bytes := qBytes q fProgram (0x250B0 + 8 * b) 8

/-- Whether a bridge is enabled. -/
def bridgeOn (q : Quire) (b : Nat) : Bool := bit (rd (progBridge q b) 0 1) 0

/-- The output map entry of an output channel. -/
def outMap (q : Quire) (ch : Nat) : Nat := qRd q fProgram (0x5040 + 4 * ch) 4

/-- Whether the audio grant mask of an input channel's block grants a pen. -/
def audioGranted (q : Quire) (ch pen : Nat) : Bool :=
  bit (qRd q fProgram (0x1040 + 32 * (ch / 64) + pen / 8) 1) (pen % 8)

/-- Rate of a section for capacity: section 6 at the top of its range (R278). -/
def capRate (q : Quire) (sec : Nat) : Nat :=
  if sec = 6 then cdiv (freeRate q * 1001) 1000 else sectionRate q sec

/-- Whether a number is a channel of its block's section: a multiple of its width in a used block. -/
def channelOk (q : Quire) (output : Bool) (ch : Nat) : Bool :=
  let sec := blockSection q output ch
  decide (ch < 32768 ∧ sec ≤ 6) && decide (ch % sectionWidth q sec = 0)

/-- Channel `k` of a base (R264). -/
def channelOf (q : Quire) (output : Bool) (base k : Nat) : Nat :=
  base + sectionWidth q (blockSection q output base) * k

/-- The pen that owns a scratch word: that of the element which writes it (R273). -/
def scratchPen (q : Quire) (addr : Nat) : Option Nat :=
  ((List.range (progHead q 0x10 4)).find? fun i => decide (rd (progElement q i) 8 4 = addr)).map fun i =>
    rd (progElement q i) 2 1

/-- Whether an element of a pen may read a signal address (R266). -/
def mayRead (q : Quire) (pen addr : Nat) : Bool :=
  if addr < 0x8000 then decide (blockPen q false addr = pen) || audioGranted q addr pen
  else if 0x10000 ≤ addr ∧ addr < 0x1FF00 then decide (scratchPen q addr = some pen)
  else if 0x1FF00 ≤ addr ∧ addr < 0x20000 then decide (rd (progBridge q (addr - 0x1FF00)) 3 1 = pen)
  else false

/-! ### Arithmetic -/

/-- Whether a 40-bit signal word overflows (R275). -/
def over40 (x : Int) : Bool := decide (x < -(2 ^ 39) ∨ 2 ^ 39 ≤ x)

/-- Saturation to a signed field of `b + 1` bits. -/
def satTo (b : Nat) (x : Int) : Int := max (-(2 ^ b)) (min (2 ^ b - 1) x)

/-- The 24-bit sample a word gives its consumer (R275), and whether it clipped. -/
def sampleOfWord (w : Int) : Int × Bool :=
  let y := (w + 128) / 256
  (satTo 23 y, decide (y ≠ satTo 23 y))

/-- Whether (2g − 1) ≤ 2^25 × 10^(L / 2,000), so that coefficient `g` is at or below the rounded one. -/
def coefBelow (l : Int) (g : Nat) : Bool :=
  if 0 ≤ l then decide ((2 * g - 1) ^ 2000 ≤ 2 ^ 50000 * 10 ^ l.toNat)
  else decide ((2 * g - 1) ^ 2000 * 10 ^ (-l).toNat ≤ 2 ^ 50000)

/-- The greatest coefficient at or below the rounded one, by bisection on `b` bits. -/
def coefSearch (l : Int) : Nat → Nat → Nat
  | 0, g => g
  | b + 1, g => if coefBelow l (g + 2 ^ b) then coefSearch l b (g + 2 ^ b) else coefSearch l b g

/-- The coefficient of a level in 0.01 dB: round(2^24 × 10^(L / 2,000)), ties up; the off level gives 0
(R275). -/
def gainCoef (l : Int) : Nat := if l = -32768 then 0 else coefSearch l 29 0

/-- Whether 10^(L / 2,000) × 2^23 is at or below the square root of `num` / `den`. -/
def dbBelow (num den : Nat) (l : Int) : Bool :=
  if 0 ≤ l then decide (10 ^ l.toNat * (2 ^ 46 * den) ^ 1000 ≤ num ^ 1000)
  else decide ((2 ^ 46 * den) ^ 1000 ≤ num ^ 1000 * 10 ^ (-l).toNat)

/-- The greatest level at or below a mean square, by bisection on `b` bits from `l`. -/
def dbSearch (num den : Nat) : Nat → Int → Int
  | 0, l => l
  | b + 1, l => if dbBelow num den (l + 2 ^ b) then dbSearch num den b (l + 2 ^ b) else dbSearch num den b l

/-- The level of a mean square `num` / `den` relative to 24-bit full scale, in 0.01 dB; −14,400 for silence
(R298). How it is rounded is not given: `up` is a free value. -/
def levelDb (num den up : Nat) : Int :=
  if num = 0 then -14400
  else
    let l := dbSearch num den 14 (-14400)
    if l < 0 then l + (up % 2 : Nat) else l

/-- Truncation of a quotient towards zero (R283). -/
def truncDiv (a b : Int) : Int := if a < 0 then -((-a) / b) else a / b

end Sys2Proof.Machine
end

