-- ==== Sys2Proof/Machine/DramCode.lean ====
section
/-! DEFINITION. How the in-package memory holds its data (R235, R236), how its banks keep pages open (R238), and how a channel
chooses among its ports (R239). -/

namespace Sys2Proof.Machine

/-- A coded block of 31 data bursts, its burst addresses from `addr` on (R235): the bursts, and a code burst with the check
word of each and two zero bytes. -/
def codedBlock (addr : Nat) (bursts : List Bytes) : Bytes :=
  bursts.flatten ++ (bursts.zipIdx.flatMap fun b => le 2 (Config.checkWord (addr + b.2) b.1)) ++ zeros 2

/-- Whether a burst read agrees with its check word (R235): one from the wrong address does not. -/
def burstGood (addr : Nat) (burst : Bytes) (word : Nat) : Bool := decide (Config.checkWord addr burst % 65536 = word)

/-- The next tweak of XTS: doubling in GF(2^128), least significant byte first (IEEE 1619). PRESUMED (unsafe, log 30). -/
def xtsDouble (t : Bytes) : Bytes :=
  let n := leNat t
  le 16 (if 2 ^ 127 ≤ n then (2 * n % 2 ^ 128) ^^^ 0x87 else 2 * n)

/-- The exclusive-or of two byte sequences of one length. -/
def xorBytes (a b : Bytes) : Bytes := (a.zip b).map fun p => p.1 ^^^ p.2

/-- A data unit under XTS, 16 bytes at a time from a tweak on, `n` blocks. -/
def xtsBlocks (key : Bytes) : Nat → Bytes → Bytes → Bytes
  | 0, _, _ => []
  | n + 1, t, d => xorBytes (Config.aes256 key (xorBytes (d.take 16) t)) t ++ xtsBlocks key n (xtsDouble t) (d.drop 16)

/-- A burst of 64 bytes as the memory holds it (R236): XTS-AES-256 under a key pair, its tweak the burst's physical address.
-/
def burstCipher (pair : Bytes) (addr : Nat) (burst : Bytes) : Bytes :=
  xtsBlocks (pair.take 32) 4 (Config.aes256 (pair.drop 32) (le 16 addr)) burst

/-- The page predictor of a bank after an access (R238): a 2-bit saturating counter. -/
def pagePredict (hit : Bool) (c : Nat) : Nat := if hit then min 3 (c + 1) else c - 1

/-- Whether a page stays open after an access, by page_policy and the bank's counter (R238, Table 08.4). -/
def pageStays (policy c : Nat) : Bool := if policy = 0 then decide (2 ≤ c) else decide (policy = 1)

/-- The port a channel serves (R239): of those with a request the one of highest priority, a tie to the lower number. -/
def portGrant (priority : Nat → Nat) (requests : List Nat) : Option Nat :=
  requests.foldl (fun best p =>
    match best with
    | some b => if priority b < priority p ∨ (priority b = priority p ∧ p < b) then some p else best
    | none => some p) none

end Sys2Proof.Machine
end

