-- ==== Sys2Proof/Machine/DramOps.lean ====
section
/-! DEFINITION. The in-package memory's users: partitions, charges, placement (R247 to R251, R292, R328), the
frame synchronisers' capture (R253), and what becomes of the users of a group that goes out of service
(Table 08.3, R257, R293, R329). -/

namespace Sys2Proof.Machine

/-! ### Accessors -/

/-- A DRAM group. -/
def dramGroup (s : State) (g : Nat) : DramGroup := mget (fun _ => ({} : DramGroup)) s.dram.groups g

/-- Changes a DRAM group. -/
def setGroup (g : Nat) (f : DramGroup → DramGroup) (s : State) : State :=
  { s with dram := { s.dram with groups := mmod (fun _ => ({} : DramGroup)) s.dram.groups g f } }

/-- A DRAM channel. -/
def dramChan (s : State) (c : Nat) : DramChan := mget (fun _ => ({} : DramChan)) s.dram.chans c

/-- Changes a DRAM channel. -/
def setChan (c : Nat) (f : DramChan → DramChan) (s : State) : State :=
  { s with dram := { s.dram with chans := mmod (fun _ => ({} : DramChan)) s.dram.chans c f } }

/-- How many channels of a group are in self-refresh (Table 08.8). -/
def asleep (s : State) (g : Nat) : Nat := ((List.range 8).filter fun c => (dramChan s (8 * g + c)).selfRefresh).length

/-- A channel enters or leaves auto self-refresh (R242); the first of a group that enters and the last that leaves change the
group's state (Table 08.8). -/
def chanSleep (c : Nat) (on : Bool) (s : State) : State :=
  let t := setChan c (fun x => { x with selfRefresh := on }) s
  if (asleep s (c / 8) = 0) = (asleep t (c / 8) = 0) then t else setGroup (c / 8) (fun x => { x with stateTime := now s }) t

/-- Whether a group is in service. -/
def inService (s : State) (g : Nat) : Bool := decide ((dramGroup s g).state = 2)

/-- The group that reads of the system mirror come from (R234). -/
def mirrorGroup (s : State) : Option Nat := [0, 1].find? (inService s)

/-- A synchroniser. -/
def syncAt (s : State) (i : Nat) : Sync := mget (fun _ => ({} : Sync)) s.dram.syncs i

/-- Changes a synchroniser. -/
def setSync (i : Nat) (f : Sync → Sync) (s : State) : State :=
  { s with dram := { s.dram with syncs := mmod (fun _ => ({} : Sync)) s.dram.syncs i f } }

/-- A layer engine. -/
def engineAt (s : State) (e : Nat) : Engine := mget (fun _ => ({} : Engine)) s.layers.engines e

/-- Changes a layer engine. -/
def setEngine (e : Nat) (f : Engine → Engine) (s : State) : State :=
  { s with layers := { s.layers with engines := mmod (fun _ => ({} : Engine)) s.layers.engines e f } }

/-- A layer of an engine. -/
def layerAt (x : Engine) (l : Nat) : Layer := mget (fun _ => ({} : Layer)) x.layers l

/-- Changes a layer of an engine. -/
def setLayer (e l : Nat) (f : Layer → Layer) (s : State) : State :=
  setEngine e (fun x => { x with layers := mmod (fun _ => ({} : Layer)) x.layers l f }) s

/-- A section of the audio engine. -/
def sectionAt (s : State) (k : Nat) : Section := mget (fun _ => ({} : Section)) s.audio.sections k

/-- Changes a section. -/
def setSection (k : Nat) (f : Section → Section) (s : State) : State :=
  { s with audio := { s.audio with sections := mmod (fun _ => ({} : Section)) s.audio.sections k f } }

/-- The program a section runs on. -/
def secProg (s : State) (k : Nat) : Quire := if (sectionAt s k).onNew then s.audio.prog else s.audio.progOld

/-! ### The DRAM folio (Tables 08.4 to 08.6) -/

/-- A field of synchroniser `i`'s entry. -/
def syField (q : Quire) (i o k : Nat) : Nat := qRd q fDram (0x40 + 32 * i + o) k

/-- Whether a synchroniser is enabled. -/
def syEnabled (q : Quire) (i : Nat) : Bool := bit (syField q i 0 1) 0

/-- Its input slot. -/
def syInput (q : Quire) (i : Nat) : Nat := syField q i 2 2

/-- Its pen. -/
def syPen (q : Quire) (i : Nat) : Nat := syField q i 4 1

/-- Its added delay d in frames. -/
def syDelay (q : Quire) (i : Nat) : Nat := syField q i 5 1

/-- Its output slot. -/
def syOutput (q : Quire) (i : Nat) : Option Nat := slotBound q false 5 0 i

/-- Its format: its input's declared format. -/
def syFormat (q : Quire) (i : Nat) : Nat := srcFormat q (syInput q i)

/-- Number of partition entries. -/
def partCount (q : Quire) : Nat := qRd q fDram 2 2

/-- The partition entries. -/
def partitions (q : Quire) : List Bytes := (List.range (partCount q)).map fun j => qBytes q fDram (0xC40 + 16 * j) 16

/-- The enabled partition of a pen in a group. -/
def partOf (q : Quire) (pen g : Nat) : Option Bytes :=
  (partitions q).find? fun e => decide (rd e 0 1 = pen ∧ rd e 1 1 = g) && bit (rd e 2 1) 0

/-- Partitionable extents of a group (Table 08.1). -/
def partitionable (g : Nat) : Nat := if g ≤ 1 then 200 else 232

/-- First partitionable extent of a group. -/
def firstExtent (g : Nat) : Nat := if g ≤ 1 then 48 else 0

/-- Bandwidth budget of a group in Mbit/s (R250). -/
def groupBudget (g : Nat) : Nat := if g ≤ 1 then 690000 else 750000

/-! ### Charges -/

/-- Frames per second of a format, as (frames, seconds). -/
def fpsOf (f : Nat) : Nat × Nat := frameRate f

/-- Mbit/s of `2 × b` bytes a frame, with the code bursts, rounded up (R251, R328). -/
def frameMbps (b f : Nat) : Nat :=
  cdiv (2 * b * 8 * (fpsOf f).1 * 32) (31 * (fpsOf f).2 * 1000000)

/-- Bytes B of a synchroniser's frame buffer (R251). -/
def syBytes (q : Quire) (i : Nat) : Nat :=
  rasterActive (rasterOf (syFormat q i)) * lineWords (syFormat q i) * 16 + srcAnc q (syInput q i) * 4096

/-- Memory charge of a synchroniser in MiB. -/
def syMib (q : Quire) (i : Nat) : Nat := (syDelay q i + 3) * cdiv (syBytes q i) 1048576

/-- Bandwidth charge of a synchroniser in Mbit/s. -/
def syMbps (q : Quire) (i : Nat) : Nat := frameMbps (syBytes q i) (syFormat q i)

/-- A field of engine `e`'s LAYERS entry. -/
def leField (q : Quire) (e o k : Nat) : Nat := qRd q fLayers (1184 * e + o) k

/-- The destination slot a content layer reads. -/
def layerDest (q : Quire) (e l : Nat) : Option Nat := slotBound q true 4 l e

/-- The format of a content layer. -/
def layerFormat (q : Quire) (e l : Nat) : Nat :=
  match layerDest q e l with
  | some d => dstFormat q d
  | none => 0

/-- Bytes B_L of a layer's frame (R328). -/
def layerBytes (f : Nat) : Nat :=
  rasterWidth (rasterOf f) * rasterActive (rasterOf f) * (if 4 ≤ sampleOf f then 48 else 36) / 8

/-- Memory charge of a layer store in MiB. -/
def layerMib (f : Nat) : Nat := 2 * cdiv (layerBytes f) 1048576

/-- Bandwidth charge of a layer store in Mbit/s. -/
def layerMbps (f : Nat) : Nat := if f = 0 then 0 else frameMbps (layerBytes f) f

/-- Bytes of a delay line (R292). -/
def delayBytes (e : Bytes) : Nat := (rd e 0 4 + 64) * 4

/-- Bits per second of a delay line, less the code bursts. -/
def delayBits (q : Quire) (e : Bytes) : Nat := 64 * capRate q (rd e 6 1)

/-- What is charged to a partition: whole MiB and Mbit/s, and the bytes and bits of delay lines, which are
rounded up together. -/
structure Charge where
  mib : Nat := 0
  mbps : Nat := 0
  bytes : Nat := 0
  bits : Nat := 0

/-- Adds charges. -/
def Charge.add (a b : Charge) : Charge := ⟨a.mib + b.mib, a.mbps + b.mbps, a.bytes + b.bytes, a.bits + b.bits⟩

/-- Total memory of a charge in MiB. -/
def Charge.memory (c : Charge) : Nat := c.mib + cdiv c.bytes 1048576

/-- Total bandwidth of a charge in Mbit/s. -/
def Charge.bandwidth (c : Charge) : Nat := c.mbps + cdiv (c.bits * 32) 31000000

/-- Whether a charge fits a partition (R250). -/
def Charge.fits (c : Charge) (p : Bytes) : Bool :=
  decide (c.memory ≤ 64 * rd p 4 2 ∧ c.bandwidth ≤ rd p 8 4)

/-- The charge of a synchroniser. -/
def syCharge (q : Quire) (i : Nat) : Charge := { mib := syMib q i, mbps := syMbps q i }

/-- The charge of a layer store. -/
def layerCharge (q : Quire) (e l : Nat) : Charge :=
  { mib := layerMib (layerFormat q e l), mbps := layerMbps (layerFormat q e l) }

/-- The charge of a delay line. -/
def delayCharge (q : Quire) (e : Bytes) : Charge := { bytes := delayBytes e, bits := delayBits q e }

/-- The layer stores there are: engine and layer. -/
def layerStores (s : State) : List (Nat × Nat) :=
  s.layers.engines.flatMap fun p => p.2.layers.map fun l => (p.1, l.1)

/-- The delay lines there are: section and line. -/
def delayLines (s : State) : List (Nat × Nat) :=
  s.audio.sections.flatMap fun p => p.2.delays.map fun d => (p.1, d.1)

/-- A delay line in use. -/
def delayAt (x : Section) (j : Nat) : DelayLine := mget (fun _ => ({} : DelayLine)) x.delays j

/-- What a pen's users now placed in a group charge. -/
def chargeNow (s : State) (pen g : Nat) : Charge :=
  let q := s.quire.active
  let a := (s.dram.syncs.filter fun p => decide (p.2.group = g ∧ syPen q p.1 = pen)).map fun p => syCharge q p.1
  let b := ((layerStores s).filter fun p =>
    decide ((layerAt (engineAt s p.1) p.2).group = g ∧ leField q p.1 1 1 = pen)).map fun p =>
      layerCharge q p.1 p.2
  let c := ((delayLines s).filter fun p =>
    let e := progDelay (secProg s p.1) p.2
    decide ((delayAt (sectionAt s p.1) p.2).group = g ∧ rd e 4 1 = pen)).map fun p =>
      delayCharge (secProg s p.1) (progDelay (secProg s p.1) p.2)
  (a ++ b ++ c).foldl Charge.add {}

/-- Spare bandwidth of a pen in a group if a user of charge `c` fits there. -/
def spareFor (s : State) (pen : Nat) (c : Charge) (g : Nat) : Option Nat :=
  if ¬ inService s g then none
  else
    match partOf s.quire.active pen g with
    | some p =>
      let used := chargeNow s pen g
      if (used.add c).fits p then some (rd p 8 4 - used.bandwidth) else none
    | none => none

/-- The in-service group with room and the most spare bandwidth, a tie going to the lower (R257). -/
def roomFor (s : State) (pen : Nat) (c : Charge) : Option Nat :=
  ((List.range 4).foldl (fun best g =>
    match spareFor s pen c g, best with
    | some v, some (w, h) => if w < v then some (v, g) else some (w, h)
    | some v, none => some (v, g)
    | none, b => b) (none : Option (Nat × Nat))).map (·.2)

/-! ### Synchronisers -/

/-- A synchroniser's event (R259): 1 drop, 2 repeat, 3 realignment, or 16 with the state it entered; the numbers of the
kinds are not given. -/
def syEvent (i kind : Nat) (s : State) : State := raise 579 i (Config.code 579 kind) s

/-- A synchroniser enters a state (Table 08.7). -/
def syEnter (i st : Nat) (s : State) : State :=
  if (syncAt s i).state = st then s
  else syEvent i (16 + st) (setSync i (fun y => { y with state := st, lastChange := now s }) s)

/-- Adds a line to the frame it belongs to, in the buffer k mod F (R253). DESIGN CHOICE (unsafe, log 64). -/
def captureFrame (bufs k line start : Nat) (data : List Nat) (anc : List AncPkt) (fs : List FrameBuf) :
    List FrameBuf :=
  if fs.any fun f => decide (f.k = k) then
    updFirst (fun f => decide (f.k = k))
      (fun f => { f with lines := mput f.lines line data, anc := anc }) fs
  else
    (fs.filter fun f => decide (f.k % bufs ≠ k % bufs)) ++ [⟨k, start, [(line, data)], [], anc⟩]

/-- Whether a frame holds every active line of a format. -/
def frameWhole (f : Nat) (b : FrameBuf) : Bool :=
  decide (b.lines.length = rasterActive (rasterOf f)) && decide (b.bad = [])

/-- A synchroniser captures a line of its input (R253). DESIGN CHOICE (unsafe, log 64). DEDUCED (unsafe, log 65). -/
def syCapture (i k line fmt done : Nat) (data : List Nat) (anc : List AncPkt) (s : State) : State :=
  let start := done - (line - 1) * linePeriod fmt
  setSync i (fun y =>
    { y with frames := captureFrame (syDelay s.quire.active i + 3) k line start data anc y.frames }) s

/-- The synchronisers that capture or pass a slot's lines. -/
def readersSync (s : State) (slot : Nat) : List Nat :=
  (s.dram.syncs.map (·.1)).filter fun i =>
    syEnabled s.quire.active i && decide (syInput s.quire.active i = slot)

/-- A line written into a slot was incomplete: the synchronisers that captured it write it black (R253). -/
def captureBad (slot line : Nat) (s : State) : State :=
  (readersSync s slot).foldl (fun t i =>
    let held (b : FrameBuf) : Bool := b.lines.any fun l => decide (l.1 = line)
    let newest := ((syncAt t i).frames.filter held).foldl (fun k b => max k (b.k + 1)) 0
    setSync i (fun y =>
      { y with frames := y.frames.map fun b => if b.k + 1 = newest then { b with bad := b.bad ++ [line] } else b }) t) s

/-- Whether a synchroniser is in a condition of R258. -/
def syDisturbed (y : Sync) : Bool := decide (y.state = 4 ∨ y.state = 5) || (decide (y.state = 1) && y.afterMove)

/-! ### Layer engines -/

/-- The engines of the gang an engine leads, or the engine alone (R339). -/
def gangOf (q : Quire) (e : Nat) : List Nat :=
  let n := leField q e 4 1
  if 2 ≤ n ∧ n ≤ 16 then (List.range n).map (· + e) else [e]

/-- The first engine of the gang an engine belongs to. -/
def gangFirst (q : Quire) : Nat → Nat
  | 0 => 0
  | e + 1 => if leField q (e + 1) 4 1 = 0xFF then gangFirst q e else e + 1

/-- The source slot an engine writes (R321, R339). -/
def engineOutput (q : Quire) (e : Nat) : Option Nat :=
  let g := gangFirst q e
  (slotBound q false 4 0 g).map (· + (e - g))

/-- Whether an engine has a store in a condition of R329. -/
def storeDisturbed (x : Engine) : Bool := x.layers.any fun l => l.2.moved || l.2.noRoom

/-- Whether an engine reads a slot through one of its layers. -/
def engineReads (s : State) (e slot : Nat) : Bool :=
  (List.range 4).any fun l =>
    match layerDest s.quire.active e l with
    | some d => decide ((dstSlot s d).shown = slot)
    | none => false

/-! ### A group goes out of service -/

/-- A synchroniser loses its buffers (R257): it moves, or falls to pass-through. -/
def syMove (i : Nat) (s : State) : State :=
  let q := s.quire.active
  let s0 := setSync i (fun y => { y with frames := [], group := 0xFF }) s
  match roomFor s0 (syPen q i) (syCharge q i) with
  | some g => syEnter i 4 (setSync i (fun y => { y with group := g, afterMove := true, last := none }) s0)
  | none => syEnter i 5 s0

/-- A delay line loses its content, and an event of block 7 whose source the spec does not name is raised (R293).
DEDUCED (unsafe, log 73). -/
def delayMove (k j : Nat) (s : State) : State :=
  let q := secProg s k
  let e := progDelay q j
  let put (f : DelayLine → DelayLine) (t : State) : State :=
    setSection k (fun x => { x with delays := mmod (fun _ => ({} : DelayLine)) x.delays j f }) t
  let s0 := put (fun d => { d with words := [], group := 0xFF }) s
  match roomFor s0 (rd e 4 1) (delayCharge q e) with
  | some g => raise (675 + Config.code 7 293 % 93) j g (put (fun d => { d with group := g, moved := true }) (copyItem (.moved 1 j g) s0))
  | none =>
    raise (675 + Config.code 7 293 % 93) j 0xFF (put (fun d => { d with undelayed := true }) (copyItem (.moved 1 j 0xFF) s0))

/-- Block reset of a layer engine (Table 17.6): its stores are emptied. -/
def layerReset (e : Nat) (s : State) : State :=
  (List.range 4).foldl (fun t l => setLayer e l (fun x => { x with bufs := [] }) t) s

/-- A layer store loses its frames (R329). -/
def storeMove (e l : Nat) (s : State) : State :=
  let q := s.quire.active
  let s0 := copyItem (.moved 2 (4 * e + l) ((roomFor s (leField q e 1 1) (layerCharge q e l)).getD 0xFF))
    (setLayer e l (fun x => { x with bufs := [], group := 0xFF }) s)
  match roomFor s0 (leField q e 1 1) (layerCharge q e l) with
  | some g => raiseIn 9 832 (4 * e + l) g (layerReset e) (setLayer e l (fun x => { x with group := g, moved := true }) s0)
  | none => raiseIn 9 832 (4 * e + l) 0xFF (layerReset e) (setLayer e l (fun x => { x with noRoom := true }) s0)

/-- After a staged DRAM item that changes the partitions, a layer store that found no room takes its place where there is room
now, as one that moved (R329). DEDUCED (unsafe, log 66). -/
def storesRetry (s : State) : State :=
  let q := s.quire.active
  let one (t : State) (e l : Nat) : State :=
    if ¬ (layerAt (engineAt t e) l).noRoom then t
    else
      match roomFor t (leField q e 1 1) (layerCharge q e l) with
      | some g => setLayer e l (fun x => { x with bufs := [], group := g, moved := true, noRoom := false }) t
      | none => t
  s.layers.engines.foldl (fun t p => (List.range 4).foldl (fun u l => one u p.1 l) t) s

/-- The colophon region moves to the other candidate (R234, Table 08.3). DESIGN CHOICE (unsafe, log 138). -/
def colophonMove (g : Nat) (s : State) : State :=
  if s.dram.colophon ≠ g then s
  else
    let other := if g = 3 then 2 else 3
    if inService s other then { s with dram := { s.dram with colophon := other } }
    else raise 580 0 0 { s with dram := { s.dram with colophon := 0xFF } }

/-- A standby that decides for itself counts it (R255, R294, R315, R338), and leaves the class out of this
cycle's comparison (R465). DEDUCED (unsafe, log 66). -/
def ownDecision (cls : Nat) (s : State) : State :=
  if s.twin.role = .standby then
    { s with twin := { s.twin with
                        ownDecisions := satInc s.twin.ownDecisions
                        ownClasses := s.twin.ownClasses ++ [cls] } }
  else s

/-- Takes a group out of service (R246): EV0577, and each of its users as Table 08.3 states. DEDUCED (unsafe, log 66). -/
def groupOut (g cause : Nat) (s : State) : State :=
  if ¬ inService s g then s
  else
    let q := s.quire.active
    let s1 := raise 577 g cause
      (setGroup g (fun x => { x with state := 3, cause := cause, stateTime := now s }) s)
    let s2 := colophonMove g s1
    let ys := ((s2.dram.syncs.filter fun p => decide (p.2.group = g)).map (·.1)).mergeSort fun a b =>
      decide (syField q b 8 1 < syField q a 8 1 ∨ (syField q a 8 1 = syField q b 8 1 ∧ a ≤ b))
    let s3 := ys.foldl (fun t i => syMove i t) s2
    let ds := ((delayLines s3).filter fun p =>
      decide ((delayAt (sectionAt s3 p.1) p.2).group = g)).mergeSort fun a b => decide (a.2 ≤ b.2)
    let s4 := ds.foldl (fun t p => delayMove p.1 p.2 t) s3
    let ls := (layerStores s4).filter fun p => decide ((layerAt (engineAt s4 p.1) p.2).group = g)
    if ls = [] then s4
    else ownDecision 4 (ls.foldl (fun t p => storeMove p.1 p.2 t) s4)

end Sys2Proof.Machine
end

