-- ==== Sys2Proof/Machine/Withhold.lean ====
section
/-! DEFINITION. When a twin stops sending streams (R258, R329, R470). -/

namespace Sys2Proof.Machine

/-- A twin that is SYNCING or STARTING withholds every fabric transmit stream and transmit flow (R470), and so does a
device in the fatal sequence (R522). -/
def roleWithholds (s : State) : Bool :=
  decide (s.twin.role = .syncing ∨ s.twin.role = .starting) || s.ev.fatal.isSome

/-- Whether a slot is the output of a synchroniser in a condition of R258, of a layer engine that reads such
an output, or of an engine with a store in a condition of R329. -/
def slotDisturbed (s : State) (slot : Nat) : Bool :=
  let bad := (s.dram.syncs.filter fun p => syDisturbed p.2).filterMap fun p => syOutput s.quire.active p.1
  bad.contains slot ||
    s.layers.engines.any fun p =>
      decide (engineOutput s.quire.active p.1 = some slot) &&
        (storeDisturbed p.2 || bad.any (engineReads s p.1))

/-- The leader of the gang a media lane belongs to (R19). -/
def leaderOf (q : Quire) (l : Nat) : Nat :=
  let gang (i : Nat) : Nat := qRd q fLanes (32 * i + 4) 1
  if gang l ≠ 3 then l else if gang (l / 4 * 4) = 2 then l / 4 * 4 else l / 2 * 2

/-- The instance that a source slot's producer shows, where it is in block reset (R517). -/
def slotInReset (s : State) (slot : Nat) : Bool :=
  let q := s.quire.active
  let bound (r : BlockReset) : Bool :=
    match r.block with
    | 3 => decide (slotBound q false 1 0 (leaderOf q r.inst) = some slot)
    | 4 => match (bindingOf q false slot) with
      | some b => decide (b.1 = 2) && ((qKeyed q fFlows b.2.2).any fun e => decide (rd e 4 2 = r.inst))
      | none => false
    | 9 => decide (engineOutput q (r.inst / 4) = some slot)
    | _ => false
  s.ev.resetting.any bound

/-- Whether this twin withholds the streams that show destination `d`. -/
def withholds (s : State) (d : Nat) : Bool :=
  roleWithholds s ||
    (hasPartner s && decide ((dstSlot s d).shown ≠ 0xFFFF) && (slotDisturbed s (dstSlot s d).shown || slotInReset s (dstSlot s d).shown))

/-- Whether anything is disturbed, so that streams may be withheld this cycle (R465). -/
def anyDisturbed (s : State) : Bool :=
  s.dram.syncs.any (fun p => syDisturbed p.2) || s.layers.engines.any fun p => storeDisturbed p.2

end Sys2Proof.Machine
end

