-- ==== Sys2Proof/Machine/Spine.lean ====
section
/-! DEFINITION. The spine (chapter 02): lines, source states, switch points, and the SPN commands. -/

namespace Sys2Proof.Machine

/-! ### Sources -/

/-- A source slot enters a state: counted and reported by EV0067 if it changes (Table 02.9). -/
def srcEnter (i : Nat) (st : SrcState) (s : State) : State :=
  if (srcSlot s i).state = st then s
  else
    raise 67 i st.code
      (setSrc i (fun x => { x with state := st, before := x.state, since := now s, changes := satInc x.changes }) s)

/-- A source slot enters LOST at once (R39): what was counted towards stability is dropped. -/
def srcLost (i : Nat) (s : State) : State :=
  if srcEnabled s.quire.active i then
    srcEnter i .lost
      (setSrc i (fun x =>
        { x with run := 0, calm := 0, frameOpen := false, stable := 0, measured := 0, cycles := 0 }) s)
  else s

/-- The frame count of a source frame (R31): the k whose lead of this line, less O × T_L, lies in
(−T_F/2, T_F/2]. -/
def frameCount (f line done : Nat) : Nat :=
  (2 * (done - (line - 1) * linePeriod f) + framePeriod f) / (2 * framePeriod f)

/-- The lead of a line in ticks (R31). -/
def lineLead (q : Quire) (f k line done : Nat) : Int := (readInstant q f k line : Int) - done

/-- Ends the frame being written (R39): whether it was complete and of one format, its leads, and the
counts of consecutive frames. -/
def closeFrame (w : Nat) (x : SrcSlot) : SrcSlot :=
  if ¬ x.frameOpen then x
  else
    let f := x.frameFmt
    let tl : Int := linePeriod f
    let complete := decide (f ≠ 0 ∧ x.frameLines = rasterActive (rasterOf f))
    let calm := decide (tl ≤ 2 * x.frameMin ∧ 2 * x.frameMax ≤ (2 * (w : Int) - 1) * tl)
    let out := decide (x.frameMin < 0 ∨ (w : Int) * tl < x.frameMax)
    { x with
      frameOpen := false
      lastFmt := f
      lastMin := x.frameMin
      lastMax := x.frameMax
      run := if complete then (if x.runFmt = f then x.run + 1 else 1) else 0
      runFmt := if complete then f else 0
      calm := if complete && calm then x.calm + 1 else 0
      fullMin := if complete then x.frameMin else x.fullMin
      fullMax := if complete then x.frameMax else x.fullMax
      measured := if complete then f else x.measured
      frames := if complete then satInc x.frames else x.frames
      lastStart := if complete then x.frameStart else x.lastStart
      outFrames := if out then satInc x.outFrames else x.outFrames }

/-- Adds a line to the frame being written and to the ring (R28, R31). -/
def addLine (w k line f done : Nat) (lead : Int) (fresh : Bool) (data : List Nat) (x : SrcSlot) :
    SrcSlot :=
  { x with
    frameOpen := true
    frameK := k
    frameStart := if fresh then done else x.frameStart
    frameFmt := if fresh then f else if x.frameFmt = f then f else 0
    frameLines := if fresh then 1 else x.frameLines + 1
    frameMin := if fresh then lead else min x.frameMin lead
    frameMax := if fresh then lead else max x.frameMax lead
    lastWrite := done
    ring := keepLast (w + 2) (x.ring ++ [⟨k, line, data, false⟩]) }

/-- The newest entries of an opaque ring, given newest first, that fit `cap` bytes. -/
def ringFit : Nat → List RingEntry → List RingEntry
  | _, [] => []
  | cap, e :: t => if e.data.length ≤ cap then e :: ringFit (cap - e.data.length) t else []

/-- A source slot as it is after a change of its descriptor from that of `a` (R52): a slot newly enabled is LOST, a disabled
one IDLE; the producer writes a new ring, the old one staying for its readers; after a change of format the slot goes through
ACQUIRING. DEDUCED (unsafe, log 125). -/
def ringMove (a : Quire) (i at_ : Nat) (s : State) : State :=
  let q := s.quire.active
  if ¬ srcEnabled q i then setSrc i (fun x => { x with ring := [], anc := [], oldRing := [], oldAnc := [], moving := false }) (srcEnter i .idle s)
  else if ¬ srcEnabled a i then
    srcEnter i .lost (setSrc i (fun x => { x with ring := [], anc := [], moving := false, lastWrite := now s }) s)
  else
    let s1 := setSrc i (fun x =>
      { x with ring := [], anc := [], oldRing := x.ring, oldAnc := x.anc, movedAt := at_, moving := false }) s
    if srcFormat a i = srcFormat q i then s1
    else
      let s2 := setSrc i (fun x => { x with run := 0, calm := 0, frameOpen := false, stable := 0, cycles := 0 }) s1
      if (srcSlot s i).state = .lost then s2 else srcEnter i .acquiring s2

/-- The producer of a slot whose ring is under a staged change moves to the new ring, and the descriptor changes with it
(R52). -/
def moveRing (i at_ : Nat) (s : State) : State :=
  if (srcSlot s i).moving then
    let x := s.quire
    ringMove x.active i at_ { s with quire := { x with active := qWrite x.active fSources (16 * i) (qBytes x.target fSources (16 * i) 16) } }
  else s

/-- Whether a write begins a frame of slot `i`: for an opaque slot a packet that begins a compressed frame. -/
def beginsFrame (s : State) (i line fmt : Nat) : Bool :=
  if isOpaque (srcFormat s.quire.active i) then decide (line = 1)
  else !(srcSlot s i).frameOpen || decide (line = firstActive (rasterOf fmt))

/-- LINE_WRITE (R31): a producer completes writing raster line `line` of format `fmt` into a source
ring at instant `done`, in ticks. For an opaque slot it is a packet; `line` is 1 for one that begins a
compressed frame. -/
def writeSlot (i line fmt done : Nat) (data : List Nat) (s0 : State) : State :=
  let s := if beginsFrame s0 i line fmt then moveRing i done s0 else s0
  let q := s.quire.active
  if ¬ srcEnabled q i then s
  else
    let w := srcWindow q i
    let wake (t : State) : State :=
      if (srcSlot t i).state = .lost ∨ (srcSlot t i).state = .idle then srcEnter i .acquiring t else t
    if isOpaque (srcFormat q i) then
      wake (setSrc i (fun x =>
        { x with
          lastWrite := done, cycleWritten := true
          cframe := if line = 1 then done else x.cframe
          ring := (ringFit (4096 * qRd q fSources (16 * i + 8) 2)
            (⟨done, line, data, false⟩ :: x.ring.reverse)).reverse }) s)
    else if ¬ isActive (rasterOf fmt) line then s
    else
      let x := srcSlot s i
      let fresh := !x.frameOpen || decide (line = firstActive (rasterOf fmt))
      let k := if fresh then frameCount fmt line done else x.frameK
      let lead := lineLead q fmt k line done
      let last := decide (line = lastActive (rasterOf fmt))
      wake (setSrc i (fun x =>
        let x1 := if fresh then closeFrame w x else x
        let x2 := addLine w k line fmt done lead fresh data x1
        if last then closeFrame w x2 else x2) s)

/-- Packets that fit an ANC allocation, in order. DESIGN CHOICE (unsafe, log 44). -/
def ancFit : Nat → List AncPkt → List AncPkt
  | _, [] => []
  | room, p :: t => if cdiv (10 * p.words.length) 8 ≤ room then p :: ancFit (room - cdiv (10 * p.words.length) 8) t else []

/-- The ANC packets of frame `k` of a slot. -/
def ancOf (x : SrcSlot) (k : Nat) : List AncPkt := ((x.anc.find? fun e => decide (e.k = k)).map (·.packets)).getD []

/-- Gives frame `k` of a slot the ANC packets of a synchroniser's input, as far as they fit; each that does not is dropped and
counted once (R28, R257). -/
def ancGive (alloc k : Nat) (ps : List AncPkt) (x : SrcSlot) : SrcSlot :=
  let fit := ancFit (4096 * alloc) ps
  let drops := ps.length - fit.length
  let before := if x.ancPassed.1 = k then x.ancPassed.2 else 0
  { x with
    anc := (x.anc.filter fun o => decide (o.k % 2 ≠ k % 2)) ++ [⟨k, fit⟩]
    ancPassed := (k, drops), ancDropped := satAdd x.ancDropped (drops - before) }

/-- A producer writes raster line `line` of format `fmt` into slot `i`, complete at `done`; the frame
synchronisers that read the slot capture it, or in pass-through copy it with its ANC into their output
slots (R253, R257), along at most `fuel` synchronisers. -/
def writeThrough : Nat → Nat → Nat → Nat → Nat → List Nat → State → State
  | 0, i, line, fmt, done, data, s => writeSlot i line fmt done data s
  | fuel + 1, i, line, fmt, done, data, s =>
    let s1 := writeSlot i line fmt done data s
    let q := s.quire.active
    if ¬ srcEnabled q i ∨ isOpaque (srcFormat q i) ∨ ¬ isActive (rasterOf fmt) line then s1
    else
      (readersSync s1 i).foldl (fun t y =>
        let k := (srcSlot t i).frameK
        let anc := ancOf (srcSlot t i) k
        let st := (syncAt t y).state
        if fmt ≠ syFormat q y ∨ ¬ permitted t q (syPen q y) i then t
        else if st = 5 then
          match syOutput q y with
          | some o =>
            let t1 := writeThrough fuel o line fmt done data t
            setSrc o (fun x => ancGive (srcAnc q o) x.frameK anc x) t1
          | none => t
        else if 1 ≤ st ∧ st ≤ 3 then syCapture y k line fmt done data anc t
        else t) s1

/-- A line written into a slot, with what reads the slot at once. -/
def writeLine (i line fmt done : Nat) (data : List Nat) (s : State) : State :=
  writeThrough 97 i line fmt done data s

/-- Whether a slot is bound in the BINDINGS folio (R68); destinations carry bit 15. -/
def bound (q : Quire) (key : Nat) : Bool := (qFind q fBindings key).isSome

/-- What an unlisted media lane is: off. -/
def noLane : Nat → Lane := fun _ => {}

/-- A media lane. -/
def laneAt (s : State) (l : Nat) : Lane := mget noLane s.lanes l

/-- Changes a media lane. -/
def setLane (l : Nat) (f : Lane → Lane) (s : State) : State :=
  { s with lanes := mmod noLane s.lanes l f }

/-- The SDI receive chain that produces a source slot (Table 03.5, R179): its media lane, the leader of a
gang, or 256 plus the index of an ST 2022-6 receive flow. -/
def laneOf (q : Quire) (slot : Nat) : Option Nat :=
  match bindingOf q false slot with
  | some (1, _, l) => some l
  | some (2, _, i) =>
    match qKeyed q fFlows i with
    | some e => if rd e 2 1 = 6 then some (256 + i) else none
    | none => none
  | _ => none

/-- Counts what the receivers' checks found on a line (R134, R135, Table 05.9): never altering it. `absent` links of the
gang brought no payload ID. -/
def laneLine (fmt : Nat) (err : LineErr) (absent : Nat) (x : Lane) : Lane :=
  let c1 := cAdd (cAdd (cAdd (cAdd x.counts 0 err.crc1) 1 err.crc2) 2 err.edh) 3 err.trs
  { x with measured := fmt, edhFlags := err.edhFlags, counts := cAdd c1 8 (absent + b2n err.pidWrong) }

/-- The links of a gang whose payload ID of the frame, mandatory at 3G and above, did not come (R135). -/
def pidAbsent (s : State) (l : Nat) : Nat :=
  ((gangLanes s.quire.active l).filter fun m =>
    !(laneAt s m).pidSeen && decide (3 ≤ (laneAt s m).rxRate % 16)).length

/-- At a frame's last active line every link of the gang begins to look for the next frame's payload ID (R135). -/
def pidFrame (l : Nat) (s : State) : State :=
  (gangLanes s.quire.active l).foldl
    (fun t m => setLane m (fun x => { x with pidSeen := false, pidHave := x.pidSeen }) t) s

/-- A receive chain writes a line that it has checked and counted (R31, R134, R135). -/
def laneWrite (l slot line fmt done : Nat) (data : List Nat) (err : LineErr) (s : State) : State :=
  let last := decide (line = lastActive (rasterOf fmt))
  let s1 := setLane l (laneLine fmt err (if last then pidAbsent s l else 0)) s
  writeLine slot line fmt done data (if last then pidFrame l s1 else s1)

/-- LINE_WRITE (R31, R134, R135): a line, complete within the present TIME cycle (R16), that a media lane writes only in
state STREAM is checked and counted on the lane; a slot without a binding has no producer and stays LOST (R68), and the
lines of an ST 2022-6 flow come of its datagrams (R179). DESIGN CHOICE (unsafe, log 7). -/
def execLineWrite (slot line fmt within : Nat) (data : List Nat) (err : LineErr) (s : State) :
    Host.Outcome State Fault Refusal :=
  .next
    (let done := now s + within % ticksPerStep
     match laneOf s.quire.active slot with
     | some l => if 256 ≤ l ∨ (laneAt s l).rx ≠ 4 then s else laneWrite l slot line fmt done data err s
     | none => if bound s.quire.active slot then writeLine slot line fmt done data s else s)

/-- Size of a format in width × lines × bits (R40). DEDUCED (unsafe, log 38). -/
def formatSize (f : Nat) : Nat :=
  rasterWidth (rasterOf f) * rasterActive (rasterOf f) * pixelBits (sampleOf f)

/-- Whether a measured format suits the slot: equal to the declared one, or for AUTO no larger than
max_format (R40). -/
def suits (q : Quire) (i f : Nat) : Bool :=
  if isAuto (srcFormat q i) then decide (formatSize f ≤ formatSize (srcMax q i))
  else decide (f = srcFormat q i)

/-- The state a source slot goes to at an evaluation (Table 02.9, R40). -/
def nextSrcState (q : Quire) (i : Nat) (x : SrcSlot) : SrcState :=
  let f := x.lastFmt
  let w : Int := srcWindow q i
  let inWin := decide (0 ≤ x.lastMin ∧ x.lastMax ≤ w * linePeriod f)
  let settled : SrcState := if inWin then .valid else .outOfWindow
  match x.state with
  | .idle => .idle
  | .lost => .lost
  | .acquiring => if x.run < 2 then .acquiring else if suits q i f then settled else .wrongFormat
  | .valid =>
    let cur := if isAuto (srcFormat q i) then x.stable else srcFormat q i
    if f ≠ cur then .acquiring else if inWin then .valid else .outOfWindow
  | .outOfWindow =>
    let cur := if isAuto (srcFormat q i) then x.stable else srcFormat q i
    if f ≠ cur then .acquiring else if 2 ≤ x.calm then .valid else .outOfWindow
  | .wrongFormat => if 2 ≤ x.run ∧ suits q i f then settled else .wrongFormat

/-- Evaluates a source slot's state (R39-R41): the format stable on an AUTO slot follows it, a format that is too large for
the slot among them. -/
def evaluateSource (i : Nat) (s : State) : State :=
  let q := s.quire.active
  let x := srcSlot s i
  let st := nextSrcState q i x
  let stable :=
    if ¬ isAuto (srcFormat q i) then x.stable
    else if st = .valid ∨ st = .outOfWindow then x.lastFmt
    else if st = .wrongFormat then (if 2 ≤ x.run then x.lastFmt else x.stable) else 0
  srcEnter i st (setSrc i (fun x => { x with stable := stable }) s)

/-- SOURCE_STATE_EVALUATION (R39, R41): once per source frame. The frame is closed; a slot whose
format is not yet stable is evaluated in its 1 ms cycles instead. -/
def execSourceStateEvaluation (slot : Nat) (s : State) : Host.Outcome State Fault Refusal :=
  .next
    (let q := s.quire.active
     if ¬ srcEnabled q slot ∨ isOpaque (srcFormat q slot) then s
     else
       let s1 := setSrc slot (closeFrame (srcWindow q slot)) s
       if isAuto (srcFormat q slot) ∧ (srcSlot s1 slot).stable = 0 then s1
       else evaluateSource slot s1)

/-- The loss period of a source slot (R39, R41). -/
def slotLossPeriod (s : State) (i : Nat) : Nat :=
  let f := srcFormat s.quire.active i
  if isOpaque f then lossPeriod
  else if isAuto f then
    (if (srcSlot s i).stable = 0 then lossPeriod else framePeriod (srcSlot s i).stable)
  else framePeriod f

/-- Whether no line has been written for the loss period. -/
def isLost (s : State) (i : Nat) : Bool :=
  decide ((srcSlot s i).state ≠ .idle) &&
    decide ((srcSlot s i).lastWrite + slotLossPeriod s i ≤ now s)

/-- SOURCE_FRAME_LOSS (R39): no valid line for one frame period. -/
def execSourceFrameLoss (slot : Nat) (s : State) : Host.Outcome State Fault Refusal :=
  .next (if isLost s slot then srcLost slot s else s)

/-- SOURCE_EVALUATION_CYCLE (R41): an AUTO slot without a stable format, or an opaque slot, at the end
of a 1 ms cycle. -/
def execSourceEvaluationCycle (slot : Nat) (s : State) : Host.Outcome State Fault Refusal :=
  .next
    (let q := s.quire.active
     if ¬ srcEnabled q slot then s
     else if isLost s slot then
       srcLost slot (setSrc slot (fun x => { x with cycleWritten := false }) s)
     else if isOpaque (srcFormat q slot) then
       let x := srcSlot s slot
       let n := if x.cycleWritten then x.cycles + 1 else 0
       let s1 := setSrc slot (fun x => { x with cycles := n, cycleWritten := false }) s
       if x.state = .acquiring ∧ 2 ≤ n then srcEnter slot .valid s1 else s1
     else if isAuto (srcFormat q slot) ∧ (srcSlot s slot).stable = 0 then evaluateSource slot s
     else s)

/-! ### Destinations -/

/-- The effect of a switch point's decision on a destination (R42, R45, Table 02.20). -/
def applyDecision (emits : Bool) (t disp shown : Nat) (x : DstSlot) : DstSlot :=
  { x with
    display := disp
    shown := shown
    transit := false
    lastSwitch := t
    wasShown := if x.shown = shown then x.wasShown else x.shown
    switched := if x.shown = shown then x.switched else t
    switches := if x.shown = shown then x.switches else satInc x.switches
    frames := if emits then satInc x.frames else x.frames
    lossFrames := if disp = 2 ∨ disp = 3 then satInc x.lossFrames else x.lossFrames
    revokedFrames := if disp = 4 ∨ disp = 5 then satInc x.revokedFrames else x.revokedFrames }

/-- Marks destination or engine `k` as having taken the state of the swap under way, if its switch
point `t` is not before the swap's time (R77). -/
def takeSwap (k t : Nat) (s : State) : State :=
  match s.quire.swapping with
  | some w =>
    if w.time ≤ t then
      let w' := { w with taken := mset (fun _ => false) w.taken k true }
      { s with quire := { s.quire with swapping := some w' } }
    else s
  | none => s

/-- Whether a destination is between the quiet point and the completion of its format item: it decides at no switch
point before the first frame of the new format (R595). DEDUCED (unsafe, log 41). -/
def formatMoving (s : State) (d : Nat) : Bool :=
  (dstSlot s d).transit && s.quire.staging.any fun x => decide (x.folio = fDests ∧ x.index = d ∧ x.state = .inProgress)

/-- The instant of the switch point of frame `k` of destination `d`; an opaque destination decides now (R35). -/
def switchTime (s : State) (d k : Nat) : Nat :=
  let f := dstFormat (inForce s d) d
  if isOpaque f ∨ f = 0 then now s else dstSwitch s d f k

/-- Destination `d` decides at its switch point `t` (R42), on the quire in force there (R77). -/
def decideAt (d t : Nat) (s : State) : State :=
  let s1 := takeSwap d t s
  let c := chooseShown s1 d
  setDst d (applyDecision (dstEnabled (inForce s1 d) d) t c.1 c.2) s1

/-- The black value of each component of a line (R44, Table 02.3): luma then the two colour
differences, or three equal primaries; then key or alpha where the sample code has it. -/
def blackLine (f : Nat) : List Nat :=
  let twelve := decide (sampleOf f = 1 ∨ sampleOf f = 3 ∨ sampleOf f = 5)
  let lo := if twelve then 256 else 64
  let mid := if twelve then 2048 else 512
  (if colourOf f = 1 then [lo, lo, lo] else [lo, mid, mid]) ++
    (if sampleOf f = 4 then [64] else if sampleOf f = 5 then [256] else [])

/-- The ring entry tagged with a frame count and line (R45). -/
def ringEntry (ring : List RingEntry) (k line : Nat) : Option RingEntry :=
  ring.find? fun e => decide (e.k = k ∧ e.line = line)

/-- The line a destination outputs at its read of raster line `line` of frame `k` (R44, R45): whether it is
black, whether it was missed, whether its entry held an uncorrectable word, and the data. -/
structure LineRead where
  black : Bool
  miss : Bool
  bad : Bool
  data : List Nat

/-- What destination `d` outputs for a line of the source `src` (R44, R45, R595). -/
def lineReadFrom (s : State) (d src k line : Nat) : LineRead :=
  let f := dstFormat (inForce s d) d
  if src = 0xFFFF ∨ (dstSlot s d).transit then ⟨true, false, false, blackLine f⟩
  else
    match ringEntry (ringFor s d src) k line with
    | some e => if e.bad then ⟨true, true, true, blackLine f⟩ else ⟨false, false, false, e.data⟩
    | none => ⟨true, true, false, blackLine f⟩

/-- What destination `d` outputs for a line of the source it shows. -/
def lineRead (s : State) (d k line : Nat) : LineRead := lineReadFrom s d (dstSlot s d).shown k line

/-- What of a layer record governs capture: enabled, use_key, decimation, crop (R335). DEDUCED (unsafe, log 68). -/
def captureKey (r : Bytes) : Bytes :=
  le 1 (b2n (bit (rd r 0 1) 0) + 4 * b2n (bit (rd r 0 1) 2)) ++ slice r 1 1 ++ slice r 4 8

/-- Keeps what governs output frames from `k` + 1 on (R335): the entry before and the entry after.
DEDUCED (unsafe, log 69). -/
def pushEra (e k : Nat) (old new : Bytes) (s : State) : State :=
  setEngine e (fun x =>
    let es := if x.eras = [] then [⟨0, old⟩] else x.eras
    { x with eras := keepLast 4 ((es.filter fun a => decide (a.from_ ≠ k + 1)) ++ [⟨k + 1, new⟩]) }) s

/-- The live part of an engine's entry: bytes 0x000 to 0x09F. DEDUCED (unsafe, log 68). -/
def liveEntry (q : Quire) (e : Nat) : Bytes := qBytes q fLayers (1184 * e) 0xA0

/-- An engine takes a swap under way once its first switch point at or after the swap's time has come (R77,
R335). -/
def engineTake (e : Nat) (s : State) : State :=
  match s.quire.swapping with
  | none => s
  | some w =>
    let f := leField s.quire.active e 2 2
    let k := switchFrame s.quire.active f w.time
    if mget (fun _ => false) w.taken (2000 + e) ∨ ¬ reached s (switchInstant s.quire.active f k) then s
    else
      pushEra e k (liveEntry w.old e) (liveEntry s.quire.active e)
        (takeSwap (2000 + e) (switchInstant s.quire.active f k) s)

/-- A content layer captures the line its destination reads, where it lies in the crop (R324, R326): into
buffer k mod 2, under the record and format now in force. A disabled layer input is read as black
(R593). DEDUCED (unsafe, log 67). -/
def captureLayer (d k line : Nat) (r : LineRead) (s0 : State) : State :=
  match bindingOf (inForce s0 d) true d with
  | some (4, l, e) =>
    let s := engineTake e s0
    let q := inForce s (2000 + e)
    let rec_ := qBytes q fLayers (1184 * e + 0x20 + 32 * l) 16
    let f := dstFormat (inForce s d) d
    let disp := if dstEnabled (inForce s d) d then (dstSlot s d).display else 1
    let y := ((activeRanges (rasterOf f)).headD (0, 0)).1
    let n := line - y
    if ¬ bit (rd rec_ 0 1) 0 ∨ (layerAt (engineAt s e) l).group = 0xFF ∨ n < rd rec_ 6 2 ∨
        rd rec_ 6 2 + rd rec_ 0x0A 2 ≤ n then s
    else
      let same (b : LayerBuf) : Bool := decide (b.k = k ∧ b.fmt = f) && decide (captureKey b.record = captureKey rec_)
      setLayer e l (fun x =>
        if x.bufs.any same then
          { x with bufs := updFirst same (fun b => { b with lines := mput b.lines n (r.black, r.data) }) x.bufs }
        else
          { x with
            bufs := (x.bufs.filter fun b => decide (b.k % 2 ≠ k % 2)) ++
              [⟨k, f, disp, rec_, [(n, r.black, r.data)]⟩] }) s
  | _ => s0

/-- Counts a line read, missed or not; the last active line closes the line_miss of the frame. -/
def countRead (miss bad last : Bool) (x : DstSlot) : DstSlot :=
  { x with
    misses := if miss then satInc x.misses else x.misses
    uncorrectable := if bad then satInc x.uncorrectable else x.uncorrectable
    lineMiss := if last then x.missNow || miss else x.lineMiss
    missNow := if last then false else x.missNow || miss }

/-- After the last active line of frame `k`, in its vertical blanking, destination `d` takes a new output delay of its class,
if no other of the class does so in that frame; the lowest waits least (R52). DESIGN CHOICE (unsafe, log 161). -/
def moveDelay (d k : Nat) (s : State) : State :=
  let cls (e : Nat) : Nat := dstFormat (inForce s e) e / 16 * 16
  let c := cls d
  if (dstSlot s d).delay.isNone ∨ mget (fun _ => 0) s.spine.delayMoved c = k + 1 ∨
      (List.range d).any (fun e => (dstSlot s e).delay.isSome && decide (cls e = c)) then s
  else
    let t := setDst d (fun x => { x with delay := none }) s
    { t with spine := { t.spine with delayMoved := mset (fun _ => 0) t.spine.delayMoved c (k + 1) } }

/-- DESTINATION_LINE_READ (R45): destination `d` reads raster line `line` of frame `k` from the source
it shows. An entry that is not the expected one, or that holds an uncorrectable word, is output as
black and counted as a line miss. An enabled, bound destination hands the line to its consumer.
DESIGN CHOICE (unsafe, log 7). -/
def execDestinationLineRead (d k line : Nat) (s : State) : Host.Outcome State Fault Refusal :=
  .next
    (let q := inForce s d
     let f := dstFormat q d
     let x := dstSlot s d
     if ¬ isActive (rasterOf f) line then s
     else if ¬ dstEnabled q d then captureLayer d k line ⟨true, false, false, blackLine f⟩ s
     else
       let last := decide (line = lastActive (rasterOf f))
       let r := lineRead s d k line
       let s1 := setDst d (countRead r.miss r.bad last) s
       let s2 :=
         if r.bad then
           let t := setSrc x.shown (fun y => { y with uncorrectable := satInc y.uncorrectable }) s1
           let sp := { t.spine with codeUncorrectable := satInc t.spine.codeUncorrectable }
           raise 66 x.shown line { t with spine := sp }
         else s1
       let s3 := captureLayer d k line r (if last then moveDelay d k s2 else s2)
       if bound q (0x8000 + d) then emit (.line d k line r.black r.data) s3 else s3)

/-! ### Faults of the store (R51, Table 02.11) -/

/-- Counts words corrected by the essence code or SECDED (Table 02.21). -/
def countCorrected (n : Nat) (s : State) : State :=
  { s with spine := { s.spine with codeCorrections := satAdd s.spine.codeCorrections n } }

/-- SPINE_SCRUB_PASS (R51): a pass of `us` µs that corrected `corrected` words in place. -/
def execSpineScrubPass (us corrected : Nat) (s : State) : Host.Outcome State Fault Refusal :=
  .next
    (let s1 := countCorrected corrected { s with spine := { s.spine with scrubUs := us } }
     (List.range corrected).foldl (fun t _ => raise 69 0xFFFF 0xFFFFFFFF t) s1)

/-- Marks the ring entry of a line as holding an uncorrectable word. DESIGN CHOICE (unsafe, log 112). -/
def spoilLine (k line : Nat) (x : SrcSlot) : SrcSlot :=
  let mark (e : RingEntry) : RingEntry := if e.k = k ∧ e.line = line then { e with bad := true } else e
  { x with ring := x.ring.map mark, oldRing := x.oldRing.map mark }

/-- An uncorrectable fault of the event system (R518): ERR_N at once, EV1265, and the reactions of the ROM from then on. -/
def eventBad (inj : Bool) (e : Nat) (s : State) : State :=
  let ev :=
    { s.ev with
      romMode := true, errn := true, errnSince := if s.ev.errn then s.ev.errnSince else now s }
  raiseInj inj 1265 e 0 { s with ev := ev }

/-- A fault of an element, or an event occurrence; `inj` marks one made by EVT_INJECT (R526). A lost vote stops a holder's
renewals (R454). An uncorrectable entry of the event log reads as a record of EV1265 with a count of 1, the rest of which is
the entry's (R518). The ANC of a line with an uncorrectable word is not output, and a black line with one is output as black
and missed (R45, Table 02.11); the slot that EV0066 names for a black line is 0xFFFF. DESIGN CHOICE (unsafe, log 162).
DESIGN CHOICE (unsafe, log 112). -/
def hwFault (inj : Bool) (f : HwFault) (s : State) : State :=
  match f with
  | .voted cls copy =>
    raiseInj inj 64 cls copy
      { s with spine := { s.spine with voteCorrections := satInc s.spine.voteCorrections } }
  | .voteLost cls =>
    raiseInj inj 65 cls 0 (if s.twin.role.holds then setTwin (fun x => { x with stopped := true }) s else s)
  | .essence slot d _ line =>
    raiseInj inj 69 slot line
      (countCorrected 1
        (setDst d (fun x => { x with corrected := satInc x.corrected })
          (setSrc slot (fun x => { x with corrected := satInc x.corrected }) s)))
  | .essenceBad slot _ k line => setSrc slot (spoilLine k line) s
  | .rest slot line => raiseInj inj 69 slot line (countCorrected 1 s)
  | .grant slot => raiseInj inj 69 slot 0xFFFFFFFF (countCorrected 1 s)
  | .grantBad slot =>
    raiseInj inj 68 slot 0
      { s with spine := { s.spine with grantBad := mset (fun _ => false) s.spine.grantBad slot true } }
  | .fallbackBad pen j =>
    raiseInj inj 68 (qRd s.quire.active fPens (40 * pen + 8 + 4 * j + 2) 2) 0
      { s with spine := { s.spine with fallbackBad := mset (fun _ => false) s.spine.fallbackBad (8 * pen + j) true } }
  | .ancBad slot k line =>
    let drop (es : List AncEntry) : List AncEntry :=
      es.map fun e => if e.k = k then { e with packets := e.packets.filter fun p => decide (p.line ≠ line) } else e
    let t := setSrc slot (fun x =>
      { x with anc := drop x.anc, oldAnc := drop x.oldAnc, uncorrectable := satInc x.uncorrectable }) s
    raiseInj inj 66 slot line { t with spine := { t.spine with codeUncorrectable := satInc t.spine.codeUncorrectable } }
  | .blackBad d line =>
    let t := setDst d (fun x =>
      { x with missNow := true, misses := satInc x.misses, uncorrectable := satInc x.uncorrectable }) s
    raiseInj inj 66 0xFFFF line { t with spine := { t.spine with codeUncorrectable := satInc t.spine.codeUncorrectable } }
  | .evtFixed e => raiseInj inj 1264 e 0 s
  | .evtBad e => eventBad inj e s
  | .logBad e n =>
    let lost (r : EvRec) : EvRec := if r.serial.toNat = n then { r with source := 1265, count := 1 } else r
    let t := eventBad inj e s
    { t with ev := { t.ev with log := t.ev.log.map lost } }
  | .source src inst detail => if src ∈ namedSources then raiseInj inj src inst detail s else s
  | .unfinished opcode port seq code =>
    match s.cmds.deferred.find? fun w => decide (w.opcode = opcode ∧ w.req.port = port ∧ w.req.seq = seq), catalogue opcode with
    | some w, some row =>
      concludeLater row w.req { st := raiseInj inj 2 port (0xFF00 + code) s, status := 0xFF00 + code, detail := 2 }
    | _, _ => s

/-! ### SPN commands -/

/-- Whether a pen port may act on an object of a pen; every other port may. -/
def owns (r : Req) (pen : Nat) : Bool := !isPen r.port || decide (r.port = pen)

/-- Records of a range, each filled with 0xFF after its index where the caller may not read it
(R110). -/
def rangeRecords (first count : Nat) (may : Nat → Bool) (rec_ : Nat → Bytes) : Bytes :=
  (List.range count).flatMap fun j =>
    let i := first + j
    let b := rec_ i
    if may i then b else b.take 2 ++ ffs (b.length - 2)

/-- The destination record of SPN_ROUTE_READ (Table 02.15). -/
def destRecord (s : State) (d : Nat) : Bytes :=
  let q := inForce s d
  let x := dstSlot s d
  le 2 d ++ le 2 (dstRoute q d) ++ le 2 (if x.transit then 0xFFFF else x.shown) ++ le 1 (dstPen q d) ++
    le 1 (x.display + 16 * b2n x.lineMiss) ++ le 2 (dstFormat q d) ++ le 2 (pendingFor s kRoute d) ++
    zeros 4

/-- SPN_ROUTE_READ (R54). -/
def execSpnRouteRead (r : Req) (s : State) : Host.Outcome State Fault Refusal :=
  .next (command 0x0402
    (fun r s => needLen 4 r s fun _ =>
      let first := rd r.params 0 2
      let n := rd r.params 2 2
      needForm [(decide (first < 1536), 0), (decide (1 ≤ n ∧ first + n ≤ 1536), 2)] s fun _ =>
        okay s (rangeRecords first n (fun d => owns r (dstPen (inForce s d) d)) (destRecord s))) r s)

/-- Destinations now showing a source (Table 02.17). -/
def readersOf (s : State) (i : Nat) : Nat :=
  (slotRange.filter fun d => decide ((dstSlot s d).shown = i) && !(dstSlot s d).transit).length

/-- The source record of SPN_SOURCE_STATUS (Table 02.17). DESIGN CHOICE (unsafe, log 190). -/
def sourceRecord (s : State) (i : Nat) : Bytes :=
  let q := s.quire.active
  let x := srcSlot s i
  le 2 i ++ le 1 x.state.code ++ le 1 (srcPen q i) ++ le 2 (srcFormat q i) ++ le 2 x.measured ++
    leI 4 (nsOfInt x.fullMin) ++ leI 4 (nsOfInt x.fullMax) ++ le 2 (srcWindow q i) ++
    le 2 (srcGranules q i) ++ le 4 (readersOf s i)

/-- SPN_SOURCE_STATUS (R55): a pen reads its own sources and those granted to it (R110). -/
def execSpnSourceStatus (r : Req) (s : State) : Host.Outcome State Fault Refusal :=
  .next (command 0x0403
    (fun r s => needLen 4 r s fun _ =>
      let first := rd r.params 0 2
      let n := rd r.params 2 2
      let q := s.quire.active
      needForm [(decide (first < 1536), 0), (decide (1 ≤ n ∧ first + n ≤ 1536), 2)] s fun _ =>
        okay s (rangeRecords first n (fun i => owns r (srcPen q i) || granted q i r.port)
          (sourceRecord s))) r s)

/-- Applies an operation of SPN_GRANT to one byte of a mask (Table 02.18). -/
def grantByte (op : Nat) (old new : Byte) : Byte :=
  if op = 1 then old ||| new else if op = 2 then old &&& ~~~new else new

/-- Writes a grant change into a quire (R47, R56). DEDUCED (unsafe, log 26). -/
def grantQuire (i op : Nat) (mask : Bytes) (q : Quire) : Quire :=
  qWrite q fGrants (32 * i)
    ((List.range 32).map fun j => grantByte op (qByte q fGrants (32 * i + j)) (mask.getD j 0#8))

/-- A grant change takes effect (R49): in the active quire, and in the old one at the destinations
that have not yet taken a swap under way. A rewritten mask is whole again. -/
def applyGrant (i op : Nat) (mask : Bytes) (s : State) : State :=
  let sw := s.quire.swapping.map fun w => { w with old := grantQuire i op mask w.old }
  let qs := { s.quire with active := grantQuire i op mask s.quire.active, swapping := sw }
  let sp :=
    if op = 3 then { s.spine with grantBad := mset (fun _ => false) s.spine.grantBad i false }
    else s.spine
  { s with quire := qs, spine := sp }

/-- SPN_GRANT (R56): now, or as a GRANT event at its time. -/
def execSpnGrant (r : Req) (s : State) : Host.Outcome State Fault Refusal :=
  .next (command 0x0404
    (fun r s => needLen 0x30 r s fun _ =>
      let i := rd r.params 0 2
      let op := rd r.params 2 1
      let t := rd r.params 8 8
      let mask := slice r.params 0x10 32
      needForm
        [(decide (i < 1536), 0), (decide (1 ≤ op ∧ op ≤ 3), 2), (isZero r.params 3 1, 3),
          (isZero r.params 4 4, 4), (isScheduled r || decide (t = 0), 8)] s fun _ =>
        if ¬ owns r (srcPen s.quire.active i) then refuse s stNotOwner 0
        else
          match timeCheck r s t 8 with
          | some (st, d) => refuseTimed s 1 st d
          | none =>
            if isScheduled r then
              if queueFull s 1 then refuse s stNoCapacity 0
              else
                let e := { mkEvent r s kGrant i t 0 0 mask with op := op }
                { st := enqueue e s, status := stAccepted }
            else okay (countChange (applyGrant i op mask s)) []) r s)

/-- SPN_FALLBACK (R50, R57): one entry of a pen's fallback table, which is whole again once written. DEDUCED (unsafe, log
26). DEDUCED (unsafe, log 26). -/
def execSpnFallback (r : Req) (s : State) : Host.Outcome State Fault Refusal :=
  .next (command 0x0405
    (fun r s => needLen 8 r s fun _ =>
      let pen := rd r.params 0 1
      let j := rd r.params 1 1
      let f := rd r.params 2 2
      let src := rd r.params 4 2
      let q := s.quire.active
      needForm
        [(decide (j < 8), 1), (decide (src = 0xFFFF) || rasterFormat f, 2),
          (decide (src < 1536 ∨ src = 0xFFFF), 4), (isZero r.params 6 2, 6)] s fun _ =>
        if ¬ owns r pen ∨ (src ≠ 0xFFFF ∧ srcPen q src ≠ pen) then refuse s stNotOwner 0
        else
          let twice := (List.range 8).any fun m =>
            decide (m ≠ j ∧ qRd q fPens (40 * pen + 8 + 4 * m) 2 = f ∧
              qRd q fPens (40 * pen + 8 + 4 * m + 2) 2 ≠ 0xFFFF)
          if src ≠ 0xFFFF ∧ twice then refuse s stBadParam 0xFFFF
          else
            let bytes := le 2 (if src = 0xFFFF then 0 else f) ++ le 2 src
            let put (x : Quire) : Quire := qWrite x fPens (40 * pen + 8 + 4 * j) bytes
            let sw := s.quire.swapping.map fun w => { w with old := put w.old }
            let qs := { s.quire with active := put q, swapping := sw }
            let sp := { s.spine with fallbackBad := mset (fun _ => false) s.spine.fallbackBad (8 * pen + j) false }
            okay (countChange { s with quire := qs, spine := sp }) []) r s)

/-- Frame synchronisers that now capture from a source (Table 02.20, R253). -/
def capturesOf (s : State) (i : Nat) : Nat :=
  ((readersSync s i).filter fun y => decide (1 ≤ (syncAt s y).state ∧ (syncAt s y).state ≤ 3)).length

/-- The counter record of SPN_COUNTERS (Table 02.20). -/
def spnCounters (s : State) (kind i : Nat) : Bytes :=
  let c (x : U32) : Bytes := le 4 x.toNat
  le 2 i ++ zeros 2 ++
    (if kind = 0 then
      let x := srcSlot s i
      c x.frames ++ c x.changes ++ c x.outFrames ++ c x.ancDropped ++ c x.corrected ++
        c x.uncorrectable ++ le 4 (capturesOf s i)
    else
      let x := dstSlot s i
      c x.frames ++ c x.misses ++ c x.switches ++ c x.lossFrames ++ c x.revokedFrames ++
        c x.corrected ++ c x.uncorrectable)

/-- Clears the counters of a source slot; the captures active are no count. -/
def clearSrc (x : SrcSlot) : SrcSlot :=
  { x with frames := 0, changes := 0, outFrames := 0, ancDropped := 0, corrected := 0, uncorrectable := 0 }

/-- Clears the counters of a destination slot. -/
def clearDst (x : DstSlot) : DstSlot :=
  { x with frames := 0, misses := 0, switches := 0, lossFrames := 0, revokedFrames := 0, corrected := 0,
           uncorrectable := 0 }

/-- SPN_COUNTERS (R58): with the clear option, a clearing read. -/
def execSpnCounters (r : Req) (s : State) : Host.Outcome State Fault Refusal :=
  .next (command 0x0406
    (fun r s => needLen 8 r s fun _ =>
      let kind := rd r.params 0 1
      let clear := bit (rd r.params 1 1) 0
      let first := rd r.params 2 2
      let n := rd r.params 4 2
      let q := s.quire.active
      let may (i : Nat) : Bool :=
        if kind = 0 then owns r (srcPen q i) else owns r (dstPen (inForce s i) i)
      needForm
        [(decide (kind ≤ 1), 0), (decide (rd r.params 1 1 ≤ 1), 1), (decide (first < 1536), 2),
          (decide (1 ≤ n ∧ n ≤ 256 ∧ first + n ≤ 1536), 4), (isZero r.params 6 2, 6)] s fun _ =>
        let wipe (t : State) (j : Nat) : State :=
          let i := first + j
          if ¬ may i then t else if kind = 0 then setSrc i clearSrc t else setDst i clearDst t
        { st := if clear then (List.range n).foldl wipe s else s
          params := rangeRecords first n may (spnCounters s kind)
          clearing := clear }) r s)

/-- SPN_STORE (R59): always a clearing read. The reservations are whole bit/s, rounded down. DESIGN CHOICE (unsafe,
log 189). -/
def execSpnStore (r : Req) (s : State) : Host.Outcome State Fault Refusal :=
  .next (command 0x0407
    (fun r s => needLen 0 r s fun _ =>
      let q := s.quire.active
      let sp := s.spine
      { st := { s with
          spine := { sp with voteCorrections := 0, codeCorrections := 0, codeUncorrectable := 0 } }
        params := le 4 32512 ++ le 4 (granulesUsed q) ++ le 8 (writeReserved q / 2002) ++
          le 8 (readReserved q / 2002) ++ le 4 sp.scrubUs ++ le 4 sp.voteCorrections.toNat ++
          le 4 sp.codeCorrections.toNat ++ le 4 sp.codeUncorrectable.toNat
        clearing := true }) r s)

/-- One entry of SPN_ROUTE checked at receipt: its status and the step of R594 at which it failed. -/
def routeEntryCheck (r : Req) (s : State) (e : Bytes) : Nat × Nat :=
  let d := rd e 0 2
  let src := rd e 2 2
  let q := inForce s d
  if ¬ (d < 1536 ∧ (src < 1536 ∨ src = 0xFFFF) ∧ isZero e 4 4) then (stBadParam, 2)
  else if ¬ owns r (dstPen q d) ∨
      (isPen r.port ∧ src ≠ 0xFFFF ∧ ¬ permitted s q (dstPen q d) src) then (stNotOwner, 3)
  else if src ≠ 0xFFFF ∧ ¬ routeValid q src d then (stBadParam, 6)
  else if targetFull s kRoute d then (stBusy, 7)
  else (stOk, 8)

/-- Checks and enters the entries of SPN_ROUTE in order: what each check found, and the state with the
passing entries entered as ROUTE events (R53). DEDUCED (unsafe, log 37). -/
def routeEntries (r : Req) (t : Nat) : List Bytes → Nat → State → List (Nat × Nat) × State
  | [], _, s => ([], s)
  | e :: rest, i, s =>
    let st := routeEntryCheck r s e
    let s1 :=
      if st.1 = stOk then
        enqueue (mkEvent r s kRoute (rd e 0 2) t 0 i (slice e 2 2 ++ zeros 30)) s
      else s
    let p := routeEntries r t rest (i + 1) s1
    (st :: p.1, p.2)

/-- The failure that refuses an SPN_ROUTE whole under all_or_nothing, among those of steps `lo` to `hi` of R594:
the earliest step's, and in it the first entry's (R124): its status and index. DEDUCED (unsafe, log 37). -/
def wholeRefusal (lo hi : Nat) (l : List (Nat × Nat)) : Option (Nat × Nat) :=
  ((List.range 6).map (· + 2)).findSome? fun k =>
    if lo ≤ k ∧ k ≤ hi then (l.zipIdx.find? fun x => decide (x.1.2 = k)).map fun x => (x.1.1, x.2) else none

/-- The entries of an SPN_ROUTE command. -/
def routeList (r : Req) : List Bytes :=
  (List.range (rd r.params 8 2)).map fun i => slice r.params (0x10 + 8 * i) 8

/-- SPN_ROUTE (R53): entries become ROUTE events; scheduled, the reply is ACCEPTED; unscheduled, it
comes when every entry has been applied or refused. DEDUCED (unsafe, log 37). -/
def execSpnRoute (r : Req) (s : State) : Host.Outcome State Fault Refusal :=
  .next (command 0x0401
    (fun r s =>
      let n := rd r.params 8 2
      let t := rd r.params 0 8
      if r.params.length < 16 ∨ r.params.length ≠ 16 + 8 * n then refuse s stBadLength 0xFFFF
      else
        needForm
          [(isScheduled r || decide (t = 0), 0), (decide (1 ≤ n ∧ n ≤ 256), 8),
            (decide (rd r.params 0xA 2 ≤ 1), 0xA), (isZero r.params 0xC 4, 0xC)] s fun _ =>
          let p := routeEntries r t (routeList r) 0 s
          let sts := p.1.map (·.1)
          let whole (lo hi : Nat) : Option (Nat × Nat) :=
            if bit (rd r.params 0xA 2) 0 then wholeRefusal lo hi p.1 else none
          match whole 2 3 with
          | some (st, i) => refuse s st i
          | none =>
            match timeCheck r s t 0 with
            | some (st, d) => refuseTimed s n st d
            | none =>
              match whole 6 7 with
              | some (st, i) => refuse s st i
              | none =>
                if queueFull s (sts.filter (· = stOk)).length then refuse s stNoCapacity 0
                else if isScheduled r then { st := p.2, status := stAccepted }
                else if sts.all (· ≠ stOk) then
                  okay s (le 2 n ++ zeros 6 ++
                    ((routeList r).zip sts).flatMap fun x => slice x.1 0 2 ++ le 2 x.2 ++ zeros 12)
                else { st := p.2, later := some sts }) r s)

end Sys2Proof.Machine
end

