-- ==== Sys2Proof/Machine/Lanes.lean ====
section
/-! DEFINITION. Media lanes (chapter 05): receivers, transmitters, patterns, and the LAN commands. -/

namespace Sys2Proof.Machine

/-! ### The LANES folio (Table 05.5) -/

/-- rx_mode. -/
def lnRxMode (q : Quire) (l : Nat) : Nat := lnByte q l 0

/-- tx_mode. -/
def lnTxMode (q : Quire) (l : Nat) : Nat := lnByte q l 1

/-- rx_rate. -/
def lnRxRate (q : Quire) (l : Nat) : Nat := lnByte q l 2

/-- tx_rate. -/
def lnTxRate (q : Quire) (l : Nat) : Nat := lnByte q l 3

/-- flags. -/
def lnFlags (q : Quire) (l : Nat) : Nat := lnByte q l 7

/-! An SDI receive chain is numbered by its media lane, or, for an ST 2022-6 receive flow (R179), by 256
plus the flow's index. -/

/-- A field of the FLOWS entry of the receive flow behind SDI chain `l`. -/
def chainField (q : Quire) (l o k : Nat) : Nat :=
  match qKeyed q fFlows (l - 256) with
  | some e => rd e o k
  | none => 0

/-- deemb_base. -/
def lnDeembBase (q : Quire) (l : Nat) : Nat :=
  if l < 256 then qRd q fLanes (32 * l + 8) 2 else chainField q l 0x38 2

/-- deemb_count, zero unless the de-embed flag is set. -/
def lnDeembCount (q : Quire) (l : Nat) : Nat :=
  if 256 ≤ l then chainField q l 0x3A 1 else if bit (lnFlags q l) 2 then lnByte q l 10 else 0

/-- emb_count, zero unless the embed flag is set. -/
def lnEmbCount (q : Quire) (l : Nat) : Nat := if bit (lnFlags q l) 3 then lnByte q l 11 else 0

/-- emb_base. -/
def lnEmbBase (q : Quire) (l : Nat) : Nat := qRd q fLanes (32 * l + 12) 2

/-- The line rate codes of SDI (Table 05.1). -/
def sdiCode (c : Nat) : Bool :=
  decide (c ∈ [0x01, 0x02, 0x12, 0x03, 0x13, 0x04, 0x14, 0x05, 0x15, 0x06, 0x16])

/-- The line rate codes of Ethernet (Table 05.1). -/
def ethCode (c : Nat) : Bool := decide (c = 0x21 ∨ c = 0x22)

/-- The line rate in bit/s times 1001 (Table 05.1). -/
def lineRate1001 (c : Nat) : Nat :=
  match c with
  | 0x01 => 270000000 * 1001
  | 0x02 => 1485000000 * 1001 | 0x12 => 1485000000 * 1000
  | 0x03 => 2970000000 * 1001 | 0x13 => 2970000000 * 1000
  | 0x04 => 5940000000 * 1001 | 0x14 => 5940000000 * 1000
  | 0x05 => 11880000000 * 1001 | 0x15 => 11880000000 * 1000
  | 0x06 => 23760000000 * 1001 | 0x16 => 23760000000 * 1000
  | 0x21 => 10312500000 * 1001
  | 0x22 => 25781250000 * 1001
  | _ => 0

/-- The order in which SDI_AUTO tries the codes (R133). -/
def huntOrder : List Nat := [0x05, 0x15, 0x03, 0x13, 0x02, 0x12, 0x04, 0x14, 0x06, 0x16, 0x01]

/-- The code after `c` in the order of R133. -/
def huntNext (c : Nat) : Nat :=
  match huntOrder.idxOf? c with
  | some i => huntOrder.getD ((i + 1) % 11) 0x05
  | none => 0x05

/-- The source slot a lane's gang writes. -/
def laneSource (s : State) (l : Nat) : Option Nat :=
  if 256 ≤ l then slotBound s.quire.active false 2 0 (l - 256)
  else slotBound s.quire.active false 1 0 (laneLeader s.quire.active l)

/-- The destination slot a lane's gang reads. -/
def laneDest (s : State) (l : Nat) : Option Nat :=
  slotBound s.quire.active true 1 0 (laneLeader s.quire.active l)

/-- The quire whose de-embed fields are in force on a chain: that of its source slot (R149, R173). -/
def chainQuire (s : State) (l : Nat) : Quire :=
  match laneSource s l with
  | some i => inForceSrc s i
  | none => s.quire.active

/-- The quire whose embed fields, flags and black_colour are in force on a lane: that of its destination slot (R149). -/
def txQuire (s : State) (l : Nat) : Quire :=
  match laneDest s l with
  | some d => inForce s d
  | none => s.quire.active

/-! ### Receiver -/

/-- The code at which SDI_AUTO starts to hunt: the SDI code last locked to (R133). -/
def huntStart (x : Lane) : Nat := if sdiCode x.lastLocked then x.lastLocked else 0x05

/-- What a receiver forgets when it leaves STREAM and ALIGNED: what it measured of the signal it has lost. -/
def rxClear (x : Lane) : Lane :=
  { x with
    deskew := none, fifo := [], primed := false, groupSeen := [], pidSeen := false, pidHave := false
    measured := 0, levelB := false, edhFlags := false }

/-- A receiver is powered down; with its checker on it stays in TEST (R154). -/
def rxStop (x : Lane) : Lane :=
  { rxClear x with rx := if x.chk then 5 else 0, rxRate := if x.chk then x.rxRate else 0 }

/-- A transmitter stops; with its generator on it stays in TEST (R154). -/
def txStop (x : Lane) : Lane :=
  { x with tx := if x.gen then 5 else 0, txRate := if x.gen then x.txRate else 0, relocked := false }

/-- The receiver of a lane at the moment it takes its folio's setting (R132, R133, R150): off, or hunting at
its code. -/
def rxStart (q : Quire) (l t : Nat) (x : Lane) : Lane :=
  let mode := lnRxMode q l
  if x.chk then x
  else
    { rxClear x with
      rx := if mode = 0 then 0 else 1
      rxRate := 0
      hunt := if mode = 2 then huntStart x else lnRxRate q l
      huntSince := t }

/-- The transmitter of a lane at the moment it takes its folio's setting. -/
def txStart (q : Quire) (l : Nat) (x : Lane) : Lane :=
  if x.gen then x else { x with tx := if lnTxMode q l = 0 then 0 else 2, txRate := lnTxRate q l }

/-- RX_LOCK (R132, R133): the clock is recovered at the code tried. -/
def execRxLock (lane : Nat) (s : State) : Host.Outcome State Fault Refusal :=
  .next
    (if (laneAt s lane).rx = 1 then
      setLane lane (fun x => { x with rx := 2, rxRate := x.hunt, lastLocked := x.hunt }) s
    else s)

/-- HUNT_DWELL_EXPIRY (R133): after 2 ms on a code an SDI_AUTO receiver tries the next. -/
def execHuntDwellExpiry (lane : Nat) (s : State) : Host.Outcome State Fault Refusal :=
  .next
    (let x := laneAt s lane
     if x.rx = 1 ∧ lnRxMode s.quire.active lane = 2 ∧ x.huntSince + 2 * ticksPerMs ≤ now s then
       setLane lane (fun x => { x with hunt := huntNext x.hunt, huntSince := now s }) s
     else s)

/-- RX_ALIGN (R131, R132, R135): TRS alignment is found, and, with a format `fmt` stable, STREAM is
reached; `level` is 1 for a level B-DL stream, 2 for level B dual-stream, which measures 0x0000 and puts
the slot in WRONG_FORMAT (R130). For an Ethernet lane it is block lock (R152). A gang reaches STREAM only
once deskewed. -/
def execRxAlign (lane fmt level : Nat) (s : State) : Host.Outcome State Fault Refusal :=
  .next
    (let q := s.quire.active
     let x := laneAt s lane
     let ready := decide (gangSize q (laneLeader q lane) = 1) ||
       (laneAt s (laneLeader q lane)).deskew.isSome
     if x.rx < 2 ∨ 4 < x.rx then s
     else if level = 2 then
       let s1 := setLane lane (fun x => { x with rx := 3, measured := 0, levelB := true }) s
       match laneSource s lane with
       | some i =>
         if srcEnabled q i then srcEnter i .wrongFormat (setSrc i (fun y => { y with measured := 0 }) s1)
         else s1
       | none => s1
     else if fmt = 0 ∨ ¬ ready then setLane lane (fun x => { x with rx := 3 }) s
     else
       setLane lane (fun x => { x with rx := 4, measured := fmt, levelB := decide (level = 1) }) s)

/-- Block reset of a media lane (Table 17.6): powered down, which ends a test of R154, its source LOST, and brought up again
under the governor. DEDUCED (unsafe, log 171). -/
def laneReset (lane : Nat) (s : State) : State :=
  let s1 := setLane lane (fun x =>
    { txStop (rxStop { x with gen := false, chk := false, locked := false }) with txAudio := [] }) s
  addLoad ⟨3, lane, 0, 1, now s⟩ (match laneSource s lane with
    | some i => srcLost i s1
    | none => s1)

/-- A receiver falls below ALIGNED (R132): its state, EV0224, its count. -/
def rxDrop (st : Nat) (t : Nat) (q : Quire) (lane : Nat) (s : State) : State :=
  raiseIn 3 224 lane st (laneReset lane)
    (setLane lane (fun x =>
      if st = 2 then { rxClear x with rx := 2 }
      else
        { rxClear x with
          rx := 1, rxRate := 0, huntSince := t
          hunt := if lnRxMode q lane = 2 then huntStart x else lnRxRate q lane })
      (setLane (laneLeader q lane) (fun x => { x with counts := cAdd x.counts 8 1 }) s))

/-- The links of a gang other than `lane` that are aligned fall below ALIGNED with it (R141). -/
def gangDrop (lane : Nat) (s : State) : State :=
  ((gangLanes s.quire.active lane).filter fun l =>
    decide (l ≠ lane ∧ 3 ≤ (laneAt s l).rx ∧ (laneAt s l).rx ≤ 4)).foldl
    (fun t l => rxDrop 2 (now s) s.quire.active l t) s

/-- The source slot a lane's gang writes enters LOST (R132). -/
def laneLost (lane : Nat) (s : State) : State :=
  match laneSource s lane with
  | some i => srcLost i s
  | none => s

/-- GANG_DESKEW (R141): every link is aligned with greatest skew `skewNs`. Up to 8 µs the deskew delay is
fixed at it, rounded up to 100 ns; above, the whole gang has lost lock. DESIGN CHOICE (unsafe, log 52). -/
def execGangDeskew (lane skewNs : Nat) (s : State) : Host.Outcome State Fault Refusal :=
  .next
    (let q := s.quire.active
     let g := laneLeader q lane
     if gangSize q g = 1 ∨ (gangLanes q g).any (fun l => (laneAt s l).rx < 3 || 4 < (laneAt s l).rx) then s
     else if skewNs ≤ 8000 then
       if (laneAt s g).deskew.isSome then s
       else setLane g (fun x => { x with deskew := some (cdiv skewNs 100 * 100) }) s
     else
       laneLost g ((gangLanes q g).foldl (fun t l => rxDrop 2 (now s) q l t) s))

/-! ### Ancillary data (R136, R139) -/

/-- The parity of an ST 291 word: bit 8 even parity over bits [7:0], bit 9 its inverse. PRESUMED (unsafe, log 43). -/
def ancParity (w : Nat) : Bool :=
  let ones := ((List.range 8).filter fun b => bit w b).length
  decide (bit w 8 = decide (ones % 2 = 1)) && decide (bit w 9 = !bit w 8)

/-- The checksum of an ST 291 packet: the sum of the nine low bits of the words before it, bit 9 the
inverse of bit 8. PRESUMED (unsafe, log 43). -/
def ancChecksum (ws : List Nat) : Bool :=
  let sum := ((ws.dropLast).map (· % 512)).sum % 512
  let cs := ws.getLastD 0
  decide (cs % 512 = sum) && decide (bit cs 9 = !bit cs 8)

/-- The checks of R136: parity of DID, SDID or DBN, and DC, the length DC states, and the checksum. -/
def ancGood (p : AncPkt) : Bool :=
  decide (4 ≤ p.words.length) && (p.words.take 3).all ancParity &&
    decide (p.words.length = 4 + p.words.getD 2 0 % 256) && ancChecksum p.words

/-- The DID of a packet. -/
def ancDid (p : AncPkt) : Nat := p.words.getD 0 0 % 256

/-- The audio group, from 1, whose data or control packets carry a DID (R136), 0 if none. PRESUMED (unsafe, log 43). -/
def ancGroup (did : Nat) : Nat :=
  if 0xE4 ≤ did ∧ did ≤ 0xE7 then 0xE8 - did
  else if 0xE0 ≤ did ∧ did ≤ 0xE3 then 0xE4 - did
  else if 0xA4 ≤ did ∧ did ≤ 0xA7 then 0xA8 - did + 4
  else if 0xA0 ≤ did ∧ did ≤ 0xA3 then 0xA4 - did + 4
  else 0

/-- Whether a packet is left out of the store (R136): audio of a group that the lane de-embeds, on a gang link 1 alone
(R137), or the SD EDH packet. -/
def ancLeftOut (q : Quire) (lane rate : Nat) (p : AncPkt) : Bool :=
  let g := ancGroup (ancDid p)
  (decide (1 ≤ g) && decide (laneLeader q lane = lane ∧ 4 * g ≤ lnDeembCount q lane) && decide (rate ≠ 0x01)) ||
    (decide (ancDid p = 0xF4) && decide (rate = 0x01))

/-- Bytes a packet takes of its ANC entry: its 10-bit words, packed. DESIGN CHOICE (unsafe, log 44). -/
def ancBytes (p : AncPkt) : Nat := cdiv (10 * p.words.length) 8

/-- The entry of a slot for frame `k`, empty if the other frame of its parity holds it (R28). -/
def ancEntry (x : SrcSlot) (k : Nat) : AncEntry :=
  (x.anc.find? fun e => decide (e.k = k)).getD ⟨k, []⟩

/-- Stores a packet in a slot's entry of frame `k` (R28): dropped and counted where it does not fit.
DEDUCED (unsafe, log 45). -/
def storeAnc (alloc k : Nat) (p : AncPkt) (x : SrcSlot) : SrcSlot :=
  let e := ancEntry x k
  if 4096 * alloc < (e.packets.map ancBytes).sum + ancBytes p then
    { x with ancDropped := satInc x.ancDropped }
  else
    { x with
      anc := (x.anc.filter fun o => decide (o.k % 2 ≠ k % 2)) ++
        [{ e with packets := e.packets ++ [p] }] }

/-- The frame a line of a source belongs to (R28, R31): the frame being written, or, before its first
active line, the frame that follows. DEDUCED (unsafe, log 45). -/
def ancFrame (x : SrcSlot) (f line : Nat) : Nat :=
  if x.frameOpen ∨ lastActive (rasterOf f) < line then x.frameK else x.frameK + 1

/-- A digit group of an ST 12-2 packet: bits [7:4] of user data word `i`, counted from 1. -/
def tcDigit (p : AncPkt) (i : Nat) : Nat := p.words.getD (2 + i) 0 / 16 % 16

/-- The timecode of an ST 12-2 packet, BCD as Table 05.8. PRESUMED (unsafe, log 43). -/
def tcOf (p : AncPkt) : Nat :=
  tcDigit p 1 + 16 * (tcDigit p 3 % 4) + 2 ^ 8 * tcDigit p 5 + 2 ^ 12 * (tcDigit p 7 % 8) +
    2 ^ 16 * tcDigit p 9 + 2 ^ 20 * (tcDigit p 11 % 8) + 2 ^ 24 * tcDigit p 13 +
    2 ^ 28 * (tcDigit p 15 % 4)

/-- DBB1 of an ST 12-2 packet: bit 3 of user data words 1 to 8. -/
def tcKind (p : AncPkt) : Nat :=
  ((List.range 8).map fun i => 2 ^ i * b2n (bit (p.words.getD (3 + i) 0) 3)).sum

/-- What a good packet tells the link it arrived on (R135, R139): the payload ID and the timecode. -/
def laneNotes (p : AncPkt) (x : Lane) : Lane :=
  let did := ancDid p
  let sdid := p.words.getD 1 0 % 256
  if did = 0x41 ∧ sdid = 0x01 then
    { x with
      pidSeen := true, pidHave := true
      payload := (List.range 4).map fun i => BitVec.ofNat 8 (p.words.getD (3 + i) 0) }
  else if did = 0x60 ∧ sdid = 0x60 ∧ tcKind p ≤ 1 then { x with timecode := tcOf p }
  else x

/-- A packet that a receive chain has extracted (R136, R139): checked, noted, and stored with its source. -/
def ancTake (lane : Nat) (pkt : AncPkt) (s : State) : State :=
  let q := s.quire.active
  let x := laneAt s lane
  if x.rx ≠ 4 then s
  else if ¬ ancGood pkt then setLane (laneLeader q lane) (fun y => { y with counts := cAdd y.counts 4 1 }) s
  else
    let s1 := setLane lane (laneNotes pkt) s
    if ancLeftOut (chainQuire s lane) lane x.rxRate pkt then s1
    else
      match laneSource s lane with
      | some i =>
        if srcEnabled q i ∧ 0 < srcAnc q i then
          setSrc i (storeAnc (srcAnc q i) (ancFrame (srcSlot s i) x.measured pkt.line) pkt) s1
        else s1
      | none => s1

/-- ANC_PACKET_RECEIVE (R136, R139). -/
def execAncPacketReceive (lane : Nat) (pkt : AncPkt) (s : State) : Host.Outcome State Fault Refusal :=
  .next (ancTake lane pkt s)

/-! ### Embedded audio (R137, R138) -/

/-- The samples buffered of a group. -/
def groupFifo (x : Lane) (g : Nat) : List (List Int) := mget (fun _ => []) x.fifo g

/-- The fill of a lane's elastic buffer: its longest group. DEDUCED (unsafe, log 46). -/
def laneFill (x : Lane) : Nat := (x.fifo.map fun p => p.2.length).foldl max 0

/-- Takes a packet's samples into the buffer of 64; reading starts once the fill has reached 32. DEDUCED (unsafe, log 46). -/
def fifoTake (t g : Nat) (samples : List (List Int)) (x : Lane) : Lane :=
  let f := mset (fun _ => []) x.fifo g (keepLast 64 (groupFifo x g ++ samples))
  let y :=
    { x with
      fifo := f
      groupSeen := mput x.groupSeen g t
      absent := x.absent.filter (· ≠ g) }
  { y with primed := x.primed || decide (32 ≤ laneFill y) }

/-- Records of the samples a lost packet leaves out: each channel repeats its previous sample. -/
def repeatLast (x : Lane) (g n : Nat) : List (List Int) :=
  List.replicate n ((groupFifo x g).getLast?.getD [0, 0, 0, 0])

/-- A packet of a group on a chain's link (R137); `check` 0 sound, 1 corrected, 2 uncorrectable, 3 foreign (96 kHz or
asynchronous). The sample frames carry four channels each. -/
def deembedTake (lane group check : Nat) (samples : List (List Int)) (s : State) : State :=
  let x := laneAt s lane
  if x.rx ≠ 4 ∨ x.rxRate = 0x01 ∨ laneLeader s.quire.active lane ≠ lane ∨ group = 0 ∨
      lnDeembCount (chainQuire s lane) lane < 4 * group then s
  else if check = 3 then setLane lane (fun y => { y with counts := cAdd y.counts 9 1 }) s
  else
    setLane lane (fun y =>
      let use := if check = 2 then repeatLast y group samples.length else samples
      let z := fifoTake (now s) group use y
      { z with
        counts := if check = 1 then cAdd z.counts 5 1 else if check = 2 then cAdd z.counts 6 1
          else z.counts }) s

/-- AUDIO_PACKET_DEEMBED (R137). -/
def execAudioPacketDeembed (lane group check : Nat) (samples : List (List Int)) (s : State) :
    Host.Outcome State Fault Refusal :=
  .next (deembedTake lane group check samples s)

/-- AUDIO_GROUP_ABSENT (R138): no packet of a de-embedded group for 2 ms. With no group left there is nothing to read, and
the buffer fills afresh when packets return. DEDUCED (unsafe, log 46). -/
def execAudioGroupAbsent (lane group : Nat) (s : State) : Host.Outcome State Fault Refusal :=
  .next
    (let x := laneAt s lane
     let seen := mget (fun _ => 0) x.groupSeen group
     if group = 0 ∨ lnDeembCount (chainQuire s lane) lane < 4 * group ∨ now s < seen + 2 * ticksPerMs ∨
         x.absent.contains group then s
     else
       setLane lane (fun y =>
         let f := y.fifo.filter fun p => decide (p.1 ≠ group)
         { y with absent := y.absent ++ [group], fifo := f, primed := y.primed && !f.isEmpty }) s)

/-- One sample period of a lane's elastic buffer (R138): below 8 one sample is repeated, above 56 one is
dropped, on every channel at once, counted and reported by EV0225. The lane's channels by group, after
the state they leave. DEDUCED (unsafe, log 46). -/
def fifoDrain (lane : Nat) (s : State) : State × List (Nat × List Int) :=
  let x := laneAt s lane
  if ¬ x.primed then (s, [])
  else
    let n := laneFill x
    let heads := x.fifo.map fun p => (p.1, p.2.headD [0, 0, 0, 0])
    if n < 8 then
      (raiseIn 3 225 lane 1 (laneReset lane) (setLane lane (fun y => { y with counts := cAdd y.counts 7 1 }) s), heads)
    else if 56 < n then
      (raiseIn 3 225 lane 2 (laneReset lane)
        (setLane lane (fun y =>
          { y with counts := cAdd y.counts 7 1, fifo := y.fifo.map fun p => (p.1, p.2.drop 2) }) s),
        heads)
    else (setLane lane (fun y => { y with fifo := y.fifo.map fun p => (p.1, p.2.drop 1) }) s, heads)

/-! ### Transmitter (R142 to R147, R151) -/

/-- The clock domain of a transmitter's rate (R375): VID1001 for the rates divided by 1.001, else
VID1000. -/
def txDomain (q : Quire) (lane : Nat) : Nat :=
  let slow (l : Nat) : Bool := decide (lnTxMode q l = 1 ∧ lnTxRate q l / 16 = 1)
  if slow lane || (decide (lnTxRate q lane = 1) && (List.range 4).any fun j => slow (lane / 4 * 4 + j)) then 10 else 9

/-- Whether a transmitter emits (R147, R375, R522): SDI mode, running, its clock family not gated off, with an
enabled destination bound. -/
def txEmits (s : State) (lane : Nat) : Bool :=
  s.ev.fatal.isNone && synthRuns s (txDomain s.quire.active lane) &&
    decide ((laneAt s lane).tx = 2 ∧ lnTxMode s.quire.active lane = 1) &&
    match laneDest s lane with
    | some d => dstEnabled (inForce s d) d
    | none => false

/-- 48 kHz samples in frame `k` of a format: those whose instants, counted from the epoch, fall in it.
DESIGN CHOICE (unsafe, log 47). -/
def frameSamples (f k : Nat) : Nat :=
  let n := (frameRate f).1
  let d := (frameRate f).2
  (k + 1) * 48000 * d / n - k * 48000 * d / n

/-- The samples that line `line` of frame `k` carries (R145): spread as evenly as the lines allow, none on
the line after the switch line. DESIGN CHOICE (unsafe, log 47). -/
def lineSamples (f k line : Nat) : Nat :=
  let skip := switchLine (rasterOf f) + 1
  let m := rasterLines (rasterOf f) - 1
  let n := frameSamples f k
  if line = skip then 0
  else
    let i := if line < skip then line - 1 else line - 2
    (i + 1) * n / m - i * n / m

/-- The number, from the epoch, of the first sample that line `line` of frame `k` carries (R145). DESIGN CHOICE (unsafe, log
47). DESIGN CHOICE (unsafe, log 47). -/
def lineFirst (f k line : Nat) : Nat :=
  let i := if line ≤ switchLine (rasterOf f) + 1 then line - 1 else line - 2
  k * 48000 * (frameRate f).2 / (frameRate f).1 + i * frameSamples f k / (rasterLines (rasterOf f) - 1)

/-- The lines that carry a payload ID. DESIGN CHOICE (safe, log 35). PRESUMED (unsafe, log 43). -/
def payloadLines (r : Nat) : List Nat :=
  match r with
  | 0x01 => [13, 276] | 0x02 => [9, 322] | 0x20 => [10, 572] | 0x21 => [10, 572] | _ => [10]

/-- Whether a packet is an ST 352 payload ID. -/
def isPayloadId (p : AncPkt) : Bool := decide (ancDid p = 0x41 ∧ p.words.getD 1 0 % 256 = 0x01)

/-- The stored packets of a line that an SDI transmitter of `emb` embedded channels re-inserts (R144): all but a payload ID
and audio of the groups it embeds itself. -/
def insertedAnc (emb line : Nat) (ps : List AncPkt) : List AncPkt :=
  ps.filter fun p =>
    let grp := ancGroup (ancDid p)
    decide (p.line = line) && !isPayloadId p && !(decide (1 ≤ grp) && decide (4 * grp ≤ emb))

/-- The ANC packets a transmitter re-inserts on a line (R144): those of the source shown for that frame, line and link. Of a
source received on more links than the output has, the links that exceed them go out on the link of the same place.
DESIGN CHOICE (unsafe, log 172). -/
def txAnc (s : State) (lane d k line : Nat) : List AncPkt :=
  let q := txQuire s lane
  let g := laneLeader q lane
  (insertedAnc (lnEmbCount q g) line (destAnc s d (dstSlot s d).shown k)).filter fun p =>
    decide (p.link % gangSize q g = lane - g)

/-- The colour a payload ID carries (R143): that of the source's payload ID of the frame among `ps`, or 2^32 + `black`, the
black_colour. -/
def colourFrom (black : Nat) (ps : List AncPkt) : Nat :=
  match ps.find? isPayloadId with
  | some p => ((List.range 4).map fun i => 256 ^ i * (p.words.getD (3 + i) 0 % 256)).sum
  | none => 2 ^ 32 + black

/-- The colour a transmitter's payload ID carries (R143), with the black_colour of the leader's entry. -/
def txColour (s : State) (lane d k : Nat) : Nat :=
  let q := txQuire s lane
  colourFrom (lnByte q (laneLeader q lane) 14) (destAnc s d (dstSlot s d).shown k)

/-- An ST 291 word of an eight-bit value: even parity in bit 8, its inverse in bit 9. PRESUMED (unsafe, log 43). -/
def ancWord (v : Nat) : Nat :=
  let odd := ((List.range 8).filter fun b => bit v b).length % 2
  v % 256 + (if odd = 1 then 256 else 512)

/-- An ST 291 packet of its DID, SDID or DBN, and user data words, with its checksum. PRESUMED (unsafe, log 43). -/
def ancBuild (line did sdid : Nat) (udw : List Nat) : AncPkt :=
  let body := [ancWord did, ancWord sdid, ancWord udw.length] ++ udw
  let sum := (body.map (· % 512)).sum % 512
  ⟨line, true, 0, 0, body ++ [sum + if 256 ≤ sum then 0 else 512]⟩

/-- The lines that carry an EDH packet (R142), with the line of the field each closes. PRESUMED (unsafe, log 173). -/
def edhLines (r : Nat) : List Nat := if r = 0x01 then [9, 272] else if r = 0x02 then [5, 318] else []

/-- The EDH packet of a field (R142): its two checkwords computed afresh, here free values, and its error flags zero.
PRESUMED (unsafe, log 173). -/
def edhPacket (lane k line : Nat) : AncPkt :=
  let crc (n : Nat) : List Nat :=
    let c := Config.edhCheck lane k line n % 65536
    [ancWord (c % 64 * 4), ancWord (c / 64 % 64 * 4), ancWord (c / 4096 % 16 * 4 + 128)]
  ancBuild line 0xF4 0 (crc 0 ++ crc 1 ++ List.replicate 10 (ancWord 0))

/-- The lines on which audio control packets go out (R145): the line before the payload ID's. PRESUMED (unsafe, log 174). -/
def controlLines (r : Nat) : List Nat := (payloadLines r).map (· - 1)

/-- The audio frame number of frame `k` (R145): its place, from 1, in the sequence of frames that holds a whole number of
samples: five at 59.94 Hz, one at 50 Hz. PRESUMED (unsafe, log 174). -/
def audioFrame (f k : Nat) : Nat :=
  let n := (frameRate f).1
  k % (n / Nat.gcd n (48000 * (frameRate f).2)) + 1

/-- The audio control packet of a group (R145): its frame number, 48 kHz synchronous, four active channels.
PRESUMED (unsafe, log 174). -/
def controlPacket (f k line group : Nat) : AncPkt :=
  let did := if group ≤ 4 then 0xE4 - group else 0xA8 - group
  ancBuild line did 0 ([audioFrame f k, 0, 15].map ancWord ++ List.replicate 8 (ancWord 0))

/-- The control packets of `emb` embedded channels on a line (R145). -/
def controlAnc (emb f k line : Nat) : List AncPkt :=
  if (controlLines (rasterOf f)).contains line then (List.range (emb / 4)).map fun g => controlPacket f k line (g + 1) else []

/-- The packets of a transmitter's own on a line (R142, R145): the EDH packet on SD with the edh flag, and the control packets
of the groups it embeds. -/
def ownAnc (q : Quire) (lane f k line : Nat) : List AncPkt :=
  (if lnTxRate q lane = 1 ∧ bit (lnFlags q lane) 4 ∧ (edhLines (rasterOf f)).contains line then [edhPacket lane k line] else []) ++
    controlAnc (lnEmbCount q lane) f k line

/-- The format a lane emits and whether it is black of a format that its destination has yet to take: from the relock to the
destination's own item (R151). -/
def txFormat (s : State) (lane d : Nat) : Nat × Bool :=
  if (laneAt s lane).relocked ∧ formatPending s d then (dstFormat s.quire.target d, true)
  else (dstFormat (inForce s d) d, false)

/-- TX_LINE_START (R142 to R146, R151): a transmitter emits raster line `line` of frame `k`. Of the packets that
are to be re-inserted, `dropped` do not fit the line's space; each is counted on the gang's leader (R157). -/
def execTxLineStart (lane k line dropped : Nat) (s : State) : Host.Outcome State Fault Refusal :=
  .next
    (match laneDest s lane with
     | none => s
     | some d =>
       let q := txQuire s lane
       let g := laneLeader q lane
       let nf := txFormat s lane d
       let f := nf.1
       if ¬ txEmits s lane ∨ ¬ (1 ≤ line ∧ line ≤ rasterLines (rasterOf f)) then s
       else
         let r := if nf.2 then ⟨true, false, false, blackLine f⟩ else lineRead s d k line
         let anc := if nf.2 then [] else txAnc s lane d k line
         let n := if lnEmbCount q lane = 0 then 0 else lineSamples f k line
         let x := laneAt s lane
         let pid :=
           if (payloadLines (rasterOf f)).contains line then
             some (Config.payloadId f (lnTxRate q lane) (gangSize q g) (lnByte q g 5) (lane - g)
               (if nf.2 then 2 ^ 32 + lnByte q g 14 else txColour s lane d k))
           else none
         setLane g (fun y => { y with counts := cAdd y.counts 4 (min dropped anc.length) })
           (emit
             (.laneOut lane k line r.black (if isActive (rasterOf f) line then r.data else [])
               (ownAnc q lane f k line ++ anc.take (anc.length - dropped)) pid (x.txAudio.take n))
             (setLane lane (fun y => { y with txAudio := y.txAudio.drop n }) s)))

/-- TX_RELOCK_END (R151): the serialiser has relocked; the audio the gap held back is lost and counted on the gang's leader
(R157). -/
def execTxRelockEnd (lane : Nat) (s : State) : Host.Outcome State Fault Refusal :=
  .next
    (if (laneAt s lane).tx = 1 then
      let q := s.quire.active
      let lost := (laneAt s lane).txAudio.length * (lnEmbCount (txQuire s lane) lane / 4)
      setLane (laneLeader q lane) (fun x => { x with counts := cAdd x.counts 6 lost })
        (setLane lane (fun x =>
          { x with
            tx := 2, txRate := lnTxRate q lane, txAudio := []
            relocked := (laneDest s lane).any (formatPending s) }) s)
    else s)

/-! ### Patterns (R154) -/

/-- Bits that pass at a lane's pattern rate in `t` ticks. -/
def bitsIn (c t : Nat) : Nat := lineRate1001 c * t / (1001 * ticksPerSec)

/-- PRBS_CHECKER_LOCK (R154): 64 consecutive bits without error. -/
def execPrbsCheckerLock (lane : Nat) (s : State) : Host.Outcome State Fault Refusal :=
  .next
    (let x := laneAt s lane
     if x.chk ∧ ¬ x.locked then
       setLane lane (fun x => { x with locked := true, lockSince := now s, rxRate := x.prbsRate }) s
     else s)

/-- Ends or reads a locked interval: its bits and errors are added. -/
def prbsTally (t errors : Nat) (x : Lane) : Lane :=
  if x.locked then
    { x with
      prbsBits := min (x.prbsBits + bitsIn x.prbsRate (t - x.lockSince)) (2 ^ 64 - 1)
      prbsErrors := min (x.prbsErrors + errors) (2 ^ 64 - 1)
      lockSince := t }
  else x

/-- PRBS_CHECKER_UNLOCK (R154): 16 or more of 64 bits in error; `errors` were counted since the last
reading. -/
def execPrbsCheckerUnlock (lane errors : Nat) (s : State) : Host.Outcome State Fault Refusal :=
  .next
    (let x := laneAt s lane
     if x.chk ∧ x.locked then
       setLane lane (fun x => { prbsTally (now s) errors x with locked := false, rxRate := 0 }) s
     else s)

/-- The reply of LAN_PRBS (Table 05.7). -/
def prbsReply (x : Lane) : Bytes :=
  le 1 (b2n x.locked) ++ zeros 7 ++ le 8 x.prbsBits ++ le 8 x.prbsErrors

/-- Sets the generator and the checker of a lane (R154): off, the lane returns to its folio settings. -/
def prbsSet (q : Quire) (t lane enable pattern rate inject exp : Nat) (x : Lane) : Lane :=
  let gen := bit enable 0
  let chk := bit enable 1
  let same := chk && x.chk && decide (x.pattern = pattern ∧ x.prbsRate = rate)
  let y :=
    { x with
      gen := gen, chk := chk, pattern := pattern, prbsRate := rate, inject := inject, injectExp := exp
      injected := if inject = 1 then x.injected + 1 else x.injected
      locked := x.locked && same }
  let z := if chk then { rxClear y with rx := 5, rxRate := if y.locked then rate else 0 }
    else if x.chk then rxStart q lane t y else y
  if gen then { z with tx := 5, txRate := rate, relocked := false } else if x.gen then txStart q lane z else z

/-- A lane takes a setting of its generator and checker at once (R154): with the checker on, the bound source is LOST, and
the other links of its gang lose alignment with it (R141). -/
def prbsApply (lane enable pattern rate inject exp : Nat) (s : State) : State :=
  let s1 := setLane lane (prbsSet s.quire.active (now s) lane enable pattern rate inject exp) s
  if bit enable 1 then laneLost lane (gangDrop lane s1) else s1

/-- LAN_PRBS (R154). The errors counted since the last reading are measured, so free. -/
def execLanPrbs (r : Req) (s : State) : Host.Outcome State Fault Refusal :=
  .next (command 0x0504
    (fun r s => needLen 8 r s fun _ =>
      let lane := rd r.params 0 2
      let en := rd r.params 2 1
      let pat := rd r.params 3 1
      let rate := rd r.params 4 1
      let inj := rd r.params 5 1
      let exp := rd r.params 6 1
      let opt := rd r.params 7 1
      let off := decide (en = 0)
      needForm
        [(decide (lane < 256), 0), (decide (en < 4), 2),
          (off || (decide (1 ≤ pat ∧ pat ≤ 6) && !(decide (pat = 6) && bit en 1)), 3),
          (off || (sdiCode rate || (ethCode rate && decide (pat ≠ 6))), 4),
          (decide (inj ≤ 2), 5), (decide (inj ≠ 2 ∨ (3 ≤ exp ∧ exp ≤ 12)), 6), (decide (opt < 2), 7)] s
        fun _ =>
        let d := draw s
        let s1 :=
          setLane lane (fun x => prbsTally (now s) (Config.freeNat d.1) x) d.2
        let s2 := prbsApply lane en pat rate inj exp s1
        let reply := prbsReply (laneAt s2 lane)
        let s3 :=
          if bit opt 0 then setLane lane (fun x => { x with prbsBits := 0, prbsErrors := 0 }) s2 else s2
        { st := s3, params := reply, clearing := bit opt 0 }) r s)

/-! ### LAN commands -/

/-- The settings of LAN_EQ as they are written (Table 05.5 offsets 0x10 to 0x14). -/
def eqForm (e : Bytes) : List (Bool × Nat) :=
  [(decide (rd e 0 1 ≤ 16), 4), (decide (rd e 1 1 ≤ 2), 5), (decide (rd e 2 1 ≤ 15), 6),
    (decide (rd e 3 1 ≤ 8), 7), (decide (rd e 4 1 ≤ 12), 8)]

/-- LAN_EQ (R153). The adapted CTLE setting and taps are measured, so free; a fixed CTLE setting is in
use as set. -/
def execLanEq (r : Req) (s : State) : Host.Outcome State Fault Refusal :=
  .next (command 0x0503
    (fun r s => needLen 16 r s fun _ =>
      let lane := rd r.params 0 2
      let op := rd r.params 2 1
      let e := slice r.params 4 5
      needForm
        ([(decide (lane < 256), 0), (decide (op ≤ 1), 2), (isZero r.params 3 1, 3)] ++
          (if op = 1 then eqForm e else []) ++ [(isZero r.params 9 7, 9)]) s fun _ =>
        let q := s.quire.active
        let o := 32 * lane + 16
        let old := qBytes q fLanes o 5
        let restarts := decide (op = 1 ∧ ((rd old 0 1 = 0 ∧ rd e 0 1 ≠ 0) ∨ rd old 1 1 ≠ rd e 1 1))
        let s1 :=
          if op = 1 then countChange { s with quire := { s.quire with active := qWrite q fLanes o e } }
          else s
        let s2 :=
          if restarts then setLane lane (fun x => { x with adaptSince := now s }) s1 else s1
        let d := draw s2
        let ctle := qRd s2.quire.active fLanes o 1
        let taps := fit 5 (Config.freeBytes d.1)
        okay d.2
          (qBytes s2.quire.active fLanes o 5 ++
            le 1 (if ctle = 0 then Config.freeNat d.1 % 16 else ctle - 1) ++ zeros 2 ++ taps ++ zeros 3))
    r s)

/-- LAN_EYE (R155): refused with NOT_ACTIVE for a lane OFF or in TEST; the openings are measured, so
free. DESIGN CHOICE (safe, log 31). -/
def execLanEye (r : Req) (s : State) : Host.Outcome State Fault Refusal :=
  .next (command 0x0505
    (fun r s => needLen 4 r s fun _ =>
      let lane := rd r.params 0 2
      let n := rd r.params 2 1
      needForm
        [(decide (lane < 256), 0), (decide (6 ≤ n ∧ n ≤ 12), 2), (isZero r.params 3 1, 3)] s fun _ =>
        let st := (laneAt s lane).rx
        if st = 0 ∨ st = 5 then refuse s stNotActive 0
        else
          let d := draw s
          let e := draw d.2
          okay e.2 (le 2 (Config.freeNat d.1 % 65) ++ le 2 (Config.freeNat e.1) ++ zeros 4)) r s)

/-- Whether a port may read a lane's records (R156): a pen port where the slot bound to it is its
pen's. -/
def laneVisible (r : Req) (s : State) (l : Nat) : Bool :=
  !isPen r.port ||
    (match laneSource s l with
     | some i => decide (srcPen s.quire.active i = r.port)
     | none => false) ||
    (match laneDest s l with
     | some d => decide (dstPen (inForce s d) d = r.port)
     | none => false)

/-- The lane status record (Table 05.8). DEDUCED (unsafe, log 45). -/
def laneRecord (s : State) (l : Nat) : Bytes :=
  let q := s.quire.active
  let x := laneAt s l
  let n := lnDeembCount (chainQuire s l) l
  let audio := decide (0 < n) && decide (x.absent = []) &&
    (List.range (n / 4)).all fun g => x.groupSeen.any fun p => decide (p.1 = g + 1)
  let flags := b2n x.pidHave + 2 * b2n x.levelB + 4 * b2n x.deskew.isSome +
    8 * b2n audio + 16 * b2n x.edhFlags
  let ft :=
    match laneSource s l with
    | some i => nsOf (srcSlot s i).lastStart
    | none => 0
  le 2 l ++ le 1 x.rx ++ le 1 x.tx ++ le 1 x.rxRate ++ le 1 x.txRate ++ le 1 (lnGang q l) ++
    le 1 flags ++ fit 4 x.payload ++ le 2 x.measured ++ le 2 (x.deskew.getD 0) ++ le 4 x.timecode ++
    zeros 4 ++ le 8 ft

/-- LAN_STATUS (R156). -/
def execLanStatus (r : Req) (s : State) : Host.Outcome State Fault Refusal :=
  .next (command 0x0501
    (fun r s => needLen 4 r s fun _ =>
      let first := rd r.params 0 2
      let n := rd r.params 2 2
      needForm [(decide (first < 256), 0), (decide (1 ≤ n ∧ first + n ≤ 256), 2)] s fun _ =>
        okay s (rangeRecords first n (laneVisible r s) (laneRecord s))) r s)

/-- LAN_COUNTERS (R157). -/
def execLanCounters (r : Req) (s : State) : Host.Outcome State Fault Refusal :=
  .next (command 0x0502
    (fun r s => needLen 6 r s fun _ =>
      let clear := bit (rd r.params 0 1) 0
      let first := rd r.params 2 2
      let n := rd r.params 4 2
      needForm
        [(decide (rd r.params 0 1 ≤ 1), 0), (isZero r.params 1 1, 1), (decide (first < 256), 2),
          (decide (1 ≤ n ∧ first + n ≤ 256), 4)] s fun _ =>
        let wipe (t : State) (j : Nat) : State :=
          if laneVisible r s (first + j) then setLane (first + j) (fun x => { x with counts := [] }) t
          else t
        { st := if clear then (List.range n).foldl wipe s else s
          params := rangeRecords first n (laneVisible r s)
            (fun l => le 2 l ++ zeros 2 ++ cBytes (laneAt s l).counts 9)
          clearing := clear }) r s)

end Sys2Proof.Machine
end

