-- ==== Sys2Proof/Machine/PacketOps.lean ====
section
/-! DEFINITION. Network ports and frames (chapter 06): port settings, addresses, egress queues, and the
launch completion records of the host packet ring. -/

namespace Sys2Proof.Machine

/-! ### Ports (R158 to R161) -/

/-- What an unlisted network port is: off. -/
def noNet : Nat → NetPort := fun _ => {}

/-- A network port by its number (R160). -/
def netPort (s : State) (p : Nat) : NetPort := mget noNet s.net.ports p

/-- Changes a network port. -/
def setNet (p : Nat) (f : NetPort → NetPort) (s : State) : State :=
  { s with net := { s.net with ports := mmod noNet s.net.ports p f } }

/-- Counts on a network port (Table 06.15), by the order of the offsets. -/
def netCount (p k n : Nat) (s : State) : State :=
  setNet p (fun x => { x with counts := nAdd x.counts k n }) s

/-- Whether a number names a network port (R160). -/
def isNetPort (p : Nat) : Bool := decide (p < 64) || decide (0x100 ≤ p ∧ p < 0x200)

/-- The mode of a port (Tables 06.1, 06.14): of its lane part, or 3 for 10GBASE-R and 5 for 25GBASE-R on a
media lane in Ethernet mode; 0 for none. -/
def portMode (q : Quire) (p : Nat) : Nat :=
  if p < 64 then
    let m := qRd q fPacket (192 * p) 1
    if m = 7 then 0 else m
  else if 0x100 ≤ p ∧ p < 0x200 ∧ lnRxMode q (p - 0x100) = 3 then
    (if lnRxRate q (p - 0x100) = 0x22 then 5 else 3)
  else 0

/-- The MAC rate of a port in Gbit/s (Table 06.1). -/
def portGbps (q : Quire) (p : Nat) : Nat :=
  if p < 64 then
    match portMode q p with
    | 1 => 400 | 2 => 200 | 3 => 100 | 4 => 50 | 5 => 25 | _ => 0
  else match portMode q p with
    | 5 => 25 | 3 => 10 | _ => 0

/-- Lanes of a port. -/
def portLanes (q : Quire) (p : Nat) : Nat :=
  if p < 64 then (match portMode q p with | 1 => 4 | 2 => 2 | 0 => 0 | _ => 1) else 1

/-- The folio slot that a media lane's port takes (R161). -/
def mediaSlot (q : Quire) (lane : Nat) : Option Nat :=
  (List.range 64).find? fun k => decide (qRd q fPacket (192 * k + 0x40) 2 = lane)

/-- Offsets of a port's block and of its side B addresses (Table 06.2). -/
def portBlock (q : Quire) (p : Nat) : Option (Nat × Nat) :=
  if p < 64 then some (192 * p + 0x10, 192 * p + 0x80)
  else (mediaSlot q (p - 0x100)).map fun k => (192 * k + 0x50, 192 * k + 0xA0)

/-- The addresses of a port: MAC, IPv4, IPv6; those of side B on a twin of that side (R64, R161). -/
def portAddr (s : State) (p : Nat) : Bytes × Bytes × Bytes :=
  let q := s.quire.active
  match portBlock q p with
  | none => (zeros 6, zeros 4, zeros 16)
  | some (a, b) =>
    if isTwin s && decide (s.boot.side = 1) then
      (qBytes q fPacket b 6, qBytes q fPacket (b + 8) 4, qBytes q fPacket (b + 16) 16)
    else (qBytes q fPacket a 6, qBytes q fPacket (a + 12) 4, qBytes q fPacket (a + 16) 16)

/-- A number of the port block, zero where the port has none. -/
def portField (q : Quire) (p o k : Nat) : Nat :=
  match portBlock q p with
  | some (a, _) => qRd q fPacket (a + o) k
  | none => 0

/-- max_frame. -/
def portMaxFrame (q : Quire) (p : Nat) : Nat := portField q p 6 2

/-- Port block flags. -/
def portFlags (q : Quire) (p : Nat) : Nat := portField q p 8 1

/-- Whether a VID is accepted (Table 06.4). -/
def vidAccepted (q : Quire) (p vid : Nat) : Bool :=
  (List.range 4).any fun i =>
    let v := portField q p (0x20 + 2 * i) 2
    bit v 15 && decide (v % 4096 = vid)

/-- A timestamp adjustment of a port in units of 0.25 ns (R190). -/
def portAdj (q : Quire) (p o : Nat) : Int :=
  match portBlock q p with
  | some (a, _) => qRdI q fPacket (a + o) 2
  | none => 0

/-- The ingress stamp of a frame arriving now, in units of 0.25 ns (R190). -/
def ingressStamp (s : State) (p : Nat) : Nat :=
  ((now s * 4 / ticksPerNs : Nat) + portAdj s.quire.active p 0x28).toNat

/-- The egress stamp of a frame leaving now, in units of 0.25 ns (R190). -/
def egressStamp (s : State) (p : Nat) : Nat :=
  ((now s * 4 / ticksPerNs : Nat) + portAdj s.quire.active p 0x2A).toNat

/-- The instant, in ticks, at which a frame arriving now crossed the balls (R190). -/
def ingressTicks (s : State) (p : Nat) : Nat := ((now s : Int) + portAdj s.quire.active p 0x28 * 1323).toNat

/-- The instant, in ticks, at which a frame sent now crosses the balls (R187, R190). -/
def egressTicks (s : State) (p : Nat) : Nat := ((now s : Int) + portAdj s.quire.active p 0x2A * 1323).toNat

/-- Whether a port is up. -/
def portUp (s : State) (p : Nat) : Bool := decide ((netPort s p).state = 2)

/-- A port enters a state of Table 06.14. -/
def portEnter (p st : Nat) (s : State) : State :=
  setNet p (fun x => { x with state := st, stateTime := now s }) s

/-- Puts a frame into a port's egress, if the port is up (R159, R187). -/
def egress (p : Nat) (f : EgFrame) (s : State) : State :=
  if portUp s p then setNet p (fun x => { x with egress := x.egress ++ [f] }) s else s

/-! ### Frames -/

/-- The tag of a frame: whether it is tagged, its TCI, and the offset of its EtherType. -/
def frameTag (f : Bytes) : Bool × Nat × Nat :=
  if rdB f 12 2 = 0x8100 then (true, rdB f 14 2, 16) else (false, 0, 12)

/-- The Internet part of a frame: version 4 or 6, protocol, fragment or not, source and destination
addresses as 16-byte fields, and the offset of the layer above. -/
structure IpInfo where
  v6 : Bool
  proto : Nat
  fragment : Bool
  src : Bytes
  dst : Bytes
  up : Nat

/-- Reads the Internet part of a frame. An IPv6 hop-by-hop header is passed over. PRESUMED (unsafe, log 48). -/
def ipInfo (f : Bytes) : Option IpInfo :=
  let t := frameTag f
  let e := rdB f t.2.2 2
  let o := t.2.2 + 2
  if e = 0x0800 then
    some ⟨false, rdB f (o + 9) 1, decide (rdB f (o + 6) 2 % 16384 ≠ 0), slice f (o + 12) 4 ++ zeros 12,
      slice f (o + 16) 4 ++ zeros 12, o + 4 * (rdB f o 1 % 16)⟩
  else if e = 0x86DD then
    let nh := rdB f (o + 6) 1
    let hop := decide (nh = 0)
    some ⟨true, if hop then rdB f (o + 40) 1 else nh, false, slice f (o + 8) 16, slice f (o + 24) 16,
      if hop then o + 48 + 8 * rdB f (o + 41) 1 else o + 40⟩
  else none

/-- Whether an Internet address is multicast. -/
def ipMulticast (v6 : Bool) (a : Bytes) : Bool :=
  if v6 then decide (rdB a 0 1 = 0xFF) else decide (rdB a 0 1 / 16 = 0xE)

/-- The ones'-complement sum of a byte sequence in 16-bit words. -/
def onesSum : Bytes → Nat
  | [] => 0
  | [a] => 256 * a.toNat
  | a :: b :: t => 256 * a.toNat + b.toNat + onesSum t

/-- The Internet checksum of a byte sequence. -/
def inetChecksum (bs : Bytes) : Nat :=
  let s := onesSum bs
  0xFFFF - (if s = 0 then 0 else (s - 1) % 0xFFFF + 1)

/-- The multicast station address of an Internet address (R183). -/
def multicastMac (v6 : Bool) (a : Bytes) : Bytes :=
  if v6 then [0x33#8, 0x33#8] ++ slice a 12 4
  else [0x01#8, 0x00#8, 0x5E#8, (a.getD 1 0#8) &&& 0x7F#8] ++ slice a 2 2

/-- An Ethernet header (R183). PRESUMED (unsafe, log 48). -/
def ethHeader (dst src : Bytes) (tci : Option Nat) (etype : Nat) : Bytes :=
  dst ++ src ++ (match tci with | some t => be 2 0x8100 ++ be 2 t | none => []) ++ be 2 etype

/-- A UDP datagram over IPv4 or IPv6 (R183): DF, identification 0, TTL 64, the checksum computed.
PRESUMED (unsafe, log 48). -/
def udpPacket (v6 : Bool) (src dst : Bytes) (dscp sport dport : Nat) (body : Bytes) : Bytes :=
  let len := body.length + 8
  let udp (c : Nat) : Bytes := be 2 sport ++ be 2 dport ++ be 2 len ++ be 2 c
  let a := if v6 then src else src.take 4
  let b := if v6 then dst else dst.take 4
  let pseudo := a ++ b ++ (if v6 then be 4 len ++ zeros 3 ++ [17#8] else [0#8, 17#8] ++ be 2 len)
  let c0 := inetChecksum (pseudo ++ udp 0 ++ body)
  let c := if c0 = 0 then 0xFFFF else c0
  if v6 then
    be 4 (6 * 2 ^ 28 + dscp * 2 ^ 22) ++ be 2 len ++ [17#8, 64#8] ++ a ++ b ++ udp c ++ body
  else
    let h (k : Nat) : Bytes :=
      [0x45#8] ++ be 1 (4 * dscp) ++ be 2 (20 + len) ++ zeros 2 ++ be 2 0x4000 ++ [64#8, 17#8] ++
        be 2 k ++ a ++ b
    h (inetChecksum (h 0)) ++ udp c ++ body

/-! ### Launch completion records (Table 19.16, R557) -/

/-- The launch completion record. -/
def launchBytes (phase : Bool) (r : LaunchRec) : Bytes :=
  le 4 r.handle ++ le 1 r.outcome ++ le 1 (b2n r.stamped + 128 * b2n phase) ++ le 2 r.netPort ++
    le 4 r.egress ++ zeros 4

/-- The index after `i` in a ring of 2^n. -/
def ringNext (n i : Nat) : Nat := (i + 1) % 2 ^ n

/-- Advances the device's index of a ring, inverting the phase at the wrap (R557). -/
def ringStep (r : Ring) : Ring :=
  let i := ringNext r.log2 r.dev
  { r with dev := i, phase := if i = 0 then !r.phase else r.phase }

/-- Whether a ring takes a record: enabled and not full. -/
def ringRoom (r : Ring) : Bool := r.enable && decide (ringNext r.log2 r.dev ≠ r.host)

/-- Writes waiting launch records while their ring has room, `fuel` at most (R557). -/
def flushLaunch : Nat → State → State
  | 0, s => s
  | n + 1, s =>
    match s.host.launchWaiting with
    | [] => s
    | r :: rest =>
      if ringRoom s.host.ringLaunch then
        let h := { s.host with launchWaiting := rest, ringLaunch := ringStep s.host.ringLaunch }
        flushLaunch n (sendMsi 83 (emit (.launched (launchBytes s.host.ringLaunch.phase r)) { s with host := h }))
      else s

/-- Enters a launch completion record (R189, R557). -/
def postLaunch (r : LaunchRec) (s : State) : State :=
  flushLaunch (s.host.launchWaiting.length + 1)
    { s with host := { s.host with launchWaiting := s.host.launchWaiting ++ [r] } }

/-! ### Flows (Table 06.7) -/

/-- What an unlisted flow is: absent. -/
def noFlow : Nat → Flow := fun _ => {}

/-- A flow's state. -/
def flowAt (s : State) (i : Nat) : Flow := mget noFlow s.net.flows i

/-- Changes a flow's state. -/
def setFlow (i : Nat) (f : Flow → Flow) (s : State) : State :=
  { s with net := { s.net with flows := mmod noFlow s.net.flows i f } }

/-- Counts on a flow (Table 06.16). -/
def flowCount (i k n : Nat) (s : State) : State :=
  setFlow i (fun x => { x with counts := cAdd x.counts k n }) s

/-- The folio entry of a flow. -/
def flowEntry (q : Quire) (i : Nat) : Option Bytes := qKeyed q fFlows i

/-- essence. -/
def feEssence (e : Bytes) : Nat := rd e 2 1

/-- flags. -/
def feFlags (e : Bytes) : Nat := rd e 3 1

/-- port. -/
def fePort (e : Bytes) : Nat := rd e 4 2

/-- pair. -/
def fePair (e : Bytes) : Nat := rd e 6 2

/-- companion. -/
def feCompanion (e : Bytes) : Nat := rd e 0x36 2

/-- audio_base. -/
def feAudioBase (e : Bytes) : Nat := rd e 0x38 2

/-- audio_count. -/
def feAudioCount (e : Bytes) : Nat := rd e 0x3A 1

/-- param. -/
def feParam (e : Bytes) : Nat := rd e 0x3E 2

/-- Leg A of the pair a receive flow belongs to, with its own index where it has no pair (R180). -/
def legA (e : Bytes) : Nat := if fePair e = 0xFFFF then rd e 0 2 else min (rd e 0 2) (fePair e)

/-- The flow whose slot a flow serves: the companion that leg A of a -40 flow names, else leg A itself (R171, R180).
DEDUCED (unsafe, log 188). -/
def servedFlow (q : Quire) (e : Bytes) : Nat :=
  if feEssence e = 5 then ((flowEntry q (legA e)).map feCompanion).getD 0xFFFF else legA e

/-- The slot a receive flow writes: its binding, or its companion's (R171). -/
def flowSource (q : Quire) (i : Nat) : Option Nat := slotBound q false 2 0 i

/-- The destination a transmit flow reads. -/
def flowDest (q : Quire) (i : Nat) : Option Nat := slotBound q true 2 0 i

/-- The destination a transmit flow of video reads: that of leg A, which alone carries the binding (R180, R182). -/
def txDest (q : Quire) (i : Nat) : Option Nat :=
  (flowEntry q i).bind fun e => flowDest q (legA e)

/-- The rate of an audio flow: that of the section of its channels (R265). -/
def flowRate (q : Quire) (output : Bool) (e : Bytes) : Nat :=
  sectionRate q (blockSection q output (feAudioBase e))

/-- Samples per packet at 48 kHz of a packet time code (Table 06.10). -/
def packetSamples48 (c : Nat) : Nat :=
  match c with
  | 0 => 6 | 1 => 12 | 2 => 16 | 3 => 48 | 4 => 192 | _ => 48

/-- Samples per packet of an audio flow (Table 06.10). -/
def packetSamples (rate : Nat) (e : Bytes) : Nat := packetSamples48 (rd e 0x3B 1) * rate / 48000

/-- The activity age of a receive entry in ticks (R172); that of a flow without a slot, which has no declared format, is the
AUTO slot's. DESIGN CHOICE (unsafe, log 182). -/
def flowAge (q : Quire) (e : Bytes) : Nat :=
  let ms := rd e 0x46 2
  if ms ≠ 0 then ms * ticksPerMs
  else if feEssence e = 3 ∨ feEssence e = 4 then
    let rate := flowRate q false e
    max ticksPerMs (3 * packetSamples rate e * ticksPerSec / rate)
  else
    let slot := flowSource q (servedFlow q e)
    match slot with
    | some i =>
      if isAuto (srcFormat q i) ∨ isOpaque (srcFormat q i) then lossPeriod + ticksPerMs
      else framePeriod (srcFormat q i) + ticksPerMs
    | none => lossPeriod + ticksPerMs

/-- The entry of a transmit flow for its packet at `k` (R173): of a flow that is bound, as the switch point of its
destination leaves it; of an audio flow, whose packet begins with sample `k`, from the first packet that begins at or after
the change; of a -40 flow, from the first packet it sends. -/
def txEntry (s : State) (i k : Nat) : Option Bytes :=
  let now_ := flowEntry s.quire.active i
  let held := match (flowAt s i).was with
    | some (t, e) =>
      let rate := flowRate s.quire.active true (if e = [] then now_.getD [] else e)
      if k * ticksPerSec < t * rate then some (if e = [] then none else some e) else none
    | none => none
  match now_, held with
  | some e, h =>
    if feEssence e ∈ [1, 2, 6] then
      match txDest s.quire.active i with
      | some d => flowEntry (inForce s d) i
      | none => some e
    else if feEssence e = 5 then some e
    else h.getD (some e)
  | none, some h => h
  | none, none => none

/-- The transmit audio flows, with the entries in force for a packet that holds sample `n` (R173). -/
def txAudioFlows (s : State) (n : Nat) : List Bytes :=
  let keys := ((qAll s.quire.active fFlows).map fun e => rd e 0 2) ++
    ((s.net.flows.filter fun p => p.2.was.isSome).map (·.1))
  (keys.filter (8192 ≤ ·)).eraseDups.filterMap fun i =>
    let e0 := (flowEntry s.quire.active i).getD (((flowAt s i).was.map (·.2)).getD [])
    let size := packetSamples (flowRate s.quire.active true e0) e0
    if feEssence e0 = 3 ∨ feEssence e0 = 4 then txEntry s i (if size = 0 then n else n / size * size) else none

/-! ### Membership reports (R168) -/

/-- A group record of a report on a flow: current state, or a change on joining or leaving; source-specific where src_ip is
not zero. PRESUMED (unsafe, log 176). -/
def reportRecord (kind : Nat) (e : Bytes) : Bytes :=
  let w := if bit (feFlags e) 0 then 16 else 4
  let ssm := !isZero e 0x20 16
  let ty :=
    match kind with
    | 0 => if ssm then 5 else 4
    | 1 => if ssm then 1 else 2
    | _ => if ssm then 6 else 3
  be 1 ty ++ zeros 1 ++ be 2 (b2n ssm) ++ slice e 0x10 w ++ (if ssm then slice e 0x20 w else [])

/-- The IGMPv3 or MLDv2 report that a port sends on a flow. PRESUMED (unsafe, log 176). -/
def reportFrame (s : State) (e : Bytes) (kind : Nat) : Bytes :=
  let a := portAddr s (fePort e)
  let tci := if bit (feFlags e) 2 then some (rd e 8 2) else none
  let rest := zeros 2 ++ be 2 1 ++ reportRecord kind e
  if bit (feFlags e) 0 then
    let dst : Bytes := [0xFF#8, 0x02#8] ++ zeros 13 ++ [0x16#8]
    let msg (c : Nat) : Bytes := [143#8, 0#8] ++ be 2 c ++ rest
    let len := (msg 0).length
    let c := inetChecksum (a.2.2 ++ dst ++ be 4 len ++ zeros 3 ++ [58#8] ++ msg 0)
    ethHeader (multicastMac true dst) a.1 tci 0x86DD ++ be 4 (6 * 2 ^ 28) ++ be 2 (8 + len) ++ [0#8, 1#8] ++ a.2.2 ++ dst ++
      [58#8, 0#8, 5#8, 2#8, 0#8, 0#8, 1#8, 0#8] ++ msg c
  else
    let dst : Bytes := [0xE0#8, 0#8, 0#8, 0x16#8]
    let msg (c : Nat) : Bytes := [0x22#8, 0#8] ++ be 2 c ++ rest
    let ip (k : Nat) : Bytes :=
      [0x46#8, 0xC0#8] ++ be 2 (24 + (msg 0).length) ++ zeros 2 ++ be 2 0x4000 ++ [1#8, 2#8] ++ be 2 k ++ a.2.1 ++ dst ++
        [0x94#8, 4#8, 0#8, 0#8]
    ethHeader (multicastMac false dst) a.1 tci 0x0800 ++ ip (inetChecksum (ip 0)) ++ msg (inetChecksum (msg 0))

/-- A report on a flow is queued at its port, at host rank, so that a pause holds it (R167, R168).
DESIGN CHOICE (unsafe, log 176). -/
def sendReport (e : Bytes) (kind : Nat) (s : State) : State :=
  egress (fePort e) ⟨6, now s, reportFrame s e kind, none, none, none⟩ s

/-- The serial line rate code that carries a format of an ST 2022-6 flow: SD, HD single-link, or 3G (Table 06.9). -/
def sdiCodeOf (f : Nat) : Nat :=
  if rasterOf f = 0x01 ∨ rasterOf f = 0x02 then 0x01
  else if (carried 1 0x02 0 f).isSome then 0x02
  else if (carried 1 0x12 0 f).isSome then 0x12
  else if rateOf f ∈ [1, 4, 7, 10] then 0x13
  else 0x03

/-- Bytes of a frame of the SDI stream of a format (R184). -/
def sdiFrameBytes (f : Nat) : Nat := lineRate1001 (sdiCodeOf f) * framePeriod f / (1001 * ticksPerSec) / 8

end Sys2Proof.Machine
end

