-- ==== Sys2Proof/Machine/Flows.lean ====
section
/-! DEFINITION. Receive flows (chapter 06): matching, the ST 2022-7 merge, and the receivers of each
essence. -/

namespace Sys2Proof.Machine

/-! ### RTP -/

/-- An RTP packet: the offsets of its payload and of the payload's end in the frame, marker, payload type, sequence, timestamp
and SSRC. Header extensions and CSRC lists are passed over (R170). PRESUMED (unsafe, log 48). -/
structure Rtp where
  ok : Bool
  body : Nat
  stop : Nat
  marker : Bool
  pt : Nat
  seq : Nat
  ts : Nat
  ssrc : Nat

/-- The bytes of an RTP packet's payload. -/
def Rtp.payload (r : Rtp) (f : Bytes) : Bytes := slice f r.body (r.stop - r.body)

/-- Reads the RTP header at `o`, behind the UDP header that gives the packet's length. -/
def rtpOf (f : Bytes) (o : Nat) : Rtp :=
  let end_ := min f.length (o - 8 + rdB f (o - 4) 2)
  let stop := if bit (rdB f o 1) 5 then end_ - rdB f (end_ - 1) 1 else end_
  let b0 := rdB f o 1
  let b1 := rdB f (o + 1) 1
  let base := o + 12 + 4 * (b0 % 16)
  let body := if bit b0 4 then base + 4 + 4 * rdB f (base + 2) 2 else base
  ⟨decide (b0 / 64 = 2 ∧ body ≤ stop), body, stop, bit b1 7, b1 % 128, rdB f (o + 2) 2, rdB f (o + 4) 4,
    rdB f (o + 8) 4⟩

/-! ### The merge (R180, R181) -/

/-- The value congruent to `n` modulo 2^b nearest `h`, a tie going to the higher (R181); 0 for a negative one, which is
below every sequence accepted. DEDUCED (unsafe, log 50). -/
def extendSeq (b n h : Nat) : Nat :=
  let m := 2 ^ b
  let d := (n + (m - h % m)) % m
  if 2 * d ≤ m then h + d else h + d - m

/-- What the merge did with a packet (R180). -/
inductive Merged where
  | accept (x : Nat)
  | late
  | duplicate
  deriving DecidableEq, Repr

/-- Sequences in (lo, hi) that have a record. -/
def recordedIn (x : Flow) (lo hi : Nat) : Nat :=
  (x.recs.filter fun r => decide (lo < r.1 ∧ r.1 < hi)).length

/-- Raises L to `q`, counting the sequences never received (R180, Table 06.16). DESIGN CHOICE (unsafe, log 49). -/
def raiseLow (q : Nat) (x : Flow) : Flow :=
  if q ≤ x.low then x
  else
    let got := recordedIn x x.low (q + 1)
    { x with low := q, counts := cAdd x.counts 1 (q - x.low - got) }

/-- Keeps at most `cap` merge records: the oldest expires early, and the overrun is counted. -/
def trimRecs (cap : Nat) (x : Flow) : Flow :=
  if cap < x.recs.length then
    match x.recs with
    | r :: rest => { raiseLow r.1 x with recs := rest, counts := cAdd x.counts 6 1 }
    | [] => x
  else x

/-- Renews or adds a record, the oldest renewal first. -/
def renew (q t : Nat) (x : Flow) : Flow :=
  { x with recs := (x.recs.filter fun r => decide (r.1 ≠ q)) ++ [(q, t)] }

/-- Treats a packet of a flow, or of a pair, whose sequence field of `b` bits is `n` (R180, R181), with at
most `cap` merge records. A merge begins at extended sequence 2^32 + n, so that sequences below its first have one too. -/
def mergeStep (paired : Bool) (cap b n t : Nat) (x : Flow) : Flow × Merged :=
  match x.high with
  | none =>
    let q := n + 2 ^ 32
    let y := { x with high := some q, low := q - 1, lateRun := 0 }
    (if paired then renew q t y else { y with low := q }, .accept q)
  | some h =>
    let q := extendSeq b n h
    if h < q then
      let y := { x with high := some q, lateRun := 0 }
      if paired then (trimRecs cap (renew q t y), .accept q)
      else ({ y with low := q, counts := cAdd y.counts 1 (q - h - 1) }, .accept q)
    else if q ≤ x.low then
      if 15 ≤ x.lateRun then
        ({ x with high := none, low := 0, recs := [], lateRun := 0,
                  counts := cAdd (cAdd x.counts 3 1) 6 1 }, .late)
      else ({ x with lateRun := x.lateRun + 1, counts := cAdd x.counts 3 1 }, .late)
    else if x.recs.any fun r => decide (r.1 = q) then
      ({ renew q t x with lateRun := 0, counts := cAdd x.counts 2 1 }, .duplicate)
    else (trimRecs cap (renew q t { x with lateRun := 0 }), .accept q)

/-- Whether every sequence below `q` is accepted or at or below L (R175). -/
def gapFree (x : Flow) (q : Nat) : Bool := decide (q ≤ x.low + 1 + recordedIn x x.low q)

/-! ### Rasters of a receive flow (R174) -/

/-- Octets and pixels of a pixel group, by sample code. -/
def pixelGroup (c : Nat) : Nat × Nat :=
  match c with
  | 0 => (5, 2) | 1 => (6, 2) | 2 => (15, 4) | 3 => (9, 2) | 4 => (15, 4) | _ => (6, 1)

/-- Bits of a sample, by sample code. -/
def sampleDepth (c : Nat) : Nat := if c % 2 = 1 ∨ c = 5 then 12 else 10

/-- The samples a bit-packed byte sequence holds, in transport order. -/
def unpackSamples (d : Nat) (bs : Bytes) : List Nat :=
  (List.range (8 * bs.length / d)).map fun i => rdBits bs (d * i) d

/-- Packs samples of `d` bits, most significant first. -/
def packSamples (d : Nat) (xs : List Nat) : Bytes :=
  let n := xs.foldl (fun a x => a * 2 ^ d + x % 2 ^ d) 0
  be (d * xs.length / 8) n

/-- The samples of one pixel group of black, in transport order (Table 02.3, R213). -/
def blackGroup (f : Nat) : List Nat :=
  let twelve := decide (sampleDepth (sampleOf f) = 12)
  let lo := if twelve then 256 else 64
  let mid := if twelve then 2048 else 512
  if sampleOf f ≤ 1 then [mid, lo, mid, lo]
  else if sampleOf f = 4 then [mid, lo, mid, lo, lo, lo, mid, lo, mid, lo, lo, lo]
  else
    let px := (if colourOf f = 1 then [lo, lo, lo] else [mid, lo, mid]) ++
      (if sampleOf f = 5 then [lo] else [])
    (List.replicate (pixelGroup (sampleOf f)).2 px).flatten

/-- The samples of a whole line of black. -/
def blackRow (f : Nat) : List Nat :=
  (List.replicate (rasterWidth (rasterOf f) / (pixelGroup (sampleOf f)).2) (blackGroup f)).flatten

/-- The rate code of an RTP timestamp step at 90 kHz (R174). -/
def rateOfStep (d : Nat) : Nat :=
  if 3753 ≤ d ∧ d ≤ 3754 then 1 else if d = 3750 then 2 else if d = 3600 then 3 else if d = 3003 then 4
  else if d = 3000 then 5 else if d = 1800 then 6 else if d = 1501 ∨ d = 1502 then 7
  else if d = 1500 then 8 else if d = 900 then 9 else if d = 750 then 11 else if 750 < d ∧ d ≤ 751 then 10
  else 0

/-- The raster of a measured size, scan and rate. -/
def rasterOfSize (w h : Nat) (inter : Bool) (rate : Nat) : Nat :=
  if w = 720 ∧ h = 486 ∧ inter then 0x01
  else if w = 720 ∧ h = 576 ∧ inter then 0x02
  else if w = 1280 ∧ h = 720 ∧ ¬ inter then 0x10
  else if w = 1920 ∧ h = 1080 then (if ¬ inter then 0x22 else if rate ≤ 5 then 0x21 else 0x20)
  else if w = 3840 ∧ h = 2160 ∧ ¬ inter then 0x30
  else if w = 7680 ∧ h = 4320 ∧ ¬ inter then 0x40
  else 0

/-- The format measured over the frame or field that ends with a step of `d` (R174); 0 if none. It is interlaced or segmented
where it or the unit before it had the field bit. -/
def measuredFormat (x : Flow) (colour sampling d : Nat) : Nat :=
  let rate := rateOfStep d
  let inter := x.field || x.fieldOld
  let r := rasterOfSize x.width (if inter then 2 * x.rows else x.rows) inter rate
  if r = 0 ∨ rate = 0 then 0 else r * 256 + rate * 16 + colour * 8 + sampling

/-- The raster line of a row of a field (R174). -/
def rasterLineOf (r field row : Nat) : Nat :=
  match activeRanges r with
  | [a] => a.1 + row
  | [a, b] => if field = 0 then a.1 + row else b.1 + row
  | _ => 0

/-- Rows of a field of a raster. -/
def fieldRows (r field : Nat) : Nat :=
  match activeRanges r with
  | [a] => a.2 + 1 - a.1
  | [a, b] => if field = 0 then a.2 + 1 - a.1 else b.2 + 1 - b.1
  | _ => 0

/-- The line a part spells: the pixel groups received, black where they are missing, and whether all are
there. -/
def partLine (f : Nat) (p : LinePart) : List Nat × Bool :=
  let g := pixelGroup (sampleOf f)
  let n := rasterWidth (rasterOf f) / g.2
  let at_ (i : Nat) : Option Bytes :=
    (p.parts.find? fun x => decide (x.1 ≤ i * g.2 ∧ i * g.2 < x.1 + x.2.length / g.1 * g.2)).map fun x =>
      slice x.2 ((i * g.2 - x.1) / g.2 * g.1) g.1
  let groups := (List.range n).map at_
  (groups.flatMap fun o =>
      match o with
      | some b => unpackSamples (sampleDepth (sampleOf f)) b
      | none => blackGroup f,
    groups.all Option.isSome)

/-- A sample row data segment of an ST 2110-20 packet: length, field, row, pixel offset. -/
structure Srd where
  len : Nat
  field : Nat
  row : Nat
  off : Nat

/-- The sample row data headers of a packet from offset `o`, as many as the first argument at most (R174). -/
def srdHeaders : Nat → Bytes → Nat → List Srd
  | 0, _, _ => []
  | n + 1, f, o =>
    let l := rdB f o 2
    let r := rdB f (o + 2) 2
    let c := rdB f (o + 4) 2
    ⟨l, r / 32768, r % 32768, c % 32768⟩ :: (if bit c 15 then srdHeaders n f (o + 6) else [])

/-- The segments of a packet with their bytes. -/
def srdData (f : Bytes) : List Srd → Nat → List (Srd × Bytes)
  | [], _ => []
  | h :: t, o => (h, slice f o h.len) :: srdData f t (o + h.len)

/-- Whether timestamp `a` is later than `b`, modulo 2^32. -/
def tsLater (a b : Nat) : Bool :=
  let d := (a + 2 ^ 32 - b % 2 ^ 32) % 2 ^ 32
  decide (0 < d ∧ d < 2 ^ 31)

/-- Whether a packet at (ts, field, row) is later than a part. -/
def laterThan (ts field row : Nat) (p : LinePart) : Bool :=
  tsLater ts p.ts || (decide (ts = p.ts) && decide (p.field < field ∨ (p.field = field ∧ p.row < row)))

/-- The rows of a raster that a timestamp covers, in order: of an interlaced raster those of one field. -/
def unitRows (r field : Nat) : List (Nat × Nat) :=
  let rows (fl : Nat) : List (Nat × Nat) := (List.range (fieldRows r fl)).map fun n => (fl, n)
  if isInterlaced r then rows field else rows 0 ++ (if (activeRanges r).length = 2 then rows 1 else [])

/-- The rows between the latest place seen and a later one of which no packet came (R175): the rest of the frame or field it
lies in, and what precedes the new place in its own. DEDUCED (unsafe, log 177). -/
def missedRows (r : Nat) (front : Option (Nat × Nat × Nat)) (ts field row : Nat) : List (Nat × Nat × Nat) :=
  match front with
  | none => []
  | some (t0, f0, r0) =>
    let after (p : Nat × Nat) : Bool := decide (f0 < p.1 ∨ (p.1 = f0 ∧ r0 < p.2))
    let before (p : Nat × Nat) : Bool := decide (p.1 < field ∨ (p.1 = field ∧ p.2 < row))
    if ts = t0 then ((unitRows r field).filter fun p => after p && before p).map fun p => (ts, p)
    else if tsLater ts t0 then
      (((unitRows r f0).filter after).map fun p => (t0, p)) ++ ((unitRows r field).filter before).map fun p => (ts, p)
    else []

/-- Adds a segment to the lines under assembly; lines before it note the packet's sequence. -/
def addSegment (ts q : Nat) (h : Srd) (d : Bytes) (ls : List LinePart) : List LinePart :=
  let marked := ls.map fun p =>
    if laterThan ts h.field h.row p then
      { p with later := some (match p.later with | some l => min l q | none => q) }
    else p
  if marked.any fun p => decide (p.ts = ts ∧ p.field = h.field ∧ p.row = h.row) then
    updFirst (fun p => decide (p.ts = ts ∧ p.field = h.field ∧ p.row = h.row))
      (fun p => { p with parts := p.parts ++ [(h.off, d)] }) marked
  else marked ++ [⟨ts, h.field, h.row, [(h.off, d)], none⟩]

/-- A flow of raster `r` takes a segment: the rows that it passes over come under assembly too, empty (R175). -/
def takeSegment (r ts q : Nat) (h : Srd) (d : Bytes) (x : Flow) : Flow :=
  let gone := (missedRows r x.front ts h.field h.row).map fun p => (⟨p.1, p.2.1, p.2.2, [], some q⟩ : LinePart)
  let ahead := match x.front with
    | none => true
    | some (t0, f0, r0) => tsLater ts t0 || (decide (ts = t0) && decide (f0 < h.field ∨ (f0 = h.field ∧ r0 < h.row)))
  { x with
    lines := addSegment ts q h d (x.lines ++ gone)
    front := if ahead then some (ts, h.field, h.row) else x.front }

/-- The format a receive flow writes in now: as last measured, else its slot's declared raster format. -/
def flowFormat (q : Quire) (slot : Nat) (x : Flow) : Nat :=
  if x.measured ≠ 0 then x.measured else srcFormat q slot

/-- Whether a line under assembly is complete (R175). -/
def partDone (f : Nat) (x : Flow) (p : LinePart) : Bool :=
  (partLine f p).2 || (match p.later with | some q => gapFree x q | none => false)

/-- Writes the complete lines of a flow into its slot, and drops them from the assembly (R175); while no raster is known there
is no line to write. -/
def flushLines (i slot : Nat) (s : State) : State :=
  let x := flowAt s i
  let f := flowFormat s.quire.active slot x
  let done := x.lines.filter (partDone f x)
  let s1 := setFlow i (fun y => { y with lines := y.lines.filter fun p => !partDone f x p }) s
  if rasterLines (rasterOf f) = 0 then s1
  else done.foldl (fun t p =>
    let l := partLine f p
    let line := rasterLineOf (rasterOf f) p.field p.row
    if l.2 then writeLine slot line f (now s) l.1 t
    else captureBad slot line (writeLine slot line f (now s) l.1 (flowCount i 7 1 t))) s1

/-- Notes a segment's extent, and at a step of the timestamp the format measured (R174). -/
def noteRaster (colour sampling ts : Nat) (hs : List Srd) (x : Flow) : Flow :=
  let g := pixelGroup sampling
  let w := (hs.map fun h => h.off + h.len / g.1 * g.2).foldl max 0
  let r := (hs.map fun h => h.row + 1).foldl max 0
  let fld := hs.any fun h => decide (h.field = 1)
  if ts = x.curTs then { x with width := max x.width w, rows := max x.rows r, field := x.field || fld }
  else if tsLater ts x.curTs ∨ x.width = 0 then
    let d := (ts + 2 ^ 32 - x.curTs % 2 ^ 32) % 2 ^ 32
    let m := if x.width = 0 then x.measured else measuredFormat x colour sampling d
    { x with curTs := ts, width := w, rows := r, field := fld, fieldOld := x.field && decide (x.width ≠ 0), measured := m }
  else x

/-- The sample code of a receive -20 flow: its sampling field, or the slot's declared format. -/
def flowSampling (q : Quire) (e : Bytes) (slot : Nat) : Nat :=
  let v := rd e 0x44 1
  if v = 0xFF then sampleOf (srcFormat q slot) else v

/-- Whether a segment lies within the active raster of a format in whole pixel groups (R174). -/
def srdGood (f sampling : Nat) (h : Srd) : Bool :=
  let g := pixelGroup sampling
  let r := rasterOf f
  decide (h.len % g.1 = 0 ∧ h.off % g.2 = 0 ∧ h.off + h.len / g.1 * g.2 ≤ rasterWidth r ∧ h.row < fieldRows r h.field)

/-- The format whose raster a flow's segments must lie in: that measured or declared; of an AUTO slot with none measured its
max_format. DEDUCED (unsafe, log 177). -/
def segmentFormat (q : Quire) (slot : Nat) (x : Flow) : Nat :=
  let f := flowFormat q slot x
  if rasterLines (rasterOf f) = 0 then srcMax q slot else f

/-- An ST 2110-20 receiver takes an accepted packet (R174, R175). -/
def receive20 (i : Nat) (e : Bytes) (q : Nat) (f : Bytes) (r : Rtp) (s : State) : State :=
  match flowSource s.quire.active i with
  | none => s
  | some slot =>
    let qq := s.quire.active
    let sm := flowSampling qq e slot
    let colour := colourOf (srcFormat qq slot)
    let hs := srdHeaders 3 f (r.body + 2)
    let segs := srdData f hs (r.body + 2 + 6 * hs.length)
    let fmt := segmentFormat qq slot (flowAt s i)
    let good := segs.filter fun x => srdGood fmt sm x.1
    let s1 := flowCount i 5 (segs.length - good.length) s
    let s2 := setFlow i (noteRaster colour sm r.ts hs) s1
    let r0 := rasterOf (flowFormat qq slot (flowAt s2 i))
    let s3 := setFlow i (fun x => good.foldl (fun y g => takeSegment r0 r.ts q g.1 g.2 y) x) s2
    flushLines i slot s3

/-- An ST 2110-22 receiver stores an accepted packet, from its RTP header to its payload's end, in the opaque ring with its
ingress timestamp `at_` (R190), within the slot's opaque_rate over each 1 ms cycle (R176). The packets dropped are counted as
malformed: the rule names no counter. DESIGN CHOICE (unsafe, log 178). -/
def receive22 (i at_ : Nat) (rtpAt : Nat) (f : Bytes) (r : Rtp) (s : State) : State :=
  match flowSource s.quire.active i with
  | none => s
  | some slot =>
    let pkt := slice f rtpAt (r.stop - rtpAt)
    let c := now s / ticksPerMs
    let x := flowAt s i
    let used := if x.rateCycle = c then x.rateBytes else 0
    let limit := qRd s.quire.active fSources (16 * slot + 10) 2 * 125
    if limit < used + pkt.length then
      flowCount i 5 1 (setFlow i (fun y => { y with rateCycle := c, rateBytes := used }) s)
    else
      let s1 := setFlow i (fun y =>
        { y with rateCycle := c, rateBytes := used + pkt.length, field := r.marker }) s
      writeLine slot (if x.field then 1 else 2) 0xFE00 at_ (pkt.map BitVec.toNat) s1

/-- Lines between the first active lines of a raster's two fields or segments; 0 of a progressive raster. -/
def fieldShift (r : Nat) : Nat := ((activeRanges r).getD 1 (firstActive r, 0)).1 - firstActive r

/-- One ANC packet of an RFC 8331 payload at bit `o`, of an image `width` samples wide: the packet, and the bit after it, word
aligned. The data stream is twice StreamNum plus the C bit; a horizontal offset beyond the active samples lies in HANC.
PRESUMED (unsafe, log 48). -/
def anc8331 (width : Nat) (f : Bytes) (o : Nat) : AncPkt × Nat :=
  let hor := rdBits f (o + 12) 12
  let dc := rdBits f (o + 52) 10 % 256
  let n := 4 + dc
  let ws := (List.range n).map fun j => rdBits f (o + 32 + 10 * j) 10
  let num := if rdBits f (o + 24) 1 = 1 then rdBits f (o + 25) 7 else 0
  (⟨rdBits f (o + 1) 11, decide (hor = 0xFFE ∨ (width ≤ hor ∧ hor < 0xFFC)), 2 * num + rdBits f o 1, 0, ws⟩,
    o + 32 + cdiv (10 * n) 32 * 32)

/-- The ANC packets of an RFC 8331 payload, `n` of them from bit `o`. -/
def ancList (width : Nat) : Nat → Bytes → Nat → List AncPkt
  | 0, _, _ => []
  | n + 1, f, o =>
    let p := anc8331 width f o
    if 8 * f.length < p.2 then [] else p.1 :: ancList width n f p.2

/-- An ST 2110-40 receiver stores each good ANC packet in the companion slot's entry (R177). Line s + 2 of the second field
lies as far behind that of the first as the fields' first active lines do. DESIGN CHOICE (unsafe, log 179). -/
def receive40 (i : Nat) (e : Bytes) (f : Bytes) (r : Rtp) (s : State) : State :=
  match flowSource s.quire.active (servedFlow s.quire.active e) with
  | none => s
  | some slot =>
    let q := s.quire.active
    let field2 := decide (rdB f (r.body + 5) 1 / 64 = 3)
    let ps := ancList (rasterWidth (rasterOf (formatNow s slot))) (rdB f (r.body + 4) 1) (f.take r.stop) (8 * (r.body + 8))
    ps.foldl (fun t p =>
      if ¬ ancGood p then flowCount i 5 1 t
      else
        let x := srcSlot t slot
        let fm := formatNow t slot
        let sw := switchLine (rasterOf fm) + 2
        let line :=
          if p.line ≠ 0x7FF then p.line
          else if field2 then sw + fieldShift (rasterOf fm) else sw
        if srcEnabled q slot ∧ 0 < srcAnc q slot then
          setSrc slot (storeAnc (srcAnc q slot) (ancFrame x fm line) { p with line := line }) t
        else t) s

/-- The samples of an audio packet: one list of channels for each sample. -/
def audioSamples (ess : Nat) (l16 : Bool) (ch : Nat) (body : Bytes) : List (List Smp) :=
  let w := if ess = 4 then 4 else if l16 then 2 else 3
  let n := if ch = 0 then 0 else body.length / (w * ch)
  let smp (o : Nat) : Smp :=
    if ess = 4 then
      let v := rdB body (o + 1) 3
      let t := rdB body o 1
      ((if v < 2 ^ 23 then (v : Int) else (v : Int) - 2 ^ 24),
        t % 8 + 8 * b2n (bit t 5) + 16)
    else
      let v := rdB body o w * (if l16 then 256 else 1)
      ((if v < 2 ^ 23 then (v : Int) else (v : Int) - 2 ^ 24), 0)
  (List.range n).map fun i => (List.range ch).map fun c => smp (w * (ch * i + c))

/-- link_offset of a receive audio flow in samples, the default being the larger of 48 and twice the
samples per packet (R178). -/
def linkOffset (rate : Nat) (e : Bytes) : Nat :=
  if feParam e = 0 then max 48 (2 * packetSamples rate e) else feParam e

/-- An ST 2110-30 or -31 receiver (R178): each sample is presented at its own instant plus link_offset; one that comes after
it is discarded as late; a packet more than 8 ms ahead is discarded, and counted as one late: the rule names no counter.
DESIGN CHOICE (unsafe, log 180). -/
def receiveAudio (i : Nat) (e : Bytes) (f : Bytes) (r : Rtp) (s : State) : State :=
  let rate := flowRate s.quire.active false e
  let nowN := now s * rate / ticksPerSec
  let n0 := extendSeq 32 r.ts nowN
  let off := linkOffset rate e
  let xs := audioSamples (feEssence e) (bit (feFlags e) 4) (feAudioCount e) (r.payload f)
  if nowN + 8 * rate / 1000 < n0 + off then flowCount i 3 1 s
  else
    let tagged := xs.zipIdx.map fun p => (n0 + p.2 + off, p.1)
    let good := tagged.filter fun p => decide (now s * rate ≤ p.1 * ticksPerSec)
    flowCount i 3 (tagged.length - good.length)
      (setFlow i (fun x => { x with audio := good.foldl (fun m p => mput m p.1 p.2) x.audio }) s)

/-! ### ST 2022-6 (R179) -/

/-- A line of the serial stream of ST 2022-6 flow `i`, from its words through the SDI receive chain 256 + `i`; one that a lost
datagram touches is black and counted as incomplete. -/
def sdiLine (i slot f line : Nat) (bytes : Option Bytes) (s : State) : State :=
  let l := 256 + i
  let black (t : State) : State :=
    let t1 := flowCount i 7 1 t
    if isActive (rasterOf f) line then writeLine slot line f (now s) (blackRow f) t1 else t1
  match bytes.bind (Config.sdiParse f line) with
  | none => black s
  | some c =>
    let s1 := c.anc.foldl (fun t p => ancTake l { p with line := line, link := 0 } t) s
    let s2 := c.audio.foldl (fun t a => deembedTake l a.1 a.2.1 a.2.2 t) s1
    if isActive (rasterOf f) line then laneWrite l slot line f (now s2) c.data c.err s2 else s2

/-- The lines of an ST 2022-6 flow that are complete, in order, `fuel` at most: each is so once every datagram that holds part
of it has come or is lost (R175, R179). -/
def sdiLines (i slot : Nat) : Nat → State → State
  | 0, s => s
  | fuel + 1, s =>
    let x := flowAt s i
    let f := x.measured
    let total := sdiFrameBytes f
    let lines := rasterLines (rasterOf f)
    match x.base with
    | none => s
    | some b =>
      let lo := (x.nextLine - 1) * total / lines
      let hi := x.nextLine * total / lines
      let j0 := b + lo / 1376
      let j1 := b + (hi - 1) / 1376
      if lines = 0 ∨ total = 0 ∨ ¬ gapFree x (j1 + 1) then s
      else
        let parts := (List.range (j1 + 1 - j0)).map fun d => (x.stream.find? fun p => decide (p.1 = j0 + d)).map (·.2)
        let words := slice (parts.map fun p => p.getD []).flatten (lo - (j0 - b) * 1376) (hi - lo)
        let wraps := decide (x.nextLine = lines)
        let s1 := setFlow i (fun y =>
          { y with
            base := some (if wraps then b + cdiv total 1376 else b)
            nextLine := if wraps then 1 else y.nextLine + 1
            stream := y.stream.filter fun p => decide (j1 ≤ p.1) }) s
        sdiLines i slot fuel (sdiLine i slot f x.nextLine (if parts.all Option.isSome then some words else none) s1)

/-- An ST 2022-6 receiver takes an accepted datagram of sequence `q` (R179): the stream's alignment is that of the datagram
sequence, whose marker ends each frame; the format is as the payload header states. DEDUCED (unsafe, log 181). -/
def receive2022 (i q : Nat) (f : Bytes) (r : Rtp) (s : State) : State :=
  match flowSource s.quire.active i with
  | none => s
  | some slot =>
    let fmt := Config.sdiFormat (slice f r.body 8)
    let aligned (x : Flow) : Bool :=
      match x.base with
      | some b => decide (b = q + 1 ∨ b + cdiv (sdiFrameBytes fmt) 1376 = q + 1)
      | none => false
    let s1 := setFlow i (fun x =>
      let y := { x with stream := keepLast 16384 (x.stream ++ [(q, slice f (r.body + 8) 1376)]), measured := fmt }
      if r.marker && !aligned x then { y with base := some (q + 1), nextLine := 1 } else y) s
    let s2 := setLane (256 + i) (fun x => { x with rx := 4, rxRate := sdiCodeOf fmt, measured := fmt }) s1
    sdiLines i slot 4096 s2

/-! ### Matching (R170) and activity (R172) -/

/-- Whether a receive entry's key, but for src_ip, is that of a datagram. -/
def keyMatches (port : Nat) (tagged : Bool) (vid : Nat) (ip : IpInfo) (dport : Nat) (e : Bytes) : Bool :=
  decide (rd e 0 2 < 8192) && decide (fePort e = port) && decide (bit (feFlags e) 2 = tagged) &&
    (!tagged || decide (rd e 8 2 % 4096 = vid)) && decide (bit (feFlags e) 0 = ip.v6) &&
    decide (slice e 0x10 16 = ip.dst) && decide (rd e 0x0C 2 = dport)

/-- The receive entry a datagram matches: with its exact source, else with no source filter (R170). -/
def matchFlow (q : Quire) (port : Nat) (tagged : Bool) (vid : Nat) (ip : IpInfo) (dport : Nat) :
    Option Bytes :=
  let c := (qAll q fFlows).filter (keyMatches port tagged vid ip dport)
  match c.find? fun e => decide (slice e 0x20 16 = ip.src) with
  | some e => some e
  | none => c.find? fun e => isZero e 0x20 16

/-- Whether a packet has its essence's form (R170, Table 06.9): up to three sample row data headers and their data, a packet's
samples of every channel, the ANC packets that it counts, or an ST 2022-6 datagram. PRESUMED (unsafe, log 48). -/
def essenceGood (q : Quire) (e f : Bytes) (r : Rtp) : Bool :=
  let n := r.stop - r.body
  match feEssence e with
  | 1 =>
    let hs := srdHeaders 4 f (r.body + 2)
    decide (hs.length ≤ 3 ∧ 2 + 6 * hs.length + (hs.map (·.len)).sum ≤ n)
  | 3 => decide (n = packetSamples (flowRate q false e) e * feAudioCount e * (if bit (feFlags e) 4 then 2 else 3))
  | 4 => decide (n = packetSamples (flowRate q false e) e * feAudioCount e * 4)
  | 5 =>
    let c := rdB f (r.body + 4) 1
    decide (8 ≤ n ∧ rdB f (r.body + 2) 2 ≤ n - 8 ∧ (ancList 0 c (f.take r.stop) (8 * (r.body + 8))).length = c)
  | 6 => decide (n = 1384)
  | _ => true

/-- Whether a packet passes the checks of R170. -/
def rtpGood (q : Quire) (e f : Bytes) (r : Rtp) : Bool :=
  r.ok && decide (r.pt = rd e 0x0A 1) && (decide (rd e 0x40 4 = 0) || decide (rd e 0x40 4 = r.ssrc)) && essenceGood q e f r

/-- Hands an accepted packet, of sequence `x` and ingress timestamp `at_`, to the receiver of its essence. -/
def receiveEssence (i : Nat) (e : Bytes) (x at_ rtpAt : Nat) (f : Bytes) (r : Rtp) (s : State) : State :=
  match feEssence e with
  | 1 => receive20 i e x f r s
  | 2 => receive22 i at_ rtpAt f r s
  | 3 => receiveAudio i e f r s
  | 4 => receiveAudio i e f r s
  | 5 => receive40 i e f r s
  | 6 => receive2022 i x f r s
  | _ => s

/-- A matched media packet (R170, R172 to R181): dropped while its flow is under a staged item, else checked, a hit of its
entry, merged, and handed on. -/
def mediaReceive (e : Bytes) (f : Bytes) (rtpAt : Nat) (s : State) : State :=
  let idx := rd e 0 2
  let r := rtpOf f rtpAt
  if (flowAt s idx).staging then s
  else if ¬ rtpGood s.quire.active e f r then flowCount idx 5 1 s
  else
    let s1 := setFlow idx (fun x => { x with active := true, hit := true, lastHit := now s, lastTs := r.ts }) s
    let a := legA e
    let paired := decide (fePair e ≠ 0xFFFF)
    let n := if feEssence e = 1 then rdB f r.body 2 * 65536 + r.seq else r.seq
    let m := mergeStep paired 16384 (if feEssence e = 1 then 32 else 16) n (now s) (flowAt s1 a)
    let s2 := setFlow a (fun _ => { m.1 with lastTs := r.ts }) s1
    match m.2 with
    | .accept x =>
      let s3 := flowCount a 0 1 s2
      let s4 := if a = idx then s3 else flowCount a 4 1 s3
      let ea := (flowEntry s.quire.active a).getD e
      receiveEssence a ea x (ingressTicks s (fePort e)) rtpAt f r s4
    | _ => s2

/-- Whether a flow is IDLE (R172): its entry, or both legs of its pair. -/
def flowIdle (s : State) (e : Bytes) : Bool :=
  !(flowAt s (rd e 0 2)).active && (decide (fePair e = 0xFFFF) || !(flowAt s (fePair e)).active)

/-- An entry becomes IDLE (R172): its flow, if idle, reports loss, and an audio flow goes silent. -/
def entryIdle (e : Bytes) (s : State) : State :=
  let i := rd e 0 2
  let s1 := setFlow i (fun x => { x with active := false }) s
  if ¬ flowIdle s1 e then s1
  else
    let a := legA e
    match feEssence e with
    | 3 => setFlow a (fun x => { x with audio := [], held := [] }) s1
    | 4 => setFlow a (fun x => { x with audio := [], held := [] }) s1
    | 5 => s1
    | k =>
      let s2 := if k = 6 then setFlow a (fun x => { x with base := none, stream := [] }) (setLane (256 + a) rxStop s1) else s1
      match flowSource s.quire.active a with
      | some slot => srcLost slot s2
      | none => s2

/-- The receive entries of the flow table. -/
def receiveEntries (q : Quire) : List Bytes := (qAll q fFlows).filter fun e => decide (rd e 0 2 < 8192)

/-- FLOW_AGEING_CYCLE (R172): the end of a 100 µs cycle. A hit in the cycle wins over an age that
expires in it. -/
def execFlowAgeingCycle (s : State) : Host.Outcome State Fault Refusal :=
  .next
    ((receiveEntries s.quire.active).foldl (fun t e =>
      let i := rd e 0 2
      let x := flowAt t i
      if x.hit then setFlow i (fun y => { y with hit := false }) t
      else if x.active ∧ x.lastHit + flowAge t.quire.active e ≤ now s then entryIdle e t
      else t) s)

/-- One cycle of ageing of a pair's merge records (R180). DESIGN CHOICE (unsafe, log 49). -/
def ageRecs (w t : Nat) (x : Flow) : Flow :=
  let gone := x.recs.filter fun r => decide (r.2 + w ≤ t)
  let y := gone.foldl (fun z r => raiseLow r.1 z) x
  { y with recs := y.recs.filter fun r => !decide (r.2 + w ≤ t) }

/-- MERGE_RECORD_AGEING (R180, R175): records not renewed within their window expire, L rises, and lines
that this completes are written. -/
def execMergeRecordAgeing (s : State) : Host.Outcome State Fault Refusal :=
  .next
    ((receiveEntries s.quire.active).foldl (fun t e =>
      let i := rd e 0 2
      if fePair e = 0xFFFF ∨ fePair e < i then t
      else
        let t1 := setFlow i (ageRecs (rd e 0x3C 2 * 10 * ticksPerUs) (now s)) t
        match flowSource s.quire.active i with
        | some slot => if feEssence e = 1 then flushLines i slot t1 else if feEssence e = 6 then sdiLines i slot 4096 t1 else t1
        | none => t1) s)

end Sys2Proof.Machine
end

