-- ==== Sys2Proof/Machine/Fsy.lean ====
section
/-! DEFINITION. Frame synchronisers and the in-package memory's events and commands (chapter 08). -/

namespace Sys2Proof.Machine

/-! ### Frame synchronisers (R253 to R258) -/

/-- Whether a synchroniser is in loss (R256). -/
def syLoss (s : State) (i : Nat) : Bool :=
  let q := s.quire.active
  let st := (srcSlot s (syInput q i)).state
  !decide (st = .valid ∨ st = .outOfWindow) || !permitted s q (syPen q i) (syInput q i)

/-- The newest frame a synchroniser has begun to capture. -/
def newestFrame (y : Sync) : Option FrameBuf :=
  y.frames.foldl (fun b f =>
    match b with
    | some g => if g.k < f.k then some f else b
    | none => some f) none

/-- The predicted capture start of input frame `k`: the newest frame begun, plus whole periods (R254). -/
def predictedStart (f : Nat) (n : FrameBuf) (k : Nat) : Int :=
  (n.start : Int) + ((k : Int) - n.k) * framePeriod f

/-- The choice of R254 for the output frame at `a`: the input frame, and 0 for the normal advance, 1
realigned, 2 repeated, 3 dropped. -/
def chooseFrame (f d a : Nat) (y : Sync) (n : FrameBuf) : Nat × Nat :=
  let lo : Int := 2 * linePeriod f + d * framePeriod f
  let hi : Int := lo + framePeriod f + framePeriod f / 8
  match if y.realign then none else y.last with
  | none => ((n.k + ((a : Int) - lo - n.start) / framePeriod f).toNat, 1)
  | some last =>
    let lat := (a : Int) - predictedStart f n (last + 1)
    if lat < lo then (last, 2) else if hi < lat then (last + 2, 3) else (last + 1, 0)

/-- Counts of a synchroniser: 0 drops, 1 repeats, 2 loss frames, 3 realignments, 4 black lines, 5 own
decisions. -/
def syCount (i k n : Nat) (s : State) : State :=
  setSync i (fun y => { y with counts := cAdd y.counts k n }) s

/-- Keeps the choice of output frame `j`. -/
def keepChoice (i : Nat) (c : FsyChoice) (s : State) : State :=
  let s1 := setSync i (fun y => { y with choices := keepLast 4 (y.choices ++ [c]) }) s
  if c.mode = 0 then copyItem (.choice i c.j c.k) s1 else s1

/-- What a synchroniser does by its loss_mode for output frame `j` (R256). -/
def lossChoice (i j : Nat) (s : State) : State :=
  let q := s.quire.active
  let y := syncAt s i
  let mode := syField q i 6 1
  let held : Bool := match y.last with
    | some k => y.frames.any (fun f => decide (f.k = k))
    | none => false
  if mode = 2 then syCount i 2 1 (keepChoice i ⟨j, 1, 0⟩ s)
  else if mode = 1 ∧ held ∧ y.state ≠ 4 ∧ y.frozen < syField q i 7 1 then
    syCount i 2 1
      (keepChoice i ⟨j, 0, y.last.getD 0⟩ (setSync i (fun x => { x with frozen := x.frozen + 1 }) s))
  else keepChoice i ⟨j, 2, 0⟩ s

/-- Takes input frame `k` for output frame `j`, as the advance, realignment, repeat or drop that it is. -/
def takeFrame (i j k how : Nat) (s : State) : State :=
  let q := s.quire.active
  let f := syFormat q i
  let y := syncAt s i
  let c := match y.frames.find? fun b => decide (b.k = k) with
    | some b => (b.start : Int)
    | none => match newestFrame y with
      | some n => predictedStart f n k
      | none => 0
  let lat := (((alignInstant f j : Int) - c + outputDelay q f * linePeriod f) / ticksPerNs).toNat
  let s1 := keepChoice i ⟨j, 0, k⟩
    (setSync i (fun x => { x with last := some k, realign := false, latency := lat, frozen := 0 }) s)
  if how = 1 then syEvent i 3 (syCount i 3 1 s1)
  else if how = 2 then
    syEvent i 2 (syCount i 1 1 (setSync i (fun x => { x with lastChange := now s }) s1))
  else if how = 3 then
    syEvent i 1 (syCount i 0 1 (setSync i (fun x => { x with lastChange := now s }) s1))
  else s1

/-- The state a synchroniser is in for its next choice (Table 08.7, R256). -/
def syAdvance (i : Nat) (s : State) : State :=
  let y := syncAt s i
  let loss := syLoss s i
  let f := syFormat s.quire.active i
  let ready := y.frames.any (frameWhole f)
  match y.state with
  | 1 =>
    if !loss && ready then
      syEnter i 2 (setSync i (fun x => { x with realign := true, afterMove := false }) s)
    else s
  | 2 => if loss then syEnter i 3 (setSync i (fun x => { x with frozen := 0 }) s) else s
  | 3 => if loss then s else syEnter i 2 (setSync i (fun x => { x with realign := true }) s)
  | _ => s

/-- Decides output frame `j`, by the procedure of R254, or with the frame the holder chose. -/
def syDecide (i j : Nat) (copied : Option Nat) (s : State) : State :=
  let s1 := syAdvance i s
  let y := syncAt s1 i
  if y.state ≠ 2 then lossChoice i j s1
  else
    match newestFrame y with
    | none => lossChoice i j s1
    | some n =>
      let q := s1.quire.active
      let f := syFormat q i
      let own := chooseFrame f (syDelay q i) (alignInstant f j) y n
      match copied with
      | none => takeFrame i j own.1 own.2 s1
      | some k =>
        let how := if y.realign then 1 else match y.last with
          | some l => if k = l then 2 else if k = l + 1 then 0 else 3
          | none => 1
        takeFrame i j k how s1

/-- Whether synchroniser `i` has still to decide output frame `j` at `before` ahead of its start. -/
def syOpen (s : State) (i j before : Nat) : Bool :=
  let y := syncAt s i
  syEnabled s.quire.active i && decide (1 ≤ y.state ∧ y.state ≤ 4) &&
    !(y.choices.any fun c => decide (c.j = j)) &&
    decide (alignInstant (syFormat s.quire.active i) j ≤ now s + before)

/-- A synchroniser starts, or restarts, empty (R252, R256). -/
def syRestart (i : Nat) (s : State) : State :=
  let q := s.quire.active
  if syEnabled q i then
    syEnter i 1 (setSync i (fun y =>
      { y with group := syField q i 1 1, afterMove := false, realign := true, last := none, frames := []
               choices := [], frozen := 0, restartAt := none }) s)
  else syEnter i 0 (setSync i (fun y => { y with group := 0xFF, frames := [], choices := [], restartAt := none }) s)

/-- A synchroniser's entry as the target quire has it. -/
def takeSyncEntry (i : Nat) (t a : Quire) : Quire := qWrite a fDram (0x40 + 32 * i) (qBytes t fDram (0x40 + 32 * i) 32)

/-- A changed entry takes effect once the output frame that was being written has ended (R252): the synchroniser restarts.
DEDUCED (unsafe, log 194). -/
def syDue (i : Nat) (s : State) : State :=
  match (syncAt s i).restartAt with
  | some t =>
    if t ≤ now s then syRestart i { s with quire := { s.quire with active := takeSyncEntry i s.quire.target s.quire.active } } else s
  | none => s

/-- FSY_CHOOSE (R254, R255): at A(j) − 1 ms. At a standby `copied` is the frame the holder chose; without it
the choice waits. DESIGN CHOICE (safe, log 58). -/
def execFsyChoose (i j : Nat) (copied : Option Nat) (s : State) : Host.Outcome State Fault Refusal :=
  .next
    (let s := syDue i s
     if ¬ syOpen s i j ticksPerMs then s
     else if s.twin.role = .standby then
       match copied with
       | some k => syDecide i j (some k) s
       | none => s
     else syDecide i j none s)

/-- FSY_OWN_DECISION (R255): a standby without a choice at A(j) − 250 µs makes it itself. -/
def execFsyOwnDecision (i j : Nat) (s : State) : Host.Outcome State Fault Refusal :=
  .next
    (if s.twin.role ≠ .standby ∨ ¬ syOpen s i j (250 * ticksPerUs) then s
     else ownDecision 5 (syCount i 5 1 (syDecide i j none s)))

/-- FSY_OUTPUT_LINE (R253): raster line `line` of output frame `j`, complete at A(j) + (line − 1) × T_L, and
the ANC packets of that line. DEDUCED (unsafe, log 65). -/
def execFsyOutputLine (i j line : Nat) (s : State) : Host.Outcome State Fault Refusal :=
  .next
    (let s := syDue i s
     let q := s.quire.active
     let f := syFormat q i
     let y := syncAt s i
     match syOutput q i, y.choices.find? fun c => decide (c.j = j) with
     | some o, some c =>
       if c.mode = 2 ∨ y.state = 5 ∨ ¬ (1 ≤ line ∧ line ≤ rasterLines (rasterOf f)) then s
       else
         let done := alignInstant f j + (line - 1) * linePeriod f
         let buf := if c.mode = 0 then y.frames.find? fun b => decide (b.k = c.k) else none
         let s1 :=
           if ¬ isActive (rasterOf f) line then s
           else
             match buf with
             | some b =>
               match b.lines.find? fun l => decide (l.1 = line) with
               | some l =>
                 if b.bad.contains line then writeLine o line f done (blackRow f) (syCount i 4 1 s)
                 else writeLine o line f done l.2 s
               | none => writeLine o line f done (blackRow f) (syCount i 4 1 s)
             | none =>
               writeLine o line f done (blackRow f) (if c.mode = 0 then syCount i 4 1 s else s)
         match buf with
         | some b =>
           (b.anc.filter fun p => decide (p.line = line)).foldl
             (fun t p => setSrc o (storeAnc (srcAnc q o) j p) t) s1
         | none => s1
     | _, _ => s)

/-- FSY_MOVE_RESTART (R257): a moved synchroniser restarts FILLING at the next input frame start. -/
def execFsyMoveRestart (i : Nat) (s : State) : Host.Outcome State Fault Refusal :=
  .next
    (if (syncAt s i).state = 4 then
       syEnter i 1 (setSync i (fun y => { y with realign := true, last := none, frames := [] }) s)
     else s)

/-! ### The memory (R235 to R247) -/

/-- The group of a channel. -/
def groupOfChan (c : Nat) : Nat := c / 8

/-- DRAM_TEMP_POLL (R240): the temperatures of a group's dies, every 16 ms; each die's refresh interval
follows its temperature. -/
def execDramTempPoll (group : Nat) (temps : List Int) (s : State) : Host.Outcome State Fault Refusal :=
  .next
    (if group < 4 then setGroup group (fun x => { x with temps := temps, refresh := temps.map Config.refreshInterval }) s
     else s)

/-- Whether a die has moved by 5 °C since the channel's last measurement (R245). -/
def tempMoved (temps measured : List Int) : Bool :=
  (temps.zip measured).any fun p => decide (5 ≤ p.1 - p.2 ∨ 5 ≤ p.2 - p.1)

/-- DRAM_WCK_RETRAIN (R245): a channel's oscillator asks for the adjustment `ps` from start-up training. One
that would leave ±50 ps takes the group out of service. -/
def execDramWckRetrain (chan : Nat) (ps : Int) (s : State) : Host.Outcome State Fault Refusal :=
  .next
    (let g := groupOfChan chan
     let due := decide ((dramChan s chan).lastRetrain + qRd s.quire.active fDram 7 1 * 100 * ticksPerMs ≤ now s)
     if ¬ inService s g ∨ ¬ (due ∨ tempMoved (dramGroup s g).temps (dramChan s chan).measured) then s
     else if ps < -50 ∨ 50 < ps then groupOut g 2 s
     else
       let s1 := setChan chan (fun x =>
         { x with drift := ps, lastRetrain := now s, measured := (dramGroup s g).temps }) s
       setGroup g (fun x => { x with counts := cAdd x.counts 3 1 }) s1)

/-- Sets bit `b` of the byte at offset `o`. -/
def setFlag (o b : Nat) (bs : Bytes) : Bytes :=
  bs.zipIdx.map fun p => if p.2 = o then p.1 ||| BitVec.ofNat 8 (2 ^ b) else p.1

/-- What an uncorrectable burst of a channel and extent does to its user (R235). One of the system mirror is read from the
other copy and rewritten, where that is in service. -/
def burstLost (chan extent : Nat) (u : DramUser) (s : State) : State :=
  match u with
  | .mirror =>
    if inService s (1 - groupOfChan chan) then s
    else { s with dram := { s.dram with mirrorBad := s.dram.mirrorBad ++ [(groupOfChan chan, extent)] } }
  | .syncLine i k line =>
    setSync i (fun y =>
      { y with frames := y.frames.map fun b => if b.k = k then { b with bad := b.bad ++ [line] } else b }) s
  | .layerLine e l k line =>
    setLayer e l (fun x =>
      { x with bufs := x.bufs.map fun b =>
          if b.k = k then { b with lines := mput b.lines line (true, []) } else b }) s
  | .delay sec j first n =>
    let clear (p : Int × Nat) : Int := if first ≤ p.2 ∧ p.2 < first + n then 0 else p.1
    setSection sec (fun x =>
      let wipe (d : DelayLine) : DelayLine := { d with words := d.words.zipIdx.map clear }
      { x with delays := mmod (fun _ => ({} : DelayLine)) x.delays j wipe }) s
  | .colophon half sec =>
    let mark (h : ColHalf) : ColHalf := { h with bytes := setFlag 0x31 1 (setFlag (0x41 + 16 * sec) 1 h.bytes) }
    let ev :=
      if half = 0 then { s.ev with half0 := mark s.ev.half0 } else { s.ev with half1 := mark s.ev.half1 }
    { s with ev := ev }
  | .other => s

/-- DRAM_UNCORRECTABLE_READ (R235, R245): EV0576; more than 16 on a channel in any 1 s take the group out of
service. -/
def execDramUncorrectableRead (chan extent : Nat) (user : DramUser) (s : State) :
    Host.Outcome State Fault Refusal :=
  .next
    (let g := groupOfChan chan
     if ¬ inService s g then s
     else
       let times := keepLast 17 ((dramChan s chan).uncorrected ++ [now s])
       let s1 := setChan chan (fun x => { x with uncorrected := times }) s
       let s2 := setGroup g (fun x => { x with counts := cAdd x.counts 1 1 }) s1
       let s3 := raiseIn 6 576 chan extent (groupOut g 3) (burstLost chan extent user s2)
       let tooMany := decide (times.length = 17) && decide (now s ≤ times.headD 0 + ticksPerSec)
       if tooMany then groupOut g 3 s3 else s3)

/-- DRAM_GROUP_OUT (R245, R246): a command that draws no response within 10 µs, or another fault, takes a
group out of service. -/
def execDramGroupOut (group cause : Nat) (s : State) : Host.Outcome State Fault Refusal :=
  .next (groupOut group cause s)

/-- DRAM_ACCESS_REFUSED (R247). -/
def execDramAccessRefused (group pen port : Nat) (s : State) : Host.Outcome State Fault Refusal :=
  .next (raiseIn 6 578 pen port (groupOut group 0) (setGroup group (fun x => { x with counts := cAdd x.counts 2 1 }) s))

/-- Whether segment `n` of a group is masked (R241). -/
def segmentMasked (s : State) (g n : Nat) : Bool :=
  let hold (e : Nat) : Bool :=
    decide (mget (fun _ => 0) s.dram.alloc (248 * g + e) ≠ 0) || (decide (g ≤ 1) && decide (e < 48)) ||
      (decide (s.dram.colophon = g) && decide (232 ≤ e))
  bit (qRd s.quire.active fDram 6 1) 0 && !((List.range 31).any fun i => hold (31 * n + i))

/-- Whether the scrubber reads an extent (R237): allocated, of the system mirror or of the colophon region, in a group in
service and in no masked segment. -/
def scrubs (s : State) (g e : Nat) : Bool :=
  inService s g && !segmentMasked s g (e / 31) &&
    (decide (mget (fun _ => 0) s.dram.alloc (248 * g + e) ≠ 0) || (decide (g ≤ 1) && decide (e < 48)) ||
      (decide (s.dram.colophon = g) && decide (232 ≤ e)))

/-- DRAM_PATROL_SCRUB (R237): a pass over a channel, which has rewritten `corrected` bursts in place: every extent of R237
that has not been read in this scrub period. A new period begins with the first pass after the last has run.
DEDUCED (unsafe, log 199). -/
def execDramPatrolScrub (chan corrected : Nat) (s : State) : Host.Outcome State Fault Refusal :=
  .next
    (let period := qRd s.quire.active fDram 8 2 * 60 * ticksPerSec
     let s1 := if now s < s.dram.scrubFrom + period then s
       else
         { s with dram := { s.dram with
                             scrubFrom := now s, chans := s.dram.chans.map fun p => (p.1, { p.2 with scrubbed := [] }) } }
     let todo := (List.range 248).filter fun e =>
       scrubs s (groupOfChan chan) e && !(dramChan s1 chan).scrubbed.contains e
     if todo = [] then s1
     else
       let sec := now s / ticksPerSec
       let s2 := setChan chan (fun x =>
         { x with
           lastSecond := if x.second = sec then x.lastSecond else if x.second + 1 = sec then x.inSecond else 0
           inSecond := satAdd (if x.second = sec then x.inSecond else 0) corrected
           second := sec, scrubbed := x.scrubbed ++ todo }) s1
       setGroup (groupOfChan chan) (fun x => { x with counts := cAdd x.counts 0 corrected }) s2)

/-- Whether a group's partitions hold an enabled synchroniser or a delay line in use (R242). -/
def groupBusy (s : State) (g : Nat) : Bool :=
  s.dram.syncs.any (fun p => decide (p.2.group = g)) ||
    (delayLines s).any fun p => decide ((delayAt (sectionAt s p.1) p.2).group = g)

/-- DRAM_AUTO_SELF_REFRESH (R242): a channel has had no request for asr_idle × 4 µs. -/
def execDramAutoSelfRefresh (chan : Nat) (s : State) : Host.Outcome State Fault Refusal :=
  .next
    (let g := groupOfChan chan
     if inService s g ∧ qRd s.quire.active fDram 5 1 ≠ 0 ∧ ¬ groupBusy s g then
       chanSleep chan true s
     else s)

/-- The load of a channel leaving self-refresh (Table 20.6). -/
def chanLoad (s : State) (c : Nat) : Load := ⟨1, 400 + c, 1, 1, now s⟩

/-- DRAM_SELF_REFRESH_EXIT (R242): a request wakes a channel, under the governor. -/
def execDramSelfRefreshExit (chan : Nat) (s : State) : Host.Outcome State Fault Refusal :=
  .next
    (let waits := s.power.waiting.any fun l => decide (l.resource = 400 + chan)
     if (dramChan s chan).selfRefresh ∧ ¬ waits then
       { s with power := { s.power with waiting := s.power.waiting ++ [chanLoad s chan] } }
     else s)

/-- Trains a group at start-up (R244): a channel that fails puts its group out of service. `fails` gives the
failed step of each failing channel. -/
def trainGroup (g : Nat) (fails : List (Nat × Nat)) (s : State) : State :=
  let mine := fails.filter fun p => decide (groupOfChan p.1 = g)
  let one (t : State) (c : Nat) : State :=
    let step := (mine.find? fun p => decide (p.1 = c)).map (·.2)
    setChan c (fun x =>
      { x with
        result := if step.isSome then 1 else 0, failedStep := step.getD 0, trainedTime := now s
        eyes := s.free, drift := 0, lastRetrain := now s, measured := (dramGroup s g).temps, uncorrected := [], selfRefresh := false }) t
  let s1 := ((List.range 8).map (· + 8 * g)).foldl one { s with free := s.free + 40 }
  let bad := decide (mine ≠ [])
  let s2 := setGroup g (fun x =>
    { x with state := if bad then 3 else 2, cause := if bad then 1 else 0, stateTime := now s }) s1
  if bad then raise 577 g 1 s2 else s2

/-- Extents of a group in partitions. -/
def extentsUsed (s : State) (g : Nat) : Nat :=
  (s.dram.alloc.filter fun p => decide (p.1 / 248 = g)).length

/-- Gives a pen's partition in a group `n` extents in all: the lowest free ones are added, the highest
released (R252). DESIGN CHOICE (unsafe, log 64). -/
def allocate (pen g n : Nat) (s : State) : State :=
  let mine := (s.dram.alloc.filter fun p => decide (p.1 / 248 = g ∧ p.2 = pen + 1)).map (·.1)
  let m := s.dram.alloc
  let free := ((List.range (partitionable g)).map fun i => 248 * g + firstExtent g + i).filter fun e =>
    decide (mget (fun _ => 0) m e = 0)
  let m' := if mine.length ≤ n then (free.take (n - mine.length)).foldl (fun a e => mput a e (pen + 1)) m
    else (mine.drop n).foldl (fun a e => mdel a e) m
  { s with dram := { s.dram with alloc := m' } }

/-! ### Commands -/

/-- Mbit/s reserved in a group: its enabled partitions and the system mirror (Table 08.8). -/
def reservedMbps (q : Quire) (g : Nat) : Nat :=
  (((partitions q).filter fun e => decide (rd e 1 1 = g) && bit (rd e 2 1) 0).map fun e => rd e 8 4).sum +
    (if g ≤ 1 then 60000 else 0)

/-- The record of a group (Table 08.8); page hits and predictions are measured values. -/
def groupRecord (s : State) (g : Nat) : Bytes :=
  let x := dramGroup s g
  let masked := ((List.range 8).map fun n => 2 ^ n * b2n (segmentMasked s g n)).sum
  le 1 g ++ le 1 (if x.state = 2 ∧ 0 < asleep s g then 4 else x.state) ++ le 1 x.cause ++ le 1 masked ++
    le 2 (partitionable g - extentsUsed s g) ++ le 1 (asleep s g) ++
    leI 1 (x.temps.foldl max (-128)) ++ le 4 (reservedMbps s.quire.active g) ++
    le 2 (Config.freeNat (s.free + 2 * g) % 1001) ++ le 2 (Config.freeNat (s.free + 2 * g + 1) % 1001) ++
    cBytes x.counts 4 ++ le 8 (nsOf x.stateTime) ++ zeros 8

/-- MEM_STATUS (R260). DESIGN CHOICE (safe, log 31). -/
def execMemStatus (r : Req) (s : State) : Host.Outcome State Fault Refusal :=
  .next (command 0x0801
    (fun r s => needLen 4 r s fun _ =>
      let clear := bit (rd r.params 0 1) 0
      needForm [(decide (rd r.params 0 1 ≤ 1), 0), (isZero r.params 1 3, 1)] s fun _ =>
        let up := ((List.range 4).map fun g => 2 ^ g * b2n (inService s g)).sum
        let s1 := { s with free := s.free + 8 }
        { st := if clear then
            (List.range 4).foldl (fun t g => setGroup g (fun x => { x with counts := [] }) t) s1
          else s1
          params := le 1 up ++ le 1 s.dram.colophon ++ zeros 6 ++ (List.range 4).flatMap (groupRecord s)
          clearing := clear }) r s)

/-- The training record of a channel (Table 08.9): eyes and references as measured. -/
def chanRecord (s : State) (c : Nat) : Bytes :=
  let x := dramChan s c
  let m (i : Nat) : Nat := Config.freeNat (x.eyes + 5 * (c % 8) + i)
  let sec := now s / ticksPerSec
  let last := if x.second = sec then x.lastSecond else if x.second + 1 = sec then x.inSecond else 0#32
  let eye (i : Nat) : Bytes := le 2 (if x.result = 0 then 250 + m i % 751 else m i % 1001)
  le 1 c ++ le 1 x.result ++ le 1 x.failedStep ++ zeros 1 ++ eye 0 ++ eye 1 ++ eye 2 ++ le 2 (m 3) ++
    le 2 (m 4) ++ leI 2 x.drift ++ le 4 last.toNat ++ zeros 4 ++ le 8 (nsOf x.trainedTime)

/-- MEM_TRAINING (R261). -/
def execMemTraining (r : Req) (s : State) : Host.Outcome State Fault Refusal :=
  .next (command 0x0802
    (fun r s => needLen 4 r s fun _ =>
      let g := rd r.params 0 1
      needForm [(decide (g < 4), 0), (isZero r.params 1 3, 1)] s fun _ =>
        if (dramGroup s g).state = 0 then refuse s stNotActive 0
        else okay s ((List.range 8).flatMap fun c => chanRecord s (8 * g + c))) r s)

/-- The record of a synchroniser (Table 08.10). -/
def syncRecord (s : State) (i : Nat) : Bytes :=
  let q := s.quire.active
  let y := syncAt s i
  le 2 i ++ le 1 y.state ++ le 1 y.group ++ le 1 (syPen q i) ++ le 1 (syDelay q i) ++ le 2 (syInput q i) ++
    le 2 ((syOutput q i).getD 0xFFFF) ++ zeros 2 ++ le 4 y.latency ++ cBytes y.counts 6 ++
    le 8 (nsOf y.lastChange)

/-- FSY_STATUS (R262): a pen port reads its own synchronisers. -/
def execFsyStatus (r : Req) (s : State) : Host.Outcome State Fault Refusal :=
  .next (command 0x0803
    (fun r s => needLen 8 r s fun _ =>
      let first := rd r.params 0 2
      let n := rd r.params 2 2
      let clear := bit (rd r.params 4 1) 0
      needForm
        [(decide (first < 96), 0), (decide (1 ≤ n ∧ n ≤ 96 ∧ first + n ≤ 96), 2),
          (decide (rd r.params 4 1 ≤ 1), 4), (isZero r.params 5 3, 5)] s fun _ =>
        let may (i : Nat) : Bool := owns r (syPen s.quire.active i)
        let wipe (t : State) (j : Nat) : State :=
          if may (first + j) then setSync (first + j) (fun y => { y with counts := [] }) t else t
        { st := if clear then (List.range n).foldl wipe s else s
          params := rangeRecords first n may (syncRecord s)
          clearing := clear }) r s)

end Sys2Proof.Machine
end

