-- ==== Sys2Proof/Machine/AudioPorts.lean ====
section
/-! DEFINITION. AES3, TDM and word clock ports (chapter 10). -/

namespace Sys2Proof.Machine

/-! ### The AUDIO_PORTS folio and the ports -/

/-- A field of entry `p` of AUDIO_PORTS. -/
def apField (q : Quire) (p o k : Nat) : Nat := qRd q fAudioPorts (128 * p + o) k

/-- Whether a port is enabled; the word clock, its input or its output. -/
def apEnabled (q : Quire) (p : Nat) : Bool :=
  if p = 72 then decide (apField q p 0 1 % 4 ≠ 0) else bit (apField q p 0 1) 0

/-- The section of a port; that of the word clock is its output's. -/
def apSection (q : Quire) (p : Nat) : Nat := if p = 72 then apField q p 2 1 else apField q p 1 1

/-- Whether a TDM port is a master. -/
def tdmMaster (q : Quire) (p : Nat) : Bool := bit (apField q p 0 1) 1

/-- First input channel and count of a port. -/
def apInputs (q : Quire) (p : Nat) : Nat × Nat :=
  if p < 32 then (apField q p 2 2, apField q p 4 1)
  else if 64 ≤ p ∧ p < 72 then (apField q p 2 2, apField q p 7 1) else (0, 0)

/-- First output channel and count of a port. -/
def apOutputs (q : Quire) (p : Nat) : Nat × Nat :=
  if 32 ≤ p ∧ p < 64 then (apField q p 2 2, apField q p 4 1)
  else if 64 ≤ p ∧ p < 72 then (apField q p 4 2, apField q p 8 1) else (0, 0)

/-- An audio port. -/
def portAt (s : State) (p : Nat) : AudioPort := mget (fun _ => ({} : AudioPort)) s.apt p

/-- Changes an audio port. -/
def setApt (p : Nat) (f : AudioPort → AudioPort) (s : State) : State :=
  { s with apt := mmod (fun _ => ({} : AudioPort)) s.apt p f }

/-- Counts of a port, in the order of R318 from 0. -/
def apCount (p k n : Nat) (s : State) : State := setApt p (fun x => { x with counts := cAdd x.counts k n }) s

/-- Whether a section executes (R269): DOM48 always, the others while their domain is RUNNING. -/
def secRuns (s : State) (sec : Nat) : Bool :=
  if sec ≤ 2 then decide (s.audio.dom48 = 2) else if sec ≤ 5 then decide (s.audio.dom441 = 2)
  else decide (s.audio.domFree = 2 ∧ freeRate s.audio.prog ≠ 0)

/-- Whether a port clocks itself: an AES3 input, a TDM slave, the word clock input. -/
def apSlave (q : Quire) (p : Nat) : Bool := decide (p < 32 ∨ p = 72) || (decide (64 ≤ p) && !tdmMaster q p)

/-- A port enters a state (Table 10.5); leaving LOCKED is a loss of lock. -/
def apEnter (p st : Nat) (s : State) : State :=
  let x := portAt s p
  if x.state = st then s
  else
    let s1 := if x.state = 3 then apCount p 5 1 s else s
    let keep := decide (st = 3 ∨ st = 5 ∨ st = 6)
    setApt p (fun y =>
      { y with
        state := st, stateTime := now s, good := if st = 3 then y.good else 0
        buf := if keep then y.buf else [], primed := false
        outPrimed := false, badPreambles := 0 }) s1

/-- The state a port starts in when enabled (R303). -/
def apStart (p : Nat) (s : State) : State :=
  let q := s.quire.active
  let st := if ¬ apEnabled q p then 0
    else if p = 72 then (if bit (apField q p 0 1) 0 then 1 else 0)
    else if apSlave q p then 1
    else if secRuns s (apSection q p) then 5 else 6
  setApt p (fun x =>
    { x with
      state := st, stateTime := now s, good := 0, since := 0, badPreambles := 0, buf := [], last := []
      outBuf := [], outLast := [], asm_ := [], done := [], passAsm := [], passDone := [], sending := [],
      pos := 0, primed := false, outPrimed := false }) s

/-- Outputs and masters of a section halt or resume with it (R311, R314). -/
def apFollow (sec : Nat) (s : State) : State :=
  let q := s.quire.active
  let st := if secRuns s sec then 5 else 6
  let mine := (List.range 72).filter fun p => apEnabled q p && !apSlave q p && decide (apSection q p = sec)
  mine.foldl (fun t p => if (portAt t p).state = 0 then t else apEnter p st (setApt p (fun x => { x with pos := 0 }) t)) s

/-- Whether a measured rate in mHz is within ±1,000 ppm of a nominal rate in Hz. -/
def rateNear (r mhz : Nat) : Bool := decide (r * 999 ≤ mhz ∧ mhz ≤ r * 1001)

/-- The rate of a port's section in Hz. -/
def apRate (s : State) (p : Nat) : Nat := sectionRate s.audio.prog (apSection s.quire.active p)

/-- Whether sample `n` of a section lies `d` ticks or more back: in DOM48 by its number (R267), elsewhere by the instant at
which the newest sample was stamped (R268, R269). DEDUCED (unsafe, log 77). -/
def sampleAgo (s : State) (sec n d : Nat) : Bool :=
  if sec ≤ 2 then
    let r := sectionRate s.audio.prog sec
    decide (n * ticksPerSec + d * r ≤ (now s + ticksPerStep) * r)
  else
    let x := mget (fun _ => ({} : Section)) s.audio.sections sec
    decide (n + 1 < x.next ∨ (n + 1 = x.next ∧ x.at_ + d ≤ now s))

/-! ### Slip (R307, R308, R315) -/

/-- Whether an entry's input is the DOMFREE clock. -/
def freeSource (q : Quire) (p : Nat) : Bool :=
  let f := apField q 72 1 1
  decide (f ≠ 0xFF) && (if p = 72 then decide (f = 0) else decide (f = p + 1 ∧ p < 32))

/-- Whether a port never slips: the DOMFREE clock itself, in section 6 (R307). -/
def neverSlips (q : Quire) (p : Nat) : Bool := freeSource q p && decide (apSection q p = 6)

/-- Whether a slip is made: a standby makes the holder's slips, and its own where it lacks the decision,
counting it; the flag says it decided itself. DEDUCED (unsafe, log 75). -/
def slipNow (s : State) (own : Bool) (copied : Option Bool) : Bool × Bool :=
  if s.twin.role = .standby then
    match copied with
    | some b => (b, false)
    | none => (own, own)
  else (own, false)

/-- Block reset of a port (Table 17.6): stopped, OFF until it has recovered. DEDUCED (unsafe, log 77). -/
def apReset (p : Nat) (s : State) : State :=
  setApt p (fun x => { x with state := 0, stateTime := now s, buf := [], outBuf := [], primed := false }) s

/-- A slip of a port: 1 repeat, 2 drop; counted and reported by EV0768. DEDUCED (unsafe, log 75). -/
def slipped (p kind : Nat) (mine : Bool) (s : State) : State :=
  let s1 := raiseIn 8 768 p kind (apReset p) (apCount p (kind - 1) 1 (copyItem (.slip p kind) s))
  if mine then ownDecision 3 (apCount p 7 1 s1) else s1

/-- Clears the block-start flag of a repeated frame. -/
def noStart (f : PortFrame) : PortFrame := f.map fun x => (x.1, x.2 % 8 + 16 * (x.2 / 16))

/-- A frame arrives in the elastic buffer of 16 frames (R307). -/
def bufIn (p : Nat) (f : PortFrame) (copied : Option Bool) (s : State) : State :=
  let x := portAt s p
  let d := if neverSlips s.quire.active p then (false, false) else slipNow s (decide (14 < x.buf.length + 1)) copied
  if d.1 then slipped p 2 d.2 s
  else setApt p (fun y => { y with buf := y.buf ++ [f], primed := y.primed || decide (8 ≤ y.buf.length + 1) }) s

/-- The section takes a frame (R307): none while the port delivers none. DEDUCED (unsafe, log 75). -/
def bufOut (p : Nat) (copied : Option Bool) (s : State) : State × Option PortFrame :=
  let x := portAt s p
  let q := s.quire.active
  if p < 64 ∨ ¬ tdmMaster q p then
    if x.state ≠ 3 ∨ ¬ x.primed then (s, none)
    else
      let d := if neverSlips q p then (false, false) else slipNow s (decide (x.buf.length < 2)) copied
      if d.1 then (slipped p 1 d.2 s, some (noStart x.last))
      else
        let f := x.buf.headD x.last
        (setApt p (fun y => { y with buf := y.buf.drop 1, last := f }) s, some f)
  else if x.state = 5 then (s, some (x.buf.headD x.last)) else (s, none)

/-! ### AES3 inputs (R304 to R306) -/

/-- A block of 192 bits as bytes. -/
def blockBytes (bs : List Bool) : Bytes := (List.range 24).map fun i => byteOfBits ((bs.drop (8 * i)).take 8)

/-- A completed block: the CRCC is checked for professional use. PRESUMED (unsafe, log 76). -/
def finishBlock (x : AesBlock) : AesDone :=
  let cs := blockBytes x.cs
  { have_ := true, cs := cs, user := blockBytes x.user
    crcc := (cs.headD 0#8).getLsbD 0 && decide (cs.getD 23 0#8 ≠ crcc cs) }

/-- Adds a bit pair to a block under assembly; one that starts a block closes that before. The flags say
that a complete block, or one of another length, was closed. -/
def stepBlock (start : Bool) (c u : Bool) (x : AesBlock) : AesBlock × Option AesDone × Bool :=
  let put (y : AesBlock) : AesBlock := ⟨keepLast 256 (y.cs ++ [c]), keepLast 256 (y.user ++ [u])⟩
  if start then
    (put {}, if x.cs.length = 192 then some (finishBlock x) else none,
      decide (x.cs ≠ [] ∧ x.cs.length ≠ 192))
  else (put x, none, false)

/-- The input's blocks of both subframes take a frame; a bad subframe, which is not used, repeats the bits before it (R305).
DEDUCED (unsafe, log 77). -/
def inputBlocks (p : Nat) (f : AesFrame) (s : State) : State :=
  let x := portAt s p
  let one (i : Nat) (b : AesSub) : AesBlock × Option AesDone × Bool :=
    let y := x.asm_.getD i {}
    if b.bad then stepBlock f.z (y.cs.getLast?.getD false) (y.user.getLast?.getD false) y else stepBlock f.z b.c b.u y
  let a := one 0 f.a
  let b := one 1 f.b
  let errs := b2n ((a.2.1.map (·.crcc)).getD false) + b2n ((b.2.1.map (·.crcc)).getD false)
  setApt p (fun y =>
    { y with
      asm_ := [a.1, b.1]
      done := [a.2.1.getD (y.done.getD 0 {}), b.2.1.getD (y.done.getD 1 {})]
      doneTime := if a.2.1.isSome then y.asmTime else y.doneTime
      asmTime := if f.z then now s else y.asmTime
      counts := cAdd y.counts 4 errs }) s

/-- A subframe as the input delivers it: a bad one repeats the previous sample (R305, R306). -/
def subSample (z : Bool) (b : AesSub) (prev : Smp) : Smp :=
  if b.bad then (prev.1, prev.2 % 8 + 8 * b2n z + 16)
  else (b.sample, b2n b.v + 2 * b2n b.u + 4 * b2n b.c + 8 * b2n z + 16)

/-- AES3_FRAME_RECEIVE (R304 to R307): a frame ends at an input, at a measured rate in mHz; `copied` is the
holder's decision on a drop. DEDUCED (unsafe, log 77). -/
def execAes3FrameReceive (port rate : Nat) (frame : AesFrame) (copied : Option Bool) (s : State) :
    Host.Outcome State Fault Refusal :=
  .next
    (if 32 ≤ port ∨ ¬ apEnabled s.quire.active port ∨ (portAt s port).state = 0 then s
     else
       let s0 := setApt port (fun x => { x with rate := rate, lastFrame := now s }) s
       if ¬ rateNear (apRate s port) rate then apEnter port 4 s0
       else
         let s1 := if (portAt s0 port).state = 3 then s0 else apEnter port 2 s0
         let x := portAt s1 port
         let gap := x.since + 1
         let exact := decide (gap = 192)
         let errs := b2n frame.a.bad + b2n frame.b.bad
         let bad := (if frame.z then 0 else x.badPreambles) + frame.disorder
         let good := if frame.z then (if exact then x.good + 1 else 0) else x.good
         let broken := decide (8 ≤ bad) || (frame.z && !exact) || (!frame.z && decide (192 ≤ gap))
         let s2 := inputBlocks port frame (setApt port (fun y =>
           { y with
             since := if frame.z then 0 else gap, good := if broken then 0 else good
             badPreambles := bad
             counts := cAdd (cAdd y.counts 2 errs) 3 frame.disorder }) s1)
         let s3 := if x.state = 3 ∧ broken then
             apEnter port 2 (apCount port 6 (b2n (!decide (8 ≤ bad))) s2)
           else if 3 ≤ good ∧ ¬ broken then apEnter port 3 s2 else s2
         if (portAt s3 port).state ≠ 3 then s3
         else
           let y := portAt s3 port
           let prev := y.buf.getLast?.getD y.last
           bufIn port
             [subSample frame.z frame.a (prev.getD 0 (0, 0)), subSample frame.z frame.b (prev.getD 1 (0, 0))]
             copied s3)

/-- AUDIO_PORT_NO_SIGNAL (R304, R313, R314): no preamble, frame edge or clock edge for 4 periods of the
section rate. -/
def execAudioPortNoSignal (port : Nat) (s : State) : Host.Outcome State Fault Refusal :=
  .next
    (let q := s.quire.active
     let r := if port = 72 then freeRate s.audio.prog else apRate s port
     let x := portAt s port
     if 73 ≤ port ∨ ¬ apEnabled q port ∨ ¬ apSlave q port ∨ r = 0 ∨ x.state = 0 then s
     else if x.lastFrame * r + 4 * ticksPerSec ≤ now s * r then apEnter port 1 s else s)

/-! ### AES3 outputs (R308, R310, R311) -/

/-- The folio blocks of subframe `i` of an output, with the CRCC written in for professional use. -/
def folioBlock (q : Quire) (p i : Nat) : AesDone :=
  let cs := qBytes q fAudioPorts (128 * p + 8 + 24 * i) 24
  { have_ := true, cs := if (cs.headD 0#8).getLsbD 0 then cs.take 23 ++ [crcc cs] else cs
    user := qBytes q fAudioPorts (128 * p + 0x38 + 24 * i) 24 }

/-- Bit `n` of a block. -/
def blockBit (bs : Bytes) (n : Nat) : Bool := (bs.getD (n / 8) 0#8).getLsbD (n % 8)

/-- The pass-through assembly of subframe `i` of an output takes the sample's bits (R308). -/
def passStep (p i : Nat) (x : Smp) (s : State) : State :=
  let y := portAt s p
  let set_ {α : Type} (d : α) (l : List α) (v : α) : List α := if i = 0 then [v, l.getD 1 d] else [l.getD 0 d, v]
  if bit x.2 4 then
    let r := stepBlock (bit x.2 3) (bit x.2 2) (bit x.2 1) (y.passAsm.getD i {})
    setApt p (fun z =>
      { z with
        passAsm := set_ {} z.passAsm r.1
        passDone := set_ {} z.passDone (r.2.1.getD (z.passDone.getD i {}))
        counts := cAdd z.counts 6 (b2n r.2.2) }) s
  else setApt p (fun z => { z with passAsm := set_ {} z.passAsm {}, passDone := set_ {} z.passDone {} }) s

/-- The block that subframe `i` sends from the block now starting (R310). -/
def nextBlock (q : Quire) (p i : Nat) (y : AudioPort) (x : Smp) : AesDone :=
  let d := y.passDone.getD i {}
  if bit x.2 5 ∧ bit x.2 4 ∧ d.have_ then d else folioBlock q p i

/-- AES3_FRAME_SEND (R310): an output sends the frame of sample `n` of its section, 3 µs after the sample's
instant. DEDUCED (unsafe, log 77). -/
def execAes3FrameSend (port n : Nat) (s : State) : Host.Outcome State Fault Refusal :=
  .next
    (let q := s.quire.active
     let sec := apSection q port
     if port < 32 ∨ 64 ≤ port ∨ ¬ apEnabled q port ∨ (portAt s port).state = 0 ∨ ¬ secRuns s sec ∨
         ¬ sampleAgo s sec n (3 * ticksPerUs) then s
     else
       let s1 := apEnter port 5 s
       let frame := mget (fun _ => []) (portAt s1 port).outBuf n
       let smp (i : Nat) : Smp := frame.getD i (0, 64 * apField q port 5 1)
       let s2 := passStep port 1 (smp 1) (passStep port 0 (smp 0) s1)
       let y := portAt s2 port
       let first := decide (y.pos = 0)
       let send := if first then [nextBlock q port 0 y (smp 0), nextBlock q port 1 y (smp 1)] else y.sending
       let sub (i : Nat) : Int × Bool × Bool × Bool :=
         let b := send.getD i {}
         let v := if bit (smp i).2 5 ∧ bit (smp i).2 4 then bit (smp i).2 0 else bit (smp i).2 6
         ((smp i).1, blockBit b.cs y.pos, blockBit b.user y.pos, v)
       emit (.aes port first [sub 0, sub 1])
         (setApt port (fun z =>
           { z with
             sending := send, pos := (z.pos + 1) % 192
             doneTime := if first then now s else z.doneTime
             outBuf := z.outBuf.filter fun e => decide (n < e.1) }) s2))

/-! ### TDM ports (R312, R313) -/

/-- The slots of an output frame: channels, then zeros (R312). -/
def tdmSlots (n : Nat) (f : PortFrame) : List Int := (List.range n).map fun k => (f.getD k (0, 0)).1

/-- A slave's output takes the next frame (R313): a fill below 2 sends the last again. -/
def slaveOut (p : Nat) (copied : Option Bool) (s : State) : State × PortFrame :=
  let x := portAt s p
  if ¬ x.outPrimed then (s, [])
  else
    let d := slipNow s (decide (x.outBuf.length < 2)) copied
    if d.1 then (slipped p 1 d.2 s, x.outLast)
    else
      let f := (x.outBuf.headD (0, [])).2
      (setApt p (fun y => { y with outBuf := y.outBuf.drop 1, outLast := f }) s, f)

/-- TDM_FRAME (R312, R313): a port transfers one frame both ways. For a master it carries sample `n` of its
section; for a slave `rate` is as measured and `good` says that the frame had the configured length.
Of `copied`, the holder's decisions, bit 0 is an input slip and bit 1 an output slip. DEDUCED (unsafe, log 75). -/
def execTdmFrame (port n rate : Nat) (good : Bool) (slots : List Int) (copied : Option Nat) (s : State) :
    Host.Outcome State Fault Refusal :=
  .next
    (let q := s.quire.active
     let wide := apField q port 6 1
     let inFrame : PortFrame := (List.range (apField q port 7 1)).map fun k => (slots.getD k 0, 0)
     if port < 64 ∨ 72 ≤ port ∨ ¬ apEnabled q port ∨ (portAt s port).state = 0 then s
     else if tdmMaster q port then
       if ¬ secRuns s (apSection q port) ∨ ¬ sampleAgo s (apSection q port) n ticksPerUs then s
       else
         let s1 := apEnter port 5 s
         let frame := mget (fun _ => []) (portAt s1 port).outBuf n
         emit (.tdm port (tdmSlots wide frame))
           (setApt port (fun y =>
             { y with
               buf := [inFrame], last := inFrame
               outBuf := y.outBuf.filter fun e => decide (n < e.1) }) s1)
     else
       let s0 := setApt port (fun x => { x with rate := rate, lastFrame := now s }) s
       let low := emit (.tdm port (tdmSlots wide []))
       if ¬ rateNear (apRate s port) rate then low (apEnter port 4 s0)
       else
         let s1 := if (portAt s0 port).state = 3 then s0 else apEnter port 2 s0
         let run := if good then (portAt s1 port).good + 1 else 0
         let s2 := setApt port (fun y => { y with good := run }) s1
         let s3 := if ¬ good then apEnter port 2 s2 else if 192 ≤ run then apEnter port 3 s2 else s2
         if (portAt s3 port).state ≠ 3 then low s3
         else
           let s4 := bufIn port inFrame (copied.map fun c => bit c 0) s3
           let o := slaveOut port (copied.map fun c => bit c 1) s4
           emit (.tdm port (tdmSlots wide o.2)) o.1)

/-- The two samples of an AES3 output's frame with pass and validity as they are at the sample's boundary (R303, R310), in
bits 5 and 6; a subframe with no channel carries zero. -/
def aesFrame (q : Quire) (p : Nat) (f : PortFrame) : PortFrame :=
  let pass := 32 * b2n (bit (apField q p 0 1) 1) + 64 * apField q p 5 1
  (List.range 2).map fun i =>
    let x := f.getD i (0, 0)
    (x.1, x.2 % 32 + pass)

/-- An output sample frame reaches a port that sends it later: by number for AES3 and masters, through the
elastic buffer for a TDM slave (R313). -/
def portOut (p n : Nat) (f : PortFrame) (s : State) : State :=
  let q := s.quire.active
  let x := portAt s p
  if p < 64 then setApt p (fun y => { y with outBuf := keepLast 16 (y.outBuf ++ [(n, aesFrame q p f)]) }) s
  else if tdmMaster q p then setApt p (fun y => { y with outBuf := keepLast 16 (y.outBuf ++ [(n, f)]) }) s
  else if x.state ≠ 3 then s
  else
    let d := slipNow s (decide (14 < x.outBuf.length + 1)) none
    if d.1 then slipped p 2 d.2 s
    else
      setApt p (fun y =>
        { y with outBuf := y.outBuf ++ [(n, f)], outPrimed := y.outPrimed || decide (8 ≤ y.outBuf.length + 1) }) s

/-! ### Commands -/

/-- The record of a port (Table 10.6). -/
def aptRecord (s : State) (p : Nat) : Bytes :=
  let q := s.quire.active
  let x := portAt s p
  let slave := apSlave q p
  let out := decide (p = 72) && bit (apField q 72 0 1) 1 && secRuns s (apSection q 72)
  let nominal := apRate s p * 1000
  le 1 p ++ le 1 x.state ++ le 1 (apSection q p) ++ le 1 (b2n (freeSource q p) + 2 * b2n out) ++
    le 4 (if slave then x.rate else nominal) ++ le 1 (if slave ∧ p ≠ 72 then x.buf.length else 0) ++ zeros 7 ++
    le 8 (nsOf x.stateTime)

/-- APT_STATUS (R316). -/
def execAptStatus (r : Req) (s : State) : Host.Outcome State Fault Refusal :=
  .next (command 0x0A01
    (fun r s => needLen 4 r s fun _ =>
      let first := rd r.params 0 1
      let n := rd r.params 1 1
      needForm [(decide (first < 73), 0), (decide (1 ≤ n ∧ first + n ≤ 73), 1), (isZero r.params 2 2, 2)] s
        fun _ => okay s ((List.range n).flatMap fun j => aptRecord s (first + j))) r s)

/-- Whether every channel of an AES3 port lies in blocks of a pen. -/
def aesPen (s : State) (p pen : Nat) : Bool :=
  let q := s.quire.active
  let o := decide (32 ≤ p)
  let ch := if o then apOutputs q p else apInputs q p
  decide (0 < ch.2) &&
    (List.range ch.2).all fun k => decide (blockPen s.audio.prog o (channelOf s.audio.prog o ch.1 k) = pen)

/-- APT_CHSTAT (R317). -/
def execAptChstat (r : Req) (s : State) : Host.Outcome State Fault Refusal :=
  .next (command 0x0A02
    (fun r s => needLen 4 r s fun _ =>
      let p := rd r.params 0 1
      needForm [(decide (p < 64), 0), (isZero r.params 1 3, 1)] s fun _ =>
        if isPen r.port && !aesPen s p r.port then refuse s stNotOwner 0
        else
          let x := portAt s p
          let b := if p < 32 then x.done else x.sending
          let a0 := b.getD 0 {}
          let b0 := b.getD 1 {}
          let blk (bs : Bytes) : Bytes := (bs ++ zeros 24).take 24
          okay s (le 1 p ++ le 1 (b2n a0.have_ + 2 * b2n b0.have_ + 4 * b2n a0.crcc + 8 * b2n b0.crcc) ++
            zeros 6 ++ le 8 (nsOf x.doneTime) ++ blk a0.cs ++ blk b0.cs ++ blk a0.user ++ blk b0.user)) r s)

/-- APT_COUNTERS (R318). -/
def execAptCounters (r : Req) (s : State) : Host.Outcome State Fault Refusal :=
  .next (command 0x0A03
    (fun r s => needLen 4 r s fun _ =>
      let clear := bit (rd r.params 0 1) 0
      let first := rd r.params 1 1
      let n := rd r.params 2 1
      needForm
        [(decide (rd r.params 0 1 ≤ 1), 0), (decide (first < 73), 1), (decide (1 ≤ n ∧ first + n ≤ 73), 2),
          (isZero r.params 3 1, 3)] s fun _ =>
        let wipe (t : State) (j : Nat) : State := setApt (first + j) (fun x => { x with counts := [] }) t
        { st := if clear then (List.range n).foldl wipe s else s
          params := (List.range n).flatMap fun j =>
            le 1 (first + j) ++ zeros 3 ++ cBytes (portAt s (first + j)).counts 8
          clearing := clear }) r s)

end Sys2Proof.Machine
end

