-- ==== Sys2Proof/Machine/Packet.lean ====
section
/-! DEFINITION. Network ports (chapter 06): classification, PAUSE, the transmit side, watch state, the
transparent clock, and the PKT and FLW commands. -/

namespace Sys2Proof.Machine

/-! ### Ports up and down (R159, R168, R172, R189) -/

/-- The receive flows with the join flag on a port. -/
def joinFlows (q : Quire) (p : Nat) : List Nat :=
  ((receiveEntries q).filter fun e => decide (fePort e = p) && bit (feFlags e) 1).map fun e => rd e 0 2

/-- Two unsolicited membership reports 100 ms apart for a flow (R168). PRESUMED (unsafe, log 48). -/
def joinReports (t i : Nat) : List Report168 := [⟨i, 0, t⟩, ⟨i, 0, t + 100 * ticksPerMs⟩]

/-- Whether a lane of a packet port is in TEST, which keeps its whole port down (R571). -/
def portTested (s : State) (p : Nat) : Bool :=
  s.host.tests.any fun x => decide (256 + p ≤ x.1 ∧ x.1 < 256 + p + portLanes s.quire.active p ∧ p < 64)

/-- The FEC code a port uses (Tables 05.5, 06.3). -/
def portFec (q : Quire) (p : Nat) : Nat := if p < 64 then qRd q fPacket (192 * p + 1) 1 else lnByte q (p - 0x100) 6

/-- PORT_UP (R159): every condition holds; the lane skew was `skewNs`. DESIGN CHOICE (unsafe, log 52). -/
def execPortUp (port skewNs : Nat) (s : State) : Host.Outcome State Fault Refusal :=
  .next
    (let x := netPort s port
     if portMode s.quire.active port = 0 ∨ x.state = 0 ∨ x.state = 2 ∨ x.state = 3 ∨ portTested s port then s
     else
       let fec := decide (portFec s.quire.active port ≠ 0)
       let s1 := portEnter port 2 (setNet port (fun y =>
         { y with faults := 0, skew := skewNs, fecLocked := fec, deskewed := true }) s)
       let s2 :=
         if 0x100 ≤ port then setLane (port - 0x100) (fun l => { l with rx := 4 }) s1 else s1
       let rs := (joinFlows s.quire.active port).flatMap (joinReports (now s))
       { s2 with net := { s2.net with reports := s2.net.reports ++ rs } })

/-- Ends a pause: the time paused is counted in ns (R167, Table 06.15). -/
def endPause (t : Nat) (x : NetPort) : NetPort :=
  match x.pausedFrom with
  | some a =>
    { x with pauseEnd := 0, pausedFrom := none,
             counts := nAdd x.counts 11 (nsOf (min t (max a x.pauseEnd) - a)) }
  | none => { x with pauseEnd := 0 }

/-- The host frames queued on a port are discarded with outcome "link down" (R189). -/
def dropHostFrames (p : Nat) (s : State) : State :=
  let x := netPort s p
  x.hostQ.foldl (fun t h => postLaunch ⟨h.handle, 2, false, p, 0⟩ t)
    (setNet p (fun y => { y with hostQ := [] }) s)

/-- The reply of a PKT_WATCH request waiting on a port. -/
def concludeWatch (p op status : Nat) (s : State) : State :=
  match s.cmds.deferred.find? fun w => decide (w.opcode = 0x0605 ∧ w.info = [p, op]) with
  | some w =>
    match catalogue 0x0605 with
    | some row => concludeLater row w.req { st := s, status := status }
    | none => s
  | none => s

/-- The load of a port's bring-up: each packet lane counts as 2 lane units (R162, Table 20.6). -/
def portLoad (s : State) (p : Nat) : Load :=
  ⟨5, if p < 64 then 256 + p else p - 0x100, 0, if p < 64 then 2 * portLanes s.quire.active p else 1, now s⟩

/-- Block reset of a port (Table 17.6): down, then brought up under R162. -/
def portReset (p : Nat) (s : State) : State :=
  if (netPort s p).state = 0 then s else addLoad { portLoad s p with cls := 3 } (portEnter p 4 s)

/-- A port sends and receives nothing any more: its pause is cleared, its flows go IDLE, its queued frames are dropped
(R159, R172, R189, R192). A remote fault alone leaves the lanes deskewed and FEC locked. DEDUCED (unsafe, log 183). -/
def portDrop (p faults st : Nat) (s : State) : State :=
  let x := netPort s p
  let kept := decide (st = 1) && !bit faults 0
  let s1 := setNet p (fun y =>
    { endPause (now s) y with
      egress := [], faults := faults, fecLocked := y.fecLocked && kept, deskewed := y.deskewed && kept }) (portEnter p st s)
  let s1 := if x.state = 2 then netCount p 15 1 s1 else s1
  let s1 := if 0x100 ≤ p then setLane (p - 0x100) (fun l => if l.rx = 4 then { l with rx := 3 } else l) s1 else s1
  let s2 := (receiveEntries s.quire.active).foldl
    (fun t e => if fePort e = p ∧ (flowAt t (rd e 0 2)).active then entryIdle e t else t) s1
  let s3 := netCount p 4 (x.egress.filter fun f => f.ingress.isSome).length s2
  dropHostFrames p s3

/-- A port ceases to be up, and EV0352 is raised. -/
def portFall (p faults st : Nat) (s : State) : State :=
  raiseIn 4 352 p faults (portReset p) (portDrop p faults st s)

/-- RX_LOCK_LOSS (R132, R141): the clock is lost, or alignment only. Every link of a gang falls with it,
and the bound slot enters LOST at once; the port of an Ethernet lane goes down with its block lock (R152, R159). -/
def execRxLockLoss (lane : Nat) (clock : Bool) (s : State) : Host.Outcome State Fault Refusal :=
  .next
    (let q := s.quire.active
     let x := laneAt s lane
     if x.rx < 2 ∨ 4 < x.rx ∨ (x.rx = 2 ∧ ¬ clock) then s
     else
       let s1 := gangDrop lane (rxDrop (if clock then 1 else 2) (now s) q lane s)
       let s2 := laneLost lane s1
       if lnRxMode q lane = 3 ∧ (netPort s2 (0x100 + lane)).state = 2 then portFall (0x100 + lane) 1 1 s2 else s2)

/-- PORT_DOWN (R159, R194): the port ceases to be up with the given fault flags; a watch entry that
waited for this is complete. -/
def execPortDown (port faults : Nat) (s : State) : Host.Outcome State Fault Refusal :=
  .next
    (let x := netPort s port
     if x.state ≠ 2 then s
     else if x.entering then
       concludeWatch port 1 stOk
         (setNet port (fun y => { y with entering := false, wakeCause := 0 }) (portFall port faults 3 s))
     else portFall port faults 1 s)

/-! ### Classification (R163 to R166) -/

/-- Bytes of a class buffer (Table 06.6). -/
def classSize (c : Nat) : Nat :=
  match c with
  | 1 => 524288 | 2 => 4194304 | 3 => 1048576 | 4 => 1048576 | 5 => 4194304 | _ => 0

/-- The frames waiting in a class buffer. -/
def classQueue (s : State) (c : Nat) : List RxRec := mget (fun _ => []) s.net.queues c

/-- Sets a class buffer. -/
def setClass (c : Nat) (l : List RxRec) (s : State) : State :=
  { s with net := { s.net with queues := mset (fun _ => []) s.net.queues c l } }

/-- Counts a frame that finds its class buffer full, on its port and against its class (R164). -/
def classDrop (c p : Nat) (s : State) : State :=
  netCount p 5 1 { s with net := { s.net with dropped := cAdd s.net.dropped c 1 } }

/-- Takes a frame into its class buffer, or drops and counts it (R164); a truncated one, already counted, is dropped by
classes 0 to 4 (R165). -/
def toClass (c pcp : Nat) (r : RxRec) (s : State) : State :=
  let l := classQueue s c
  let used := (l.map fun x => x.bytes.length).sum
  let low := decide (c = 5) && decide (pcp < portField s.quire.active r.port 9 1)
  if r.truncated && decide (c ≠ 5) then s
  else if classSize c < used + r.bytes.length ∨ (low ∧ classSize c ≤ 2 * used) then classDrop c r.port s
  else setClass c (l ++ [r]) s

/-- What becomes of a received frame after step 4 of Table 06.5. -/
inductive Fate where
  | toQueue (c : Nat)
  | query (v6 : Bool) (group : Bytes)
  | media (e : Bytes) (rtpAt : Nat)
  | drop
  deriving DecidableEq, Repr

/-- Whether an IP message is one of IGMP or MLD. PRESUMED (unsafe, log 48). -/
def isMembership (ip : IpInfo) (ty : Nat) : Bool :=
  (!ip.v6 && decide (ip.proto = 2)) || (ip.v6 && decide (ip.proto = 58 ∧ ty ∈ [130, 131, 132, 143]))

/-- Steps 5 to 14 of Table 06.5. An IGMP or MLD message that is no query goes to the host, as R168 says, though it is
multicast. PRESUMED (unsafe, log 48). -/
def classify (q : Quire) (p : Nat) (f : Bytes) : Fate :=
  let t := frameTag f
  if rdB f t.2.2 2 = 0x88F7 then .toQueue 1
  else
    match ipInfo f with
    | none => .toQueue 5
    | some ip =>
      let dport := rdB f (ip.up + 2) 2
      let udp := decide (ip.proto = 17)
      if ip.fragment then .toQueue 5
      else if udp ∧ (dport = 319 ∨ dport = 320) then .toQueue 1
      else if udp ∧ dport = 123 then .toQueue 2
      else if ip.proto = 6 ∧ dport = 4460 then .toQueue 3
      else if udp ∧ dport = qRd q fFlock 0x0C 2 then .toQueue 4
      else if isMembership ip (rdB f ip.up 1) then
        if ¬ ip.v6 ∧ rdB f ip.up 1 = 0x11 then .query false (slice f (ip.up + 4) 4 ++ zeros 12)
        else if ip.v6 ∧ rdB f ip.up 1 = 130 then .query true (slice f (ip.up + 8) 16)
        else .toQueue 5
      else
        match if udp then matchFlow q p t.1 (t.2.1 % 4096) ip dport else none with
        | some e => .media e (ip.up + 8)
        | none => if ipMulticast ip.v6 ip.dst then .drop else .toQueue 5

/-- The PTP message of a frame: its offset, over Ethernet or UDP. -/
def ptpOffset (f : Bytes) : Option Nat :=
  let t := frameTag f
  if rdB f t.2.2 2 = 0x88F7 then some (t.2.2 + 2)
  else
    match ipInfo f with
    | some ip =>
      let d := rdB f (ip.up + 2) 2
      if ip.proto = 17 ∧ ¬ ip.fragment ∧ (d = 319 ∨ d = 320) then some (ip.up + 8) else none
    | none => none

/-- Whether a PTP domain is one of the transparent clock's (R191). -/
def tcDomain (q : Quire) (d : Nat) : Bool :=
  (List.range (min 8 (qRd q fTime 7 1))).any fun i => decide (qRd q fTime (8 + i) 1 = d)

/-- Whether a PTP message is an event message: Sync or Delay_Req. -/
def ptpEvent (kind : Nat) : Bool := decide (kind = 0 ∨ kind = 1)

/-- The tc_member ports. -/
def tcMembers (q : Quire) : List Nat :=
  ((List.range 64) ++ (List.range 256).map (· + 0x100)).filter fun p => bit (portFlags q p) 1

/-- Learns a PTP source address (R191): a table of 4,096 entries, a full one replacing the entry with
the oldest last hit unless every entry was hit in this 100 µs cycle. -/
def tcLearn (t p : Nat) (mac : Bytes) (n : Net) : Net :=
  if n.tc.any fun e => decide (e.mac = mac) then
    { n with tc := (n.tc.filter fun e => decide (e.mac ≠ mac)) ++ [⟨mac, p, t⟩] }
  else if n.tc.length < 4096 then { n with tc := n.tc ++ [⟨mac, p, t⟩] }
  else
    match n.tc with
    | e :: rest =>
      if e.hit / (100 * ticksPerUs) = t / (100 * ticksPerUs) then n
      else { n with tc := rest ++ [⟨mac, p, t⟩], tcReplaced := satInc n.tcReplaced }
    | [] => n

/-- Forwards a PTP message of a member port (R191, R192): multicast to every other member, unicast to the
member its destination was learnt on, else to every other; peer-delay messages not at all. A copy for
a port that is not up is dropped and counted. -/
def tcForward (p : Nat) (f : Bytes) (at_ : Nat) (s : State) : State :=
  let kind := rdB f at_ 1 % 16
  if kind = 2 ∨ kind = 3 ∨ kind = 10 then s
  else
    let others := (tcMembers s.quire.active).filter (· ≠ p)
    let dst := f.take 6
    let known := if bit (rdB f 0 1) 0 then none else s.net.tc.find? fun e => decide (e.mac = dst)
    let targets := match known with
      | some e => others.filter (· = e.port)
      | none => others
    let ing := if ptpEvent kind then some (ingressStamp s p) else none
    targets.foldl (fun t o =>
      if portUp t o then netCount o 7 1 (egress o ⟨1, now s, f, none, ing, none⟩ t)
      else netCount o 4 1 t) s

/-- The transparent clock's part in a PTP frame received on a member port (R191): its source is learnt, and a message of the
clock's domains is forwarded. -/
def tcReceive (p : Nat) (f : Bytes) (s : State) : State :=
  match ptpOffset f with
  | some o =>
    if bit (portFlags s.quire.active p) 1 then
      let s1 := { s with net := tcLearn (now s) p (slice f 6 6) s.net }
      if tcDomain s.quire.active (rdB f (o + 4) 1) then tcForward p f o s1 else s1
    else s
  | none => s

/-- Whether an enabled instance of the device's own time service uses a PTP domain (R191, Table 13.7). -/
def serviceDomain (q : Quire) (d : Nat) : Bool :=
  (List.range 8).any fun i => bit (qRd q fTime (0x40 + 64 * i) 1) 0 && decide (qRd q fTime (0x40 + 64 * i + 2) 1 = d)

/-- A PAUSE frame acts (R167): the transmitter stops for the quanta, a further PAUSE replacing what
remains. -/
def pauseReceive (p quanta : Nat) (s : State) : State :=
  let q := s.quire.active
  let s1 := netCount p 12 1 s
  if bit (portFlags q p) 0 ∨ portGbps q p = 0 then s1
  else if quanta = 0 then setNet p (endPause (now s)) s1
  else
    let t := now s + quanta * 512 * ticksPerNs / portGbps q p
    setNet p (fun x => { x with pauseEnd := t, pausedFrom := some (x.pausedFrom.getD (now s)) }) s1

/-- A frame from step 5 on (R163 to R170, R191). -/
def receiveClassed (p : Nat) (f : Bytes) (fcsBad : Bool) (original : Nat) (s : State) : State :=
  let q := s.quire.active
  let t := frameTag f
  let keep := portMaxFrame q p
  let trunc := decide (portMaxFrame q p < original)
  let r : RxRec :=
    ⟨p, ingressStamp s p, t.2.1, t.1, f.take keep, original, trunc, fcsBad⟩
  let s0 := if trunc then netCount p 3 1 s else s
  let s1 := if trunc then s0 else tcReceive p f s0
  match classify q p f with
  | .toQueue c => toClass c (if t.1 then t.2.1 / 8192 else 0) r s1
  | .query v6 group =>
    let asked (i : Nat) : Bool :=
      match flowEntry q i with
      | some e => decide (bit (feFlags e) 0 = v6) && (group.all (· == 0#8) || decide (slice e 0x10 16 = group))
      | none => false
    let rs := ((joinFlows q p).filter asked).map fun i => (⟨i, 1, now s⟩ : Report168)
    { s1 with net := { s1.net with queries := satInc s1.net.queries, reports := s1.net.reports ++ rs } }
  | .media e o => if trunc then s1 else mediaReceive e f o s1
  | .drop => netCount p 4 1 s1

/-- FRAME_RECEIVE (R163): a frame is stamped and settled by the first step of Table 06.5 that decides
it. In watch state it is counted and discarded. -/
def execFrameReceive (port : Nat) (frame : RxFrame) (s : State) : Host.Outcome State Fault Refusal :=
  .next
    (let q := s.quire.active
     let f := frame.bytes
     let len := f.length + 4
     let x := netPort s port
     if x.state = 3 then setNet port (fun y => { y with watchDropped := y.watchDropped + 1 }) s
     else if x.state ≠ 2 then s
     else
       let s0 := netCount port 1 len (netCount port 0 1 s)
       let t := frameTag f
       let host := decide (portMaxFrame q port < len)
       if len < 64 ∨ (¬ frame.fcsGood ∧ ¬ host) then netCount port 2 1 s0
       else
         let s1 := if frame.fcsGood then s0 else netCount port 2 1 s0
         if rdB f 12 2 = 0x8808 then
           if ¬ frame.fcsGood then s1
           else if rdB f 14 2 = 1 then pauseReceive port (rdB f 16 2) s1
           else if rdB f 14 2 = 0x0101 then netCount port 6 1 s1
           else netCount port 4 1 s1
         else if rdB f 12 2 = 0x88A8 ∨
             (t.1 ∧ t.2.1 % 4096 ≠ 0 ∧ ¬ vidAccepted q port (t.2.1 % 4096)) ∨
             ((¬ t.1 ∨ t.2.1 % 4096 = 0) ∧ ¬ bit (portFlags q port) 2) then netCount port 4 1 s1
         else
           let dst := f.take 6
           let mine := decide (dst = (portAddr s port).1) || bit (rdB f 0 1) 0
           if ¬ mine then
             match if bit (portFlags q port) 1 ∧ frame.fcsGood then ptpOffset f else none with
             | some o =>
               let s2 := tcReceive port f s1
               if serviceDomain q (rdB f (o + 4) 1) then
                 toClass 1 (if t.1 then t.2.1 / 8192 else 0)
                   ⟨port, ingressStamp s port, t.2.1, t.1, f.take (portMaxFrame q port), len, host, false⟩ s2
               else s2
             | none => netCount port 4 1 s1
           else if ¬ frame.fcsGood ∧ classify q port f ≠ .toQueue 5 then s1
           else receiveClassed port f (!frame.fcsGood) len s1)

/-- PAUSE_EXPIRY (R167). -/
def execPauseExpiry (port : Nat) (s : State) : Host.Outcome State Fault Refusal :=
  .next
    (let x := netPort s port
     if x.pausedFrom.isSome ∧ x.pauseEnd ≤ now s then setNet port (endPause (now s)) s else s)

/-- MEMBERSHIP_REPORT_SEND (R168): the `i`-th report due is queued at its port by the device itself. -/
def execMembershipReportSend (i : Nat) (s : State) : Host.Outcome State Fault Refusal :=
  .next
    (match s.net.reports[i]? with
     | some r =>
       if r.due ≤ now s then
         let s1 := { s with net := { s.net with reports := s.net.reports.eraseIdx i } }
         match flowEntry s.quire.active r.flow with
         | some e => sendReport e r.kind s1
         | none => s1
       else s
     | none => s)

/-! ### Transmitting essence (R182 to R186) -/

/-- Rounds an instant to the nearest step of the time base (R30). -/
def onStep (t : Nat) : Nat := edgeStep t * ticksPerStep

/-- max_payload of a transmit -20 flow. -/
def maxPayload (e : Bytes) : Nat := if feParam e = 0 then 1200 else feParam e

/-- Bytes of a line of a format in ST 2110-20. -/
def lineBytes20 (f : Nat) : Nat :=
  let g := pixelGroup (sampleOf f)
  rasterWidth (rasterOf f) / g.2 * g.1

/-- Packets per line P (R185). -/
def packetsPerLine (f m : Nat) : Nat := cdiv (lineBytes20 f) m

/-- Packets per frame N (R184). -/
def packetsPerFrame (f m : Nat) : Nat := rasterActive (rasterOf f) * packetsPerLine f m

/-- TRO of a transmit -20 flow of output delay `o`, times P, in ticks (R185). -/
def troTimesP (o f m : Nat) : Nat :=
  let p := packetsPerLine f m
  (o + firstActive (rasterOf f) - 1) * linePeriod f * p + linePeriod f + 500 * ticksPerNs * p

/-- t_i of a -20 packet (R185), rounded by R30. -/
def launch20 (o f m k i : Nat) (linear : Bool) : Nat :=
  let p := packetsPerLine f m
  let n := packetsPerFrame f m
  if linear then
    onStep (alignInstant f k + (troTimesP o f m * n + i * framePeriod f * p) / (p * n))
  else onStep (alignInstant f k + (troTimesP o f m + i * linePeriod f) / p)

/-- Pixel groups before part `j` of `p` of a row of `g` groups: as even as possible, the earlier packets
taking any extra group (R185). -/
def groupsBefore (g p j : Nat) : Nat := j * (g / p) + min j (g % p)

/-- The row, field and raster line of active row `n` of a frame, in raster order. -/
def activeRow (r n : Nat) : Nat × Nat × Nat :=
  match activeRanges r with
  | [a] => (n, 0, a.1 + n)
  | [a, b] =>
    let h := a.2 + 1 - a.1
    if n < h then (n, 0, a.1 + n) else (n - h, 1, b.1 + (n - h))
  | _ => (0, 0, 0)

/-- An RTP header (R183). -/
def rtpHeader (marker : Bool) (pt seq ts ssrc : Nat) : Bytes :=
  [0x80#8] ++ be 1 (128 * b2n marker + pt) ++ be 2 (seq % 65536) ++ be 4 (ts % 2 ^ 32) ++ be 4 ssrc

/-- A complete frame of a transmit flow around an RTP packet (R183). -/
def flowFrame (s : State) (e : Bytes) (rtp : Bytes) : Bytes :=
  let v6 := bit (feFlags e) 0
  let a := portAddr s (fePort e)
  let dst := slice e 0x10 16
  let dmac := if isZero e 0x30 6 ∧ ipMulticast v6 dst then multicastMac v6 dst else slice e 0x30 6
  ethHeader dmac a.1 (if bit (feFlags e) 2 then some (rd e 8 2) else none)
      (if v6 then 0x86DD else 0x0800) ++
    udpPacket v6 (if v6 then a.2.2 else a.2.1) dst (rd e 0x0B 1) (rd e 0x0E 2) (rd e 0x0C 2) rtp

/-- Queues an RTP packet of a transmit flow at its launch time (R185 to R187). -/
def launchRtp (i : Nat) (e : Bytes) (t : Nat) (rtp : Bytes) (s : State) : State :=
  egress (fePort e) ⟨2, t, flowFrame s e rtp, some i, none, none⟩ s

/-- What FLW_STATUS tells of a media packet that has been sent (Table 06.16). -/
def noteSent (i : Nat) (b : Bytes) (s : State) : State :=
  match ipInfo b, flowEntry s.quire.active i with
  | some ip, some e =>
    let o := ip.up + 8
    let high := if feEssence e = 1 ∨ feEssence e = 5 then rdB b (o + 12) 2 else 0
    setFlow i (fun x =>
      { x with sent := high * 65536 + rdB b (o + 2) 2, lastTs := rdB b (o + 4) 4, counts := cAdd x.counts 0 1 }) s
  | _, _ => s

/-- The continuous count of a packet of a -40 or -22 flow, by the packet's frame and line or its ingress: kept at leg A, so
that both legs of a pair send the same (R182, R184). -/
def txCount (a k i : Nat) (s : State) : Nat × State :=
  let x := flowAt s a
  match x.txKeys.find? fun p => decide (p.1 = k ∧ p.2.1 = i) with
  | some p => (p.2.2, s)
  | none =>
    (x.txSeq, setFlow a (fun y => { y with txSeq := y.txSeq + 1, txKeys := keepLast 64 (y.txKeys ++ [(k, i, y.txSeq)]) }) s)

/-- A transmit flow of video sends while its destination is bound and enabled (R593). -/
def sendingDest (s : State) (i : Nat) : Option Nat :=
  match txDest s.quire.active i with
  | some d => if dstEnabled (inForce s d) d ∧ ¬ withholds s d then some d else none
  | none => none

/-- The state as it will be at a destination's next switch point: with the last route change due by then (R32, R84).
DEDUCED (unsafe, log 184). -/
def foreseen (s : State) (d t : Nat) : State :=
  match (s.drv.queue.filter fun e => decide (e.kind = kRoute ∧ e.target = d) && (appPoint s e).any (· ≤ t)).getLast? with
  | some e =>
    { s with quire := { s.quire with active := qWrite s.quire.active fDests (16 * d + 2) (le 2 (rd e.payload 0 2)) } }
  | none => s

/-- The source that a packet consumer sends in frame `k` (R35): what the destination shows from that frame's switch point on;
before that switch point, what it would decide now. DEDUCED (unsafe, log 184). -/
def frameSource (s : State) (d f k : Nat) : Nat :=
  let t := dstSwitch s d f k
  if (dstSlot s d).lastSwitch < t ∧ now s < t then (chooseShown (foreseen s d t) d).2 else shownAt s d t

/-- Packet `i` of frame `k` of a -20 flow (R184, R185), `a` the entry of leg A and `e` its own. -/
def launchVideo (fl k i : Nat) (a e : Bytes) (s : State) : State :=
  match sendingDest s fl with
  | none => s
  | some d =>
    let f := dstFormat (inForce s d) d
    let m := maxPayload a
    let p := packetsPerLine f m
    let n := packetsPerFrame f m
    if p = 0 ∨ n ≤ i then s
    else
      let row := activeRow (rasterOf f) (i / p)
      let g := pixelGroup (sampleOf f)
      let gs := rasterWidth (rasterOf f) / g.2
      let from_ := groupsBefore gs p (i % p)
      let upTo := groupsBefore gs p (i % p + 1)
      let r := lineReadFrom s d (frameSource s d f k) k row.2.2
      let samples := if r.black then blackRow f else r.data
      let body := slice (packSamples (sampleDepth (sampleOf f)) samples) (from_ * g.1) ((upTo - from_) * g.1)
      let seq := (k * n + i) % 2 ^ 32
      let half := if isInterlaced (rasterOf f) ∧ row.2.1 = 1 then framePeriod f / 2 else 0
      let ts := (alignInstant f k + half) * 90000 / ticksPerSec
      let fr := fieldRows (rasterOf f) row.2.1
      let marker := decide (row.1 + 1 = fr ∧ i % p + 1 = p)
      launchRtp fl e (launch20 (dstDelay s d f) f m k i (bit (feFlags a) 3))
        (rtpHeader marker (rd a 0x0A 1) seq ts (rd a 0x40 4) ++ be 2 (seq / 65536) ++
          be 2 body.length ++ be 2 (row.2.1 * 32768 + row.1) ++ be 2 (from_ * g.2) ++ body) s

/-- The bytes of one sample on the wire. -/
def smpBytes (ess : Nat) (l16 : Bool) (x : Smp) : Bytes :=
  let v := (x.1 % 2 ^ 24).toNat
  if ess = 4 then be 1 (x.2 % 8 + 32 * b2n (bit x.2 3)) ++ be 3 v
  else if l16 then be 2 (satTo 15 ((x.1 + 128) / 256) % 2 ^ 16).toNat
  else be 3 v

/-- One ANC packet as RFC 8331 lays it out. PRESUMED (unsafe, log 48). -/
def ancWire (p : AncPkt) : Bytes :=
  let bits := 10 * p.words.length
  let n := p.words.foldl (fun a w => a * 1024 + w % 1024) 0
  let len := cdiv bits 32 * 32
  be 4 (p.stream % 2 * 2 ^ 31 + p.line % 2048 * 2 ^ 20 + (if p.hanc then 0xFFE else 0xFFF) * 256 + 128 + p.stream / 2 % 128) ++
    be (len / 8) (n * 2 ^ (len - bits))

/-- The ANC a -40 flow carries on a line: what its companion's destination reads, less payload IDs and audio (R186). -/
def anc40 (s : State) (d f k line : Nat) : List AncPkt :=
  (destAnc s d (frameSource s d f k) k).filter fun p =>
    decide (p.line = line) && !isPayloadId p && decide (ancGroup (ancDid p) = 0)

/-- The F bits of a -40 packet: none for a progressive frame, else 2 or 3 by the field of the line. The lines of the second
field lie as far behind those of the first as the fields' first active lines do. PRESUMED (unsafe, log 185). -/
def fieldBits (r line : Nat) : Nat := if ¬ isInterlaced r then 0 else if line ≤ fieldShift r then 2 else 3

/-- A packet of a -40 flow (R184, R186): that of raster line `line` of frame `k`, or for line 0 the final one, which carries
what the last active line has. DEDUCED (unsafe, log 185). -/
def launchAnc (fl k line : Nat) (a e : Bytes) (s : State) : State :=
  match sendingDest s (feCompanion a) with
  | none => s
  | some d =>
    let f := dstFormat (inForce s d) d
    let last := lastActive (rasterOf f)
    let at_ := if line = 0 then last else line
    let ps := anc40 s d f k at_
    if line = last ∨ (line ≠ 0 ∧ ps = []) then s
    else
      let half := if fieldBits (rasterOf f) at_ = 3 then framePeriod f / 2 else 0
      let ts := (alignInstant f k + half) * 90000 / ticksPerSec
      let c := txCount (legA e) k line s
      let body := (ps.map ancWire).flatten
      launchRtp fl e (onStep (dstRead s d f k at_ + 500 * ticksPerNs))
        (rtpHeader (decide (line = 0)) (rd a 0x0A 1) c.1 ts (rd a 0x40 4) ++ be 2 (c.1 / 65536) ++
          be 2 body.length ++ be 1 ps.length ++ be 1 (64 * fieldBits (rasterOf f) at_) ++ zeros 2 ++ body) c.2

/-- A packet of a -30 or -31 flow whose first sample is `n0` (R184, R186). The flow's samples wait in
`audio` by sample number. DEDUCED (unsafe, log 53). -/
def launchAudio (fl n0 : Nat) (a e : Bytes) (s : State) : State :=
  let rate := flowRate s.quire.active true a
  let n := packetSamples rate a
  let x := flowAt s fl
  let xs := (List.range n).flatMap fun j =>
    (mget (fun _ => List.replicate (feAudioCount a) (0, 0)) x.audio (n0 + j)).flatMap
      (smpBytes (feEssence a) (bit (feFlags a) 4))
  let t := onStep ((n0 + n) * ticksPerSec / rate + 25 * ticksPerUs)
  setFlow fl (fun y => { y with audio := y.audio.filter fun p => decide (n0 + n ≤ p.1) })
    (launchRtp fl e t (rtpHeader false (rd a 0x0A 1) (n0 / n) n0 (rd a 0x40 4) ++ xs) s)

/-- A stored packet of a -22 flow, by its ingress instant in ticks (R35, R186): of the source shown at that instant; sequence,
SSRC and payload type rewritten, the marker and timestamp kept, and no extension, CSRC or padding sent on (R183). -/
def launchOpaque (fl ingress : Nat) (a e : Bytes) (s : State) : State :=
  match sendingDest s fl with
  | none => s
  | some d =>
    match (srcSlot s (shownAt s d ingress)).ring.find? fun r => decide (r.k = ingress) with
    | some r =>
      let pkt : Bytes := r.data.map fun v => BitVec.ofNat 8 v
      let p := rtpOf (zeros 4 ++ be 2 (pkt.length + 8) ++ zeros 2 ++ pkt) 8
      let c := txCount (legA e) ingress 0 s
      let h := rtpHeader p.marker (rd a 0x0A 1) c.1 p.ts (rd a 0x40 4)
      launchRtp fl e (onStep (ingress + feParam a * ticksPerUs)) (h ++ slice pkt (p.body - 8) (p.stop - p.body)) c.2
    | none => s

/-- What an SDI transmitter would put on line `line` of frame `k` for an ST 2022-6 flow (R14, R35, R142 to R145, R186), its
audio fields those of entry `a`. -/
def sdiLineOf (s : State) (fl d f k : Nat) (a : Bytes) (line : Nat) : SdiLine :=
  let src := shownAt s d (dstRead s d f k line)
  let n := feAudioCount a
  let ps := destAnc s d src k
  let pid := if (payloadLines (rasterOf f)).contains line then
      some (Config.payloadId f (sdiCodeOf f) 1 0 0 (colourFrom 0 ps)) else none
  let smp (j : Nat) : List Smp := mget (fun _ => List.replicate n (0, 0)) (flowAt s fl).audio (lineFirst f k line + j)
  ⟨line, if isActive (rasterOf f) line then (lineReadFrom s d src k line).data else [],
    controlAnc n f k line ++ insertedAnc n line ps, pid,
    if n = 0 then [] else (List.range (lineSamples f k line)).map smp⟩

/-- Datagram `j` of frame `k` of a 2022-6 flow (R35, R184, R186): its last byte's instant on a serialiser at the instants of
R146, plus 1 µs. Its content is the serial stream an SDI transmitter would build of the lines it spans, each of the source
shown at its own instant. DESIGN CHOICE (safe, log 35). -/
def launch2022 (fl k j : Nat) (a e : Bytes) (s : State) : State :=
  match sendingDest s fl with
  | none => s
  | some d =>
    let f := dstFormat (inForce s d) d
    let b := sdiFrameBytes f
    let n := cdiv b 1376
    if n ≤ j then s
    else
      let lines := rasterLines (rasterOf f)
      let latency := if sdiCodeOf f = 0x01 then 2600 else 800
      let start := dstRead s d f k 1 + latency * ticksPerNs
      let t := onStep (start + framePeriod f * min b (1376 * (j + 1)) / b + ticksPerUs)
      let seq := k * n + j
      let ts := alignInstant f k * 27000000 / ticksPerSec
      let first := 1376 * j * lines / b + 1
      let last := (min b (1376 * (j + 1)) - 1) * lines / b + 1
      let body := Config.sdiDatagram f j ((List.range (last + 1 - first)).map fun i => sdiLineOf s (legA e) d f k a (first + i))
      launchRtp fl e t
        (rtpHeader (decide (j + 1 = n)) (rd a 0x0A 1) seq ts (rd a 0x40 4) ++ zeros 8 ++ fit 1376 body) s

/-- MEDIA_PACKET_LAUNCH (R173, R182 to R186): a packet of transmit flow `flow` reaches its launch time. `k` is the
frame, the first sample or the ingress instant of its essence, `i` the packet, line or datagram. Both legs of a pair send leg
A's RTP packet, each in a frame of its own. -/
def execMediaPacketLaunch (flow k i : Nat) (s : State) : Host.Outcome State Fault Refusal :=
  .next
    (match txEntry s flow k with
     | none => s
     | some e =>
       let a := (txEntry s (legA e) k).getD e
       if flow < 8192 ∨ (flowAt s flow).staging ∨ roleWithholds s then s
       else
         match feEssence e with
         | 1 => launchVideo flow k i a e s
         | 2 => launchOpaque flow k a e s
         | 3 => launchAudio flow k a e s
         | 4 => launchAudio flow k a e s
         | 5 => launchAnc flow k i a e s
         | 6 => launch2022 flow k i a e s
         | _ => s)

/-- MEDIA_PACKET_LATE_DROP (R188): media packets not started by 250 µs after their launch time are dropped
and counted. -/
def execMediaPacketLateDrop (port : Nat) (s : State) : Host.Outcome State Fault Refusal :=
  .next
    (let late (f : EgFrame) : Bool := decide (f.rank = 2 ∧ f.launch + 250 * ticksPerUs ≤ egressTicks s port)
     let gone := (netPort s port).egress.filter late
     let s1 := netCount port 10 gone.length
       (setNet port (fun x => { x with egress := x.egress.filter fun f => !late f }) s)
     gone.foldl (fun t f => match f.flow with
       | some i => flowCount i 3 1 t
       | none => t) s1)

/-- The frame to send next of those ready at `t`: least rank, then earliest launch, then first queued
(R187). -/
def nextFrame (t : Nat) : List EgFrame → Option EgFrame
  | [] => none
  | f :: rest =>
    match nextFrame t rest with
    | none => if f.launch ≤ t then some f else none
    | some g =>
      if f.launch ≤ t ∧ (f.rank < g.rank ∨ (f.rank = g.rank ∧ f.launch ≤ g.launch)) then some f
      else some g

/-- Replaces the bytes of a sequence from offset `o`. -/
def overlay (f : Bytes) (o : Nat) (new : Bytes) : Bytes := f.take o ++ new ++ f.drop (o + new.length)

/-- Updates the UDP checksum of a frame, where it has one, for bytes at `o` that change from `old` to `new` (R192): a checksum
that was bad stays so. `o` is even within the datagram. -/
def patchUdp (f : Bytes) (old new : Bytes) : Bytes :=
  match ipInfo f with
  | none => f
  | some ip =>
    let c := rdB f (ip.up + 6) 2
    if ip.proto ≠ 17 ∨ c = 0 then f
    else
      let inverse : Bytes := old.map fun b => ~~~b
      let n := inetChecksum (be 2 (0xFFFF - c) ++ inverse ++ new)
      overlay f (ip.up + 6) (be 2 (if n = 0 then 0xFFFF else n))

/-- Adds the residence time to correctionField (R192), in units of 2^−16 ns; stamps in 0.25 ns. -/
def correctResidence (f : Bytes) (ingress egress_ : Nat) : Bytes :=
  match ptpOffset f with
  | some o =>
    let c := ((rdB f (o + 8) 8 : Int) + ((egress_ : Int) - ingress) * 16384) % 2 ^ 64
    patchUdp (overlay f (o + 8) (be 8 c.toNat)) (slice f (o + 8) 8) (be 8 c.toNat)
  | none => f

/-- FRAME_TRANSMIT (R187, R190, R192): the next frame ready at an up, unpaused port is sent. -/
def execFrameTransmit (port : Nat) (s : State) : Host.Outcome State Fault Refusal :=
  .next
    (let x := netPort s port
     if ¬ portUp s port ∨ x.pausedFrom.isSome then s
     else
       match nextFrame (egressTicks s port) x.egress with
       | none => s
       | some f =>
         let st := egressStamp s port
         let b := match f.ingress with
           | some i => correctResidence f.bytes i st
           | none => f.bytes
         let s1 := setNet port (fun y => { y with egress := y.egress.erase f }) s
         let s2 := netCount port 9 (b.length + 4) (netCount port 8 1 s1)
         let stamps := match f.tag with
           | some g => mput s2.net.stamps g st
           | none => s2.net.stamps
         let s3 := match f.flow with
           | some i => noteSent i b s2
           | none => s2
         emit (.frame port (now s) b) { s3 with net := { s3.net with stamps := stamps } })

/-- HOST_FRAME_LAUNCH (R189): the first host frame of a port is sent, or dropped late, and its completion
record entered. -/
def execHostFrameLaunch (port : Nat) (s : State) : Host.Outcome State Fault Refusal :=
  .next
    (let x := netPort s port
     match x.hostQ with
     | [] => s
     | h :: rest =>
       let s1 := setNet port (fun y => { y with hostQ := rest }) s
       let t := egressTicks s port
       if h.dropLate ∧ h.launch ≠ 0 ∧ h.launch + h.limit < t then
         postLaunch ⟨h.handle, 1, false, port, 0⟩ s1
       else if t < h.launch ∨ ¬ portUp s port ∨ x.pausedFrom.isSome ∨ (nextFrame t x.egress).isSome then s
       else
         let st := egressStamp s port
         let s2 := netCount port 9 (h.bytes.length + 4) (netCount port 8 1 s1)
         postLaunch ⟨h.handle, 0, h.stamp, port, if h.stamp then st / 4 % 2 ^ 32 else 0⟩
           (emit (.frame port (now s) h.bytes) s2))

/-- TC_ENTRY_AGEING (R191): learnt addresses without a hit for 300 s expire; a hit in the same 100 µs cycle
renews. -/
def execTcEntryAgeing (s : State) : Host.Outcome State Fault Refusal :=
  .next
    (let keep (e : TcEntry) : Bool :=
       decide (now s < e.hit + 300 * ticksPerSec) ||
         decide (e.hit / (100 * ticksPerUs) = now s / (100 * ticksPerUs))
     { s with net := { s.net with tc := s.net.tc.filter keep } })

/-! ### Watch state (R193, R194) -/

/-- Starts a port's bring-up for a cause of Table 06.14 (R162, R193): it waits for the governor, and an
event is raised. -/
def wakePort (p cause : Nat) (s : State) : State :=
  let s1 := setNet p (fun x => { x with wakeCause := cause }) (portEnter p 4 s)
  raiseIn 4 353 p cause (portReset p) { s1 with power := { s1.power with waiting := s1.power.waiting ++ [portLoad s p] } }

/-- The first pattern a frame matches on every byte its mask selects (R193). DESIGN CHOICE (unsafe, log 51). -/
def wakePattern (x : NetPort) (f : Bytes) : Option Nat :=
  (List.range 4).find? fun j =>
    match x.patterns[j]? with
    | some (b, m) =>
      decide (m ≠ 2 ^ 64) && (List.range 64).all fun n => !bit m n || decide (f.getD n 0#8 = b.getD n 0#8)
    | none => false

/-- PORT_WAKE (R193): a frame of at least 64 bytes with a good FCS that matches an enabled pattern, or,
without a frame, the return of receive signal, wakes a watching port. -/
def execPortWake (port : Nat) (frame : Option RxFrame) (s : State) : Host.Outcome State Fault Refusal :=
  .next
    (let x := netPort s port
     if x.state ≠ 3 then s
     else
       match frame with
       | some f =>
         match if f.fcsGood ∧ 64 ≤ f.bytes.length + 4 then wakePattern x f.bytes else none with
         | some j => wakePort port (j + 1) s
         | none => setNet port (fun y => { y with watchDropped := y.watchDropped + 1 }) s
       | none => if x.wakeOnSignal then wakePort port 5 s else s)

/-- A PKT_WATCH leave whose 10 ms bound has passed is answered BUSY; the bring-up goes on (R194). -/
def watchBound (p : Nat) (s : State) : State :=
  match s.cmds.deferred.find? fun w => decide (w.opcode = 0x0605 ∧ w.info = [p, 0]) with
  | some w => if w.req.receipt + 10 * ticksPerMs ≤ now s then concludeWatch p 0 stBusy s else s
  | none => s

/-- PORT_BRING_UP_COMPLETE (R162, R194): the transmitters emit idle at the new setting; the reply of a
PKT_WATCH leave goes, if its 10 ms bound has not been reached. -/
def execPortBringUpComplete (port : Nat) (s : State) : Host.Outcome State Fault Refusal :=
  .next
    (let x := netPort s port
     if x.state ≠ 4 ∨ loadWaits s (portLoad s port).resource 0 then s
     else
       concludeWatch port 0 stOk (portEnter port 1 (watchBound port s)))

/-- Whether an enabled flow, a time service or tc_member uses a port (R193, R194). -/
def portInUse (q : Quire) (p : Nat) : Bool :=
  ((qAll q fFlows).any fun e => decide (fePort e = p)) || bit (portFlags q p) 1 ||
    ((List.range 8).any fun i =>
      let o := 0x40 + 64 * i
      bit (qRd q fTime o 1) 0 &&
        (List.range (qRd q fTime (o + 11) 1)).any fun j =>
          decide (qRd q fTime (0x240 + 32 * (qRd q fTime (o + 10) 1 + j)) 2 = p)) ||
    ((List.range (min 64 (qRd q fTime 0x1E 2))).any fun i =>
      decide (qRd q fTime (0xA40 + 4 * i) 2 = p ∧ qRd q fTime (0xA40 + 4 * i + 2) 1 ≠ 0))

/-- A quire that puts an enabled flow, a time service or tc_member on a port in watch state starts its bring-up (R193). -/
def wakeUsed (s : State) : State :=
  (((List.range 64) ++ (List.range 256).map (· + 0x100)).filter fun p =>
    decide ((netPort s p).state = 3) && portInUse s.quire.active p).foldl (fun t p => wakePort p 7 t) s

/-- PKT_WATCH (R193, R194). A disabled pattern is kept as a mask that no frame can match. DESIGN CHOICE (unsafe, log 51). -/
def execPktWatch (r : Req) (s : State) : Host.Outcome State Fault Refusal :=
  .next (command 0x0605
    (fun r s => needLen 296 r s fun _ =>
      let p := rd r.params 0 2
      let op := rd r.params 2 1
      let pats := rd r.params 4 1
      needForm
        [(isNetPort p, 0), (decide (op ≤ 1), 2), (decide (rd r.params 3 1 ≤ 1), 3),
          (decide (pats < 16), 4), (isZero r.params 5 3, 5)] s fun _ =>
        let x := netPort s p
        if op = 1 then
          if x.state = 0 then refuse s stNotActive 0
          else if portInUse s.quire.active p ∨ x.entering then refuse s stBusy 0
          else
            let pat (j : Nat) : Bytes × Nat :=
              (slice r.params (8 + 72 * j) 64,
                if bit pats j then rd r.params (8 + 72 * j + 64) 8 else 2 ^ 64)
            let s1 := setNet p (fun y =>
              { y with patterns := (List.range 4).map pat, wakeOnSignal := bit (rd r.params 3 1) 0,
                       entering := decide (x.state = 2) }) s
            if x.state = 2 then { st := s1, later := some [p, 1] }
            else okay (if x.state = 3 then s1 else portEnter p 3 s1) []
        else if x.state = 3 then { st := wakePort p 6 s, later := some [p, 0] }
        else if x.state = 0 then refuse s stNotActive 0
        else okay s []) r s)

/-! ### PKT and FLW commands -/

/-- Host frames a port's launch queue holds (R189). -/
abbrev hostQueueSize : Nat := 1024

/-- Inserts a host frame by launch time, then receipt (R189). -/
def hostInsert : List HostFrame → HostFrame → List HostFrame
  | [], h => [h]
  | a :: t, h => if h.launch < a.launch then h :: a :: t else a :: hostInsert t h

/-- PKT_LAUNCH (R189). -/
def execPktLaunch (r : Req) (s : State) : Host.Outcome State Fault Refusal :=
  .next (command 0x0604
    (fun r s =>
      let n := rd r.params 0x10 2
      if r.params.length < 24 ∨ r.params.length ≠ 24 + n then refuse s stBadLength 0xFFFF
      else
        let p := rd r.params 0 2
        let t := rd r.params 8 8 * ticksPerNs
        let lim := rd r.params 4 4
        let f := r.params.drop 24
        needForm
          [(isNetPort p, 0), (decide (rd r.params 2 1 ≤ 3), 2), (isZero r.params 3 1, 3),
            (decide (60 ≤ n ∧ n ≤ (if portMaxFrame s.quire.active p = 0 then 9212
              else portMaxFrame s.quire.active p - 4)), 0x10), (isZero r.params 0x12 6, 0x12)] s fun _ =>
          let x := netPort s p
          if t ≠ 0 ∧ t < r.receipt + 50 * ticksPerUs then refuse s stTooLate 0
          else if r.receipt + ticksPerSec < t then refuse s stBadParam 8
          else if rdB f 12 2 = 0x8808 then refuse s stBadParam 0x18
          else if hostQueueSize ≤ x.hostQ.length then refuse s stBusy 0
          else if ¬ portUp s p then refuse s stNotActive 0
          else
            let h := s.net.nextHandle
            let fr : HostFrame :=
              ⟨h, t, bit (rd r.params 2 1) 0, (if lim = 0 then 1000000 else lim) * ticksPerNs,
                bit (rd r.params 2 1) 1, f⟩
            let s1 := setNet p (fun y => { y with hostQ := hostInsert y.hostQ fr }) s
            okay { s1 with net := { s1.net with nextHandle := (h + 1) % 2 ^ 32 } }
              (le 4 h ++ le 2 (x.hostQ.length + 1) ++ zeros 2)) r s)

/-- The port status record (Table 06.14); a member lane leads no port. DEDUCED (unsafe, log 183). -/
def portRecord (s : State) (p : Nat) : Bytes :=
  let x := netPort s p
  let paused := x.pausedFrom.isSome && decide (now s < x.pauseEnd)
  let left := if paused then nsOf (x.pauseEnd - now s) else 0
  le 2 p ++ le 1 x.state ++ le 1 (if p < 64 then qRd s.quire.active fPacket (192 * p) 1 else portMode s.quire.active p) ++
    le 1 (x.faults % 4 + 4 * b2n x.fecLocked + 8 * b2n x.deskewed + 16 * b2n paused) ++ le 1 x.wakeCause ++
    le 2 x.skew ++ le 4 left ++ zeros 4 ++ le 8 (nsOf x.stateTime) ++ zeros 8

/-- The port numbers a PKT_STATUS or PKT_COUNTERS range names: set 0 packet ports, set 1 media-lane ports. -/
def setPortNo (set_ i : Nat) : Nat := if set_ = 0 then i else 0x100 + i

/-- The checks on the parameters of R195 and R196. -/
def pktForm (maxCount : Nat) (ps : Bytes) : List (Bool × Nat) :=
  let lanes := if rd ps 0 1 = 0 then 64 else 256
  [(decide (rd ps 0 1 ≤ 1), 0), (isZero ps 1 1, 1), (decide (rd ps 2 2 < lanes), 2),
    (decide (1 ≤ rd ps 4 2 ∧ rd ps 4 2 ≤ maxCount ∧ rd ps 2 2 + rd ps 4 2 ≤ lanes), 4)]

/-- PKT_STATUS (R195). -/
def execPktStatus (r : Req) (s : State) : Host.Outcome State Fault Refusal :=
  .next (command 0x0601
    (fun r s => needLen 6 r s fun _ => needForm (pktForm 256 r.params) s fun _ =>
      okay s ((List.range (rd r.params 4 2)).flatMap fun j =>
        portRecord s (setPortNo (rd r.params 0 1) (rd r.params 2 2 + j)))) r s)

/-- The FEC codewords that a port with FEC has corrected and failed to correct since its counters were read: measured, so
free. DESIGN CHOICE (safe, log 186). -/
def fecRead (p : Nat) (s : State) : State :=
  if portFec s.quire.active p = 0 ∨ (netPort s p).state = 0 then s
  else
    let d := draw s
    let e := draw d.2
    netCount p 14 (Config.freeNat e.1) (netCount p 13 (Config.freeNat d.1) e.2)

/-- PKT_COUNTERS (R196): always a clearing read. -/
def execPktCounters (r : Req) (s : State) : Host.Outcome State Fault Refusal :=
  .next (command 0x0602
    (fun r s => needLen 6 r s fun _ => needForm (pktForm 64 r.params) s fun _ =>
      let ps := (List.range (rd r.params 4 2)).map fun j =>
        setPortNo (rd r.params 0 1) (rd r.params 2 2 + j)
      let s := ps.foldl (fun t p => fecRead p t) s
      { st := ps.foldl (fun t p => setNet p (fun x => { x with counts := [] }) t) s
        params := ps.flatMap fun p =>
          le 2 p ++ zeros 6 ++ (List.range 16).flatMap fun k =>
            le 8 (mget (fun _ => 0) (netPort s p).counts k)
        clearing := true }) r s)

/-- The flow state of Table 06.16. -/
def flowState (s : State) (i : Nat) (e : Bytes) : Nat :=
  let x := flowAt s i
  if x.staging then 1
  else if i < 8192 then (if x.active then 3 else 2)
  else
    let src := match feEssence e with
      | 3 => true
      | 4 => true
      | 5 => (sendingDest s (servedFlow s.quire.active e)).isSome
      | _ => (sendingDest s i).isSome
    if src && portUp s (fePort e) then 4 else 5

/-- The merge field of Table 06.16. -/
def mergeField (s : State) (e : Bytes) : Nat :=
  if fePair e = 0xFFFF ∨ 8192 ≤ rd e 0 2 then 0
  else
    let a := (flowAt s (legA e)).active
    let b := (flowAt s (max (rd e 0 2) (fePair e))).active
    if a && b then 1 else if a then 2 else if b then 3 else 4

/-- The flow status record (Table 06.16). -/
def flowRecord (s : State) (i : Nat) : Bytes :=
  match flowEntry s.quire.active i with
  | none => le 2 i ++ zeros 46
  | some e =>
    let x := flowAt s i
    let q := s.quire.active
    let tro :=
      match feEssence e, txDest q i with
      | 1, some d =>
        if 8192 ≤ i then
          let f := dstFormat (inForce s d) d
          nsOf (troTimesP (dstDelay s d f) f (maxPayload e) / packetsPerLine f (maxPayload e))
        else 0
      | _, _ => 0
    let high := if i < 8192 then (flowAt s (legA e)).high.getD 0 else x.sent
    le 2 i ++ le 1 (flowState s i e) ++ le 1 (mergeField s e) ++ le 4 tro ++ le 4 x.lastTs ++ le 4 high ++
      cBytes x.counts 7 ++ zeros 4

/-- Whether a port may read a flow (R197): a pen port where the bound or companion slot, or the audio
channels' block, is its pen's. -/
def flowVisible (r : Req) (s : State) (i : Nat) : Bool :=
  let q := s.quire.active
  !isPen r.port ||
    match flowEntry q i with
    | none => false
    | some e =>
      let j := servedFlow q e
      (match flowSource q j with
       | some k => decide (srcPen q k = r.port)
       | none => false) ||
      (match flowDest q j with
       | some d => decide (dstPen (inForce s d) d = r.port)
       | none => false) ||
      (decide (0 < feAudioCount e) && decide (blockPen q (decide (8192 ≤ i)) (feAudioBase e) = r.port))

/-- FLW_STATUS (R197). -/
def execFlwStatus (r : Req) (s : State) : Host.Outcome State Fault Refusal :=
  .next (command 0x0603
    (fun r s => needLen 8 r s fun _ =>
      let first := rd r.params 0 2
      let n := rd r.params 2 2
      let clear := bit (rd r.params 4 1) 0
      needForm
        [(decide (first < 16384), 0), (decide (1 ≤ n ∧ n ≤ 256 ∧ first + n ≤ 16384), 2),
          (decide (rd r.params 4 1 ≤ 1), 4), (isZero r.params 5 3, 5)] s fun _ =>
        let wipe (t : State) (j : Nat) : State :=
          if flowVisible r s (first + j) then setFlow (first + j) (fun x => { x with counts := [] }) t
          else t
        { st := if clear then (List.range n).foldl wipe s else s
          params := rangeRecords first n (flowVisible r s) (flowRecord s)
          clearing := clear }) r s)

end Sys2Proof.Machine
end

