-- ==== Sys2Proof/Machine/TwinOps.lean ====
section
/-! DEFINITION. Shared operations of the twin pair (chapter 15): roles, renewals, the stitch link's ups
and downs. -/

namespace Sys2Proof.Machine

/-- A reference. -/
def refAt (s : State) (r : Nat) : RefState := mget (fun _ => ({} : RefState)) s.time.refs r

/-- The time locked (R362), in ticks. -/
def timeLocked (s : State) : Nat :=
  let d := s.time.dpll
  d.lockedFor + (match d.lockedSince with
    | some t => now s - t
    | none => 0)

/-- Takes a role (Table 15.1), and says so where a pin changed. -/
def enterRole (r : Role) (s : State) : State :=
  if s.twin.role = r then s
  else notifyStatus s (setTwin (fun x => { x with role := r, roleTime := now s }) s)

/-- Takes the role SYNCING, in phase 1 of Table 15.7. -/
def enterSyncing (s : State) : State :=
  enterRole .syncing (setTwin (fun x =>
    { x with
      syncPhase := 1, syncBytes := 0, syncData := [], buffered := [], stored := [], freeAt := none, sendLeft := []
      copy := [], deferredItems := [] }) s)

/-- Releases the held replies that satisfy `p` (R120). -/
def releaseReplies (p : HeldReply → Bool) (s : State) : State :=
  (s.cmds.heldReplies.filter p).foldl (fun t h => sendReply h.reply t)
    { s with cmds := { s.cmds with heldReplies := s.cmds.heldReplies.filter fun h => !p h } }

/-- Arms an event not yet armed that entered by `t` (R86). -/
def armEvent (t at_ : Nat) (e : DrvEvent) : DrvEvent :=
  if e.armed.isNone ∧ e.entered ≤ t then { e with armed := some at_ } else e

/-- Arms every event that entered by `t`. -/
def armAll (t : Nat) (s : State) : State :=
  let arm := armEvent t (now s)
  { s with drv := { s.drv with queue := s.drv.queue.map arm } }

/-- The stitch link became ACTIVE (R456): SOLO becomes HOLDER, a twin without the crook SYNCING, and a
STARTING twin counts its cycles from here. DEDUCED (unsafe, log 56). DEDUCED (unsafe, log 61). -/
def twinLinkUp (s : State) : State :=
  let s1 := setStitch (fun x => { x with active := true, progress := now s }) s
  match s1.twin.role with
  | .solo => enterRole .holder (setTwin (fun x => { x with partnerRole := some .syncing }) s1)
  | .standby => enterSyncing s1
  | .starting => setTwin (fun x => { x with quietCycles := 0 }) s1
  | _ => s1

/-- The stitch link ceased to be ACTIVE (R224, R456): its sequences restart at 0; a holder becomes SOLO,
releases its held replies and arms its events; a SYNCING twin returns to phase 1, and replies that a twin without the crook
still held are lost (R120). DEDUCED (unsafe, log 56). -/
def twinLinkDown (s : State) : State :=
  if ¬ s.fabric.stitch.active then s
  else
    let s1 := setStitch (fun x =>
      { x with active := false, nextSeq := 0, expected := 0, replay := [], unsent := [],
               reorder := [], gapSince := none, ackDue := false }) s
    match s1.twin.role with
    | .holder =>
      armAll (now s1) (releaseReplies (fun _ => true)
        (enterRole .solo (setTwin (fun x => { x with copy := [], deferredItems := [], sendLeft := [] }) s1)))
    | .syncing =>
      setTwin (fun x => { x with syncPhase := 1, syncBytes := 0, syncData := [], buffered := [], stored := [] })
        { s1 with cmds := { s1.cmds with heldReplies := [] } }
    | _ => setTwin (fun x => { x with copy := [] }) { s1 with cmds := { s1.cmds with heldReplies := [] } }

/-- The CROOK body of Table 15.3. -/
def crookBody (s : State) (op leaseEnd : Nat) : Bytes :=
  le 1 op ++ le 1 s.boot.side ++ le 2 s.boot.epoch ++ le 4 (cycleNow s % 2 ^ 32) ++
    le 8 (nsOf leaseEnd) ++ le 1 s.twin.role.code ++ zeros 7

/-- Whether the FLOCK folio sends the crook on the fold bus too (R451). -/
def foldCrook (s : State) : Bool := bit (qRd s.quire.active fFlock 2 1) 1

/-- The partner's fold station (Table 15.9). DEDUCED (unsafe, log 147). -/
def partnerStation (s : State) : Nat :=
  qRd s.quire.active fFlock (if s.boot.side = 1 then 0xEC else 0x26) 1

/-- Sends a CROOK frame on the stitch link, and in the next SLOT frame where the fold bus carries the
crook (R451, R560). -/
def sendCrook (op leaseEnd : Nat) (s : State) : State :=
  let body := crookBody s op leaseEnd
  let s1 := stitchSend 5 body s
  if foldCrook s1 then setTwin (fun x => { x with slotBody := body }) s1 else s1

/-- A renewal: the lease runs to 1 ms from this instant (R451). -/
def renewLease (s : State) : State :=
  let t := now s + ticksPerMs
  sendCrook 1 t (setTwin (fun x => { x with ownLease := some t }) s)

/-- Whether the holder renews (R451, R454). -/
def renews (s : State) : Bool :=
  s.twin.role.holds && !s.twin.stopped && s.ev.fatal.isNone && s.boot.ready && !s.boot.inReset

/-- The role a code names (Table 15.1). -/
def roleOf (n : Nat) : Option Role :=
  ([.single, .starting, .syncing, .standby, .holder, .solo] : List Role)[n]?

/-- A CROOK frame heard from the partner, on the fold bus if `viaFold` (R452, R453, R455). DEDUCED (unsafe, log 60). -/
def crookReceive (viaFold : Bool) (b : Bytes) (s : State) : State :=
  if ¬ isTwin s then s
  else if rd b 1 1 = s.boot.side then
    if rd b 0 1 = 1 then
      raise 1105 0 (cycleNow s % 2 ^ 32)
        (setTwin (fun x => { x with conflict := true, sideConflicts := satInc x.sideConflicts }) s)
    else s
  else
    let heardAt := if viaFold then some (now s) else s.twin.partnerFoldAt
    let s1 := setTwin (fun x =>
      { x with partnerRole := roleOf (rd b 0x10 1), partnerEpoch := rd b 2 2, conflict := false,
               partnerFoldAt := heardAt }) s
    if rd b 0 1 ≠ 1 then s1
    else
      let lease := rd b 8 8 * ticksPerNs
      let latest := max lease (s1.twin.lastHeard.getD 0)
      let s2 := setTwin (fun x => { x with lastHeard := some latest, quietCycles := 0 }) s1
      match s2.twin.role with
      | .holder => setTwin (fun x => { x with stopped := true }) s2
      | .solo => setTwin (fun x => { x with stopped := true }) s2
      | .starting => enterSyncing s2
      | .standby => if s2.fabric.stitch.active then s2 else enterSyncing s2
      | _ => s2

/-- The first cycle end after an instant. DESIGN CHOICE (unsafe, log 63). -/
def cycleEndAfter (t : Nat) : Nat := (t / cycleTicks + 1) * cycleTicks

/-- The instant at which this twin may claim the crook (R452, R455): the end of the first cycle that ends
after the crook became free for side A, of the second for side B. -/
def claimPoint (s : State) : Option Nat :=
  let free := match s.twin.role with
    | .starting => s.twin.freeAt
    | _ => s.twin.lastHeard
  free.map fun t => cycleEndAfter t + (if s.boot.side = 1 then cycleTicks else 0)

/-- Whether this twin may claim now. -/
def mayClaim (s : State) : Bool :=
  isTwin s && !holdsCrook s && s.boot.ready && s.ev.fatal.isNone &&
    match claimPoint s with
    | some t => decide (t ≤ now s)
    | none => false

/-- CROOK_CLAIM (R452, R455, R457): a twin claims a free crook: its first RENEW, and authority at that
instant; its partner, if it lives, is SYNCING from then (R453, R455).
DESIGN CHOICE (safe, log 6). DEDUCED (unsafe, log 61). -/
def execCrookClaim (s : State) : Host.Outcome State Fault Refusal :=
  .next
    (if ¬ mayClaim s then s
     else
       let was := s.twin.role
       let s1 := setTwin (fun x =>
         { x with stopped := false, takeovers := satInc x.takeovers, freeAt := none, syncPhase := 0
                  partnerRole := some .syncing }) s
       let s2 := enterRole (if s.fabric.stitch.active then .holder else .solo) s1
       let s3 := raise 1104 0 (cycleNow s % 2 ^ 32) (renewLease (armAll (now s2) s2))
       let s4 := if was = .syncing then
           raise 1106 0 (s3.twin.lastCopy.getD 0 % 2 ^ 32)
             (setTwin (fun x => { x with unsynced := satInc x.unsynced }) s3)
         else s3
       startUnknown s4.cmds.waiting.length s4)

/-- STARTING_WAIT_EXPIRY (R455): start_wait_ms has passed since command-ready with no renewal heard. -/
def execStartingWaitExpiry (s : State) : Host.Outcome State Fault Refusal :=
  .next
    (if s.twin.role = .starting ∧ s.twin.freeAt.isNone ∧
        s.twin.startedAt + qRd s.quire.active fFlock 0x20 2 * ticksPerMs ≤ now s then
       setTwin (fun x => { x with freeAt := some (now s) }) s
     else s)

/-- RESTART_OVERRUN (R454): Vegen has not registered within 5 s of the start of a restart. -/
def execRestartOverrun (s : State) : Host.Outcome State Fault Refusal :=
  .next
    (match s.boot.restart with
     | some r =>
       if r.since + 5 * ticksPerSec ≤ now s ∧ s.ev.fatal.isNone then
         raise 3 0 0 (setTwin (fun x => { x with stopped := true }) s)
       else s
     | none => s)

end Sys2Proof.Machine
end

