-- ==== Sys2Proof/Machine/Fabric.lean ====
section
/-! DEFINITION. Fabric lanes (chapter 07): bring-up, cells, twin merge, and the FAB and STI commands. -/

namespace Sys2Proof.Machine

/-! ### Lanes and bonds -/

/-- Whether every stitch lane is ACTIVE, so that the link is. DEDUCED (unsafe, log 56). -/
def stitchUp (s : State) : Bool := (bondLanes s.quire.active 64).all fun l => decide ((fabLane s l).state = 5)

/-- A preset tap of a lane: offset 3, 4 or 5 of its entry. DEDUCED (unsafe, log 57). -/
def presetTap (q : Quire) (l o : Nat) : Int := qRdI q fFabric (528 * l + o) 1

/-- The load of a lane's bring-up (R207, Table 20.6). -/
def fabLoad (s : State) (l : Nat) : Load :=
  ⟨5, if l < 64 then 320 + l else 384 + (l - 64), 0, if l < 64 then 2 else 1, now s⟩

/-- A lane that waits for the governor waits once. -/
def fabWait (l : Nat) (s : State) : State :=
  if loadWaits s (fabLoad s l).resource 0 then s
  else { s with power := { s.power with waiting := s.power.waiting ++ [fabLoad s l] } }

/-- Block reset of a fabric or stitch lane (Table 17.6): it goes to DETECT; one that is OFF or in TEST stays so. -/
def fabReset (l : Nat) (s : State) : State :=
  let x := fabLane s l
  if x.state = 0 ∨ x.state = 6 then s
  else addLoad { fabLoad s l with cls := 3 } (setFab l (fun y => { y with state := 1, since := now s }) s)

/-- A lane leaves its state, with block lock gone where the new one is before BLOCK: EV0480 where it was ACTIVE (R207); a
stitch lane that leaves for OFF, DETECT or TEST takes the link down. DEDUCED (unsafe, log 56). -/
def fabLeave (l st : Nat) (s : State) : State :=
  let was := (fabLane s l).state
  let s1 := setFab l (fun x =>
    { x with
      state := st, since := if was = st then x.since else now s, fromActive := decide (was = 5)
      locked := false, deskewed := false }) s
  let s2 := if was = 5 ∧ st ≠ 5 then raiseIn 5 480 l st (fabReset l) s1 else s1
  if 64 ≤ l ∧ (st ≤ 1 ∨ st = 6) then twinLinkDown s2 else s2

/-- Answers the FAB_RETRAIN request that waits on a lane. -/
def concludeRetrain (l : Nat) (s : State) : State :=
  match s.cmds.deferred.find? fun w => decide (w.opcode = 0x0703 ∧ w.info = [l]) with
  | some w =>
    match catalogue 0x0703 with
    | some row => concludeLater row w.req (okay s [])
    | none => s
  | none => s

/-- A lane enters DETECT with preset taps, and sends training frames with them (R207, R208). DEDUCED (unsafe, log 57). -/
def fabDetect (l : Nat) (s : State) : State :=
  let q := s.quire.active
  let was := (fabLane s l).state
  let s1 := fabLeave l 1 s
  let s2 := setFab l (fun x =>
    { x with
      inverted := false, frames := 0, ready := 0, extra := 0, deskewed := false, agreed := []
      ownAck := false, ackRun := 0, tapStatus := 0, ask := 0, cm2 := presetTap q l 3, cm1 := presetTap q l 4
      cp1 := presetTap q l 5, code := { count := x.code.count }
      counts := if was = 0 then x.counts else nAdd x.counts 9 1 }) s1
  concludeRetrain l (sendTraining l s2)

/-- FABRIC_SIGNAL_DETECT (R207): signal above 80 mVppd for 100 µs, on a lane the governor has admitted. -/
def execFabricSignalDetect (lane : Nat) (s : State) : Host.Outcome State Fault Refusal :=
  .next
    (if (fabLane s lane).state = 1 ∧ ¬ loadWaits s (fabLoad s lane).resource 0 then
       sendTraining lane (setFab lane (fun x => { x with state := 2, since := now s, frames := 0, ready := 0, extra := 0 }) s)
     else s)

/-- One tap request (R208): the tap's value and its status, 1 updated, 2 at limit, 0 not updated. A lane that
holds its presets is at its limit. DEDUCED (unsafe, log 57). -/
def tapStep (hold : Bool) (lo : Int) (req : Nat) (v : Int) : Int × Nat :=
  if req = 1 then (if hold ∨ 0 ≤ v then (v, 2) else (v + 1, 1))
  else if req = 2 then (if hold ∨ v ≤ lo then (v, 2) else (v - 1, 1))
  else (v, 0)

/-- Treats the control field of a training frame (R208). A request is answered once; hold returns its status
to not updated. DEDUCED (unsafe, log 55). -/
def trainTaps (q : Quire) (l control : Nat) (x : FabLane) : FabLane :=
  let hold := decide (qRd q fFabric (528 * l + 6) 1 = 1)
  let go (i : Nat) : Nat := if bits x.tapStatus (2 * i + 1) (2 * i) = 0 then bits control (2 * i + 1) (2 * i) else 3
  let keep (i : Nat) (n : Nat) : Nat :=
    if bits control (2 * i + 1) (2 * i) = 0 then 0
    else if go i = 3 then bits x.tapStatus (2 * i + 1) (2 * i) else n
  if bit control 6 then
    { x with cm2 := presetTap q l 3, cm1 := presetTap q l 4, cp1 := presetTap q l 5, tapStatus := 0 }
  else
    let a := tapStep hold (-8) (go 0) x.cm2
    let b := tapStep hold (-16) (go 1) x.cm1
    let c := tapStep hold (-16) (go 2) x.cp1
    { x with cm2 := a.1, cm1 := b.1, cp1 := c.1
             tapStatus := keep 0 a.2 + 4 * keep 1 b.2 + 16 * keep 2 c.2 }

/-- The requests a lane sends after a training frame with a status field (R208); which tap it wants moved is a free value.
DESIGN CHOICE (unsafe, log 192). -/
def askTaps (free ask status : Nat) : Nat :=
  ((List.range 3).map fun i =>
    4 ^ i * tapRequest (bits ask (2 * i + 1) (2 * i)) (bits status (2 * i + 1) (2 * i)) (Config.freeNat (free + i))).sum

/-- TRAINING_FRAME_RECEIVE (R208): a frame whose marker came at the frame spacing, inverted or not, with its
control and status fields. Bit lock takes three frames; a lane sends receiver_ready from then; after
three frames with it both ways, and 16 more, the lane enters BLOCK. For each frame that comes the lane sends one, in BLOCK a
codeword of IDLE blocks. DESIGN CHOICE (unsafe, log 192). -/
def execTrainingFrameReceive (lane : Nat) (inverted : Bool) (control status : Nat) (s : State) :
    Host.Outcome State Fault Refusal :=
  .next
    (let x := fabLane s lane
     if x.state ≠ 2 then s
     else if inverted ≠ x.inverted then
       sendTraining lane (setFab lane (fun y => { y with inverted := inverted, frames := 1, ready := 0, extra := 0, ask := 0 }) s)
     else
       let ask := if 3 ≤ x.frames then askTaps s.free x.ask status else 0
       let y := trainTaps s.quire.active lane control { x with frames := x.frames + 1, ask := ask }
       let both := decide (3 ≤ x.frames) && bit control 7
       let s1 := drawMany 3 s
       if 3 ≤ y.ready then
         if 15 ≤ y.extra then
           bondSend lane (List.replicate 10 idleBlock)
             (setFab lane (fun _ => { y with state := 3, since := now s, fromActive := false, extra := 16 }) s1)
         else sendTraining lane (setFab lane (fun _ => { y with extra := y.extra + 1 }) s1)
       else sendTraining lane (setFab lane (fun _ => { y with ready := if both then y.ready + 1 else 0 }) s1))

/-- BLOCK_LOCK (R204, R205): block lock, with the logical position the marker gives and, for a bond, its skew. At most 4 µs
the bond is deskewed, and a lane in BLOCK goes on to CAPS; later a marker only moves the skew. DESIGN CHOICE (unsafe, log
52). DESIGN CHOICE (unsafe, log 52). -/
def execBlockLock (lane logical skewNs : Nat) (s : State) : Host.Outcome State Fault Refusal :=
  .next
    (let bonded := decide (1 < (bondLanes s.quire.active lane).length)
     let x := fabLane s lane
     if x.state < 3 ∨ 5 < x.state then s
     else
       let s1 := setFab lane (fun y =>
         { y with locked := true, logical := if bonded then logical else 0, skew := if bonded then skewNs else 0
                  deskewed := bonded && decide (skewNs ≤ 4000) }) s
       if x.state ≠ 3 ∨ (bonded ∧ 4000 < skewNs) then s1
       else
         sendCaps lane (setFab lane (fun y =>
           { y with state := 4, since := now s, ackRun := 0, ownAck := false, lastCaps := now s }) s1))

/-- BLOCK_LOCK_LOSS (R204, R207). -/
def execBlockLockLoss (lane : Nat) (s : State) : Host.Outcome State Fault Refusal :=
  .next
    (let x := fabLane s lane
     if x.state = 4 ∨ x.state = 5 then fabCount lane 8 1 (fabLeave lane 3 s)
     else if x.state = 3 ∧ x.locked then fabCount lane 8 1 (setFab lane (fun y => { y with locked := false, deskewed := false }) s)
     else s)

/-- The checks of Table 07.3 on a received CAPS payload (Table 07.4). DEDUCED (unsafe, log 55). -/
def capsPass (s : State) (lane : Nat) (c : Bytes) : Bool :=
  let q := s.quire.active
  let x := fabLane s lane
  let want := qRd q fFabric (528 * lane + (if isTwin s ∧ s.boot.side = 1 then 12 else 8)) 4
  decide (rd c 1 1 = 1) && decide (rd c 0x0B 1 = (bondLanes q lane).length) &&
    decide (rd c 0x0C 1 = x.logical) && decide (want = 0xFFFFFFFF ∨ want = rd c 4 4) &&
    (decide (lane < 64) || (decide (rd c 2 1 = 0) && decide (rd c 3 1 = 1 - s.boot.side) &&
      decide (rd c 3 1 < 2)))

/-- CAPS_RECEIVE (R207, R209): in CAPS the checks, and ACTIVE after three blocks with ack both ways; in ACTIVE
a block that no longer matches the values agreed takes the lane to DETECT. The lane answers each with one of its own.
DEDUCED (unsafe, log 55). DESIGN CHOICE (unsafe, log 192). -/
def execCapsReceive (lane : Nat) (caps : Bytes) (s : State) : Host.Outcome State Fault Refusal :=
  .next
    (let x := fabLane s lane
     if x.state = 5 then
       if slice caps 1 12 ≠ x.agreed then fabDetect lane (setFab lane (fun y => { y with caps := caps }) s)
       else sendCaps lane (setFab lane (fun y => { y with caps := caps, lastCaps := now s }) s)
     else if x.state ≠ 4 then s
     else if ¬ capsPass s lane caps then
       sendCaps lane (fabCount lane 10 1
         (setFab lane (fun y => { y with caps := caps, ownAck := false, ackRun := 0, lastCaps := now s }) s))
     else
       let run := if rd caps 0x0D 1 = 1 ∧ x.ownAck then x.ackRun + 1 else 0
       let s1 := sendCaps lane (setFab lane (fun y =>
         { y with caps := caps, ownAck := true, ackRun := run, lastCaps := now s }) s)
       if run < 3 then s1
       else
         let s2 := setFab lane (fun y =>
           { y with state := 5, since := now s, fromActive := false, agreed := slice caps 1 12 }) s1
         if 64 ≤ lane ∧ stitchUp s2 ∧ ¬ s2.fabric.stitch.active then twinLinkUp s2 else s2)

/-- When a lane's state times out (Table 07.2, R207). -/
def fabDeadline (x : FabLane) : Option Nat :=
  match x.state with
  | 2 => some (x.since + 500 * ticksPerMs)
  | 3 => some (x.since + (if x.fromActive then 2 else 20) * ticksPerMs)
  | 4 => some (x.since + 20 * ticksPerMs)
  | 5 => some (x.lastCaps + 5 * ticksPerMs)
  | _ => none

/-- LANE_STATE_TIMEOUT (R207): back to DETECT, under the governor after a timeout of bring-up. -/
def execLaneStateTimeout (lane : Nat) (s : State) : Host.Outcome State Fault Refusal :=
  .next
    (let x := fabLane s lane
     match fabDeadline x with
     | some t => if t ≤ now s then fabWait lane (fabDetect lane s) else s
     | none => s)

/-! ### Cells (R210 to R216) -/

/-- One step of the cell CRC over a byte: polynomial 0x1021, most significant bit first. -/
def crc16Byte (c : BitVec 16) (b : Byte) : BitVec 16 :=
  let f (v : BitVec 16) : BitVec 16 := if v.getMsbD 0 then (v <<< 1) ^^^ 0x1021#16 else v <<< 1
  f (f (f (f (f (f (f (f (c ^^^ (b.setWidth 16 <<< 8)))))))))

/-- CRC-16 of R210: initial value 0xFFFF, no reflection, no final exclusive-or. -/
def crc16 (bs : Bytes) : Nat := (bs.foldl crc16Byte 0xFFFF#16).toNat

/-- The CRC of a cell, its field taken as zero. -/
def cellCrc (c : Bytes) : Nat := crc16 (c.take 14 ++ zeros 2 ++ c.drop 16)

/-- A cell (Table 07.5): header, payload padded with zeros, and CRC. -/
def mkCell (kind flags stream line offset seq frame : Nat) (payload : Bytes) : Bytes :=
  let c := le 1 kind ++ le 1 flags ++ le 2 stream ++ le 2 line ++ le 2 offset ++ le 4 seq ++ le 1 frame ++
    le 1 payload.length ++ zeros 2 ++ fit 240 payload
  c.take 14 ++ le 2 (cellCrc c) ++ c.drop 16

/-- Item `j` of a lane's FABRIC entry (Table 07.6): stream, kind, count, audio_base, link_offset. -/
def fabItem (q : Quire) (l j : Nat) : Bytes := qBytes q fFabric (528 * l + 16 + 8 * j) 8

/-- The items of a lane. DEDUCED (unsafe, log 55). -/
def fabItems (q : Quire) (l : Nat) : List Bytes := (List.range 64).map (fabItem q l)

/-- The receive audio item of a stream, on whichever lane it stands. -/
def rxAudioItem (q : Quire) (stream : Nat) : Option Bytes :=
  ((List.range 64).flatMap (fabItems q)).find? fun e => decide (rd e 2 1 = 3 ∧ rd e 0 2 = stream)

/-- The slot a receive stream writes. -/
def streamSource (q : Quire) (stream : Nat) : Option Nat := slotBound q false 3 0 stream

/-- The destination a transmit stream shows. -/
def streamDest (q : Quire) (stream : Nat) : Option Nat := slotBound q true 3 0 stream

/-- The lanes or bond leaders that name a transmit stream of an item kind. DESIGN CHOICE (unsafe, log 54). -/
def txLanes (q : Quire) (kind stream : Nat) : List Nat :=
  (List.range 64).filter fun l =>
    decide (1 ≤ fabMode q l ∧ fabMode q l ≤ 3) &&
      (fabItems q l).any fun e => decide (rd e 2 1 = kind ∧ rd e 0 2 = stream)

/-- Samples of an audio cell of `count` channels (R215). -/
def cellSamples (count : Nat) : Nat := min 16 (80 / count)

/-- A receive stream. -/
def rxStream (s : State) (n : Nat) : RxStream := mget (fun _ => ({} : RxStream)) s.fabric.rx n

/-- Changes a receive stream. -/
def setRx (n : Nat) (f : RxStream → RxStream) (s : State) : State :=
  { s with fabric := { s.fabric with rx := mmod (fun _ => ({} : RxStream)) s.fabric.rx n f } }

/-- A transmit stream. -/
def txStream (s : State) (n : Nat) : TxStream := mget (fun _ => ({} : TxStream)) s.fabric.tx n

/-- Changes a transmit stream. -/
def setTx (n : Nat) (f : TxStream → TxStream) (s : State) : State :=
  { s with fabric := { s.fabric with tx := mmod (fun _ => ({} : TxStream)) s.fabric.tx n f } }

/-- Bytes of a picture line of a format (R213). -/
def cellLineBytes (f : Nat) : Nat := cdiv (rasterWidth (rasterOf f) * pixelBits (sampleOf f)) 8

/-- Cells P of a picture line. -/
def lineCells (f : Nat) : Nat := cdiv (cellLineBytes f) 240

/-- The active line index of a raster line, from 0 (R212). -/
def activeIndex (r n : Nat) : Nat :=
  ((activeRanges r).map fun p => if n < p.1 then 0 else min n p.2 + 1 - p.1).sum - 1

/-- The raster line of an active line index (R212). -/
def activeLine (r i : Nat) : Nat := ((activeRanges r).flatMap fun p => (List.range (p.2 + 1 - p.1)).map (· + p.1)).getD i 0

/-- A line of samples as bytes, padded with zero bits to a whole byte (R213). -/
def packLine (f : Nat) (xs : List Nat) : Bytes :=
  let d := sampleDepth (sampleOf f)
  let n := xs.foldl (fun a x => a * 2 ^ d + x % 2 ^ d) 0
  let pad := 8 * cellLineBytes f - d * xs.length
  be (cellLineBytes f) (n * 2 ^ pad)

/-- The format that a receive stream's lines are written in: that of its last FRAME_STATUS cell (R214), else
its slot's declared format. -/
def rxFormat (s : State) (stream slot : Nat) : Nat :=
  let x := rxStream s stream
  if x.fmt ≠ 0 then x.fmt
  else if isAuto (srcFormat s.quire.active slot) then 0 else srcFormat s.quire.active slot

/-- Whether the cell at offset `o` of a line under assembly is held. -/
def cellHeld (p : CellPart) (o : Nat) : Bool := p.parts.any fun c => decide (c.1 = o)

/-- Whether every cell of a line is held. -/
def partWhole (f : Nat) (p : CellPart) : Bool := (List.range (lineCells f)).all fun j => cellHeld p (240 * j)

/-- Whether a line under assembly is complete (R216): all its cells are held, or a later line has begun and
every missing sequence lies at or below the merge's lower bound. -/
def partComplete (f low : Nat) (p : CellPart) : Bool :=
  partWhole f p ||
    (p.later && (List.range (lineCells f)).all fun j => cellHeld p (240 * j) || decide (p.base + j ≤ low))

/-- The bytes of a line, black where a cell is missing. -/
def partBytes (f : Nat) (p : CellPart) : Bytes :=
  let black := packLine f (blackRow f)
  ((List.range (lineCells f)).flatMap fun j =>
    match p.parts.find? fun c => decide (c.1 = 240 * j) with
    | some c => fit (min 240 (cellLineBytes f - 240 * j)) c.2
    | none => slice black (240 * j) 240).take (cellLineBytes f)

/-- Writes the complete lines of a receive stream, 0.90 µs after their last cell (R216). -/
def flushCells (stream : Nat) (s : State) : State :=
  match streamSource s.quire.active stream with
  | none => s
  | some slot =>
    let x := rxStream s stream
    let f := rxFormat s stream slot
    if lineCells f = 0 then setRx stream (fun y => { y with lines := [] }) s else
    let done := x.lines.filter (partComplete f x.pic.low)
    let s1 := setRx stream (fun y => { y with lines := y.lines.filter fun p => !partComplete f x.pic.low p }) s
    done.foldl (fun t p =>
      let xs := unpackSamples (sampleDepth (sampleOf f)) (partBytes f p)
      let done := now s + 900 * ticksPerNs
      if partWhole f p then writeLine slot p.line f done xs t
      else
        captureBad slot p.line (writeLine slot p.line f done xs
          (setRx stream (fun y => { y with counts := cAdd y.counts 5 1 }) t))) s1

/-- The lines between the latest begun and one that begins now, of which no cell has come, at most a frame of them (R216): `p`
cells a line, `base` the line's first sequence. DEDUCED (unsafe, log 193). -/
def skippedLines (r p : Nat) (front : Option Nat) (base frame line : Nat) : List CellPart :=
  match front with
  | none => []
  | some b =>
    let n := min (rasterActive r) ((base - b) / p) - 1
    let i := activeIndex r line
    ((List.range n).map fun j => n - j).map fun j =>
      let k := i + rasterActive r - j
      ⟨base - j * p, if j ≤ i then frame else (frame + 255) % 256, activeLine r (k % rasterActive r), [], true⟩

/-- Adds a picture cell of a format to the lines under assembly of a stream; a line before it notes that a later one has
begun, and lines before it without a cell stand among them (R216). DEDUCED (unsafe, log 193). -/
def addCell (f base frame line offset : Nat) (bs : Bytes) (x : RxStream) : RxStream :=
  let marked := x.lines.map fun p => if p.base < base then { p with later := true } else p
  let newest := x.front.all (· < base)
  let skipped := if newest ∧ 0 < lineCells f then skippedLines (rasterOf f) (lineCells f) x.front base frame line else []
  let one := fun p : CellPart => { p with parts := p.parts ++ [(offset, bs)] }
  if marked.any fun p => decide (p.base = base) then { x with lines := updFirst (fun p => decide (p.base = base)) one marked }
  else
    { x with
      lines := marked ++ skipped ++ [⟨base, frame, line, [(offset, bs)], x.front.any (base < ·)⟩]
      front := if newest then some base else x.front }

/-- The ANC packet that cells in sequence from a first to a last spell (R214). -/
def cellsAnc (cs : List AncCell) : AncPkt :=
  let bs := cs.flatMap fun c => c.bytes
  let pos := rd bs 0 1
  { line := (cs.map (·.line)).headD 0, hanc := !bit pos 0, stream := bits pos 3 1, link := bits pos 5 4
    words := (List.range (rd bs 2 2)).map fun i => rd bs (4 + 2 * i) 2 % 1024 }

/-- The cells from `seq` on, as far as they are held without a gap up to a last one. -/
def ancRun (cs : List AncCell) : Nat → Nat → Option (List AncCell)
  | 0, _ => none
  | n + 1, seq =>
    match cs.find? fun c => decide (c.seq = seq) with
    | some c => if c.last then some [c] else (ancRun cs n (seq + 1)).map (c :: ·)
    | none => none

/-- Takes an accepted ANC cell; a packet whose cells are all held is written (R28, R214). -/
def ancCellTake (stream slot : Nat) (c : AncCell) (s : State) : State :=
  let x := rxStream s stream
  let cs := keepLast 64 (x.ancCells ++ [c])
  let starts := cs.filter (·.first)
  match starts.findSome? fun f => (ancRun cs 64 f.seq).bind fun r => if r.contains c then some r else none with
  | some run =>
    let q := s.quire.active
    let s1 := setRx stream (fun y => { y with ancCells := cs.filter fun d => !run.contains d }) s
    let pkt := cellsAnc run
    if srcEnabled q slot ∧ 0 < srcAnc q slot then
      let k := ancFrame (srcSlot s slot) (rxFormat s stream slot) pkt.line
      setSrc slot (storeAnc (srcAnc q slot) k pkt) s1
    else s1
  | none => setRx stream (fun y => { y with ancCells := cs }) s

/-- Takes an accepted audio cell (R215): each sample waits for its instant plus link_offset; one already due
is discarded and counted. -/
def audioCellTake (stream : Nat) (item payload : Bytes) (n32 : Nat) (s : State) : State :=
  let count := rd item 3 1
  let off := if rd item 6 2 = 0 then 48 else rd item 6 2
  let nowN := now s * 48000 / ticksPerSec
  let n0 := extendSeq 32 n32 nowN
  let sample (j : Nat) : List Smp :=
    (List.range count).map fun c => (rdI payload (3 * (count * j + c)) 3, 0)
  let all := (List.range (payload.length / (3 * count))).map fun j => (n0 + j + off, sample j)
  let good := all.filter fun p => decide (now s * 48000 ≤ p.1 * ticksPerSec)
  let aud := (rxStream s stream).aud
  let aud' := { aud with audio := good.foldl (fun m p => mput m p.1 p.2) aud.audio }
  setRx stream (fun y => { y with aud := aud', counts := cAdd y.counts 3 (all.length - good.length) }) s

/-- Late copies of a stream in this second (R218): past 1,000 of them, EV0481. -/
def noteLate (stream : Nat) (s : State) : State :=
  let x := rxStream s stream
  let sec := now s / ticksPerSec
  let n := if x.lateSecond = sec then x.lateIn + 1 else 1
  let s1 := setRx stream (fun y => { y with lateIn := n, lateSecond := sec }) s
  if n = 1001 then
    raiseIn 5 481 stream n (fun u => (List.range 64).foldl (fun v l => fabReset l v) u) s1
  else s1

/-- The merge of a series (R217): 32-bit sequences, at most 4,096 records. -/
def cellMerge (seq t : Nat) (x : Flow) : Flow × Merged := mergeStep true 4096 32 seq t x

/-- A valid cell of a stream (R217): merged in its series, and if accepted handed on. The arrival difference of a copy
counts from the first arrival of its sequence (R218). -/
def cellTake (stream kind : Nat) (c : Bytes) (s : State) : State :=
  let x := rxStream s stream
  let seq := rd c 8 4
  let ser := if kind = 1 then x.pic else if kind = 3 then x.aud else x.anc
  let m := cellMerge seq (now s) ser
  let mine := if kind = 1 then 0 else if kind = 3 then 2 else 1
  let side := rd c 1 1 % 4
  let was := extendSeq 32 seq (ser.high.getD 0)
  let gap := match x.firsts.find? fun r => decide (r.1 = (mine, was)) with
    | some r => nsOf (now s - r.2)
    | none => 0
  let s1 := setRx stream (fun y =>
    if kind = 1 then { y with pic := m.1 } else if kind = 3 then { y with aud := m.1 }
    else { y with anc := m.1 }) s
  match m.2 with
  | .late => noteLate stream s1
  | .duplicate => setRx stream (fun y => { y with skew := max y.skew gap }) s1
  | .accept q =>
    let kept (y : RxStream) : List ((Nat × Nat) × Nat) := y.firsts.filter fun r =>
      let z := if r.1.1 = 0 then y.pic else if r.1.1 = 1 then y.anc else y.aud
      z.recs.any fun c => decide (c.1 = r.1.2)
    let s2 := setRx stream (fun y =>
      { y with
        counts := cAdd y.counts (if side = 1 then 1 else 0) 1
        firsts := kept y ++ [((mine, q), now s)] }) s1
    let n := rd c 0x0D 1
    let payload := slice c 16 n
    let flags := rd c 1 1
    if kind = 1 then
      let off := rd c 6 2
      let f := match streamSource s.quire.active stream with
        | some slot => rxFormat s stream slot
        | none => 0
      flushCells stream (setRx stream (addCell f (q - off / 240) (rd c 0x0C 1) (rd c 4 2) off payload) s2)
    else if kind = 2 then
      match streamSource s.quire.active stream with
      | some slot => ancCellTake stream slot ⟨q, bit flags 2, bit flags 3, rd c 4 2, payload⟩ s2
      | none => s2
    else if kind = 3 then
      match rxAudioItem s.quire.active stream with
      | some item => audioCellTake stream item payload (rd c 4 2 + 65536 * rd c 6 2) s2
      | none => s2
    else setRx stream (fun y => { y with fmt := rd payload 0 2 }) s2

/-- CELL_RECEIVE (R210): a cell of 256 bytes on an ACTIVE lane; `flagged` says its codeword could not be
corrected. A cell that is not valid is discarded and counted. -/
def execCellReceive (lane : Nat) (cell : Bytes) (flagged : Bool) (s : State) :
    Host.Outcome State Fault Refusal :=
  .next
    (if (fabLane s lane).state ≠ 5 ∨ 64 ≤ lane then s
     else
       let kind := rd cell 0 1
       let stream := rd cell 2 2
       let q := s.quire.active
       let known := if kind = 3 then (rxAudioItem q stream).isSome else (streamSource q stream).isSome
       if flagged ∨ cell.length ≠ 256 ∨ cellCrc cell ≠ rd cell 14 2 ∨ ¬ (1 ≤ kind ∧ kind ≤ 4) ∨ ¬ known then
         fabCount lane 4 1 (fabCount lane 3 1 s)
       else
         cellTake stream kind cell
           (setFab lane (fun x => { x with streams := mput x.streams stream (now s) }) (fabCount lane 3 1 s)))

/-- FABRIC_MERGE_AGEING (R216, R217): the end of a 1 µs cycle; records not renewed within 16 µs expire, and
lines that this completes are written. -/
def execFabricMergeAgeing (s : State) : Host.Outcome State Fault Refusal :=
  .next
    ((s.fabric.rx.map (·.1)).foldl (fun t n =>
      let age := ageRecs (16 * ticksPerUs) (now s)
      flushCells n (setRx n (fun x =>
        { x with pic := age x.pic, anc := age x.anc, aud := age x.aud }) t)) s)

/-- The side bits of the cells this device sends. -/
def cellSide (s : State) : Nat := if isTwin s then s.boot.side else 2

/-- Sends a cell, four data blocks (R199), on every lane, or the first ACTIVE lane of every bond, of a list. DESIGN CHOICE
(unsafe, log 54). -/
def sendCell (lanes : List Nat) (cell : Bytes) (s : State) : State :=
  lanes.foldl (fun t l =>
    match (bondLanes t.quire.active l).find? fun i => decide ((fabLane t i).state = 5) with
    | some i => bondSend i (dataBlocks cell) (emit (.cell i cell) (fabCount i 5 1 t))
    | none => t) s

/-- The destination whose lines a transmit stream now carries: bound, enabled and not withheld (R213, R470). -/
def sendingStream (s : State) (stream : Nat) : Option Nat :=
  match streamDest s.quire.active stream with
  | some d => if dstEnabled (inForce s d) d ∧ ¬ withholds s d then some d else none
  | none => none

/-- PICTURE_CELL_SEND (R212, R213, R216): cell `j` of raster line `line` of frame `k`. -/
def execPictureCellSend (stream k line j : Nat) (s : State) : Host.Outcome State Fault Refusal :=
  .next
    (match sendingStream s stream with
     | none => s
     | some d =>
       let f := dstFormat (inForce s d) d
       let p := lineCells f
       if ¬ isActive (rasterOf f) line ∨ p ≤ j then s
       else
         let r := lineRead s d k line
         let bs := slice (packLine f (if r.black then blackRow f else r.data)) (240 * j) 240
         let seq := k * (p * rasterActive (rasterOf f)) + activeIndex (rasterOf f) line * p + j
         let flags := cellSide s + 4 * b2n (decide (j = 0)) + 8 * b2n (decide (j + 1 = p))
         sendCell (txLanes (inForce s d) 1 stream)
           (mkCell 1 flags stream line (240 * j) (seq % 2 ^ 32) (k % 256) bs) s)

/-- The bytes of an ANC packet in its cells (R214). -/
def ancStream (p : AncPkt) : Bytes :=
  le 1 (b2n (!p.hanc) + 2 * (p.stream % 8) + 16 * (p.link % 4)) ++ zeros 1 ++ le 2 p.words.length ++
    p.words.flatMap (fun w => le 2 (w % 1024))

/-- Sends the cells of an ANC packet, each taking one of the stream's continuous count. -/
def sendAnc (lanes : List Nat) (stream k : Nat) (p : AncPkt) (s : State) : State :=
  let bs := ancStream p
  let n := cdiv bs.length 240
  (List.range n).foldl (fun t i =>
    let flags := cellSide t + 4 * b2n (decide (i = 0)) + 8 * b2n (decide (i + 1 = n))
    let seq := (txStream t stream).ancSeq
    let word := if i = 0 then 0 else 120 * i - 2
    sendCell lanes (mkCell 2 flags stream p.line word seq (k % 256) (slice bs (240 * i) 240))
      (setTx stream (fun x => { x with ancSeq := (x.ancSeq + 1) % 2 ^ 32 }) t)) s

/-- The ANC packets a stream carries on a line: those of the source shown. -/
def streamAnc (s : State) (d k line : Nat) : List AncPkt :=
  (destAnc s d (dstSlot s d).shown k).filter fun p => decide (p.line = line)

/-- FRAME_STATUS_SEND (R214): the ANC cells of raster line `line` of frame `k`, or with line 0 the
FRAME_STATUS cell after the last active line. -/
def execFrameStatusSend (stream k line : Nat) (s : State) : Host.Outcome State Fault Refusal :=
  .next
    (match sendingStream s stream with
     | none => s
     | some d =>
       let q := inForce s d
       let f := dstFormat q d
       let lanes := txLanes q 1 stream
       if line ≠ 0 then (streamAnc s d k line).foldl (fun t p => sendAnc lanes stream k p t) s
       else
         let body := le 2 f ++ zeros 2 ++ le 4 (k % 2 ^ 32) ++
           le 2 (lineCells f * rasterActive (rasterOf f)) ++ le 1 (dstSlot s d).display
         let seq := (txStream s stream).ancSeq
         sendCell lanes (mkCell 4 (cellSide s + 12) stream 0 0 seq (k % 256) body)
           (setTx stream (fun x => { x with ancSeq := (x.ancSeq + 1) % 2 ^ 32 }) s))

/-- The transmit audio item of a stream. -/
def txAudioItem (q : Quire) (stream : Nat) : Option Bytes :=
  ((txLanes q 2 stream).flatMap (fabItems q)).find? fun e => decide (rd e 2 1 = 2 ∧ rd e 0 2 = stream)

/-- AUDIO_CELL_SEND (R215): the cell whose first sample is `n0`, 5 µs after the end of its last sample
period. -/
def execAudioCellSend (stream n0 : Nat) (s : State) : Host.Outcome State Fault Refusal :=
  .next
    (match txAudioItem s.quire.active stream with
     | none => s
     | some e =>
       let count := rd e 3 1
       let n := cellSamples count
       let x := txStream s stream
       if roleWithholds s ∨ n = 0 ∨ n0 % n ≠ 0 ∨
           now s < (n0 + n) * ticksPerSec / 48000 + 5 * ticksPerUs then s
       else
         let frame (j : Nat) : List Smp := mget (fun _ => []) x.audio (n0 + j)
         let bs := (List.range n).flatMap fun j => (List.range count).flatMap fun c =>
           leI 3 ((frame j).getD c (0, 0)).1
         sendCell (txLanes s.quire.active 2 stream)
           (mkCell 3 (cellSide s) stream (n0 % 65536) (n0 / 65536 % 65536) (n0 / n % 2 ^ 32) 0 bs)
           (setTx stream (fun y => { y with audio := y.audio.filter fun p => decide (n0 + n ≤ p.1) }) s))

/-! ### FAB and STI commands -/

/-- The record of a lane (Table 07.8); the equaliser setting an adaptive lane has found and the SNR are
measured values. DESIGN CHOICE (safe, log 31). -/
def fabRecord (s : State) (l : Nat) : Bytes :=
  let q := s.quire.active
  let x := fabLane s l
  let eq := qRd q fFabric (528 * l + 2) 1
  let seen := (x.streams.filter fun p => decide (now s ≤ p.2 + ticksPerMs)).length
  let c (o k : Nat) : Bytes := le k (rd x.caps o k)
  le 2 l ++ le 1 x.state ++ le 1 (fabMode q l) ++
    le 1 (b2n x.inverted + 2 * b2n x.deskewed + 4 * b2n x.locked +
      8 * b2n (decide (x.state = 5))) ++
    le 1 x.logical ++ le 2 x.skew ++ c 4 4 ++ c 3 1 ++ c 0x0A 1 ++ c 8 2 ++
    leI 1 x.cm2 ++ leI 1 x.cm1 ++ leI 1 x.cp1 ++
    le 1 (if eq = 0 then Config.freeNat (s.free + 2 * l) % 32 else eq - 1) ++
    le 2 (Config.freeNat (s.free + 2 * l + 1)) ++ le 2 seen ++ le 8 (nsOf x.since)

/-- FAB_STATUS (R227). -/
def execFabStatus (r : Req) (s : State) : Host.Outcome State Fault Refusal :=
  .next (command 0x0701
    (fun r s => needLen 4 r s fun _ =>
      let first := rd r.params 0 2
      let n := rd r.params 2 2
      needForm [(decide (first < 68), 0), (decide (1 ≤ n ∧ n ≤ 64 ∧ first + n ≤ 68), 2)] s fun _ =>
        okay (drawMany 136 s) ((List.range n).flatMap fun j => fabRecord s (first + j))) r s)

/-- What a lane's receiver has counted since the last reading of codewords, corrected and uncorrectable ones, stuff errors and
unknown control blocks: no command brings the symbols it counts them on, so each grows by a free value (R11, R228).
DESIGN CHOICE (safe, log 31). -/
def countCoding (l : Nat) (s : State) : State :=
  drawMany 5 (setFab l (fun x =>
    { x with counts := ([0, 1, 2, 7, 11].zipIdx).foldl (fun m k => nAdd m k.1 (Config.freeNat (s.free + k.2))) x.counts }) s)

/-- The record of a lane's counters (R228). -/
def fabCounters (s : State) (l : Nat) : Bytes :=
  le 2 l ++ zeros 6 ++ (List.range 12).flatMap fun k => le 8 (mget (fun _ => 0) (fabLane s l).counts k)

/-- Counter `k` of a stream, over its three series. -/
def seriesCount (x : RxStream) (k : Nat) : Nat :=
  ([x.pic, x.anc, x.aud].map fun f => (cGet f.counts k).toNat).sum

/-- The record of a stream's counters (R228). -/
def streamCounters (s : State) (n : Nat) : Bytes :=
  let x := rxStream s n
  let c (k : Nat) : Bytes := le 4 (min (2 ^ 32 - 1) k)
  le 2 n ++ zeros 2 ++ c x.skew ++ c (cGet x.counts 0).toNat ++ c (cGet x.counts 1).toNat ++
    c (seriesCount x 2) ++ c (seriesCount x 3 + (cGet x.counts 3).toNat) ++ c (seriesCount x 1) ++
    c (cGet x.counts 5).toNat ++ c (seriesCount x 6)

/-- Clears a stream's counters. -/
def clearStream (x : RxStream) : RxStream :=
  { x with skew := 0, counts := [], pic := { x.pic with counts := [] }
           anc := { x.anc with counts := [] }, aud := { x.aud with counts := [] } }

/-- FAB_COUNTERS (R228). -/
def execFabCounters (r : Req) (s : State) : Host.Outcome State Fault Refusal :=
  .next (command 0x0702
    (fun r s => needLen 8 r s fun _ =>
      let kind := rd r.params 0 1
      let clear := bit (rd r.params 1 1) 0
      let first := rd r.params 2 2
      let n := rd r.params 4 2
      let lim := if kind = 0 then 68 else 4096
      needForm
        [(decide (kind ≤ 1), 0), (decide (rd r.params 1 1 ≤ 1), 1), (decide (first < lim), 2),
          (decide (1 ≤ n ∧ n ≤ 64 ∧ first + n ≤ lim), 4), (isZero r.params 6 2, 6)] s fun _ =>
        let wipe (t : State) (j : Nat) : State :=
          if kind = 0 then setFab (first + j) (fun x => { x with counts := [] }) t
          else setRx (first + j) clearStream t
        let s1 := if kind = 0 then (List.range n).foldl (fun t j => countCoding (first + j) t) s else s
        let one := if kind = 0 then fabCounters s1 else streamCounters s1
        { st := if clear then (List.range n).foldl wipe s1 else s1
          params := (List.range n).flatMap fun j => one (first + j)
          clearing := clear }) r s)

/-- A lane goes OFF for FAB_RETRAIN's hold, and waits for the governor no longer. -/
def fabHold (l : Nat) (s : State) : State :=
  let r := (fabLoad s l).resource
  let s1 := { s with power := { s.power with waiting := s.power.waiting.filter fun w => decide (w.resource ≠ r) } }
  concludeRetrain l (setFab l (fun x => { x with hold := true }) (fabLeave l 0 s1))

/-- FAB_RETRAIN (R229): a bond retrains all its lanes; a lane released from hold waits for the governor. -/
def execFabRetrain (r : Req) (s : State) : Host.Outcome State Fault Refusal :=
  .next (command 0x0703
    (fun r s => needLen 8 r s fun _ =>
      let l := rd r.params 0 2
      let op := rd r.params 2 1
      needForm
        [(decide (l < 68), 0), (decide (op ≤ 2), 2), (isZero r.params 3 1, 3), (isZero r.params 4 4, 4)]
        s fun _ =>
        let ls := bondLanes s.quire.active l
        let x := fabLane s l
        if op = 1 then okay (ls.foldl (fun t i => fabHold i t) s) []
        else
          let off := decide (fabMode s.quire.active l = 0)
          if op = 0 then okay (if off ∨ x.hold ∨ x.state = 0 then s else ls.foldl (fun t i => fabWait i (fabDetect i t)) s) []
          else
            let s1 := ls.foldl (fun t i => setFab i (fun y => { y with hold := false }) t) s
            if off ∨ ¬ x.hold then okay s1 [] else { st := ls.foldl (fun t i => fabWait i t) s1, later := some [l] }) r s)

/-- The state code of the stitch bond: the least of its lanes'. -/
def stitchState (s : State) : Nat :=
  ((List.range 4).map fun i => (fabLane s (64 + i)).state).foldl min 6

/-- STI_STATUS (R230): its counters clear on read. -/
def execStiStatus (r : Req) (s : State) : Host.Outcome State Fault Refusal :=
  .next (command 0x0704
    (fun r s => needLen 0 r s fun _ =>
      let x := s.fabric.stitch
      let sec := now s / ticksPerSec
      let longest := if x.longestSecond = sec then x.lastLongest
        else if x.longestSecond + 1 = sec then x.longest else 0
      { st := setStitch (fun y => { y with counts := [] }) s
        params := le 1 (stitchState s) ++ zeros 1 ++ le 2 x.nextSeq ++ le 2 x.expected ++
          le 2 x.replay.length ++ zeros 2 ++ le 4 longest ++ le 4 x.lastCycleBytes ++ cBytes x.counts 6
        clearing := true }) r s)

end Sys2Proof.Machine
end

