-- ==== Sys2Proof/Machine/Layers.lean ====
section
/-! DEFINITION. Layer engines and the shepherd layer (chapter 11). -/

namespace Sys2Proof.Machine

/-! ### From layer samples to the internal form (R322 to R324) -/

/-- A pixel of the internal form: 12-bit Y′, Cb, Cr, and an alpha from 0 to 1,024. -/
structure Pix where
  y : Nat
  cb : Nat
  cr : Nat
  a : Nat
  deriving DecidableEq, Repr

/-- Clamps to 12 bits. -/
def clamp12 (v : Int) : Nat := (max 0 (min 4095 v)).toNat

/-- A sample brought to 12 bits (R322). -/
def twelve (c v : Nat) : Nat := if sampleDepth c = 12 then v else 4 * v

/-- The chroma of pixel `x` of a 4:2:2 line of `w` pixels from its samples (R322). -/
def chroma422 (w : Nat) (c : Nat → Nat) (x : Nat) : Nat :=
  let e (i : Int) : Int := c (max 0 (min ((w : Int) / 2 - 1) i)).toNat
  let m : Int := (x / 2 : Nat)
  if x % 2 = 0 then c (x / 2) else clamp12 ((-(e (m - 1)) + 9 * e m + 9 * e (m + 1) - e (m + 2) + 8) / 16)

/-- The pixel alpha of a key or alpha sample (R323). -/
def keyAlpha (c k : Nat) : Nat :=
  if c = 4 then ((max 64 (min 940 k) - 64) * 1024 + 438) / 876
  else ((max 256 (min 3760 k) - 256) * 1024 + 1752) / 3504

/-- Pixel `x` of a line of format `f`, with its pixel alpha. -/
def linePixel (f : Nat) (useKey : Bool) (d : Array Nat) (x : Nat) : Pix :=
  let c := sampleOf f
  let w := rasterWidth (rasterOf f)
  let v (i : Nat) : Nat := twelve c (d.getD i 0)
  let key (i : Nat) : Nat := if useKey then keyAlpha c (d.getD i 0) else 1024
  if c ≤ 1 then
    ⟨v (4 * (x / 2) + 1 + 2 * (x % 2)), chroma422 w (fun m => v (4 * m)) x,
      chroma422 w (fun m => v (4 * m + 2)) x, 1024⟩
  else if c = 4 then
    ⟨v (6 * (x / 2) + 1 + 2 * (x % 2)), chroma422 w (fun m => v (6 * m)) x,
      chroma422 w (fun m => v (6 * m + 2)) x, key (6 * (x / 2) + 4 + x % 2)⟩
  else if c = 5 then ⟨v (4 * x + 1), v (4 * x), v (4 * x + 2), key (4 * x + 3)⟩
  else ⟨v (3 * x + 1), v (3 * x), v (3 * x + 2), 1024⟩

/-- The alpha of a pixel scaled by the layer's own (R323). -/
def scaleAlpha (al : Nat) (p : Pix) : Pix := { p with a := (p.a * al + 512) / 1024 }

/-- A line of a layer store as pixels: black where it was read black, as its own key or, in a black display
state, opaque (R325, R327). DEDUCED (unsafe, log 67). -/
def storedPixel (b : LayerBuf) (useKey dispBlack : Bool) (l : Bool × Array Nat) (x : Nat) : Pix :=
  let keyed := useKey && decide (4 ≤ sampleOf b.fmt)
  if dispBlack then ⟨256, 2048, 2048, 1024⟩
  else if l.1 then ⟨256, 2048, 2048, if keyed then 0 else 1024⟩
  else linePixel b.fmt useKey l.2 x

/-- The average of pixels (R324): `n` is the square of the decimation. -/
def averagePix (n : Nat) (ps : List Pix) : Pix :=
  let s (g : Pix → Nat) : Nat := ((ps.map g).sum + n / 2) / n
  ⟨s (·.y), s (·.cb), s (·.cr), s (·.a)⟩

/-! ### Contribution (R325 to R327) -/

/-- Layer record `l` of the live part of an entry. -/
def liveRecord (e : Bytes) (l : Nat) : Bytes := slice e (0x20 + 32 * l) 16

/-- What governs output frame `k` of an engine (R335). DEDUCED (unsafe, log 69). -/
def eraOf (s : State) (e k : Nat) : Bytes :=
  match (engineAt s e).eras.reverse.find? fun a => decide (a.from_ ≤ k) with
  | some a => a.entry
  | none => liveEntry (inForce s (2000 + e)) e

/-- The buffer of a layer that output frame `k` may use (R327). DEDUCED (unsafe, log 69). -/
def usableBuf (s : State) (e l k : Nat) (rec_ : Bytes) : Option LayerBuf :=
  match layerDest s.quire.active e l with
  | none => none
  | some d =>
    (layerAt (engineAt s e) l).bufs.find? fun b =>
      decide (b.k + 1 = k ∧ b.fmt = dstFormat (inForce s d) d ∧
        framePeriod b.fmt = framePeriod (leField s.quire.active e 2 2) ∧
        captureKey b.record = captureKey rec_ ∧ b.lines.length = rd rec_ 0x0A 2)

/-- Display states without content (Table 02.16). DEDUCED (unsafe, log 67). -/
def blackState (n : Nat) : Bool := decide (n = 1 ∨ n = 2 ∨ n = 5)

/-- What layer `l` contributes to output frame `k`: the code of Table 11.8, and the buffer it shows.
DESIGN CHOICE (unsafe, log 70). -/
def layerUse (s : State) (e l k : Nat) : Nat × Option LayerBuf :=
  let r := liveRecord (eraOf s e k) l
  if ¬ bit (rd r 0 1) 0 then (0, none)
  else
    match usableBuf s e l k r with
    | none => (2, none)
    | some b =>
      if blackState b.disp then (if bit (rd r 0 1) 1 then (2, none) else (3, some b)) else (1, some b)

/-- The signed field of two bytes at `o`. -/
def pos16 (r : Bytes) (o : Nat) : Int := rdI r o 2

/-- The pixels a layer puts on output line `y`: for each output pixel its decimated pixel, if any (R324). -/
def layerRow (rec_ : Bytes) (b : LayerBuf) (y : Nat) : Nat → Option Pix :=
  let f := max 1 (rd rec_ 1 1)
  let yy : Int := (y : Int) - pos16 rec_ 0x0E
  let w : Int := (rd rec_ 8 2 / f : Nat)
  let h : Int := (rd rec_ 0x0A 2 / f : Nat)
  let useKey := bit (rd rec_ 0 1) 2
  let dark := blackState b.disp
  if 0 ≤ yy ∧ yy < h then
    let rows := (List.range f).map fun j =>
      let n := rd rec_ 6 2 + f * yy.toNat + j
      let l := mget (fun _ => (true, [])) b.lines n
      (l.1, l.2.toArray)
    fun x =>
      let xx : Int := (x : Int) - pos16 rec_ 0x0C
      if 0 ≤ xx ∧ xx < w then
        let at_ := rd rec_ 4 2 + f * xx.toNat
        let one (l : Bool × Array Nat) (i : Nat) : Pix :=
          scaleAlpha (rd rec_ 2 2) (storedPixel b useKey dark l (at_ + i))
        some (averagePix (f * f) (rows.flatMap fun l => (List.range f).map (one l)))
      else none
  else fun _ => none

/-! ### The shepherd layer (R340 to R344) -/

/-- A card of the card store. -/
def cardAt (s : State) (c : Nat) : Card := mget (fun _ => ({} : Card)) s.layers.cards c

/-- A field of a card. -/
def cardRd (c : Card) (o k : Nat) : Nat :=
  leNat ((List.range k).map fun i => mget (fun _ => 0#8) c.data (o + i))

/-- The palette index of pixel `x` of the row whose runs start at `o`. -/
def runIndex (c : Card) : Nat → Nat → Nat → Nat
  | 0, _, _ => 0
  | f + 1, o, x =>
    let r := cardRd c o 2
    if x ≤ r % 4096 then r / 4096 else runIndex c f (o + 2) (x - (r % 4096 + 1))

/-- The step of a zone's fade at frame `k`, and the length of the fade (R342). DEDUCED (unsafe, log 71). -/
def fadeStep (z : ZoneFade) (k : Nat) : Nat × Nat :=
  (if z.on then min z.frames (k + 1 - z.start) else z.frames - (k - z.start), z.frames)

/-- The factor on a palette alpha at frame `k`, of 1,024 (R342). DEDUCED (unsafe, log 71). -/
def fadeFactor (z : ZoneFade) (k : Nat) : Nat :=
  if z.frames = 0 then (if z.on then 1024 else 0) else 1024 * (fadeStep z k).1 / z.frames

/-- A zone at an engine. -/
def zoneAt (x : ShepNow) (z : Nat) : ZoneFade := mget (fun _ => ({} : ZoneFade)) x.zones z

/-- A zone switched on or off from frame `k` on, with a fade of `n` frames (R342): a fade cut short goes on
from its present step. DEDUCED (unsafe, log 71). -/
def turnZone (on : Bool) (n k : Nat) (z : ZoneFade) : ZoneFade :=
  if z.on = on then z
  else if n = 0 then ⟨on, k, 0⟩
  else
    let p := fadeStep z (k - 1)
    let i := if z.frames = 0 then (if z.on then n else 0) else p.1 * n / p.2
    ⟨on, if on then k - i else k - (n - i), n⟩

/-- The shepherd layer that governs output frame `k` of an engine. -/
def shepOf (x : Engine) (k : Nat) : ShepNow := if k < x.shepFrom then x.shepBefore else x.shep

/-- Whether an engine's shepherd layer is drawn in frame `k`: entry, committed card, zone not fully off. -/
def shepDrawn (s : State) (e k : Nat) : Bool :=
  let n := shepOf (engineAt s e) k
  decide (n.entry ≠ []) && (cardAt s (rd n.entry 1 1)).committed &&
    decide (0 < fadeFactor (zoneAt n (rd n.entry 2 1)) k)

/-- The shepherd pixels of output line `y` of frame `k` (R341, R342). -/
def shepRow (s : State) (e k y : Nat) : Nat → Option Pix :=
  let n := shepOf (engineAt s e) k
  let c := cardAt s (rd n.entry 1 1)
  let sc := max 1 (rd n.entry 3 1)
  let x0 := pos16 n.entry 4
  let y0 := pos16 n.entry 6
  let w := cardRd c 0 2
  let h := cardRd c 2 2
  let yy : Int := (y : Int) - y0
  let factor := fadeFactor (zoneAt n (rd n.entry 2 1)) k
  if ¬ shepDrawn s e k ∨ yy < 0 ∨ (sc * h : Nat) ≤ yy then fun _ => none
  else
    let row := cardRd c (0x90 + 4 * (yy.toNat / sc)) 4
    fun x =>
      let xx : Int := (x : Int) - x0
      if xx < 0 ∨ (sc * w : Nat) ≤ xx then none
      else
        let p := 0x10 + 8 * runIndex c w row (xx.toNat / sc)
        some ⟨cardRd c p 2, cardRd c (p + 2) 2, cardRd c (p + 4) 2, (cardRd c (p + 6) 2 * factor + 512) / 1024⟩

/-! ### Composition and output conversion (R330 to R332) -/

/-- One component blended (R330). -/
def blend1 (sv a d : Nat) : Nat := min 4095 ((sv * a + d * (1024 - a) + 512) / 1024)

/-- A layer's pixel blended over the result so far (R330). -/
def blendOn (d : Pix) (p : Option Pix) : Pix :=
  match p with
  | some q => ⟨blend1 q.y q.a d.y, blend1 q.cb q.a d.cb, blend1 q.cr q.a d.cr, 1024⟩
  | none => d

/-- The dither matrix M (Table 11.1). -/
def ditherM (r c : Nat) : Nat :=
  let b (i j : Nat) : Nat := if i = 0 then (if j = 0 then 0 else 2) else (if j = 0 then 3 else 1)
  4 * b (r % 2) (c % 2) + b (r / 2) (c / 2)

/-- The dither threshold of pixel (x, y) of frame `k` with `sh` bits dropped (R332). -/
def ditherT (k sh x y : Nat) : Nat :=
  let p := k % 4
  let rp := if p = 1 ∨ p = 3 then 2 else 0
  let cp := if p = 1 ∨ p = 2 then 2 else 0
  let m := ditherM ((y + rp) % 4) ((x + cp) % 4)
  if sh = 4 then m else m / 4

/-- A 12-bit component at the slot's depth `b`, for a panel of depth `d` (R332). -/
def outputSample (b d k x y v : Nat) : Nat :=
  if d = 0 then (if b = 10 then max 4 (min 1019 ((v + 2) / 4)) else max 16 (min 4079 v))
  else
    let sh := 12 - d
    let q := (v + ditherT k sh x y) / 2 ^ sh
    (if d = 8 then max 1 (min 254 q) else max 4 (min 1019 q)) * 2 ^ (b - d)

/-- A composed line in transport order (R331, R332). -/
def outputRow (f d k y : Nat) (px : List Pix) : List Nat :=
  let c := sampleOf f
  let b := sampleDepth c
  let a := px.toArray
  let g (i : Nat) : Pix := a.getD i ⟨0, 0, 0, 0⟩
  if c ≤ 1 then
    (List.range (px.length / 2)).flatMap fun m =>
      let half (h : Pix → Nat) : Nat := (h (g (2 * m - if m = 0 then 0 else 1)) + 2 * h (g (2 * m)) + h (g (2 * m + 1)) + 2) / 4
      [outputSample b d k (2 * m) y (half (·.cb)), outputSample b d k (2 * m) y (g (2 * m)).y,
        outputSample b d k (2 * m) y (half (·.cr)), outputSample b d k (2 * m + 1) y (g (2 * m + 1)).y]
  else
    px.zipIdx.flatMap fun p =>
      [outputSample b d k p.2 y p.1.cb, outputSample b d k p.2 y p.1.y, outputSample b d k p.2 y p.1.cr]

/-- Line `y` of output frame `k` of an engine; `partial_` for the black of a format change (R345). -/
def composeLine (s : State) (e k y : Nat) (partial_ : Bool) : List Nat :=
  let f := leField s.quire.active e 2 2
  let era := eraOf s e k
  let bg : Pix := if partial_ then ⟨256, 2048, 2048, 1024⟩ else ⟨rd era 8 2, rd era 0xA 2, rd era 0xC 2, 1024⟩
  let rows : List (Nat → Option Pix) :=
    if partial_ then []
    else
      (List.range 4).filterMap fun l =>
        (layerUse s e l k).2.map fun b => layerRow (liveRecord era l) b y
  let all := rows ++ [shepRow s e k y]
  outputRow f (rd era 5 1) k y
    ((List.range (rasterWidth (rasterOf f))).map fun x => all.foldl (fun d row => blendOn d (row x)) bg)

/-- What an engine settles at the first active line of output frame `k`: what its layers contribute, the
layers counted as unavailable, and moved stores that hold a usable frame again (R327, R329, R346). -/
def settleFrame (e k : Nat) (s : State) : State :=
  let uses := (List.range 4).map fun l => layerUse s e l k
  let era := eraOf s e k
  let lack (l : Nat) : Bool :=
    let r := liveRecord era l
    bit (rd r 0 1) 0 && (usableBuf s e l k r).isNone
  let n := ((List.range 4).filter lack).length
  let drawn := shepDrawn s e k
  let fresh (t : State) (l : Nat) : State :=
    if (layerAt (engineAt t e) l).moved && bit (rd (liveRecord era l) 0 1) 0 && !lack l then
      setLayer e l (fun x => { x with moved := false }) t
    else t
  (List.range 4).foldl fresh
    (setEngine e (fun x =>
      { x with
        contrib := uses.map (·.1), drawn := drawn, unavailable := satAdd x.unavailable n }) s)

/-- LAYER_OUTPUT_LINE (R326, R344, R345): engine `e` writes raster line `line` of output frame `k`, complete
at A(k) + (line − 1) × T_L. DESIGN CHOICE (unsafe, log 7). DESIGN CHOICE (unsafe, log 70). -/
def execLayerOutputLine (e k line : Nat) (s : State) : Host.Outcome State Fault Refusal :=
  .next
    (let s0 := engineTake e s
     let q := s0.quire.active
     let f := leField q e 2 2
     let x := engineAt s0 e
     let done := alignInstant f k + (line - 1) * linePeriod f
     let early : Bool := match x.mode with
       | some t => decide (done < t)
       | none => false
     let cut : Bool := match x.mode with
       | some t => decide (alignInstant f k < t)
       | none => false
     match engineOutput q e with
     | some o =>
       if ¬ x.running ∨ early ∨ ¬ isActive (rasterOf f) line then s0
       else
         let y := line - firstActive (rasterOf f)
         let s1 := if y = 0 ∧ ¬ cut then settleFrame e k s0 else s0
         writeLine o line f done (composeLine s1 e k y cut) s1
     | none => s0)

/-! ### Updates (R335 to R337) -/

/-- The format of a layer now in force. -/
def layerFormatNow (s : State) (e l : Nat) : Option Nat :=
  (layerDest s.quire.active e l).map fun d => dstFormat (inForce s d) d

/-- Whether a layer record is within Table 11.3 and its crop within the picture of its layer's format
(R334). DEDUCED (unsafe, log 72). -/
def recordOk (fmt : Option Nat) (r : Bytes) : Bool :=
  let on := bit (rd r 0 1) 0
  let f := rd r 1 1
  let w := rd r 8 2
  let h := rd r 0xA 2
  decide (rd r 0 1 < 8 ∧ 1 ≤ f ∧ f ≤ 4 ∧ rd r 2 2 ≤ 1024 ∧ w % f = 0 ∧ h % f = 0) &&
    isZero r 0x10 16 && (!on || decide (0 < w ∧ 0 < h)) &&
    match fmt with
    | some v => decide (rd r 4 2 + w ≤ rasterWidth (rasterOf v) ∧ rd r 6 2 + h ≤ rasterActive (rasterOf v))
    | none => !on

/-- A record with the fields that a mask selects taken from another (Table 11.4). -/
def maskRecord (mask : Nat) (old new : Bytes) : Bytes :=
  let pick (b o k : Nat) : Bytes := slice (if bit mask b then new else old) o k
  pick 0 0 1 ++ pick 2 1 1 ++ pick 1 2 2 ++ pick 2 4 8 ++ pick 3 0xC 4 ++ slice old 0x10 16

/-- The records a LAYER_UPDATE would write: engine, layer, record. -/
def updateRecords (q : Quire) (target : Nat) (p : Bytes) : List (Nat × Nat × Bytes) :=
  let live (e l : Nat) : Bytes := qBytes q fLayers (1184 * e + 0x20 + 32 * l) 32
  if rd p 0 1 = 1 then
    let e := target + rd p 1 1
    [(e, rd p 2 1, maskRecord (rd p 3 1) (live e (rd p 2 1)) (slice p 8 16 ++ zeros 16))]
  else
    (gangOf q target).flatMap fun e =>
      (List.range 4).map fun l =>
        (e, l, qBytes q fLayers (1184 * e + 0xA0 + 128 * rd p 4 1 + 32 * l) 32)

/-- Applies a LAYER_UPDATE at the switch point `t` (R335, R336): how many of its records were written, and of
how many. DEDUCED (unsafe, log 69). -/
def layerUpdate (target : Nat) (p : Bytes) (t : Nat) (s : State) : State × Nat × Nat :=
  let q := s.quire.active
  let all := updateRecords q target p
  let inGang (e : Nat) : Bool := (gangOf q target).contains e
  let ok := all.filter fun r => inGang r.1 && recordOk (layerFormatNow s r.1 r.2.1) r.2.2
  let act := ok.foldl (fun a r => qWrite a fLayers (1184 * r.1 + 0x20 + 32 * r.2.1) r.2.2) q
  let sw := s.quire.swapping.map fun w =>
    { w with old := ok.foldl (fun a r => qWrite a fLayers (1184 * r.1 + 0x20 + 32 * r.2.1) r.2.2) w.old }
  let s1 := { s with quire := { s.quire with active := act, swapping := sw } }
  let era (u : State) (e : Nat) : State :=
    let k := switchFrame q (leField q e 2 2) t
    setEngine e (fun x => { x with updateTime := t })
      (pushEra e k (liveEntry (inForce s (2000 + e)) e) (liveEntry (inForce u (2000 + e)) e) u)
  (if ok = [] then s else (gangOf q target).foldl era s1, ok.length, all.length)

/-! ### Format changes and restarts (R334, R345) -/

/-- The layer stores of an engine restart empty, in its pen's partition (R328, R334). -/
def layerRestart (e : Nat) (s : State) : State :=
  let q := s.quire.active
  let on := bit (leField q e 0 1) 0
  let s0 := setEngine e (fun x => { x with running := on, layers := [], eras := [], contrib := [] }) s
  if ¬ on then s0
  else
    (List.range 4).foldl (fun t l =>
      if (layerDest q e l).isNone then t
      else
        let g := leField q e 6 1
        let place := if inService t g then some g else roomFor t (leField q e 1 1) (layerCharge q e l)
        setLayer e l (fun x =>
          { x with bufs := [], group := place.getD 0xFF, moved := false, noRoom := place.isNone }) t) s0

/-- The shepherd layer at a change of format (R342, R343, R345): frame `kn` of the new format is what frame `ko` of the old
one would have been, with each zone at its present fade step. DEDUCED (unsafe, log 71). -/
def shepRebase (ko kn : Nat) (x : Engine) : Engine :=
  let zone (z : ZoneFade) : ZoneFade :=
    if z.on then { z with start := kn + 1 - min z.frames (ko + 1 - z.start) }
    else { z with start := kn - min z.frames (ko - z.start) }
  let n : ShepNow := { x.shep with zones := x.shep.zones.map fun p => (p.1, zone p.2) }
  { x with shep := n, shepBefore := n, shepFrom := 0 }

/-- The engines that a staged item of engine `e` applies to at one instant: its gang, before and after
(R345). -/
def itemEngines (s : State) (e : Nat) : List Nat :=
  let g := gangOf s.quire.active (gangFirst s.quire.active e) ++ gangOf s.quire.target (gangFirst s.quire.target e)
  ((g ++ [e]).eraseDups).filter fun i => decide (i = e) || (engineAt s i).waiting

/-- The non-atomic bytes of an engine's entry taken from the quire that is being staged. -/
def copyEngine (e : Nat) (s : State) : State :=
  let put (q : Quire) : Quire :=
    qWrite (qWrite (qWrite q fLayers (1184 * e) (qBytes s.quire.target fLayers (1184 * e) 5))
      fLayers (1184 * e + 6) (qBytes s.quire.target fLayers (1184 * e + 6) 1)) fLayers (1184 * e + 7) [0#8]
  let sw := s.quire.swapping.map fun w => { w with old := put w.old }
  { s with quire := { s.quire with active := put s.quire.active, swapping := sw } }

/-- The instant t_e of a format change (R345): the end of the output frame that is written when the item arrives; at once for
an engine that writes none. -/
def changeFrom (s : State) (e : Nat) : Nat :=
  let f := leField s.quire.active e 2 2
  let from_ := ((s.quire.staging.find? fun x => decide (x.folio = fLayers ∧ x.index = e ∧ x.state = .inProgress)).map
    (·.started)).getD (now s)
  if (engineAt s e).running then cdiv from_ (framePeriod f) * framePeriod f else from_

/-- LAYER_FORMAT_CHANGE_START (R345, R581): t_e, the end of the output frame that was being written, once the governor has
admitted the engines that the item enables. -/
def execLayerFormatChangeStart (e : Nat) (s : State) : Host.Outcome State Fault Refusal :=
  .next
    (let te := changeFrom s e
     let loads := (itemEngines s e).any fun i => loadWaits s (600 + i) 6
     if ¬ (engineAt s e).waiting ∨ (engineAt s e).mode.isSome ∨ ¬ reached s te ∨ loads then s
     else
       let frameOf (t : State) (i : Nat) : Nat := te / framePeriod (leField t.quire.active i 2 2)
       (itemEngines s e).foldl (fun t i =>
         let u := layerRestart i (copyEngine i t)
         setEngine i (fun x => shepRebase (frameOf t i) (frameOf u i) { x with mode := some te }) u) s)

/-- LAYER_FORMAT_CHANGE_END (R345): A_new(j0), where the item completes. -/
def execLayerFormatChangeEnd (e : Nat) (s : State) : Host.Outcome State Fault Refusal :=
  .next
    (match (engineAt s e).mode with
     | some te =>
       let f := leField s.quire.active e 2 2
       if reached s (cdiv te (framePeriod f) * framePeriod f) then
         let ended (t : State) (i : Nat) : State :=
           if (engineAt t i).mode = some te then setEngine i (fun x => { x with mode := none, waiting := false }) t else t
         finishItem fLayers e stOk ((List.range 64).foldl ended s)
       else s
     | none => s)

/-! ### Shepherd changes (R343) -/

/-- A change taken by engine `e` at the switch point of frame `k`, shown from frame `k` + 1. DEDUCED (unsafe, log 71). -/
def takeShep (c : ShepChange) (e k : Nat) (s : State) : State :=
  setEngine e (fun x =>
    let entry := (c.table.find? fun r => decide (rd r 0 1 = e)).getD []
    let turn (z : Nat) : Nat × ZoneFade := (z, turnZone (bit c.onMask z) c.fade (k + 1) (zoneAt x.shep z))
    let zones := ((List.range 16).map turn).filter fun z => decide (z.2 ≠ {})
    { x with
      shepBefore := if x.shepFrom = k + 1 then x.shepBefore else x.shep
      shep := ⟨entry, zones⟩, shepFrom := k + 1, shepTime := now s }) s

/-- SHEPHERD_CHANGE_APPLY (R343): an engine, and the whole gang with it, takes the changes whose switch point
has come. -/
def execShepherdChangeApply (e : Nat) (s : State) : Host.Outcome State Fault Refusal :=
  .next
    (let q := s.quire.active
     let f := leField q e 2 2
     let g := gangOf q (gangFirst q e)
     let due := s.layers.changes.filter fun c =>
       c.engines.contains e && reached s (switchAfter q f c.time)
     let s1 := due.foldl (fun t c =>
       (g.filter c.engines.contains).foldl (fun u i => takeShep c i (switchFrame q f c.time) u) t) s
     let left := s.layers.changes.map fun c =>
       if due.contains c then { c with engines := c.engines.filter fun i => !g.contains i } else c
     if due = [] then s
     else
       { s1 with layers := { s1.layers with
           changes := left.filter fun c => decide (c.engines ≠ []), changeTime := now s } })

/-! ### Commands -/

/-- The record of an engine (Table 11.8). -/
def engineRecord (s : State) (e : Nat) : Bytes :=
  let q := s.quire.active
  let x := engineAt s e
  let on := bit (leField q e 0 1) 0
  let k := now s / max 1 (framePeriod (leField q e 2 2))
  let n := shepOf x k
  let fading :=
    decide (n.entry ≠ []) &&
      (let z := zoneAt n (rd n.entry 2 1)
       let i := (fadeStep z k).1
       decide (0 < i ∧ i < z.frames))
  let st := if x.waiting ∨ x.mode.isSome then 2 else b2n (on && x.running)
  let lay := ((List.range 4).map fun l => 4 ^ l * x.contrib.getD l 0).sum
  let grp := if x.layers.any (fun l => l.2.noRoom) then 0xFF else
    ((x.layers.map fun l => l.2.group).head?).getD (leField q e 6 1)
  le 1 e ++ le 1 st ++ le 1 (if leField q e 4 1 = 0 then 0xFF else gangFirst q e) ++ le 1 (leField q e 1 1) ++
    le 2 (leField q e 2 2) ++ le 1 lay ++
    le 1 (b2n (decide (n.entry ≠ [])) + 2 * b2n x.drawn + 4 * b2n fading) ++
    le 1 (if n.entry = [] then 0xFF else rd n.entry 1 1) ++ le 1 grp ++ zeros 2 ++ le 4 x.unavailable.toNat ++
    le 8 (nsOf x.updateTime) ++ le 8 (nsOf x.shepTime)

/-- Records of a range whose index field has one byte (R110). -/
def byteRecords (first count : Nat) (may : Nat → Bool) (rec_ : Nat → Bytes) : Bytes :=
  (List.range count).flatMap fun j =>
    let b := rec_ (first + j)
    if may (first + j) then b else b.take 1 ++ ffs (b.length - 1)

/-- LAY_STATUS (R347). -/
def execLayStatus (r : Req) (s : State) : Host.Outcome State Fault Refusal :=
  .next (command 0x0B01
    (fun r s => needLen 4 r s fun _ =>
      let first := rd r.params 0 1
      let n := rd r.params 1 1
      let clear := bit (rd r.params 2 1) 0
      needForm
        [(decide (first < 64), 0), (decide (1 ≤ n ∧ first + n ≤ 64), 1), (decide (rd r.params 2 1 ≤ 1), 2),
          (isZero r.params 3 1, 3)] s fun _ =>
        let may (e : Nat) : Bool := owns r (leField s.quire.active e 1 1)
        let wipe (t : State) (j : Nat) : State :=
          if may (first + j) then setEngine (first + j) (fun x => { x with unavailable := 0 }) t else t
        { st := if clear then (List.range n).foldl wipe s else s
          params := byteRecords first n may (engineRecord s)
          clearing := clear }) r s)

/-- The form checks of one record of LAY_SET: only selected fields are checked. DEDUCED (unsafe, log 72). -/
def laySetForm (op mask : Nat) (p : Bytes) (l : Nat) : List (Bool × Nat) :=
  let o := 8 + 32 * l
  let sel := bit (rd p 3 1) l
  let r := slice p o 32
  let want (b : Nat) : Bool := decide (op = 2) || bit mask b
  if ¬ sel then [(isZero r 0 32, o)]
  else
    [(!want 0 || decide (rd r 0 1 < 8), o), (!want 2 || decide (1 ≤ rd r 1 1 ∧ rd r 1 1 ≤ 4), o + 1),
      (!want 1 || decide (rd r 2 2 ≤ 1024), o + 2), (isZero r 0x10 16, o + 0x10)]

/-- The payload of the event that LAY_SET enters for a layer (Table 11.4). -/
def layPayload (op member l mask preset : Nat) (rec_ : Bytes) : Bytes :=
  le 1 op ++ le 1 member ++ le 1 l ++ le 1 mask ++ le 1 preset ++ zeros 3 ++ rec_ ++ zeros 8

/-- The payloads of the events that LAY_SET enters. -/
def layPayloads (p : Bytes) : List Bytes :=
  if rd p 1 1 = 0 then
    ((List.range 4).filter fun l => bit (rd p 3 1) l).map fun l =>
      layPayload 1 (rd p 2 1) l (rd p 5 1) 0 (slice p (8 + 32 * l) 16)
  else [layPayload 2 (rd p 2 1) 0 0 (rd p 4 1) (zeros 16)]

/-- Enters events in order. -/
def enterAll (r : Req) (target : Nat) : List Bytes → Nat → State → State
  | [], _, s => s
  | p :: t, i, s => enterAll r target t (i + 1) (enqueue (mkEvent r s kLayer target 0 0 i p) s)

/-- LAY_SET (R348). The layout of its reply's outcomes is not given. -/
def execLaySet (r : Req) (s : State) : Host.Outcome State Fault Refusal :=
  .next (command 0x0B02
    (fun r s => needLen 136 r s fun _ =>
      let p := r.params
      let q := s.quire.active
      let e := rd p 0 1
      let op := rd p 1 1
      let mem := rd p 2 1
      let mask := rd p 5 1
      needForm
        ([(decide (e < 64 ∧ leField q e 4 1 ≠ 0xFF), 0), (decide (op ≤ 2), 1),
          (decide (mem < (gangOf q e).length), 2),
          (decide (rd p 3 1 < 16 ∧ (op ≠ 1 ∨ rd p 3 1 = 0)), 3),
          (decide (if op = 0 then rd p 4 1 = 0 else rd p 4 1 ≤ 7), 4),
          (decide (if op = 0 then mask < 16 else mask = 0), 5), (isZero p 6 2, 6)] ++
          (List.range 4).flatMap (laySetForm op mask p)) s fun _ =>
        if ¬ owns r (leField q e 1 1) then refuse s stNotOwner 0
        else if op = 2 then
          let sel := (List.range 4).filter fun l => bit (rd p 3 1) l
          match sel.find? fun l => !recordOk (layerFormatNow s (e + mem) l) (slice p (8 + 32 * l) 32) with
          | some l => refuse s stBadParam (8 + 32 * l)
          | none =>
            let put (x : Quire) : Quire :=
              sel.foldl (fun a l =>
                qWrite a fLayers (1184 * (e + mem) + 0xA0 + 128 * rd p 4 1 + 32 * l) (slice p (8 + 32 * l) 32)) x
            let sw := s.quire.swapping.map fun w => { w with old := put w.old }
            okay (countChange (copyItem (.change (changeOf 0x0B02 r s))
              { s with quire := { s.quire with active := put q, swapping := sw } })) []
        else
          let ps := layPayloads p
          if 16 < pendingFor s kLayer e + ps.length then refuse s stBusy 0
          else if queueFull s ps.length then refuse s stNoCapacity 0
          else if ps = [] then okay s (Config.layout 0x0B02 [])
          else { st := enterAll r e ps 0 s, later := some [ps.length] }) r s)

/-- Bytes of the card store in use but for card `c`. -/
def storeUsed (s : State) (c : Nat) : Nat :=
  ((s.layers.cards.filter fun p => decide (p.1 ≠ c)).map fun p => p.2.length).sum

/-- Whether an entry in a zone now on draws a card (R349). -/
def cardDrawn (s : State) (c : Nat) : Bool :=
  (cardAt s c).committed &&
    s.layers.table.any fun r =>
      decide (rd r 1 1 = c) && bit s.layers.onMask (rd r 2 1) && bit (leField s.quire.active (rd r 0 1) 0 1) 0

/-- Walks the runs of a row from `o` until they cover `w` pixels: the offset after the row, or of the first
fault. -/
def walkRow (c : Card) : Nat → Nat → Nat → Except Nat Nat
  | 0, o, w => if w = 0 then .ok o else .error o
  | f + 1, o, w =>
    if w = 0 then .ok o
    else
      let n := cardRd c o 2 % 4096 + 1
      if c.length < o + 2 ∨ w < n then .error o else walkRow c f (o + 2) (w - n)

/-- Walks the rows of a card from row `i`: the offset after the last, or of the first fault. -/
def walkRows (c : Card) (w : Nat) : Nat → Nat → Nat → Except Nat Nat
  | 0, _, o => .ok o
  | n + 1, i, o =>
    if cardRd c (0x90 + 4 * i) 4 ≠ o then .error (0x90 + 4 * i)
    else
      match walkRow c w o w with
      | .ok o' => walkRows c w n (i + 1) o'
      | .error e => .error e

/-- The byte offset of the first fault of a card against Table 11.5 (R349). -/
def cardFault (c : Card) : Option Nat :=
  let w := cardRd c 0 2
  let h := cardRd c 2 2
  let runs := cardRd c 4 4
  if ¬ (1 ≤ w ∧ w ≤ 3840) then some 0
  else if ¬ (1 ≤ h ∧ h ≤ 2160) then some 2
  else if c.length ≠ 0x90 + 4 * h + 2 * runs then some 4
  else if cardRd c 8 8 ≠ 0 then some 8
  else
    match (List.range 64).find? fun i =>
      decide ((if i % 4 = 3 then 1024 else 4095) < cardRd c (0x10 + 2 * i) 2) with
    | some i => some (0x10 + 2 * i)
    | none =>
      match walkRows c w h 0 (0x90 + 4 * h) with
      | .ok o => if o = c.length then none else some o
      | .error e => some e

/-- Changes a card. -/
def setCard (n : Nat) (f : Card → Card) (s : State) : State :=
  { s with layers := { s.layers with cards := mmod (fun _ => ({} : Card)) s.layers.cards n f } }

/-- Writes bytes into a sparse table of bytes. -/
def putBytes : List (Nat × Byte) → Nat → Bytes → List (Nat × Byte)
  | m, _, [] => m
  | m, o, b :: t => putBytes (mset (fun _ => 0#8) m o b) (o + 1) t

/-- LAY_SHEPHERD_WRITE (R349). DESIGN CHOICE (unsafe, log 21). DEDUCED (unsafe, log 72). -/
def execLayShepherdWrite (r : Req) (s : State) : Host.Outcome State Fault Refusal :=
  .next (command 0x0B03
    (fun r s =>
      let p := r.params
      let n := rd p 0 1
      let op := rd p 1 1
      let o := rd p 4 4
      let len := rd p 8 4
      let want := if op = 2 then 16 + len else 16
      if p.length < 16 ∨ p.length ≠ want then refuse s stBadLength want
      else
        needForm
          [(decide (n < 64), 0), (decide (1 ≤ op ∧ op ≤ 4), 1), (isZero p 2 2, 2),
            (decide (op = 2 ∨ o = 0), 4), (decide (op ≤ 2 ∨ len = 0), 8), (isZero p 0xC 4, 0xC)] s fun _ =>
          let c := cardAt s n
          match op with
          | 1 =>
            if cardDrawn s n then refuse s stBusy 0
            else if 8388608 < storeUsed s n + len then refuse s stNoCapacity 0
            else okay (setCard n (fun _ => ⟨len, [], false⟩) (copyItem (.safety (changeOf 0x0B03 r s)) s)) []
          | 2 =>
            if c.committed then refuse s stNotActive 0
            else if c.length < o + len then refuse s stBadParam 4
            else okay (setCard n (fun x => { x with data := putBytes x.data o (p.drop 16) }) (copyItem (.safety (changeOf 0x0B03 r s)) s)) []
          | 3 =>
            match cardFault c with
            | some b => refuse s stBadParam b
            | none => okay (setCard n (fun x => { x with committed := true }) (copyItem (.safety (changeOf 0x0B03 r s)) s)) []
          | _ => if cardDrawn s n then refuse s stBusy 0 else okay (setCard n (fun _ => {}) (copyItem (.safety (changeOf 0x0B03 r s)) s)) []) r s)

/-- The entries of LAY_SHEPHERD_SHOW. -/
def showEntries (p : Bytes) : List Bytes := (List.range (rd p 4 2)).map fun i => slice p (8 + 16 * i) 16

/-- The form checks of one entry: its fields, and no earlier entry for its engine (R350). -/
def showForm (p : Bytes) (i : Nat) : List (Bool × Nat) :=
  let o := 8 + 16 * i
  let e := slice p o 16
  let twice := (List.range i).any fun j => decide (rd p (8 + 16 * j) 1 = rd e 0 1)
  [(decide (rd e 0 1 < 64) && !twice, o), (decide (rd e 1 1 < 64), o + 1), (decide (rd e 2 1 < 16), o + 2),
    (decide (1 ≤ rd e 3 1 ∧ rd e 3 1 ≤ 8), o + 3), (isZero e 8 8, o + 8)]

/-- The instant from which a SAFETY change is taken (R290, R343): the end of the stitch cycle, or at once on a
device with no partner. -/
def changeInstant (s : State) : Nat := if hasPartner s then (cycleNow s + 1) * cycleTicks else now s

/-- LAY_SHEPHERD_SHOW (R350). -/
def execLayShepherdShow (r : Req) (s : State) : Host.Outcome State Fault Refusal :=
  .next (command 0x0B04
    (fun r s =>
      let p := r.params
      let op := rd p 0 1
      let n := rd p 4 2
      if p.length < 8 ∨ p.length ≠ 8 + 16 * n then refuse s stBadLength (8 + 16 * n)
      else
        needForm
          ([(decide (op ≤ 1), 0), (decide (rd p 1 1 ≤ 30), 1), (decide (n ≤ 64 ∧ (op = 1 ∨ n = 0)), 4),
            (isZero p 6 2, 6)] ++ (List.range n).flatMap (showForm p)) s fun _ =>
          let t := if op = 1 then showEntries p else s.layers.table
          let c : ShepChange := ⟨changeInstant s, t, rd p 2 2, rd p 1 1, List.range 64⟩
          let s1 := copyItem (.safety (changeOf 0x0B04 r s)) s
          okay { s1 with layers := { s1.layers with
            table := t, onMask := rd p 2 2, fadeFrames := rd p 1 1, changes := s1.layers.changes ++ [c] } } []) r s)

/-- Whether an entry draws nothing for want of its card or engine (R350). -/
def entryWaits (s : State) (r : Bytes) : Bool :=
  !(cardAt s (rd r 1 1)).committed || !bit (leField s.quire.active (rd r 0 1) 0 1) 0

/-- LAY_SHEPHERD_READ (R351). -/
def execLayShepherdRead (r : Req) (s : State) : Host.Outcome State Fault Refusal :=
  .next (command 0x0B05
    (fun r s => needLen 0 r s fun _ =>
      let x := s.layers
      okay s (le 2 x.onMask ++ le 1 x.fadeFrames ++ zeros 1 ++ le 2 x.table.length ++
        le 2 (x.table.filter (entryWaits s)).length ++ le 4 (storeUsed s 64) ++ le 8 (nsOf x.changeTime) ++
        x.table.flatten ++
        (List.range 64).flatMap fun c => le 4 (if (cardAt s c).committed then (cardAt s c).length else 0))) r s)

end Sys2Proof.Machine
end

