-- ==== Sys2Proof/Machine/Audio.lean ====
section
/-! DEFINITION. The audio engine (chapter 09): sample periods, gains, program exchange, the shepherd insert
and the AUD commands. -/

namespace Sys2Proof.Machine

/-- Changes the audio engine. -/
def setAudio (f : Audio → Audio) (s : State) : State := { s with audio := f s.audio }

/-! ### Producers (R264, R267) -/

/-- Samples of consecutive channels of a producer, and the channels it reports absent. -/
structure Feed where
  samples : List (Nat × Smp) := []
  absent : List Nat := []

/-- Joins feeds. -/
def Feed.add (a b : Feed) : Feed := ⟨a.samples ++ b.samples, a.absent ++ b.absent⟩

/-- The channels of a producer. -/
def feedChannels (q : Quire) (base count : Nat) : List Nat := (List.range count).map (channelOf q false base)

/-- A producer's sample frame on its channels; none reports them absent. -/
def feedFrame (q : Quire) (base count : Nat) (f : Option (List Smp)) : Feed :=
  let ch := feedChannels q base count
  match f with
  | some xs => { samples := ch.zipIdx.map fun p => (p.1, xs.getD p.2 (0, 0)) }
  | none => { absent := ch }

/-- The sample frame of a de-embedding chain (R138). -/
def feedLane (l : Nat) (s : State) : State × Feed :=
  let q := s.audio.prog
  let v := chainQuire s l
  let base := lnDeembBase v l
  let d := fifoDrain l s
  let group (g : Nat) : Feed :=
    let xs := (d.2.find? fun p => decide (p.1 = g)).map (·.2)
    feedFrame q (channelOf q false base (4 * (g - 1))) 4
      (if (laneAt s l).absent.contains g then none else some ((xs.getD [0, 0, 0, 0]).map fun v => (v, 0)))
  (d.1, ((List.range (lnDeembCount v l / 4)).map fun i => group (i + 1)).foldl Feed.add {})

/-- The de-embedding chains (R137, R179). -/
def deembedChains (s : State) : List Nat :=
  (List.range 256 ++ ((qAll s.quire.active fFlows).filter fun e => decide (rd e 0 2 < 8192 ∧ feEssence e = 6)).map
    fun e => 256 + rd e 0 2).filter fun l => decide (4 ≤ lnDeembCount (chainQuire s l) l)

/-- The sample frame a receive flow presents as sample `n` (R178): one that is not there repeats the frame
before; an IDLE flow is absent. -/
def feedFlow (n : Nat) (e : Bytes) (s : State) : State × Feed :=
  let i := rd e 0 2
  let x := flowAt s i
  let q := s.audio.prog
  let idle := !x.active && (decide (fePair e = 0xFFFF) || !(flowAt s (fePair e)).active)
  if idle then (s, feedFrame q (feAudioBase e) (feAudioCount e) none)
  else
    let f := ((x.audio.find? fun p => decide (p.1 = n)).map (·.2)).getD x.held
    (setFlow i (fun y => { y with held := f, audio := y.audio.filter fun p => decide (n < p.1) }) s,
      feedFrame q (feAudioBase e) (feAudioCount e) (some f))

/-- The receive flows of audio of a section: leg A of each. -/
def audioFlows (s : State) (sec : Nat) : List Bytes :=
  (qAll s.quire.active fFlows).filter fun e =>
    decide (rd e 0 2 < 8192 ∧ (feEssence e = 3 ∨ feEssence e = 4) ∧ 0 < feAudioCount e) &&
      decide (blockSection s.audio.prog false (feAudioBase e) = sec)

/-- The sample frame a fabric receive audio item presents as sample `n` (R215). -/
def feedStream (n : Nat) (item : Bytes) (s : State) : State × Feed :=
  let st := rd item 0 2
  let x := (rxStream s st).aud
  let f := ((x.audio.find? fun p => decide (p.1 = n)).map (·.2)).getD x.held
  let y := { x with held := f, audio := x.audio.filter fun p => decide (n < p.1) }
  (setRx st (fun z => { z with aud := y }) s, feedFrame s.audio.prog (rd item 4 2) (rd item 3 1) (some f))

/-- The receive audio items of the fabric. -/
def audioItems (q : Quire) (kind : Nat) : List Bytes :=
  ((List.range 64).flatMap (fabItems q)).filter fun e => decide (rd e 2 1 = kind ∧ 0 < rd e 3 1)

/-- The sample frame an audio port presents (R307); `copied` are the ports that the holder has slip. -/
def feedPort (p : Nat) (copied : Option (List Nat)) (s : State) : State × Feed :=
  let d := bufOut p (copied.map fun l => l.contains p) s
  let ch := apInputs s.quire.active p
  (d.1, feedFrame s.audio.prog ch.1 ch.2 d.2)

/-- The input ports of a section. -/
def inputPorts (s : State) (sec : Nat) : List Nat :=
  (List.range 72).filter fun p =>
    apEnabled s.quire.active p && decide (apSection s.quire.active p = sec) && decide (p < 32 ∨ 64 ≤ p)

/-- Gathers feeds one after another. -/
def gather {α : Type} (f : α → State → State × Feed) : List α → State → State × Feed
  | [], s => (s, {})
  | a :: t, s =>
    let d := f a s
    let e := gather f t d.1
    (e.1, d.2.add e.2)

/-- Input sample `n` of a section from every producer. -/
def sectionFeed (sec n : Nat) (copied : Option (List Nat)) (s : State) : State × Feed :=
  let a := if sec = 0 then gather feedLane (deembedChains s) s else (s, {})
  let b := gather (feedFlow n) (audioFlows a.1 sec) a.1
  let c := if sec = 0 then gather (feedStream n) (audioItems b.1.quire.active 3) b.1 else (b.1, {})
  let d := gather (fun p t => feedPort p copied t) (inputPorts c.1 sec) c.1
  (d.1, ((a.2.add b.2).add c.2).add d.2)

/-! ### Elements (R273 to R277) -/

/-- What the elements of one section read in one sample period. -/
structure ElemEnv where
  prog : Quire
  params : Quire
  n : Nat
  rate : Nat
  input : Nat → Int
  bridge : Nat → Int

/-- What the elements of a section change: the section, saturations, and refused reads as (element,
address). -/
structure ElemRun where
  sec : Section
  sat : Nat
  bad : List (Nat × Nat)

/-- A word saturated to 40 bits, counted. -/
def sat40 (x : Int) (r : ElemRun) : Int × ElemRun := (satTo 39 x, { r with sat := r.sat + b2n (over40 x) })

/-- A word at a signal address as an element of a pen reads it (R266, R273): a refused read gives zero. -/
def readWord (v : ElemEnv) (elem pen addr : Nat) (r : ElemRun) : Int × ElemRun :=
  if ¬ mayRead v.prog pen addr then (0, { r with bad := r.bad ++ [(elem, addr)] })
  else if addr < 0x8000 then (v.input addr, r)
  else if addr < 0x1FF00 then (mget (fun _ => 0) r.sec.scratch addr, r)
  else (v.bridge (addr - 0x1FF00), r)

/-- A parameter entry of a quire. -/
def paramEntry (q : Quire) (i : Nat) : Bytes := qBytes q fParams (16 + 24 * i) 24

/-- The first entry of a parameter set, and its count. -/
def setEntries (q : Quire) (k : Nat) : Nat × Nat := (rd (progSet q k) 0 4, rd (progSet q k) 4 4)

/-- Off counts as −144.00 dB in a ramp (R283). -/
def rampLevel (l : Int) : Int := if l = -32768 then -14400 else l

/-- The timeout of a native step in samples (R282). -/
def nativeTimeout (time rate : Nat) : Nat := cdiv ((if time = 0 then 100 else time) * rate) 10000

/-- The length of a ramp in samples (R283). -/
def rampLength (time rate : Nat) : Nat := cdiv (time * rate) 1000

/-- Starts the behaviour of a gain towards its new target at sample `n` (R282 to R284). -/
def gainStart (n rate : Nat) (target : Int) (beh time : Nat) (u : GainUse) : GainUse :=
  let changed := decide (u.behaviour ≠ beh ∨ u.time ≠ time)
  let run : GainRun :=
    if target = u.level then .still
    else if beh = 0 then
      match u.run, changed with
      | .native d, false => .native d
      | _, _ => .native (n + nativeTimeout time rate)
    else .ramp (rampLevel u.level) n (rampLength time rate)
  { u with target := target, behaviour := beh, time := time, run := run }

/-- Whether sample `x` after `prev` is a zero crossing (R282). -/
def crosses (x prev : Int) : Bool := decide (x = 0 ∨ x * prev < 0)

/-- Advances a behaviour to sample `n` with input word `x` (R282, R283). -/
def gainStep (n : Nat) (x : Int) (u : GainUse) : GainUse :=
  let v :=
    match u.run with
    | .still => u
    | .native d => if crosses x u.prev || decide (d ≤ n) then { u with level := u.target, run := .still } else u
    | .ramp l0 n0 len =>
      let i := n + 1 - n0
      if i ≤ len then { u with level := l0 + truncDiv ((rampLevel u.target - l0) * i) len }
      else { u with level := u.target, run := .still }
  { v with prev := x }

/-- The coefficient of a gain entry for a use of key `key` at this sample, from its input word. DEDUCED (unsafe, log 73). -/
def gainCoefNow (v : ElemEnv) (key entry : Nat) (x : Int) (r : ElemRun) : Nat × ElemRun :=
  let e := paramEntry v.params entry
  let target := rdI e 2 2
  let beh := rd e 1 1
  let time := rd e 4 2
  let u0 := ((r.sec.gains.find? fun p => decide (p.1 = key)).map (·.2)).getD ⟨target, target, beh, time, .still, 0⟩
  let u1 := if u0.target = target ∧ u0.behaviour = beh ∧ u0.time = time then u0
    else gainStart v.n v.rate target beh time u0
  let u := gainStep v.n x u1
  (gainCoef u.level, { r with sec := { r.sec with gains := mput r.sec.gains key u } })

/-- MIX: the exact sum of the inputs times their gains (R275). -/
def mixSum (v : ElemEnv) (elem pen src par : Nat) (unity : Bool) : Nat → Nat → Int → ElemRun → Int × ElemRun
  | 0, _, acc, r => (acc, r)
  | f + 1, k, acc, r =>
    let x := readWord v elem pen (progSource v.prog (src + k)) r
    let g := if unity then (2 ^ 24, x.2) else gainCoefNow v (elem * 1024 + k) (par + k) x.1 x.2
    mixSum v elem pen src par unity f (k + 1) (acc + x.1 * g.1) g.2

/-- One biquad of a cascade (R276). -/
def biquadStep (v : ElemEnv) (elem k entry : Nat) (x : Int) (r : ElemRun) : Int × ElemRun :=
  let e := paramEntry v.params entry
  let b := mget (fun _ => ({} : Biquad)) r.sec.biquads (elem * 16 + k)
  let c (o : Nat) : Int := rdI e o 4
  let acc := c 4 * x + c 8 * b.x1 + c 0xC * b.x2 - c 0x10 * b.y1 - c 0x14 * b.y2
  let y := sat40 ((acc + 2 ^ 27) / 2 ^ 28) r
  let st : Biquad := ⟨x, b.x1, y.1, b.y1⟩
  let sec := y.2.sec
  (y.1, { y.2 with sec := { sec with biquads := mset (fun _ => {}) sec.biquads (elem * 16 + k) st } })

/-- A cascade of biquads, the output of each feeding the next. -/
def cascade (v : ElemEnv) (elem par : Nat) : Nat → Nat → Int → ElemRun → Int × ElemRun
  | 0, _, x, r => (x, r)
  | f + 1, k, x, r =>
    let y := biquadStep v elem k (par + k) x r
    cascade v elem par f (k + 1) y.1 y.2

/-- A delay line takes a word and gives that of D samples before (R277); without room it passes its input
(R293). -/
def delayStep (v : ElemEnv) (line : Nat) (x : Int) (r : ElemRun) : Int × ElemRun :=
  let d := delayAt r.sec line
  if d.undelayed then (x, r)
  else
    let len := rd (progDelay v.prog line) 0 4
    let w := satTo 31 x
    let put (y : DelayLine) : DelayLine := { y with words := (w :: y.words).take len }
    (d.words.getD (len - 1) 0,
      { r with
        sat := r.sat + b2n (decide (w ≠ x))
        sec := { r.sec with delays := mmod (fun _ => ({} : DelayLine)) r.sec.delays line put } })

/-- The result of element `i` (Table 09.5). -/
def elemResult (v : ElemEnv) (i : Nat) (r : ElemRun) : Int × ElemRun :=
  let e := progElement v.prog i
  let pen := rd e 2 1
  let n := rd e 4 2
  let src := rd e 0xC 4
  let par := rd e 0x10 4
  match rd e 0 1 with
  | 1 =>
    let m := mixSum v i pen src par (bit (rd e 1 1) 0) n 0 0 r
    sat40 ((m.1 + 2 ^ 23) / 2 ^ 24) m.2
  | 2 =>
    let x := readWord v i pen src r
    let g := gainCoefNow v (i * 1024) par x.1 x.2
    sat40 ((x.1 * g.1 + 2 ^ 23) / 2 ^ 24) g.2
  | 3 =>
    let x := readWord v i pen src r
    cascade v i par n 0 x.1 x.2
  | _ =>
    let x := readWord v i pen src r
    delayStep v par x.1 x.2

/-- Runs an element and writes its word. -/
def runElement (v : ElemEnv) (r : ElemRun) (i : Nat) : ElemRun :=
  let y := elemResult v i r
  let sec := y.2.sec
  { y.2 with sec := { sec with scratch := mset (fun _ => 0) sec.scratch (rd (progElement v.prog i) 8 4) y.1 } }

/-! ### The shepherd insert (R289, R290) -/

/-- The weight of the insert in its output, of 2^24 (R290). -/
def insertWeight (x : Insert) : Nat :=
  let c := if x.len = 0 then 2 ^ 24 else 2 ^ 24 * x.step / x.len
  if x.on then c else 2 ^ 24 - c

/-- Advances the fade of an insert by one sample. -/
def insertStep (x : Insert) : Insert := { x with step := min x.len (x.step + 1) }

/-- Turns an insert on or off with a fade of `len` samples; a fade cut short goes on from its mirror. -/
def insertTurn (on : Bool) (len : Nat) (x : Insert) : Insert :=
  if x.on = on then x
  else { x with on := on, step := if x.len = 0 then 0 else len - x.step * len / x.len, len := len }

/-- The word of an output that the insert overrides (R289, R290). DEDUCED (unsafe, log 74). -/
def insertWord (x : Insert) (p sw : Int) : Int :=
  let g := gainCoef (rdI x.entry 4 2)
  let duck := bit (rd x.entry 6 1) 4
  let gd := gainCoef (-(100 * (rd x.entry 7 1 : Int)))
  let i := satTo 39 (((if duck then p * gd else 0) + sw * g + 2 ^ 23) / 2 ^ 24)
  let w := insertWeight x
  satTo 39 ((p * (2 ^ 24 - w : Nat) + i * w + 2 ^ 23) / 2 ^ 24)

/-! ### Outputs and consumers -/

/-- The output channels of a section. -/
def outputChannels (q : Quire) (sec : Nat) : List Nat :=
  ((List.range 512).filter fun b => decide (blockSection q true (64 * b) = sec)).flatMap fun b =>
    (List.range (64 / sectionWidth q sec)).map fun k => 64 * b + sectionWidth q sec * k

/-- A meter takes a sample at instant `t` (R298). DESIGN CHOICE (safe, log 32). -/
def meterTake (t : Nat) (x : Int) (clip : Bool) (m : Meter) : Meter :=
  let sq := x.natAbs * x.natAbs
  { m with
    peak := max m.peak x.natAbs
    squares := (m.squares.filter fun p => decide (t < p.1 + 100 * ticksPerMs)) ++ [(t, sq)]
    clipped := m.clipped || clip }

/-- Meters take samples. -/
def metersTake (t : Nat) (l : List (Nat × Int × Bool)) (m : List (Nat × Meter)) : List (Nat × Meter) :=
  l.foldl (fun a p => mmod (fun _ => ({} : Meter)) a p.1 (meterTake t p.2.1 p.2.2)) m

/-- The sample frame of consecutive output channels: an unmapped channel is zero (R264). -/
def outFrame (s : State) (base count : Nat) : List Smp :=
  (List.range count).map fun k =>
    mget (fun _ => (0, 0)) s.audio.outputs (channelOf s.audio.prog true base k)

/-- The channel status block of an embedded pair for which the engine gives none: byte 0 0x85, bytes 1 to 22 zero, a CRCC
(R145). -/
def defaultBlock : Bytes :=
  let b := 0x85#8 :: zeros 22
  b ++ [crcc b]

/-- Sample `n` of an embedded channel with its channel status: as the engine gives it, else that of the default block, whose
blocks begin at every 192nd sample; validity and user bit zero (R145). -/
def defaultStatus (n : Nat) (x : Smp) : Smp :=
  if bit x.2 4 then x
  else
    let i := n % 192
    (x.1, 4 * b2n ((defaultBlock.getD (i / 8) 0#8).getLsbD (i % 8)) + 8 * b2n (decide (i = 0)) + 16)

/-- Hands output sample `n` of a section to every consumer of it (R264, R271). DEDUCED (unsafe, log 74). -/
def deliverSamples (sec n : Nat) (s : State) : State :=
  let q := s.quire.active
  let lanes := if sec = 0 then (List.range 256).filter fun l => decide (0 < lnEmbCount (txQuire s l) l) else []
  let s1 := lanes.foldl (fun t l =>
    if (laneAt t l).tx = 0 then t
    else
      setLane l (fun x =>
        let v := txQuire s l
        { x with txAudio := keepLast 8192 (x.txAudio ++ [(outFrame s (lnEmbBase v l) (lnEmbCount v l)).map (defaultStatus n)]) }) t) s
  let serial := ((qAll q fFlows).filter fun e => decide (8192 ≤ rd e 0 2 ∧ feEssence e = 6 ∧ legA e = rd e 0 2)).filterMap
    fun e => txEntry s (rd e 0 2) n
  let flows := (txAudioFlows s n ++ serial).filter fun e =>
    decide (0 < feAudioCount e) && decide (blockSection s.audio.prog true (feAudioBase e) = sec)
  let s2 := flows.foldl (fun t e =>
    let xs := outFrame s (feAudioBase e) (feAudioCount e)
    setFlow (rd e 0 2) (fun x =>
      { x with audio := keepLast 512 (x.audio ++ [(n, if feEssence e = 6 then xs.map (defaultStatus n) else xs)]) }) t) s1
  let items := if sec = 0 then audioItems q 2 else []
  let s3 := items.foldl (fun t e =>
    setTx (rd e 0 2) (fun x =>
      { x with audio := keepLast 64 (x.audio ++ [(n, outFrame s (rd e 4 2) (rd e 3 1))]) }) t) s2
  let ports := (List.range 72).filter fun p =>
    apEnabled q p && decide (apSection q p = sec ∧ 32 ≤ p)
  ports.foldl (fun t p => portOut p n (outFrame s (apOutputs q p).1 (apOutputs q p).2) t) s3

/-- The output word and bits of a channel before the insert: its signal read as the output block's pen may
(R266), and the bits of a directly mapped input channel (R288). DEDUCED (unsafe, log 74). -/
def mapOutput (v : ElemEnv) (bits_ : Nat → Nat) (ch : Nat) (r : ElemRun) : (Int × Nat) × ElemRun :=
  let addr := outMap v.prog ch
  if addr = 0xFFFFFFFF then ((0, 0), r)
  else
    let w := readWord v 0xFFFFFFFF (blockPen v.prog true ch) addr r
    ((w.1, if addr < 0x8000 ∧ mayRead v.prog (blockPen v.prog true ch) addr then bits_ addr else 0), w.2)

/-- The outputs of a section: words with bits, in order. -/
def mapOutputs (v : ElemEnv) (bits_ : Nat → Nat) : List Nat → ElemRun → List (Nat × Int × Nat) × ElemRun
  | [], r => ([], r)
  | ch :: t, r =>
    let a := mapOutput v bits_ ch r
    let b := mapOutputs v bits_ t a.2
    ((ch, a.1) :: b.1, b.2)

/-- The free words of the bridges into a section at this sample (R270): a bridge gives zero before it has
locked and while its source section does not execute. DESIGN CHOICE (safe, log 32). -/
def bridgeWord (s : State) (sec b : Nat) : Int :=
  let e := progBridge s.audio.prog b
  let ok := bridgeOn s.audio.prog b && mget (fun _ => false) s.audio.bridges b && secRuns s (rd e 1 1) &&
    decide (rd e 2 1 = sec)
  if ok then satTo 39 (Config.freeInt (s.free + b)) else 0

/-! ### Program exchange (R280) -/

/-- The element of section `sec` of the old program whose state element `i` of the new one inherits. -/
def ancestor (old new : Quire) (sec i : Nat) : Option Nat :=
  let e := progElement new i
  if rd e 0x14 4 = 0 then none
  else
    (secElements old sec).find? fun j =>
      let o := progElement old j
      decide (rd o 0 1 = rd e 0 1 ∧ rd o 4 2 = rd e 4 2 ∧ rd o 0x14 4 = rd e 0x14 4)

/-- The keyed states of an ancestor moved to the keys of its heir, `m` keys for each element. -/
def heirKeys {α : Type} (m j i : Nat) (l : List (Nat × α)) : List (Nat × α) :=
  (l.filter fun p => decide (p.1 / m = j)).map fun p => (i * m + p.1 % m, p.2)

/-- The delay line of a DELAY element of the new program: inherited with its content if length, pen and
group are unchanged, else empty. -/
def heirDelay (old new : Quire) (x : Section) (j : Option Nat) (i : Nat) : List (Nat × DelayLine) :=
  let e := progElement new i
  if rd e 0 1 ≠ 4 then []
  else
    let line := rd e 0x10 4
    let d := progDelay new line
    let fresh : DelayLine := { group := rd d 5 1 }
    match j with
    | some a =>
      let l0 := rd (progElement old a) 0x10 4
      [(line, if (progDelay old l0).take 6 = d.take 6 then delayAt x l0 else fresh)]
    | none => [(line, fresh)]

/-- Sorts a keyed table. -/
def sortKeys {α : Type} (l : List (Nat × α)) : List (Nat × α) := l.mergeSort fun a b => decide (a.1 ≤ b.1)

/-- A section begins on the new program (R280). A scratch word keeps its value until it is written.
DEDUCED (unsafe, log 73). -/
def inheritSection (old new : Quire) (sec : Nat) (x : Section) : Section :=
  let es := (secElements new sec).map fun i => (i, ancestor old new sec i)
  let of {α : Type} (m : Nat) (l : List (Nat × α)) : List (Nat × α) :=
    es.flatMap fun p => match p.2 with
      | some j => heirKeys m j p.1 l
      | none => []
  { x with
    onNew := true
    biquads := sortKeys (of 16 x.biquads)
    gains := sortKeys (of 1024 x.gains)
    delays := sortKeys (es.flatMap fun p => heirDelay old new x p.2 p.1) }

/-- A section takes the program last exchanged; a new delay line whose group is out of service is placed as
a moved one (R293). DEDUCED (unsafe, log 73). -/
def takeProgram (sec : Nat) (s : State) : State :=
  if (sectionAt s sec).onNew then s
  else
    let s1 := setSection sec (inheritSection s.audio.progOld s.audio.prog sec) s
    (((sectionAt s1 sec).delays.filter fun p =>
      decide (p.2.words = []) && !p.2.undelayed && !inService s1 p.2.group).map (·.1)).foldl
      (fun t j => delayMove sec j t) s1

/-- The DOM48 boundary of an exchange that is due: the first at or after the change's time (R280). -/
def exchangeBoundary (s : State) : Option Nat := s.audio.exchangeDue.map (gridAfter (ticksPerSec / 48000))

/-- The exchange of the program banks at boundary `b` (R280, R287). Sections 0 to 2 begin on the new bank now, the others at
their own first sample; the idle copies equal the live ones. -/
def bankExchange (b : Nat) (s : State) : State :=
  let a := s.audio
  let q := s.quire.active
  let same (i : Nat) : Bool := decide (progBridge a.prog i = progBridge q i)
  let s1 := { s with audio := { a with
    bank := 1 - a.bank, prog := q, progOld := a.prog, params := q, idle := q
    exchangeDue := none, exchangeTime := b, paramsDue := []
    bridges := a.bridges.filter fun p => same p.1
    sections := (List.range 7).map fun k => (k, { sectionAt s k with onNew := false }) } }
  [0, 1, 2].foldl (fun u k => takeProgram k u) s1

/-- PROGRAM_BANK_EXCHANGE (R280, R287): at the first DOM48 boundary at or after the change's time. -/
def execProgramBankExchange (s : State) : Host.Outcome State Fault Refusal :=
  .next
    (match exchangeBoundary s with
     | none => s
     | some b => if ¬ reached s b then s else bankExchange b s)

/-! ### Sample periods -/

/-- Block reset of the audio engine (Table 17.6): the program bank is reloaded, element states are zeroed, and the outputs
stay zero until it has recovered; the shepherd insert goes on. -/
def audioReset (s : State) : State :=
  let a := s.audio
  { s with
    audio :=
      { a with
        sections := a.sections.map fun p => (p.1, { p.2 with scratch := [], biquads := [], gains := [], delays := [] })
        outputs := [] } }

/-- Whether the audio engine is in block reset. -/
def audioHeld (s : State) : Bool := s.ev.resetting.any fun r => decide (r.block = 7)

/-- Section `sec` computes its output from input sample `n`: output sample `n` + 2 (R271). -/
def runSection (sec n : Nat) (fd : Feed) (s : State) : State :=
  let q := s.audio.prog
  let mine (ch : Nat) : Bool := decide (blockSection q false ch = sec)
  let input (ch : Nat) : Smp := mget (fun _ => (0, 0)) fd.samples ch
  let v : ElemEnv :=
    { prog := q, params := s.audio.params, n := n, rate := sectionRate q sec
      input := fun ch => (input ch).1 * 256, bridge := bridgeWord s sec }
  let r := (secElements q sec).foldl (runElement v) ⟨sectionAt s sec, 0, []⟩
  let o := mapOutputs v (fun ch => (input ch).2) (outputChannels q sec) r
  let ins := s.audio.inserts.map fun x =>
    if blockSection q true (rd x.entry 0 2) = sec then
      let y := insertStep x
      { y with absent := decide (0 < insertWeight y) && !(fd.samples.any fun p => decide (p.1 = rd x.entry 2 2)) }
    else x
  let newly := (ins.zip s.audio.inserts).filter fun p => p.1.absent && !p.2.absent
  let covers (ch : Nat) : Option Insert :=
    ins.find? fun x => decide (rd x.entry 0 2 = ch) && decide (0 < insertWeight x)
  let final (p0 : Nat × Int × Nat) : Nat × Int × Nat :=
    let p := if audioHeld s then (p0.1, 0, p0.2.2) else p0
    match covers p.1 with
    | some x =>
      let si := input (rd x.entry 2 2)
      (p.1, insertWord x p.2.1 (si.1 * 256), if bit (rd x.entry 6 1) 4 then p.2.2 else si.2)
    | none => p
  let outs := (o.1.map final).map fun p => (p.1, sampleOfWord p.2.1, p.2.2)
  let clips := (outs.filter fun p => p.2.1.2).length
  let t := now s
  let a := s.audio
  let s1 := { s with
    free := s.free + 256
    audio := { a with
      sections := mput a.sections sec { o.2.sec with next := n + 1, at_ := now s }
      inputs := (a.inputs.filter fun p => !mine p.1) ++ fd.samples
      absentIn := (a.absentIn.filter fun ch => !mine ch) ++ fd.absent
      outputs := outs.foldl (fun m p => mset (fun _ => (0, 0)) m p.1 (p.2.1.1, p.2.2)) a.outputs
      inserts := ins
      metersIn := metersTake t (fd.samples.map fun p => (p.1, p.2.1, false)) a.metersIn
      metersOut := metersTake t (outs.map fun p => (p.1, p.2.1.1, p.2.1.2)) a.metersOut
      saturations := satAdd a.saturations (o.2.sat + clips)
      refusedReads := satAdd a.refusedReads o.2.bad.length } }
  let s2 := o.2.bad.foldl (fun u p => raiseIn 7 673 p.1 p.2 audioReset u) s1
  newly.foldl (fun u p => raiseIn 7 674 (rd p.1.entry 0 2) (rd p.1.entry 2 2) audioReset u) s2

/-- The sample edge of a section is stamped where it is a boundary of DOM441 or DOMFREE (R268, R269): the newest 64 are kept.
DESIGN CHOICE (unsafe, log 40). -/
def stampEdge (sec n : Nat) (s : State) : State :=
  let add (l : List Nat) : List Nat := if l.getLast? = some (now s) then l else keepLast 64 (l ++ [now s])
  if sec ≤ 2 then s
  else if sec = 6 then setAudio (fun a => { a with edgesFree := add a.edgesFree }) s
  else if n % (sectionRate s.audio.prog sec / 44100) = 0 then setAudio (fun a => { a with edges441 := add a.edges441 }) s
  else s

/-- The word clock output marks the sample of its section, out_offset from the sample's instant (R314). -/
def wordClockOut (sec : Nat) (s : State) : State :=
  let q := s.quire.active
  if bit (apField q 72 0 1) 1 ∧ apSection q 72 = sec then
    emit (.wordClock ((now s : Int) + qRdI q fAudioPorts (128 * 72 + 4) 4 * ticksPerUs / 1000)) s
  else s

/-- AUDIO_SAMPLE_PERIOD (R264 to R277, R288 to R290): section `sec` takes input sample `n`; `copied` are the
input ports that the holder has repeat a frame. DESIGN CHOICE (unsafe, log 7). DESIGN CHOICE (safe, log 58). -/
def execAudioSamplePeriod (sec n : Nat) (copied : Option (List Nat)) (s : State) :
    Host.Outcome State Fault Refusal :=
  .next
    (if 7 ≤ sec ∨ ¬ secRuns s sec ∨ n < (sectionAt s sec).next then s
     else
       let s1 := takeProgram sec (stampEdge sec n s)
       let f := sectionFeed sec n copied s1
       wordClockOut sec (deliverSamples sec (n + 2) (runSection sec n f.2 f.1)))

/-! ### Changes at boundaries (R281, R285 to R287, R294) -/

/-- Samples of a section in one boundary of its domain (R267, R268). -/
def boundaryStep (q : Quire) (sec : Nat) : Nat :=
  if sec = 6 then 1 else sectionRate q sec / (if sec ≤ 2 then 48000 else 44100)

/-- The boundary of a section's domain at which a change due at `t` is taken: for DOM48 by exact arithmetic,
otherwise the edge now observed. DESIGN CHOICE (unsafe, log 40). -/
def changeBoundary (sec t : Nat) : Nat := if sec ≤ 2 then gridAfter (ticksPerSec / 48000) t else t

/-- Whether a change due at `t` can be taken by a section now. DESIGN CHOICE (unsafe, log 40). -/
def boundaryNow (s : State) (sec t : Nat) : Bool :=
  reached s (changeBoundary sec t) &&
    decide ((sectionAt s sec).next % max 1 (boundaryStep s.audio.prog sec) = 0)

/-- Writes bytes of a parameter entry. -/
def putParam (i o : Nat) (bs : Bytes) (q : Quire) : Quire := qWrite q fParams (16 + 24 * i + o) bs

/-- The sections a domain has. -/
def domainSections (d : Nat) : List Nat := if d = 0 then [0, 1, 2] else if d = 1 then [3, 4, 5] else [6]

/-- The section of parameter set `k`. -/
def setSectionOf (q : Quire) (k : Nat) : Nat := rd (progSet q k) 8 1

/-- The pen of parameter set `k`. -/
def setPen (q : Quire) (k : Nat) : Nat := rd (progSet q k) 9 1

/-- The set that holds parameter entry `i`. -/
def setOf (q : Quire) (i : Nat) : Option Nat :=
  (List.range (progSets q)).find? fun k =>
    let e := setEntries q k
    decide (e.1 ≤ i ∧ i < e.1 + e.2)

/-- The live copies of a section's sets taken from the active quire (R281). -/
def takeParams (sec : Nat) (s : State) : State :=
  let q := s.audio.prog
  let mine := (List.range (progSets q)).filter fun k => decide (setSectionOf q k = sec)
  let p := mine.foldl (fun a k =>
    let e := setEntries q k
    qWrite a fParams (16 + 24 * e.1) (qBytes s.quire.active fParams (16 + 24 * e.1) (24 * e.2))) s.audio.params
  setAudio (fun a => { a with params := p, paramsDue := a.paramsDue.filter (· ≠ sec) }) s

/-- The fade of an insert in samples of its output's section (R290). -/
def fadeSamples (q : Quire) (ms : Nat) (entry : Bytes) : Nat :=
  cdiv (ms * sectionRate q (blockSection q true (rd entry 0 2))) 1000

/-- The zone of an insert entry. -/
def insertZone (e : Bytes) : Nat := rd e 6 1 % 16

/-- The insert table in force of section `sec` after a change (R290). -/
def insertChange (q : Quire) (sec : Nat) (entries : List Bytes) (mask ms : Nat) (cur : List Insert) : List Insert :=
  let here (e : Bytes) : Bool := decide (blockSection q true (rd e 0 2) = sec)
  let others := cur.filter fun x => !here x.entry
  let old := cur.filter fun x => here x.entry
  let new := (entries.filter here).map fun e =>
    let on := bit mask (insertZone e)
    match old.find? fun x => decide (rd x.entry 0 2 = rd e 0 2) with
    | some x => insertTurn on (fadeSamples q ms e) { x with entry := e, removed := false }
    | none =>
      let n := fadeSamples q ms e
      if on then ⟨e, true, 0, n, false, false⟩ else ⟨e, false, 0, 0, false, false⟩
  let gone := (old.filter fun x =>
    decide (0 < insertWeight x) && !(new.any fun y => decide (rd y.entry 0 2 = rd x.entry 0 2))).map fun x =>
      insertTurn false (fadeSamples q ms x.entry) { x with removed := true }
  others ++ new ++ gone

/-- What precedes a safe-load of a domain at its boundary `t` (R287): an exchange of the banks that is due by then, and a
swap of AUDIO_PARAMS that the domain's sections have still to take. -/
def takeDueSwaps (domain t : Nat) (s : State) : State :=
  let s1 := match exchangeBoundary s with
    | some b => if b ≤ t then bankExchange b s else s
    | none => s
  (domainSections domain).foldl (fun u sec =>
    if u.audio.paramsDue.contains sec ∧ changeBoundary sec u.audio.paramsAt ≤ t then takeParams sec u else u) s1

/-- The level that the commands executed so far give a gain entry (R297): that of the last change still waiting, else `l`. -/
def latestGain (changes : List AudioChange) (e : Nat) (l : Int) : Int :=
  ((changes.filterMap fun c => match c.what with
    | .gain i v => if i = e then some v else none
    | _ => none).getLast?).getD l

/-- A gain reaches its change sample (R287, R297): the live copy takes the level, and the active quire the level commanded
last, unless a program or AUDIO_PARAMS swap is still to be taken. -/
def takeGain (sec e : Nat) (l : Int) (s : State) : State :=
  let s1 := setAudio (fun a => { a with params := putParam e 2 (leI 2 l) a.params }) s
  if s.audio.exchangeDue.isSome ∨ s.audio.paramsDue.contains sec then s1
  else
    { s1 with
      quire := { s1.quire with active := putParam e 2 (leI 2 (latestGain s.audio.changes e l)) s1.quire.active } }

/-- A waiting change takes effect in section `sec`. -/
def applyChange (sec : Nat) (c : AudioChange) (s : State) : State :=
  match c.what with
  | .gain e l => takeGain sec e l s
  | .idle k o bs copy =>
    let e := setEntries s.audio.prog k
    let base := 16 + 24 * e.1
    setAudio (fun a =>
      let i0 := if copy then qWrite a.idle fParams base (qBytes a.params fParams base (24 * e.2)) else a.idle
      { a with idle := qWrite i0 fParams (base + 24 * o) bs }) s
  | .insert es _ mask ms =>
    setAudio (fun a => { a with inserts := insertChange a.prog sec es mask ms a.inserts, insertTime := now s }) s

/-- Replies to the AUD_GAIN commands whose every change has reached its change sample (R297). -/
def gainReplies (s : State) : State :=
  match catalogue 0x0903 with
  | none => s
  | some row =>
    let done := s.cmds.deferred.filter fun d =>
      decide (d.opcode = 0x0903) &&
        !(s.audio.changes.any fun c => decide (c.port = d.req.port ∧ c.seq = d.req.seq))
    done.foldl (fun t d => concludeLater row d.req (okay t [])) s

/-- AUDIO_CHANGE_APPLY (R281, R287, R290, R294): at a boundary of its domain, section `sec` takes the swapped
parameters, then the changes made by command, in order of execution. -/
def execAudioChangeApply (sec : Nat) (s : State) : Host.Outcome State Fault Refusal :=
  .next
    (if 7 ≤ sec ∨ ¬ secRuns s sec then s
     else
       let s1 := if s.audio.paramsDue.contains sec ∧ boundaryNow s sec s.audio.paramsAt then takeParams sec s else s
       let mine (c : AudioChange) : Bool := decide (c.section_ = sec) && boundaryNow s1 sec c.time
       let s2 := (s1.audio.changes.filter mine).foldl (fun t c => applyChange sec c t) s1
       gainReplies (setAudio (fun a => { a with changes := a.changes.filter fun c => !mine c }) s2))

/-- Ends behaviours of a use whose end has come by sample `n`. -/
def gainSettle (n : Nat) (u : GainUse) : GainUse :=
  match u.run with
  | .still => u
  | .native d => if d ≤ n then { u with level := u.target, run := .still } else u
  | .ramp _ n0 len => if n0 + len ≤ n then { u with level := u.target, run := .still } else u

/-- Settles one use of a gain at its section's next sample. -/
def settleUse (sec key : Nat) (s : State) : State :=
  let x := sectionAt s sec
  setSection sec (fun y =>
    { y with gains := y.gains.map fun p => if p.1 = key then (p.1, gainSettle x.next p.2) else p }) s

/-- GAIN_NATIVE_TIMEOUT (R282): no zero crossing came by the timeout sample: the target applies from it. -/
def execGainNativeTimeout (sec key : Nat) (s : State) : Host.Outcome State Fault Refusal :=
  .next (settleUse sec key s)

/-- GAIN_RAMP_END (R283): from sample n0 + N the target applies. -/
def execGainRampEnd (sec key : Nat) (s : State) : Host.Outcome State Fault Refusal :=
  .next (settleUse sec key s)

/-- SHEPHERD_INSERT_FADE_END (R290): a removed entry whose fade is over is dropped. -/
def execShepherdInsertFadeEnd (channel : Nat) (s : State) : Host.Outcome State Fault Refusal :=
  .next
    (setAudio (fun a =>
      { a with
        inserts := a.inserts.filter fun x =>
          !(decide (rd x.entry 0 2 = channel) && x.removed && decide (insertWeight x = 0)) }) s)

/-! ### Domains and bridges (R269, R270) -/

/-- The outputs of a section carry zero while it does not execute (R269). -/
def silence (sec : Nat) (s : State) : State :=
  setAudio (fun a =>
    { a with
      outputs := a.outputs.filter fun p => decide (blockSection a.prog true p.1 ≠ sec) }) s

/-- The state of a domain (Table 09.11): 0 DOM48, 1 DOM441, 2 DOMFREE. -/
def domainState (d : Nat) (s : State) : Nat :=
  if d = 0 then s.audio.dom48 else if d = 1 then s.audio.dom441 else s.audio.domFree

/-- A domain enters a state: 0 DOM48, 1 DOM441, 2 DOMFREE. Leaving RUNNING raises EV0672, silences its
sections and halts their ports; returning resumes them (R269, R375). DEDUCED (unsafe, log 87). -/
def domainEnter (d st : Nat) (s : State) : State :=
  if domainState d s = st then s
  else
    let s1 := setAudio (fun a =>
      { a with
        dom48 := if d = 0 then st else a.dom48, dom441 := if d = 1 then st else a.dom441
        domFree := if d = 2 then st else a.domFree }) s
    let s2 := if domainState d s = 2 then raiseIn 7 672 (3 * d) st audioReset s1 else s1
    (domainSections d).foldl (fun t k => apFollow k (if st = 2 then t else silence k t)) s2

/-- DOMFREE_CLOCK_CHANGE (R269, R314): DOMFREE's clock is measured at `milliHz`: 0 no clock, 1 out of range,
2 running. -/
def execDomfreeClockChange (st milliHz : Nat) (s : State) : Host.Outcome State Fault Refusal :=
  .next
    (let q := s.quire.active
     if 2 < st ∨ freeRate s.audio.prog = 0 ∨ apField q 72 1 1 = 0xFF then s
     else
       let s1 := setAudio (fun a => { a with freeMilliHz := milliHz }) s
       let s2 :=
         if bit (apField q 72 0 1) 0 ∧ apField q 72 1 1 = 0 then
           setApt 72 (fun x => { x with rate := milliHz, lastFrame := now s })
             (apEnter 72 (if st = 2 then 3 else if st = 1 then 4 else 1) s1)
         else s1
       domainEnter 2 st s2)

/-- BRIDGE_LOCK (R270): the converter of a bridge finds, or loses, the ratio of its clocks. -/
def execBridgeLock (b : Nat) (locked : Bool) (s : State) : Host.Outcome State Fault Refusal :=
  .next
    (if bridgeOn s.audio.prog b ∧ b < 256 then
       setAudio (fun a => { a with bridges := mset (fun _ => false) a.bridges b locked }) s
     else s)

/-! ### Safe-load (R286) -/

/-- The sets of an AUDIO_SAFELOAD payload. -/
def safeloadSets (p : Bytes) : List Nat := (List.range (min 15 (rd p 0 2))).map fun i => rd p (2 + 2 * i) 2

/-- Whether a safe-load's payload is well formed: 1 to 15 sets, unused places zero. DEDUCED (unsafe, log 127). -/
def safeloadForm (p : Bytes) : Bool :=
  let n := rd p 0 2
  decide (1 ≤ n ∧ n ≤ 15) && isZero p (2 + 2 * n) (30 - 2 * n)

/-- The failure of a safe-load of a domain from a port against the running program, if any (R286). -/
def safeloadFault (s : State) (port domain : Nat) (p : Bytes) : Option Nat :=
  let q := s.audio.prog
  let ks := safeloadSets p
  if ks.any fun k => !decide (k < progSets q) || !((domainSections domain).contains (setSectionOf q k)) then
    some stBadParam
  else if isPen port ∧ ks.any fun k => !decide (setPen q k = port) then some stNotOwner
  else none

/-- Exchanges the live and idle copies of a set, in the active quire too (R60, R286). -/
def exchangeSet (s : State) (k : Nat) : State :=
  let e := setEntries s.audio.prog k
  let o := 16 + 24 * e.1
  let n := 24 * e.2
  let live := qBytes s.audio.params fParams o n
  let idle := qBytes s.audio.idle fParams o n
  let put (q : Quire) : Quire := qWrite q fParams o idle
  { s with
    quire := { s.quire with active := put s.quire.active }
    audio := { s.audio with
      params := put s.audio.params, idle := qWrite s.audio.idle fParams o live
      safeloads := satInc s.audio.safeloads } }

/-- Applies a safe-load. -/
def safeload (p : Bytes) (s : State) : State := (safeloadSets p).foldl exchangeSet s

/-! ### Commands -/

/-- AUD_STATUS (R295). -/
def execAudStatus (r : Req) (s : State) : Host.Outcome State Fault Refusal :=
  .next (command 0x0901
    (fun r s => needLen 4 r s fun _ =>
      let clear := bit (rd r.params 0 1) 0
      needForm [(decide (rd r.params 0 1 ≤ 1), 0), (isZero r.params 1 3, 1)] s fun _ =>
        let a := s.audio
        let on := (List.range 256).filter fun b => bridgeOn a.prog b
        let lines := s.audio.sections.flatMap fun p => p.2.delays
        let b :=
          le 4 (progHead a.prog 0xC 4) ++ le 4 2097152 ++ le 1 a.bank ++ le 1 a.dom441 ++
            le 1 (if freeRate a.prog = 0 then 0xFF else a.domFree) ++ zeros 1 ++ le 4 a.freeMilliHz ++
            le 2 on.length ++ le 2 (on.filter fun i => mget (fun _ => false) a.bridges i && secRuns s (rd (progBridge a.prog i) 1 1)).length ++
            le 2 (lines.filter fun d => d.2.moved).length ++ le 2 (lines.filter fun d => d.2.undelayed).length ++
            le 8 (nsOf a.exchangeTime) ++ le 4 a.saturations.toNat ++ le 4 a.refusedReads.toNat ++
            le 4 a.ownDecisions.toNat ++ le 4 a.safeloads.toNat
        { st := if clear then
            setAudio (fun x => { x with saturations := 0, refusedReads := 0, ownDecisions := 0, safeloads := 0 }) s
          else s
          params := b
          clearing := clear }) r s)

/-- Whether bytes are a parameter entry of Table 09.8. -/
def paramOk (e : Bytes) : Bool :=
  match rd e 0 1 with
  | 1 =>
    let l := rdI e 2 2
    let t := rd e 4 2
    decide (rd e 1 1 ≤ 1) && decide (l = -32768 ∨ (-14400 ≤ l ∧ l ≤ 2400)) &&
      decide (if rd e 1 1 = 0 then t ≤ 1000 else 1 ≤ t ∧ t ≤ 60000) && isZero e 6 18
  | 2 => isZero e 1 3
  | _ => false

/-- The sections that take a change: those named. -/
def postChange (r : Req) (t : Nat) (secs : List Nat) (w : AudioWhat) (s : State) : State :=
  setAudio (fun a => { a with changes := a.changes ++ secs.map fun k => ⟨k, t, r.port, r.seq, w⟩ }) s

/-- Whether an AUDIO_SAFELOAD that names a set is pending (R285). -/
def safeloadPending (s : State) (k : Nat) : Bool :=
  s.drv.queue.any fun e => decide (e.kind = kSafeload) && (safeloadSets e.payload).contains k

/-- AUD_PARAM_WRITE (R285, R296): on a device with no partner at execution, else at the boundary of R294. -/
def execAudParamWrite (r : Req) (s : State) : Host.Outcome State Fault Refusal :=
  .next (command 0x0902
    (fun r s =>
      let p := r.params
      let n := rd p 8 4
      let k := rd p 0 2
      let first := rd p 4 4
      if p.length < 16 ∨ p.length ≠ 16 + 24 * n then refuse s stBadLength (16 + 24 * n)
      else
        let q := s.audio.prog
        let e := setEntries q k
        let entry (i : Nat) : Bytes := slice p (16 + 24 * i) 24
        needForm
          ([(decide (k < progSets q), 0), (decide (rd p 2 1 ≤ 1), 2), (isZero p 3 1, 3),
            (decide (first ≤ e.2 ∧ first + n ≤ e.2), 4), (decide (n ≤ 2728), 8), (isZero p 0xC 4, 0xC)] ++
            (List.range n).map fun i =>
              (paramOk (entry i) && decide (rd (entry i) 0 1 = rd (paramEntry s.audio.params (e.1 + first + i)) 0 1),
                16 + 24 * i)) s fun _ =>
          if isPen r.port ∧ setPen q k ≠ r.port then refuse s stNotOwner 0
          else if safeloadPending s k then refuse s stBusy 0
          else
            let w := AudioWhat.idle k first (p.drop 16) (bit (rd p 2 1) 0)
            let sec := setSectionOf q k
            let s1 := copyItem (.audio (changeOf 0x0902 r s)) s
            okay
              (if hasPartner s then postChange r (changeInstant s) [sec] w s1
               else applyChange sec ⟨sec, now s, r.port, r.seq, w⟩ s1) []) r s)

/-- AUD_GAIN (R294, R297): the active quire takes the levels now, the engine at the change sample; the reply
leaves when every change has reached it. -/
def execAudGain (r : Req) (s : State) : Host.Outcome State Fault Refusal :=
  .next (command 0x0903
    (fun r s =>
      let p := r.params
      let n := rd p 0 2
      if p.length < 8 ∨ p.length ≠ 8 + 8 * n then refuse s stBadLength (8 + 8 * n)
      else
        let q := s.audio.prog
        let entry (i : Nat) : Nat := rd p (8 + 8 * i) 4
        let level (i : Nat) : Int := rdI p (12 + 8 * i) 2
        let ok (l : Int) : Bool := decide (l = -32768 ∨ (-14400 ≤ l ∧ l ≤ 2400))
        needForm
          ([(decide (1 ≤ n ∧ n ≤ 256), 0), (isZero p 2 6, 2)] ++
            (List.range n).flatMap fun i =>
              [((setOf q (entry i)).isSome && decide (rd (paramEntry s.audio.params (entry i)) 0 1 = 1), 8 + 8 * i),
                (ok (level i), 12 + 8 * i), (isZero p (14 + 8 * i) 2, 14 + 8 * i)]) s fun _ =>
          let own (i : Nat) : Bool := decide ((setOf q (entry i)).map (setPen q) = some r.port)
          if isPen r.port ∧ (List.range n).any fun i => !own i then refuse s stNotOwner 0
          else
            let put (a : Quire) (i : Nat) : Quire := putParam (entry i) 2 (leI 2 (level i)) a
            let act := (List.range n).foldl put s.quire.active
            let s1 := countChange (copyItem (.audio (changeOf 0x0903 r s)) { s with quire := { s.quire with active := act } })
            let post (t : State) (i : Nat) : State :=
              postChange r (changeInstant s) [((setOf q (entry i)).map (setSectionOf q)).getD 0]
                (.gain (entry i) (level i)) t
            { st := (List.range n).foldl post s1, later := some [n] }) r s)

/-- The record of a channel (R298): its levels' rounding is a free value. DESIGN CHOICE (safe, log 32). -/
def meterRecord (s : State) (output : Bool) (ch : Nat) : Bytes :=
  let q := s.audio.prog
  let m := mget (fun _ => ({} : Meter)) (if output then s.audio.metersOut else s.audio.metersIn) ch
  let t := now s
  let sec := blockSection q output ch
  let sq := (m.squares.filter fun p => decide (t < p.1 + 100 * ticksPerMs)).map (·.2)
  let peak := levelDb (m.peak * m.peak) 1 (Config.freeNat (s.free + 2 * ch))
  let rms := levelDb sq.sum (max 1 (max sq.length (sectionRate q sec / 10))) (Config.freeNat (s.free + 2 * ch + 1))
  let absent := if output then decide (sec ≤ 6) && !secRuns s sec else s.audio.absentIn.contains ch
  let covered := output && s.audio.inserts.any fun x => decide (rd x.entry 0 2 = ch) && decide (0 < insertWeight x)
  le 2 ch ++ leI 2 peak ++ leI 2 rms ++
    le 1 (b2n absent + 2 * b2n m.clipped + 4 * b2n covered + 8 * b2n (!channelOk q output ch)) ++ zeros 1

/-- AUD_METER (R298). -/
def execAudMeter (r : Req) (s : State) : Host.Outcome State Fault Refusal :=
  .next (command 0x0904
    (fun r s => needLen 8 r s fun _ =>
      let kind := rd r.params 0 1
      let clear := bit (rd r.params 1 1) 0
      let first := rd r.params 4 2
      let n := rd r.params 6 2
      needForm
        [(decide (kind ≤ 1), 0), (decide (rd r.params 1 1 ≤ 1), 1), (isZero r.params 2 2, 2),
          (decide (first < 32768), 4), (decide (1 ≤ n ∧ n ≤ 4096 ∧ first + n ≤ 32768), 6)] s fun _ =>
        let out := decide (kind = 1)
        let may (ch : Nat) : Bool := owns r (blockPen s.audio.prog out ch)
        let hit (ch : Nat) : Bool := decide (first ≤ ch ∧ ch < first + n) && may ch
        let wipe (l : List (Nat × Meter)) : List (Nat × Meter) :=
          (l.map fun p => if hit p.1 then (p.1, { p.2 with peak := 0, clipped := false }) else p).filter
            fun p => decide (p.2 ≠ {})
        let s1 := { s with free := s.free + 65536 }
        { st := if clear then
            setAudio (fun a => if out then { a with metersOut := wipe a.metersOut }
              else { a with metersIn := wipe a.metersIn }) s1
          else s1
          params := rangeRecords first n may (meterRecord s out)
          clearing := clear }) r s)

/-- The form checks of one entry of AUD_SHEPHERD (R299). -/
def insertForm (q : Quire) (p : Bytes) (i : Nat) : List (Bool × Nat) :=
  let o := 8 + 8 * i
  let out := rd p o 2
  let inp := rd p (o + 2) 2
  let l := rdI p (o + 4) 2
  let twice := (List.range i).any fun j => decide (rd p (8 + 8 * j) 2 = out)
  [(channelOk q true out && !twice, o),
    (channelOk q false inp && decide (blockSection q false inp = blockSection q true out), o + 2),
    (decide (l = -32768 ∨ (-14400 ≤ l ∧ l ≤ 1200)), o + 4), (decide (rd p (o + 6) 1 < 32), o + 6),
    (decide (rd p (o + 7) 1 ≤ 60), o + 7)]

/-- AUD_SHEPHERD (R299). -/
def execAudShepherd (r : Req) (s : State) : Host.Outcome State Fault Refusal :=
  .next (command 0x0905
    (fun r s =>
      let p := r.params
      let op := rd p 0 1
      let n := rd p 6 2
      if p.length < 8 ∨ p.length ≠ 8 + 8 * n then refuse s stBadLength (8 + 8 * n)
      else
        needForm
          ([(decide (op ≤ 1), 0), (isZero p 1 1, 1), (decide (rd p 4 2 ≤ 100), 4),
            (decide (n ≤ 4096 ∧ (op = 1 ∨ n = 0)), 6)] ++
            (List.range n).flatMap (insertForm s.audio.prog p)) s fun _ =>
          let es := if op = 1 then (List.range n).map fun i => slice p (8 + 8 * i) 8 else s.audio.table
          let w := AudioWhat.insert es (decide (op = 1)) (rd p 2 2) (rd p 4 2)
          let s1 := setAudio (fun a => { a with table := es, onMask := rd p 2 2, fadeMs := rd p 4 2 })
            (copyItem (.safety (changeOf 0x0905 r s)) s)
          okay (postChange r (changeInstant s) (List.range 7) w s1) []) r s)

/-- AUD_SHEPHERD_READ (R300). -/
def execAudShepherdRead (r : Req) (s : State) : Host.Outcome State Fault Refusal :=
  .next (command 0x0906
    (fun r s => needLen 0 r s fun _ =>
      let a := s.audio
      let absent := a.table.filter fun e => !(a.inputs.any fun p => decide (p.1 = rd e 2 2))
      okay s (le 2 a.onMask ++ le 2 a.fadeMs ++ le 2 a.table.length ++ le 2 absent.length ++
        le 8 (nsOf a.insertTime) ++ a.table.flatten)) r s)

end Sys2Proof.Machine
end

