-- ==== Sys2Proof/Machine/Twin.lean ====
section
/-! DEFINITION. The stitch link's receiver and timers (chapter 07), the twin engine's cycle, and the TWN
commands (chapter 15). -/

namespace Sys2Proof.Machine

/-! ### The stitch link (R222 to R225) -/

/-- Sends an ACK frame, a NAK for the next sequence expected if `nak` (R223). -/
def sendAck (nak : Bool) (s : State) : State :=
  let s1 := setStitch (fun x =>
    { x with ackDue := false, counts := cAdd (if nak then cAdd x.counts 3 1 else x.counts) 0 1 }) s
  stitchEmit (stitchFrame s1 0 (b2n nak) 0 []) s1

/-- Sends frames that waited while the replay buffer was full, `fuel` at most. -/
def sendUnsent : Nat → State → State
  | 0, s => s
  | n + 1, s =>
    match s.fabric.stitch.unsent with
    | [] => s
    | (k, b) :: rest =>
      if 4096 ≤ s.fabric.stitch.replay.length then s
      else sendUnsent n (stitchPut k b (setStitch (fun x => { x with unsent := rest }) s))

/-- The full number of the latest cycle with a wire number (R222). -/
def fullCycle (s : State) (c : Nat) : Nat :=
  let n := cycleNow s
  n - (n + 2 ^ 32 - c % 2 ^ 32) % 2 ^ 32

/-- An acknowledgement `a` releases the frames it covers (R223); the replies whose cycle's CYCLE_END was
among them go (R120, R461). -/
def takeAck (a : Nat) (s : State) : State :=
  let x := s.fabric.stitch
  let covered (o : StitchOut) : Bool :=
    let d := (a + 65536 - o.seq) % 65536
    decide (1 ≤ d ∧ d ≤ 32768)
  let gone := x.replay.filter covered
  if gone = [] then s
  else
    let us := (gone.map fun o => (now s - o.firstSent) / ticksPerUs).foldl max 0
    let sec := now s / ticksPerSec
    let s1 := setStitch (fun y =>
      { y with
        replay := y.replay.filter fun o => !covered o
        progress := now s
        lastLongest := if y.longestSecond = sec then y.lastLongest
          else if y.longestSecond + 1 = sec then y.longest else 0
        longest := if y.longestSecond = sec then max y.longest us else us
        longestSecond := sec }) s
    let ends := (gone.filter fun o => decide (o.kind = 2)).map fun o => fullCycle s (rd o.body 0 4)
    let s2 := sendUnsent 4096 s1
    match ends.getLast? with
    | some c => releaseReplies (fun h => decide (h.cycle ≤ c)) s2
    | none => s2

/-- Sends again, in order, the unreleased frames from the one numbered `a` (R224). -/
def resendFrom (a : Nat) (s : State) : State :=
  let x := s.fabric.stitch
  let again := x.replay.filter fun o => decide ((o.seq + 65536 - a) % 65536 < 32768)
  let s1 := setStitch (fun y => { y with progress := now s, counts := cAdd y.counts 2 again.length }) s
  again.foldl (fun t o => stitchEmit (stitchFrame t o.kind 0 o.seq o.body) t) s1

/-- A command packet from this device to its partner, on port PARTNER (R225). -/
def partnerCommand (opcode : Nat) (params : Bytes) (s : State) : State :=
  let seq := s.twin.ownSeq + 1
  let head := le 2 0x5E7A ++ le 1 3 ++ le 1 0 ++ le 2 opcode ++ le 2 params.length ++ le 8 seq ++ le 8 0 ++
    le 2 portPartner ++ zeros 2
  let pkt := head ++ le 4 (crc32c (head ++ zeros 4 ++ params)).toNat ++ params
  stitchSend 3 (le 2 0xFFFF ++ le 2 portPartner ++ zeros 4 ++ le 8 (nowNs s) ++ pkt)
    (setTwin (fun x => { x with ownSeq := seq }) s)

/-- The returning twin starts a phase (R469, R471). -/
def startPhase (p : Nat) (s : State) : State :=
  partnerCommand 0x0F04 (le 1 1 ++ le 1 p ++ zeros 6)
    (setTwin (fun x =>
      { x with
        syncPhase := p, syncBytes := 0, clean := if p = 5 then 0 else x.clean
        syncData := if p = 3 then [] else x.syncData, buffered := if p = 3 then [] else x.buffered }) s)

/-- A COMMAND body (R225): the partner's own command, or one forwarded, executed under the port given.
DEDUCED (unsafe, log 17). -/
def takeCommand (b : Bytes) (s : State) : State :=
  let ep := rd b 0 2
  let t := rd b 8 8 * ticksPerNs
  if ep = 0xFFFF then receiveAs .stitch (some portPartner) t (b.drop 16) s
  else receiveAs (.forwarded ep) (some (rd b 2 2)) t (b.drop 16) s

/-- A REPLY body (R225): to this device's own command, or to one it forwarded, whose reply returns to its
endpoint (R109). DEDUCED (unsafe, log 17). -/
def takeReply (b : Bytes) (s : State) : State :=
  let ep := rd b 0 2
  let p := b.drop 8
  if ep = 0xFFFF then
    if rd p 4 2 = 0x0F04 ∧ rd p 0x18 2 = 0 ∧ rd p 0x20 1 = 3 then
      setTwin (fun x => { x with snapshotCycle := rd p 0x24 4, snapshotBytes := rd p 0x28 8 }) s
    else s
  else
    let e := endpointOf ep
    let seq := rd p 8 8
    let mine (w : Waiting) : Bool := decide (w.req.ep = e ∧ w.req.seq = seq)
    let s1 := { s with cmds := { s.cmds with waiting := s.cmds.waiting.filter fun w => !mine w } }
    sendReply
      { ep := e, port := (boundPort s e).getD 0xFFFF, opcode := rd p 4 2, flags := rd p 3 1, seq := seq,
        timeNs := rd p 0x10 8, status := rd p 0x18 2, detail := rd p 0x1A 2, params := p.drop 0x20 } s1

/-- Compares a class's digests of one cycle (R465): three differing compared cycles in a row raise EV1107.
DESIGN CHOICE (unsafe, log 36). DESIGN CHOICE (unsafe, log 59). -/
def compareClass (c k : Nat) (differ : Bool) (s : State) : State :=
  if ¬ differ then setTwin (fun x => { x with run := mset (fun _ => 0) x.run k 0 }) s
  else
    let n := mget (fun _ => 0) s.twin.run k + 1
    let s1 := setTwin (fun x =>
      { x with run := mset (fun _ => 0) x.run k n, mismatches := cAdd x.mismatches k 1,
               lastMismatch := c % 2 ^ 32 }) s
    if n = 3 then raise 1107 k (c % 2 ^ 32) s1 else s1

/-- A HEALTH body (R464 to R466). DEDUCED (unsafe, log 61). -/
def takeHealth (b : Bytes) (s : State) : State :=
  let s1 := setTwin (fun x => { x with partnerSelftest := rd b 4 4 }) s
  let c := fullCycle s (rd b 0 4)
  match s1.twin.digestLog.find? fun d => decide (d.cycle = c) with
  | none => s1
  | some d =>
    let ks := (List.range 8).filter fun k => !d.skip.contains k
    let bad (k : Nat) : Bool := decide (rd b (8 + 4 * k) 4 ≠ d.digests.getD k 0)
    let s2 := ks.foldl (fun t k => compareClass c k (bad k) t) s1
    setTwin (fun x => { x with clean := if ks.any bad then 0 else if ks = [] then x.clean else x.clean + 1 }) s2

/-- When the gap before held frames opened: when the oldest of them came. -/
def gapOf (held : List StitchIn) : Option Nat := (held.map (·.time)).min?

/-- STITCH_REORDER_TIMEOUT (R223): a gap open 10 µs, or a full reorder buffer, causes a NAK; no frame is held longer. -/
def execStitchReorderTimeout (s : State) : Host.Outcome State Fault Refusal :=
  .next
    (match s.fabric.stitch.gapSince with
     | some t =>
       if t + 10 * ticksPerUs ≤ now s ∨ 256 ≤ s.fabric.stitch.reorder.length then
         sendAck true (setStitch (fun x =>
           let left := x.reorder.filter fun h => decide (now s < h.time + 10 * ticksPerUs)
           { x with reorder := left, gapSince := gapOf left }) s)
       else s
     | none => s)

/-- STITCH_ACK_SEND (R223). -/
def execStitchAckSend (s : State) : Host.Outcome State Fault Refusal :=
  .next (if s.fabric.stitch.active ∧ s.fabric.stitch.ackDue then sendAck false s else s)

/-- STITCH_RESEND_TIMEOUT (R224): 20 µs with unreleased frames and no progress. -/
def execStitchResendTimeout (s : State) : Host.Outcome State Fault Refusal :=
  .next
    (match s.fabric.stitch.replay with
     | o :: _ => if s.fabric.stitch.progress + 20 * ticksPerUs ≤ now s then resendFrom o.seq s else s
     | [] => s)

/-- STITCH_LINK_DOWN (R224): a frame unreleased 200 µs after its first sending: EV0482, all four lanes to
DETECT, the sequences restart. -/
def execStitchLinkDown (s : State) : Host.Outcome State Fault Refusal :=
  .next
    (match s.fabric.stitch.replay with
     | o :: _ =>
       if o.firstSent + 200 * ticksPerUs ≤ now s then
         let s1 := raise 482 0 o.seq (setStitch (fun x => { x with counts := cAdd x.counts 5 1 }) s)
         [64, 65, 66, 67].foldl (fun t l => fabWait l (fabDetect l t)) (twinLinkDown s1)
       else s
     | [] => s)

/-! ### The cycle's end (R451, R459, R461, R464) -/

/-- Cuts bytes into pieces of at most `n`, `fuel` at most. -/
def chunks : Nat → Nat → Bytes → List Bytes
  | 0, _, _ => []
  | f + 1, n, bs => if bs.length ≤ n then [bs] else bs.take n :: chunks f n (bs.drop n)

/-- An item of the state copy as parts of STATE bodies (Table 15.3), each but the last continued.
DESIGN CHOICE (safe, log 58). -/
def itemParts (it : CopyItem) : List Bytes :=
  let data := Config.itemBytes it
  let cs := chunks (data.length / 4000 + 1) 4028 data
  cs.zipIdx.map fun p =>
    le 1 it.kind ++ le 1 (b2n (decide (p.2 + 1 < cs.length))) ++ le 2 p.1.length ++ p.1

/-- The bytes an item takes in a cycle's STATE bodies. -/
def itemSize (it : CopyItem) : Nat := ((itemParts it).map List.length).sum

/-- Packs parts into STATE bodies of at most 4,032 bytes. -/
def packParts : List Bytes → Bytes → List Bytes
  | [], cur => if cur = [] then [] else [cur]
  | p :: t, cur => if 4032 < cur.length + p.length then cur :: packParts t p else packParts t (cur ++ p)

/-- Items of class 3 that fit what is left of the cycle's 1 MiB, in order, and those that do not (R460).
DESIGN CHOICE (unsafe, log 59). -/
def fitItems : Nat → List CopyItem → List CopyItem × List CopyItem
  | _, [] => ([], [])
  | room, it :: t =>
    if itemSize it ≤ room then let r := fitItems (room - itemSize it) t; (it :: r.1, r.2) else ([], it :: t)

/-- The priority class of an item kind (Table 15.2). DESIGN CHOICE (unsafe, log 59). -/
def itemClass (k : Nat) : Nat := if k ≤ 4 then 1 else if k ≤ 7 then 2 else 3

/-- The time item of the state copy (R366, Table 15.2). DESIGN CHOICE (unsafe, log 196). -/
def timeItem (s : State) : CopyItem :=
  let d := s.time.dpll
  .time ⟨d.state, d.rung, d.selected, s.tb.rho, d.learntSys, d.learntAtom, d.bound⟩
    { force := d.force, quals := (List.range 15).map fun r => (refAt s r).q, stateTime := d.stateTime, rungSince := d.rungSince
      entry := d.entry, b0 := d.b0, locked := timeLocked s, sysN := d.learnSys.length, atomN := d.learnAtom.length }

/-- What every state copy carries (R184, R212, R294, R366): the DPLL's state and rate word, the bridges' states, and the
continuous counts of the -40 and -22 flows and of the streams' ancillary series. -/
def cycleItems (s : State) : List CopyItem :=
  let counted := s.net.flows.filter fun p => decide (8192 ≤ p.1 ∧ p.2.txSeq ≠ 0)
  timeItem s :: .bridges s.audio.bridges ::
    (counted.map (fun p => .flowCount p.1 p.2.txSeq) ++ s.fabric.tx.map fun p => .seriesCount p.1 p.2.ancSeq)

/-- The CYCLE_END body of a copy (Table 15.3). -/
def endBody (c : Nat) (overrun : Bool) (bodies : List Bytes) (s : State) : Bytes :=
  le 4 (c % 2 ^ 32) ++ le 2 bodies.length ++ le 2 (b2n overrun) ++ le 4 (bodies.map List.length).sum ++
    le 4 (crc32c bodies.flatten).toNat ++ le 8 s.drv.serial.toNat

/-- The holder sends the state copy of cycle `c` and its CYCLE_END (R459, R460); with a control core halted no items of
class 1 (R569). -/
def sendCopy (c : Nat) (s : State) : State :=
  let due := s.twin.deferredItems ++ s.twin.copy ++ cycleItems s
  let stops (i : CopyItem) : Bool := decide (s.host.halted ≠ [] ∧ itemClass i.kind = 1)
  let all := due.filter fun i => !stops i
  let first := all.filter fun i => decide (itemClass i.kind ≤ 2)
  let used := (first.map itemSize).sum
  let third := fitItems (1048576 - used) (all.filter fun i => decide (itemClass i.kind = 3))
  let bodies := packParts ((first ++ third.1).flatMap itemParts) []
  let overrun := decide (third.2 ≠ [])
  let bytes := (bodies.map List.length).sum
  let sec := now s / ticksPerSec
  let s1 := setTwin (fun x =>
    { x with
      copy := due.filter stops, deferredItems := third.2
      overruns := if overrun then satInc x.overruns else x.overruns
      lastMaxCopy := if x.maxCopySecond = sec then x.lastMaxCopy
        else if x.maxCopySecond + 1 = sec then x.maxCopy else 0
      maxCopy := if x.maxCopySecond = sec then max x.maxCopy bytes else bytes
      maxCopySecond := sec }) s
  stitchSend 2 (endBody c overrun bodies s) (bodies.foldl (fun t b => stitchSend 1 b t) s1)

/-- The standby sends its session-table changes, SUSPECT and the aids it has accepted in a copy of its own (R401, R440); with
none it sends nothing. DESIGN CHOICE (unsafe, log 196). -/
def sendOwnCopy (c : Nat) (s : State) : State :=
  let mine := fitItems 1048576 (s.twin.copy.filter fun i => decide (itemClass i.kind = 3))
  let s1 := setTwin (fun x => { x with copy := mine.2 }) s
  if mine.1 = [] then s1
  else
    let bodies := packParts (mine.1.flatMap itemParts) []
    stitchSend 2 (endBody c (decide (mine.2 ≠ [])) bodies s) (bodies.foldl (fun t b => stitchSend 1 b t) s1)

/-- Sends up to `n` SYNC frames of a snapshot, 4,016 data bytes each (R469, Table 15.3); what the item byte names is not
given. DESIGN CHOICE (safe, log 58). -/
def sendSync : Nat → State → State
  | 0, s => s
  | n + 1, s =>
    let x := s.twin
    if x.sendLeft = [] then s
    else
      let d := x.sendLeft.take 4016
      let f := draw s
      let body := le 1 3 ++ le 1 (Config.freeNat f.1) ++ le 2 0 ++ le 4 x.snapshotCycle ++ le 8 x.sendAt ++ d
      sendSync n (stitchSend 7 body (setTwin (fun y =>
        { y with sendLeft := y.sendLeft.drop 4016, sendAt := y.sendAt + d.length }) f.2))

/-- What the holder copies to a returning twin (Table 15.7, phase 3). DEDUCED (unsafe, log 165). -/
def snapshotNow (s : State) : Snapshot :=
  { active := s.quire.active, shadow := s.quire.shadow, shadowState := s.quire.shadowState
    shadowDigest := s.quire.shadowDigest, baseDigest := s.quire.baseDigest, changeCount := s.quire.changeCount
    queue := s.drv.queue, serial := s.drv.serial, ports := s.cmds.ports, sessions := s.time.sessions
    cards := s.layers.cards, layerTable := s.layers.table, layerOn := s.layers.onMask, layerFade := s.layers.fadeFrames
    audioTable := s.audio.table, audioOn := s.audio.onMask, audioFade := s.audio.fadeMs, idle := s.audio.idle
    force := s.time.dpll.force, timeAid := s.time.gnss.timeAid, posAid := s.time.gnss.posAid, nav := s.time.gnss.nav }

/-- The class digests of cycle `c` (R464). The result records of class 6 are those of Table 03.19; how the
items of the other classes are laid out as bytes is not given, so their digests are free values.
DESIGN CHOICE (unsafe, log 36). -/
def cycleDigests (c : Nat) (s : State) : List Nat :=
  let lo := c * cycleTicks
  let recs := s.drv.results.filter fun x =>
    decide (lo ≤ x.applied * ticksPerNs ∧ x.applied * ticksPerNs < lo + cycleTicks)
  let byTarget := recs.mergeSort fun a b => decide (a.target ≤ b.target)
  (List.range 8).map fun k =>
    if k = 6 then (crc32c (byTarget.flatMap resultBytes)).toNat
    else Config.freeNat (s.free + k) % 2 ^ 32

/-- Digests of cycle `c`, and the HEALTH frame of the cycle before (R464, R466). -/
def sendHealth (c : Nat) (s : State) : State :=
  let off := if anyDisturbed s then [1, 2] else []
  let d : DigestRec := ⟨c, cycleDigests c s, s.twin.ownClasses ++ off⟩
  let s1 := setTwin (fun x =>
    { x with digestLog := keepLast 4 (x.digestLog ++ [d]), ownClasses := [] }) { s with free := s.free + 8 }
  match s1.twin.digestLog.find? fun e => decide (e.cycle + 1 = c) with
  | some e =>
    stitchSend 6 (le 4 (e.cycle % 2 ^ 32) ++ le 4 s1.twin.selftest ++ e.digests.flatMap (le 4)) s1
  | none => s1

/-- A holder whose authority has run out becomes SYNCING (R451, R453); the reply to its TWN_YIELD leaves from the new holder
(R458), and those it holds still wait for the acknowledgement of their cycle (R120). DEDUCED (unsafe, log 60). -/
def loseCrook (s : State) : State :=
  let ended := match s.twin.ownLease with
    | some t => decide (t ≤ now s)
    | none => false
  if isTwin s && s.twin.role.holds && !renews s && ended then
    let left := s.cmds.deferred.filter fun w => decide (w.opcode ≠ 0x0F03)
    let s1 := enterSyncing s
    { s1 with cmds := { s1.cmds with deferred := left } }
  else s

/-- A standby without the holder's copy uses its own bridge states, and counts it (R294, R461). -/
def ownBridges (s : State) : State :=
  if s.audio.bridges = [] then s
  else
    ownDecision 3 { s with audio := { s.audio with ownDecisions := satInc s.audio.ownDecisions } }

/-- A twin without the crook at a cycle end: heartbeat, missing cycle, quiet cycles (R452, R455, R461).
DESIGN CHOICE (unsafe, log 63). -/
def followCycle (c : Nat) (s : State) : State :=
  match s.twin.role with
  | .standby =>
    let miss := match s.twin.lastCopy with
      | some l => decide (l + 1 < c)
      | none => true
    sendCrook 3 (s.twin.lastHeard.getD 0)
      (if miss then ownBridges (setTwin (fun x => { x with missing := satInc x.missing }) s) else s)
  | .starting =>
    let n := if s.fabric.stitch.active then s.twin.quietCycles + 1 else 0
    let free := s.twin.freeAt
    setTwin (fun x =>
      { x with quietCycles := n, freeAt := if free.isNone ∧ 4 ≤ n then some (now s) else free }) s
  | _ => s

/-- STITCH_CYCLE_END (R451, R459): the end of the last cycle of the time base, once: the state copy, then the renewal. A
holder whose authority ends here still sends the copy of the cycle it held. DEDUCED (unsafe, log 60). -/
def execStitchCycleEnd (s : State) : Host.Outcome State Fault Refusal :=
  .next
    (let n := cycleNow s
     if n ≤ s.twin.doneCycle then s
     else
       let c := n - 1
       let s1 := setStitch (fun x => { x with lastCycleBytes := x.cycleBytes, cycleBytes := 0 })
         (armAll (now s) (setTwin (fun x => { x with doneCycle := n }) s))
       if ¬ isTwin s1 then startUnknown s1.cmds.waiting.length s1
       else
         let s2 := if ¬ hasPartner s1 then s1
           else if s1.twin.role = .holder then sendSync 520 (sendCopy c s1)
           else if s1.twin.role = .standby then sendOwnCopy c s1 else s1
         let s3 := loseCrook s2
         let s4 := if s3.twin.role.holds && renews s3 then renewLease s3 else s3
         let s5 := sendHealth c (followCycle c s4)
         startUnknown s5.cmds.waiting.length s5)

/-! ### Self-tests and resynchronisation (R466, R469) -/

/-- The items a twin runs: the standby all, a holder those marked H (Table 15.5). -/
def selftestItems (s : State) : List Nat :=
  if ¬ isTwin s then []
  else if s.twin.role = .standby then [0, 1, 2, 3, 4, 5, 6, 7]
  else if s.twin.role.holds then [0, 1, 4, 5] else []

/-- What a self-test found (R466): a failure sets the item's bit and raises EV1108, two passes in a row clear it. -/
def noteTest (item : Nat) (pass : Bool) (s : State) : State :=
  let n := if pass then mget (fun _ => 0) s.twin.passes item + 1 else 0
  let clear := bit s.twin.selftest item && decide (2 ≤ n)
  let set_ := !pass && !bit s.twin.selftest item
  let s1 := setTwin (fun x =>
    { x with
      passes := mset (fun _ => 0) x.passes item n
      selftest := if clear then x.selftest - 2 ^ item
        else if set_ then x.selftest + 2 ^ item else x.selftest }) s
  if pass then s1 else raise 1108 item 0 s1

/-- SELFTEST_RUN (R466): an item ran on its period. -/
def execSelftestRun (item : Nat) (pass : Bool) (s : State) : Host.Outcome State Fault Refusal :=
  .next
    (let items := selftestItems s
     if ¬ items.contains item then s
     else
       let done := s.twin.roundDone ||| 2 ^ item
       let whole := items.all fun i => bit done i
       setTwin (fun x =>
         { x with
           roundDone := if whole then 0 else done
           lastSelftest := if whole then nowNs s else x.lastSelftest }) (noteTest item pass s))

/-! ### TWN commands -/

/-- Whether the partner was heard on the fold bus in the last four cycles. -/
def partnerOnFold (s : State) : Bool :=
  match s.twin.partnerFoldAt with
  | some t => decide (now s < t + 4 * cycleTicks)
  | none => false

/-- Whether this standby is fit (R467). -/
def standbyFit (s : State) : Bool :=
  decide (s.twin.role = .standby) && s.fabric.stitch.active && decide (4000 ≤ s.twin.clean) &&
    decide (s.twin.selftest = 0) && decide (-2000 ≤ s.twin.trimPs ∧ s.twin.trimPs ≤ 2000)

/-- Whether the holder sees its partner as fit: a STANDBY on an ACTIVE link with no self-test bit set and no
class differing. DESIGN CHOICE (unsafe, log 132). -/
def partnerFit (s : State) : Bool :=
  decide (s.twin.partnerRole = some .standby) && s.fabric.stitch.active &&
    decide (s.twin.partnerSelftest = 0) && decide (4000 ≤ s.twin.clean)

/-- verdict (Table 15.6): no partner where neither path shows one, and while the sides conflict (R453).
DEDUCED (unsafe, log 60). -/
def twinVerdict (s : State) : Nat :=
  if ¬ isTwin s ∨ s.twin.conflict ∨ (¬ s.fabric.stitch.active ∧ ¬ partnerOnFold s) then 2
  else if s.twin.role.holds then (if partnerFit s then 3 else 4)
  else if standbyFit s then 0 else 1

/-- TWN_STATUS (R480). -/
def execTwnStatus (r : Req) (s : State) : Host.Outcome State Fault Refusal :=
  .next (command 0x0F01
    (fun r s => needLen 0 r s fun _ =>
      let x := s.twin
      let lease := max (x.lastHeard.getD 0) (x.ownLease.getD 0)
      okay s
        (le 1 x.role.code ++ le 1 (match x.partnerRole with | some p => p.code | none => 0xFF) ++
          le 1 s.boot.side ++
          le 1 (b2n (holdsCrook s) + 2 * b2n s.fabric.stitch.active + 4 * b2n (partnerOnFold s) +
            8 * b2n (partnerFit s)) ++
          le 4 (cycleNow s % 2 ^ 32) ++ le 8 (nsOf lease) ++ le 4 x.takeovers.toNat ++ zeros 4 ++
          le 8 (nsOf x.roleTime))) r s)

/-- The TWN_HEALTH reply (Table 15.6). -/
def healthBytes (s : State) : Bytes :=
  let x := s.twin
  let sec := now s / ticksPerSec
  let largest := if x.maxCopySecond = sec then x.lastMaxCopy
    else if x.maxCopySecond + 1 = sec then x.maxCopy else 0
  let progress := if x.snapshotBytes = 0 then 0 else min 1000 (1000 * x.syncBytes / x.snapshotBytes)
  le 1 (twinVerdict s) ++ le 1 x.syncPhase ++ le 2 progress ++ le 4 x.selftest ++ cBytes x.mismatches 8 ++
    le 4 x.lastMismatch ++ le 4 x.overruns.toNat ++ le 4 largest ++ le 4 x.ownDecisions.toNat ++
    leI 4 x.trimPs ++ leI 4 x.gnssDiffPs ++ le 4 x.missing.toNat ++ le 4 x.unsynced.toNat ++
    le 4 x.sideConflicts.toNat ++ le 4 x.partnerSelftest ++ le 8 x.lastSelftest

/-- TWN_HEALTH (R468). -/
def execTwnHealth (r : Req) (s : State) : Host.Outcome State Fault Refusal :=
  .next (command 0x0F02
    (fun r s => needLen 4 r s fun _ =>
      let clear := bit (rd r.params 0 1) 0
      needForm [(decide (rd r.params 0 1 ≤ 1), 0), (isZero r.params 1 3, 1)] s fun _ =>
        { st := if clear then
            setTwin (fun x =>
              { x with mismatches := [], overruns := 0, ownDecisions := 0, missing := 0, unsynced := 0,
                       sideConflicts := 0 }) s
          else s
          params := healthBytes s
          clearing := clear }) r s)

/-- TWN_YIELD (R458): the holder stops renewing; the reply leaves from the new holder. DEDUCED (unsafe, log 60). -/
def execTwnYield (r : Req) (s : State) : Host.Outcome State Fault Refusal :=
  .next (command 0x0F03
    (fun r s => needLen 0 r s fun _ =>
      if ¬ isTwin s ∨ s.twin.conflict ∨ s.twin.partnerRole ≠ some .standby then refuse s stNotActive 0
      else { st := setTwin (fun x => { x with stopped := true }) s, later := some [] }) r s)

/-- TWN_SYNC (R471), from the partner: starts its next phase or aborts. At phase 3 the snapshot is taken, at most 1 GiB. -/
def execTwnSync (r : Req) (s : State) : Host.Outcome State Fault Refusal :=
  .next (command 0x0F04
    (fun r s => needLen 8 r s fun _ =>
      let op := rd r.params 0 1
      let p := rd r.params 1 1
      needForm
        [(decide (1 ≤ op ∧ op ≤ 2), 0), (decide (1 ≤ p ∧ p ≤ 5), 1), (isZero r.params 2 2, 2),
          (isZero r.params 4 4, 4)] s fun _ =>
        if s.twin.partnerRole ≠ some .syncing then refuse s stNotActive 0
        else if stagingNow s then refuse s stBusy 0
        else
          let data := if op = 1 ∧ p = 3 then (Config.snapshotBytes (snapshotNow s)).take (2 ^ 30) else []
          okay (setTwin (fun x =>
              { x with
                sendLeft := if p = 3 ∨ op = 2 then data else x.sendLeft, sendAt := if p = 3 then 0 else x.sendAt
                snapshotCycle := if p = 3 then cycleNow s % 2 ^ 32 else x.snapshotCycle }) s)
            (le 1 p ++ zeros 3 ++ le 4 (cycleNow s % 2 ^ 32) ++ le 8 data.length)) r s)

end Sys2Proof.Machine
end

