-- ==== Sys2Proof/Machine/Refs.lean ====
section
/-! DEFINITION. References, the DPLL, holdover and the composed bound (R352 to R366, R412, R92). -/

namespace Sys2Proof.Machine

/-! ### State and folio fields -/

/-- Changes the time service. -/
def setTime (f : TimeSvc → TimeSvc) (s : State) : State := { s with time := f s.time }

/-- Changes a reference. -/
def setRef (r : Nat) (f : RefState → RefState) (s : State) : State :=
  setTime (fun t => { t with refs := mmod (fun _ => ({} : RefState)) t.refs r f }) s

/-- Changes the DPLL. -/
def setDpll (f : Dpll → Dpll) (s : State) : State := setTime (fun t => { t with dpll := f t.dpll }) s

/-- A field of a reference entry (Table 12.10). -/
def refField (q : Quire) (r o k : Nat) : Nat := qRd q fRef (0x40 + 32 * r + o) k

/-- Kind of a reference (Table 12.10): 1 CLOCK, 2 FRAME, 3 PPS, 4 ATOM, 5 GNSS, 6 PTP. -/
def refKind (q : Quire) (r : Nat) : Nat := refField q r 0 1

/-- Whether a reference is a time reference (Table 12.1). -/
def isTimeRef (q : Quire) (r : Nat) : Bool := decide (3 ≤ refKind q r)

/-- Whether the entry of a reference is enabled. -/
def refEnabled (q : Quire) (r : Nat) : Bool := bit (refField q r 2 1) 0

/-- Whether a reference is used: enabled, with a priority or as the flywheel (Table 12.2). -/
def refUsed (q : Quire) (r : Nat) : Bool := refEnabled q r && (decide (refField q r 1 1 ≠ 0) || decide (r = 12))

/-- hold_ms of a reference, or its kind's default (Table 12.10). -/
def holdMs (q : Quire) (r : Nat) : Nat :=
  let h := refField q r 0xA 2
  if h ≠ 0 then h
  else match refKind q r with
    | 1 => 10 | 2 => 100 | 3 => 2500 | 4 => 100 | _ => 4000

/-- A field of ladder rung `r` (Table 12.9): bandwidth at 0, dwell at 4, advance at 8. -/
def rungField (q : Quire) (r o : Nat) : Nat := qRd q fRef (0x220 + 16 * r + o) 4

/-- The last rung of the ladder. -/
def lastRung (q : Quire) : Nat :=
  ((List.range 8).takeWhile fun r => decide (rungField q r 0 ≠ 0)).length - 1

/-- The final rung of a reference (R361). -/
def finalRung (q : Quire) (r : Nat) : Nat :=
  let f := refField q r 0x12 1
  if f ≠ 0 ∧ f < lastRung q then f else lastRung q

/-- The offset limits of a reference in 10^-12: accept at 0xC, reject at 0xE. -/
def refLimit (q : Quire) (r o : Nat) : Nat := refField q r o 2 * 1000

/-- Whether this device makes the reference decisions (R366). -/
def decidesRefs (s : State) : Bool := !isTwin s || holdsCrook s

/-- A rate in 2^-48 of nominal as a fractional frequency in 10^-12. -/
def ratePpt (r : Int) : Int := r * 1000000000000 / 2 ^ 48

/-- A fractional frequency in 10^-12 as a rate. -/
def pptRate (p : Int) : Int := p * 2 ^ 48 / 1000000000000

/-! ### Events (R371) -/

/-- An RFC event: its bit of RFC_EVENTS, and its source in the reference range. DESIGN CHOICE (unsafe, log 83). -/
def rfcEvent (k inst detail : Nat) (s : State) : State :=
  let b := BitVec.ofNat 6 (2 ^ k)
  raise (896 + k) inst detail (setDpll (fun d =>
    { d with
      rfc := d.rfc ||| b, rfcAt := some (now s)
      rfcSet := if d.rfcAt = some (now s) then d.rfcSet ||| b else b }) s)

/-- A write to RFC_EVENTS (R371): the bits written as one are cleared, but those that hardware sets at this instant (R10). -/
def clearRfc (value : Nat) (s : State) : State :=
  setDpll (fun d =>
    { d with rfc := d.rfc &&& ~~~(BitVec.ofNat 6 value &&& ~~~(if d.rfcAt = some (now s) then d.rfcSet else 0#6)) }) s

/-- The reference an event of the DPLL names. -/
def refNo (r : Option Nat) : Nat := r.getD 0xFFFF

/-- A reference takes a state at `t` (Table 12.2). -/
def refTake (t st : Nat) (y : RefState) : RefState :=
  if y.q = st then y
  else
    { y with
      q := st, stateTime := t, soak := if st = 3 then t else y.soak
      qualSince := if st = 4 ∧ y.q ≠ 5 then t else y.qualSince
      bridgeSince := if st = 5 then t else y.bridgeSince
      rejections := if st = 2 then satInc y.rejections else y.rejections }

/-- A reference enters a qualification state (Table 12.2). -/
def refEnter (r st : Nat) (s : State) : State :=
  if (refAt s r).q = st then s else rfcEvent 2 r st (setRef r (refTake (now s) st) s)

/-! ### The bounds (R363, R364, R412) -/

/-- Growth of the holdover bound over `t` ticks in 10^-18 s, each term rounded up (R363): k_f or
k_f_unlearnt, k_d, k_w. DEDUCED (unsafe, log 82). -/
def growthOf (kf kd kw t : Nat) : Nat :=
  cdiv (kf * 1000 * t) ticksPerSec + cdiv (kd * t * t) (2 * ticksPerSec * ticksPerSec) +
    sqrtUpAux (cdiv (kw * kw * 1000000000000 * t) ticksPerSec) 96 0

/-- Whether the flywheel's offset was learnt for at least 1,000 s: ATOM's only over the time that it has been there.
DEDUCED (unsafe, log 79). -/
def learnt (s : State) : Bool :=
  decide (1000 * ticksPerSec ≤ timeLocked s) && (decide (s.time.dpll.fly ≠ 1) || decide (1000 ≤ s.time.dpll.learnAtom.length))

/-- k_f in use (R363). -/
def kfInUse (s : State) : Nat :=
  qRd s.quire.active fRef (0x2A0 + 16 * s.time.dpll.fly + (if learnt s then 0 else 4)) 4

/-- Growth since t began, `more` ticks from now (R363). -/
def growthIn (s : State) (more : Nat) : Nat :=
  let d := s.time.dpll
  let q := s.quire.active
  match d.entry with
  | none => 0
  | some t0 =>
    let t := now s + more - t0
    if d.state = 3 then
      cdiv (refField q (d.selected.getD 0) 0x14 4 * 1000 * t) ticksPerSec
    else
      growthOf (kfInUse s) (qRd q fRef (0x2A8 + 16 * d.fly) 4) (qRd q fRef (0x2AC + 16 * d.fly) 4) t

/-- The number of the instance feeding reference 14 (R393). -/
def refInstance (q : Quire) : Nat := qRd q fTime 2 1

/-- A PTP instance. -/
def instAt (s : State) (i : Nat) : PtpInst := mget (fun _ => ({} : PtpInst)) s.time.insts i

/-- The upstream bound in ns (R412): that of the selected master's TLV, else 0. -/
def upstreamBound (s : State) : Nat :=
  (((instAt s (refInstance s.quire.active)).master.bind (·.bound)).getD 0)

/-- The path term in ns (R412): the slave port's allowance and twice its timestamp limit. -/
def pathTerm (s : State) : Nat :=
  let q := s.quire.active
  match (instAt s (refInstance q)).slavePort with
  | some p =>
    qRd q fTime (0x240 + 32 * p + 8) 4 + (if 1 < portLanes q (qRd q fTime (0x240 + 32 * p) 2) then 8 else 5)
  | none => 0

/-- The terms of R364 for the selected reference, in ns: configured, reported, path. -/
def refTerms (s : State) : Nat × Nat × Nat :=
  let q := s.quire.active
  match s.time.dpll.selected with
  | some r =>
    (refField q r 0x14 4, if r = 13 then s.time.gnss.uncertainty else if r = 14 then upstreamBound s else 0,
      if r = 14 then pathTerm s else 0)
  | none => (0, 0, 0)

/-- The servo term in ps (R364): the largest filtered phase error of the last 64 s, plus 1.25 ns.
DEDUCED (unsafe, log 82). -/
def servoTerm (s : State) : Nat :=
  ((s.time.dpll.errs.filter fun e => decide (now s ≤ e.1 + 64 * ticksPerSec)).map (·.2)).foldl max 0 + 1250

/-- One nanosecond in units of 10^-18 s. -/
abbrev asPerNs : Nat := 1000000000

/-- The bound that the DPLL's state gives now (R363 to R365), none while unlimited. DEDUCED (unsafe, log 82). -/
def boundNow (s : State) : Option Nat :=
  let d := s.time.dpll
  let x := refTerms s
  if d.state = 0 then none
  else if d.state ≤ 2 then some ((x.1 + x.2.1 + x.2.2) * asPerNs + servoTerm s * 1000000)
  else some (d.b0 + growthIn s 0)

/-- The output term in ns (R412). -/
def outputTerm (s : State) : Nat :=
  4 + qRd s.quire.active fTime 0x20 4 + (if s.twin.role = .standby then 2 else 0)

/-- The composed bound E in 10^-18 s (R412). -/
def composed (s : State) : Option Nat :=
  if s.tb.acquired then s.time.dpll.bound.map (· + outputTerm s * asPerNs) else none

/-- The fence (R92): entered while E exceeds the fence bound, left once E has stayed at or below nine-tenths of
it for 1 s. -/
def fenceEvaluation (s : State) : State :=
  let fb := fenceBound s * asPerNs
  let d := s.drv
  match composed s with
  | none =>
    let s1 := { s with drv := { d with fenced := true, belowSince := none } }
    if d.fenced then s1 else raise 162 0 1 s1
  | some e =>
    if fb < e then
      let s1 := { s with drv := { d with fenced := true, belowSince := none } }
      if d.fenced then s1 else raise 162 0 1 s1
    else if 10 * e ≤ 9 * fb then
      let t := d.belowSince.getD (now s)
      if d.fenced ∧ t + ticksPerSec ≤ now s then
        raise 162 0 0 { s with drv := { d with fenced := false, belowSince := some t } }
      else { s with drv := { d with belowSince := some t } }
    else { s with drv := { d with belowSince := none } }

/-- HOLD_EXPIRE (R365): asserted while the bound exceeds holdover_spec_ns, released after two consecutive
evaluations at or below nine-tenths of it. -/
def holdExpiry (s : State) : State :=
  let spec := qRd s.quire.active fRef 8 4 * asPerNs
  let d := s.time.dpll
  let high := match d.bound with
    | none => true
    | some b => decide (spec < b)
  let low := match d.bound with
    | none => false
    | some b => decide (10 * b ≤ 9 * spec)
  let n := if low then d.lowEvals + 1 else 0
  if high then
    let s1 := setDpll (fun x => { x with holdExpire := true, lowEvals := 0 }) s
    if d.holdExpire then s1 else rfcEvent 3 (refNo d.selected) d.state s1
  else setDpll (fun x => { x with holdExpire := x.holdExpire && decide (n < 2), lowEvals := min n 2 }) s

/-- The composed bound as served: whole ns, rounded up, saturating (R412). -/
def servedBound (s : State) : Option Nat := (composed s).map fun e => min (cdiv e asPerNs) 0xFFFFFFFE

/-- The evaluation of the bounds (R363 to R365, R412, R92). In BRIDGING and HOLDOVER the terms before growth
stay those of the last evaluation before (R420). DEDUCED (unsafe, log 82). -/
def evaluateBounds (s : State) : State :=
  let x := refTerms s
  let b := boundNow s
  let s1 := setDpll (fun d =>
    let d1 :=
      { d with
        bound := b, evalTime := now s, growth := growthIn s 0
        lockedEval := if d.state = 2 then some (now s) else d.lockedEval }
    if 1 ≤ d.state ∧ d.state ≤ 2 then
      { d1 with configured := x.1, reported := x.2.1, path := x.2.2, servo := servoTerm s }
    else d1) s
  let s2 := holdExpiry s1
  fenceEvaluation (setTime (fun t => { t with bound := servedBound s2 }) s2)

/-! ### States of the DPLL (R360 to R363) -/

/-- The rate of the flywheel corrected by its learnt offset (R362). DESIGN CHOICE (unsafe, log 78). -/
def flywheelRate (s : State) : Int :=
  let d := s.time.dpll
  if d.fly = 1 then d.atomRate + d.learntAtom else d.learntSys

/-- Whether ATOM_10M is the flywheel now (R362). DEDUCED (unsafe, log 79). -/
def atomFlywheel (s : State) : Bool := refEnabled s.quire.active 12 && decide ((refAt s 12).q = 4)

/-- The flywheel is looked at again (R362, R363): in BRIDGING and HOLDOVER a change restarts t from the bound
reached. DEDUCED (unsafe, log 79). -/
def updateFlywheel (s : State) : State :=
  let d := s.time.dpll
  let f := b2n (atomFlywheel s)
  if f = d.fly then s
  else if d.state = 4 ∨ d.state = 5 then
    setDpll (fun x => { x with fly := f, b0 := (boundNow s).getD x.b0, entry := some (now s) }) s
  else setDpll (fun x => { x with fly := f }) s

/-- The DPLL enters a state (Table 12.4), with the clocks of R362 and R363, and the bounds are evaluated. -/
def dpllEnter (st : Nat) (s : State) : State :=
  let d := s.time.dpll
  if d.state = st then s
  else
    let t := now s
    let was := decide (d.state = 2 ∨ d.state = 3)
    let is_ := decide (st = 2 ∨ st = 3)
    let fresh := decide (d.state = 0 ∨ d.state = 5)
    let held := decide (d.state = 4 ∧ st = 5)
    let b := d.bound.getD 0
    let s1 := setDpll (fun x =>
      { x with
        state := st, stateTime := t
        lockedFor := if fresh then 0 else if was && !is_ then timeLocked s else x.lockedFor
        lockedSince := if is_ then (if was then x.lockedSince else some t) else none
        learnSys := if fresh then [] else x.learnSys, learnAtom := if fresh then [] else x.learnAtom
        bridgedFrom := if st = 4 then x.state else x.bridgedFrom
        entry := if held then x.entry else if 3 ≤ st then some t else none
        b0 := if held then x.b0 else if st = 3 then (boundNow s).getD b else b }) s
    evaluateBounds (rfcEvent 0 (refNo s1.time.dpll.selected) st s1)

/-- The phase at selection of a frequency reference (R360): that of its last pulse against its period, in hundredths of a
tick; a CLOCK gives none. -/
def phaseNow (s : State) (r : Nat) : Int :=
  if refKind s.quire.active r ≠ 2 then 0
  else
    let f := rateFrac (refField s.quire.active r 3 1)
    ((refAt s r).pulses.getLast?.getD 0) % (100 * max 1 (ticksPerSec * f.2 / max 1 f.1) : Nat)

/-- A reference, or none, is selected (R357, R360, R361): the state and the rung the DPLL starts in; a first
time reference makes the acquisition step due at the end of this cycle (R385). -/
def selectRef (r : Option Nat) (s : State) : State :=
  let q := s.quire.active
  let t := now s
  match r with
  | none =>
    let s1 := setTime (fun x => { x with stepDue := none })
      (setDpll (fun d => { d with selected := none, rung := 0, rungSince := t, within := none }) s)
    dpllEnter (if s.tb.acquired then 5 else 0) (rfcEvent 1 0xFFFF (if s.tb.acquired then 5 else 0) s1)
  | some k =>
    let first := !s.tb.acquired && isTimeRef q k
    let rung := if first then 0 else min 1 (lastRung q)
    let st := if ¬ isTimeRef q k then 3 else if rung = 0 then 1 else 2
    let s1 := setDpll (fun d =>
      { d with selected := some k, last := some k, rung := rung, rungSince := t, within := none,
               buildOut := if isTimeRef q k then 0 else phaseNow s k }) s
    let s2 := if first then setTime (fun x => { x with stepDue := some (cycleEndAfter t) }) s1 else s1
    dpllEnter st (rfcEvent 1 k st s2)

/-! ### Selection (R357 to R359) -/

/-- Whether a reference may be selected at all: QUALIFIED, with a priority; before the first acquisition only
GNSS and PTP, and PPS and ATOM once the time base holds TAI seconds (R352, R357). -/
def candidate (s : State) (r : Nat) : Bool :=
  let q := s.quire.active
  decide ((refAt s r).q = 4) && decide (refField q r 1 1 ≠ 0) &&
    (s.tb.acquired || decide (refKind q r = 5 ∨ refKind q r = 6) ||
      (s.time.secondsSet && decide (refKind q r = 3 ∨ refKind q r = 4)))

/-- Whether reference `a` outranks `b`: a lower priority number, a tie to the lower index. -/
def outranks (q : Quire) (a b : Nat) : Bool :=
  let x := refField q a 1 1
  let y := refField q b 1 1
  decide (x < y) || (decide (x = y) && decide (a < b))

/-- The highest-ranking reference of a list. -/
def bestRef (q : Quire) (l : List Nat) : Option Nat :=
  l.foldl (fun b r => match b with
    | none => some r
    | some k => if outranks q r k then some r else some k) none

/-- The candidates: no frequency reference while a time reference may be selected (R357). -/
def refPool (s : State) : List Nat :=
  let all := (List.range 15).filter (candidate s)
  let times := all.filter (isTimeRef s.quire.active)
  if times = [] then all else times

/-- Whether the selected reference keeps its place: QUALIFIED or BRIDGING, and selectable unless forced. -/
def keepsPlace (s : State) (r : Nat) : Bool :=
  decide ((refAt s r).q = 4 ∨ (refAt s r).q = 5) &&
    (decide (refField s.quire.active r 1 1 ≠ 0) || decide (s.time.dpll.force = 1))

/-- What automatic selection selects now (R357). -/
def autoSelect (s : State) : Option Nat :=
  let q := s.quire.active
  let pool := refPool s
  match s.time.dpll.selected with
  | none => bestRef q pool
  | some c =>
    if ¬ keepsPlace s c then bestRef q pool
    else if !isTimeRef q c && pool.any (isTimeRef q) then bestRef q pool
    else if qRd q fRef 2 1 = 1 then some c
    else
      let higher := pool.filter fun r =>
        outranks q r c && decide ((refAt s r).qualSince + qRd q fRef 4 2 * ticksPerSec ≤ now s)
      match bestRef q higher with
      | some r => some r
      | none => some c

/-- A force ends when its reference leaves QUALIFIED and BRIDGING (R358): automatic selection resumes and the
selection event is raised. DEDUCED (unsafe, log 84). -/
def checkForce (s : State) : State :=
  let d := s.time.dpll
  match d.selected with
  | some c =>
    if d.force = 1 ∧ (refAt s c).q ≠ 4 ∧ (refAt s c).q ≠ 5 then
      rfcEvent 1 c (refAt s c).q (setDpll (fun x => { x with force := 0 }) s)
    else s
  | none => s

/-- Bridging and its end (R354, R356, R361): the DPLL bridges with the selected reference, and resumes the
state and rung it held. -/
def followBridge (s : State) : State :=
  let d := s.time.dpll
  match d.selected with
  | some c =>
    if (refAt s c).q = 5 then dpllEnter 4 s
    else if d.state = 4 ∧ (refAt s c).q = 4 then dpllEnter d.bridgedFrom s
    else s
  | none => s

/-- A REF_SELECT executed since the last evaluation takes effect, and its reply leaves (R358, R378).
DEDUCED (unsafe, log 84). -/
def applySelect (s : State) (p : PendingSelect) : State :=
  let ok := decide (p.op ≠ 1) || decide ((refAt s p.ref).q = 4)
  let s1 :=
    if ¬ ok then s
    else if p.op = 0 then setDpll (fun d => { d with force := 0 }) s
    else if p.op = 2 then
      let s2 := setDpll (fun d => { d with force := 2 }) s
      if s.time.dpll.selected = none ∧ s.time.dpll.state = 5 then s2 else selectRef none s2
    else
      let s2 := setDpll (fun d => { d with force := 1 }) s
      if s.time.dpll.selected = some p.ref then s2 else selectRef (some p.ref) s2
  match catalogue 0x0C02 with
  | some row => concludeLater row p.req (if ok then okay s1 [] else refuse s1 stNotActive 0)
  | none => s1

/-- The evaluation of R359 after the qualification changes: a REF_SELECT, then selection. DEDUCED (unsafe, log 85). -/
def reselect (s0 : State) : State :=
  let s := updateFlywheel s0
  let ps := s.time.dpll.pendingSel
  let s1 := checkForce (ps.foldl applySelect (setDpll (fun d => { d with pendingSel := [] }) s))
  let d := s1.time.dpll
  let s2 :=
    if d.force ≠ 0 then s1
    else
      let pick := autoSelect s1
      if pick = d.selected ∧ (d.state ≠ 0 ∨ pick.isNone) ∧ d.ran then s1
      else if pick = none ∧ d.selected = none then setDpll (fun x => { x with ran := true }) s1
      else selectRef pick (setDpll (fun x => { x with ran := true }) s1)
  updateFlywheel (followBridge s2)

/-! ### Qualification (R354 to R356) -/

/-- A reference's activity fails (R354): the selected one bridges, any other is FAILED. -/
def activityFault (r : Nat) (s : State) : State :=
  let x := refAt s r
  if ¬ x.active ∨ r = 15 then s
  else
    let s1 := setRef r (fun y => { y with active := false, faults := satInc y.faults, pulses := [] }) s
    if ¬ decidesRefs s ∨ x.q = 0 then s1
    else if s.time.dpll.selected = some r then reselect (refEnter r 5 s1)
    else reselect (refEnter r 1 s1)

/-- Whether a reference's last measured offset is within a limit. -/
def offsetWithin (s : State) (r o : Nat) : Bool :=
  match (refAt s r).offset with
  | some x => decide (x.natAbs ≤ refLimit s.quire.active r o)
  | none => false

/-- A FAILED or REJECTED reference with activity and its offset within accept_ppb soaks (R354). -/
def startSoak (r : Nat) (s : State) : State :=
  let x := refAt s r
  if (x.q = 1 ∨ x.q = 2) ∧ x.active ∧ offsetWithin s r 0xC then refEnter r 3 s else s

/-- A reference's activity is restored (R354): a BRIDGING one within hold_ms is QUALIFIED again. -/
def activityRestored (r : Nat) (s : State) : State :=
  let x := refAt s r
  if x.active then s
  else
    let s1 := setRef r (fun y => { y with active := true }) s
    if ¬ decidesRefs s then s1
    else if x.q = 5 ∧ now s ≤ x.bridgeSince + holdMs s.quire.active r * ticksPerMs then
      reselect (refEnter r 4 s1)
    else startSoak r s1

/-- Entries come into and go out of use (Table 12.2); an input not in use has no activity to keep. -/
def refUse (s : State) (r : Nat) : State :=
  if ¬ refUsed s.quire.active r then
    refEnter r 0 (if r < 13 then setRef r (fun y => { y with active := false, pulses := [] }) s else s)
  else if (refAt s r).q = 0 then refEnter r 1 s else s

/-- A state that no longer fits the reference's activity, as the survivor of a switch-over may hold it, follows the activity
(R354, R366). DEDUCED (unsafe, log 198). -/
def reconcile (s : State) (r : Nat) : State :=
  let x := refAt s r
  if (x.q = 3 ∨ x.q = 4) ∧ ¬ x.active then refEnter r (if s.time.dpll.selected = some r then 5 else 1) s
  else if x.q = 5 ∧ x.active ∧ now s ≤ x.bridgeSince + holdMs s.quire.active r * ticksPerMs then refEnter r 4 s
  else s

/-- The offset of a reference over the window (R355): `m` was measured against the time base; while the DPLL is
neither LOCKED nor FREQ_LOCK it is taken against the flywheel. DESIGN CHOICE (unsafe, log 78). -/
def noteOffset (s : State) (r : Nat) (m : Option Int) : State :=
  let d := s.time.dpll
  let rel := if d.state = 2 ∨ d.state = 3 then 0 else ratePpt (s.tb.rho - flywheelRate s)
  setRef r (fun y => { y with offset := m.map (· + rel) }) s

/-- Whether the correction the DPLL applies to the flywheel's learnt rate passes the selected reference's
reject_ppb (R355). -/
def draggedAway (s : State) (r : Nat) : Bool :=
  decide (s.time.dpll.selected = some r) && decide (1 ≤ s.time.dpll.state ∧ s.time.dpll.state ≤ 3) &&
    decide (refLimit s.quire.active r 0xE < (ratePpt (s.tb.rho - flywheelRate s)).natAbs)

/-- Disqualification (R354): the offset leaves reject_ppb. -/
def disqualify (s : State) (r : Nat) : State :=
  let x := refAt s r
  let out : Bool := match x.offset with
    | some o => decide (refLimit s.quire.active r 0xE < o.natAbs)
    | none => false
  if 3 ≤ x.q ∧ (out ∨ draggedAway s r) then refEnter r 2 s else s

/-- Soaking and qualification (R354). -/
def promote (s : State) (r : Nat) : State :=
  let x := refAt s r
  if x.q = 3 then
    if x.offset.isSome ∧ ¬ offsetWithin s r 0xC then setRef r (fun y => { y with soak := now s }) s
    else if offsetWithin s r 0xC ∧ x.soak + refField s.quire.active r 0x10 2 * ticksPerSec ≤ now s then refEnter r 4 s
    else s
  else startSoak r s

/-- A sample of the learnt offsets (R362): the loop's rate less the flywheel's, newest first, 1,000 at most.
DESIGN CHOICE (unsafe, log 78). DEDUCED (unsafe, log 79). -/
def learnSample (s : State) : State :=
  let d := s.time.dpll
  if d.state ≠ 2 ∧ d.state ≠ 3 then s
  else
    let ls := (s.tb.rho :: d.learnSys).take 1000
    let la := if (refAt s 12).active then ((s.tb.rho - d.atomRate) :: d.learnAtom).take 1000 else d.learnAtom
    setDpll (fun x =>
      { x with
        learnSys := ls, learntSys := ls.sum / ls.length, learnAtom := la
        learntAtom := if la = [] then x.learntAtom else la.sum / la.length }) s

/-- A field of an instance entry (Table 13.10). -/
def piField (q : Quire) (i o k : Nat) : Nat := qRd q fTime (0x40 + 64 * i + o) k

/-- The port entries of an instance. -/
def piPorts (q : Quire) (i : Nat) : List Nat :=
  (List.range (piField q i 0xB 1)).map (· + piField q i 0xA 1)

/-- A PTP port. -/
def ppAt (s : State) (p : Nat) : PtpPort := mget (fun _ => ({} : PtpPort)) s.time.ports p

/-- Changes a PTP port. -/
def setPp (p : Nat) (f : PtpPort → PtpPort) (s : State) : State :=
  setTime (fun t => { t with ports := mmod (fun _ => ({} : PtpPort)) t.ports p f }) s

/-- Changes a PTP instance. -/
def setInst (i : Nat) (f : PtpInst → PtpInst) (s : State) : State :=
  setTime (fun t => { t with insts := mmod (fun _ => ({} : PtpInst)) t.insts i f }) s

/-- Changes the unicast sessions; the holder copies each of its own that changed or ended (R401). -/
def setPtpSessions (new : List PtpSession) (s : State) : State :=
  let old := s.time.sessions
  let gone := old.filter fun x => !x.partner && !(new.any fun y => decide (y.index = x.index ∧ y.inst = x.inst))
  let moved := new.filter fun x => !x.partner && !old.contains x
  gone.foldl (fun t x => copyItem (.session x true) t)
    (moved.foldl (fun t x => copyItem (.session x false) t) (setTime (fun t => { t with sessions := new }) s))

/-- A PTP port enters a state of IEEE 1588-2019. -/
def ppEnter (p st : Nat) (s : State) : State :=
  if (ppAt s p).state = st then s else setPp p (fun x => { x with state := st, since := now s }) s

/-- A staged item, or a block reset, restarts an instance (R418): every port INITIALIZING, its sessions ended
without CANCEL. DEDUCED (unsafe, log 96). -/
def restartInst (i : Nat) (s : State) : State :=
  let s1 := (piPorts s.quire.active i).foldl (fun t p => setPp p (fun y => { y with masters := [] }) (ppEnter p 1 t)) s
  let s2 := setInst i (fun x => { ({} : PtpInst) with restarting := true, authFailures := x.authFailures, managed := x.managed }) s1
  let s3 := setPtpSessions (s2.time.sessions.filter fun x => decide (x.inst ≠ i) || x.partner) s2
  if i = refInstance s.quire.active then activityFault 14 s3 else s3

/-- Block reset of the time service (Table 17.6): every instance restarts. -/
def timeReset (s : State) : State := (List.range 8).foldl (fun t i => restartInst i t) s

/-- The large-offset event (R387): once while the selected time reference differs by more than 100 µs.
DESIGN CHOICE (unsafe, log 83). -/
def largeOffset (s : State) : State :=
  match s.time.dpll.selected with
  | some r =>
    let us := (refAt s r).phase.natAbs / 1000000
    let big := s.tb.acquired && isTimeRef s.quire.active r && decide (100000000 < (refAt s r).phase.natAbs)
    let s1 := setDpll (fun d => { d with large := big }) s
    if big && !s.time.dpll.large then raiseIn 11 992 r us timeReset s1 else s1
  | none => s

/-- The ATOM count of the window closes (R353): ATOM's rate, and its offset. -/
def closeAtom (s : State) : State × Option Int :=
  let d := s.time.dpll
  if d.atomN = 0 then (s, none)
  else
    let m := d.atomSum / d.atomN
    (setDpll (fun x => { x with atomRate := s.tb.rho + pptRate m, atomSum := 0, atomN := 0 }) s, some m)

end Sys2Proof.Machine
end

