-- ==== Sys2Proof/Machine/References.lean ====
section
/-! DEFINITION. The reference and clock rows (R353 to R380). -/

namespace Sys2Proof.Machine

/-! ### Evaluation (R359) -/

/-- The evaluation of a TAI second on the device that decides: qualification, disqualifications first; a
REF_SELECT; selection; then what is learnt and the bounds. DESIGN CHOICE (unsafe, log 78). -/
def evaluateRefs (meas : List (Nat × Int)) (s : State) : State :=
  let all := List.range 15
  let s1 := setDpll (fun d => { d with ran := true }) (all.foldl reconcile (all.foldl refUse s))
  let c := closeAtom s1
  let m (r : Nat) : Option Int :=
    if ¬ (refAt s r).active then none
    else if r = 12 then c.2
    else (meas.find? fun p => decide (p.1 = r)).map (·.2)
  let s2 := all.foldl (fun t r => noteOffset t r (m r)) c.1
  let s3 := all.foldl promote (all.foldl disqualify s2)
  evaluateBounds (largeOffset (learnSample (reselect s3)))

/-- TAI_SECOND_EVALUATION (R359, R354, R357, R363, R412, R92): once at each TAI second; `meas` gives the offsets measured over
the window against the time base, by reference, in 10^-12. A standby composes its bound from the holder's copy
(R366). DESIGN CHOICE (unsafe, log 52). DEDUCED (unsafe, log 84). -/
def execTaiSecondEvaluation (meas : List (Nat × Int)) (s : State) : Host.Outcome State Fault Refusal :=
  .next
    (if s.boot.inReset ∨ s.time.dpll.evalSec = some s.tb.sec.toNat then s
     else
       let s1 := setDpll (fun d => { d with evalSec := some s.tb.sec.toNat }) s
       if decidesRefs s then evaluateRefs meas s1
       else
         let s2 := setDpll (fun d =>
           { d with
             evalTime := now s, lockedEval := if d.state = 2 then some (now s) else d.lockedEval }) s1
         fenceEvaluation (setTime (fun t => { t with bound := servedBound s2 }) (holdExpiry s2)))

/-! ### Monitors (R353, R354) -/

/-- The nominal period of a pulse reference in ticks: the frame period of its rate code, or 1 s. -/
def refPeriod (q : Quire) (r : Nat) : Nat :=
  if refKind q r = 2 then
    let f := rateFrac (refField q r 3 1)
    if f.1 = 0 then ticksPerSec else ticksPerSec * f.2 / f.1
  else ticksPerSec

/-- Reduces `x` modulo `p` to the nearest value to zero. -/
def nearZero (x p : Int) : Int :=
  let m := x % p
  if 2 * m ≤ p then m else m - p

/-- The window of Table 12.3 in hundredths of a tick: max(1 µs, period / 10,000). -/
def pulseWindow (q : Quire) (r : Nat) : Nat := max (100 * ticksPerUs) (100 * refPeriod q r / 10000)

/-- A pulse while the reference has activity (Table 12.3): against the phase of the last 3. -/
def pulseGood (q : Quire) (r : Nat) (p : Int) (last : List Int) : Bool :=
  let per : Int := 100 * refPeriod q r
  let ds := (last.drop (last.length - 3)).map fun x => nearZero (p - x) per
  if ds = [] then true else decide ((ds.sum / ds.length).natAbs ≤ pulseWindow q r)

/-- REFERENCE_PULSE (R353, R354): an edge on a FRAME, PPS or ATOM_PPS input, stamped in units of 10 ps. The
phase of a time reference is the time base less the nearest second. DESIGN CHOICE (unsafe, log 81). -/
def execReferencePulse (r stamp : Nat) (s : State) : Host.Outcome State Fault Refusal :=
  .next
    (let q := s.quire.active
     let k := refKind q r
     if 13 ≤ r ∨ ¬ refEnabled q r ∨ k < 2 then s
     else
       let x := refAt s r
       let p : Int := (5292 * stamp : Nat) - 100 * ticksPerNs * qRdI q fRef (0x40 + 32 * r + 0x18) 4
       let per : Int := 100 * refPeriod q r
       let ph : Int := if k = 2 then 0 else -(nearZero (-p) per) * 10 / 5292
       let put (l : List Int) (t : State) : State := setRef r (fun y => { y with pulses := l, phase := ph }) t
       if x.active then
         if pulseGood q r p x.pulses then put (keepLast 16 (x.pulses ++ [p])) s else activityFault r s
       else
         let follows := match x.pulses.getLast? with
           | some b => decide ((p - b - per).natAbs ≤ pulseWindow q r)
           | none => false
         let l := if follows then x.pulses ++ [p] else [p]
         let s1 := put (keepLast 16 l) s
         if 3 ≤ l.length ∧ (r ≠ 12 ∨ s.time.dpll.atomOk) then activityRestored r s1 else s1)

/-- ATOM_COUNT_CYCLE (R353): the count of ATOM_10M over a 1 ms cycle, as its fractional difference from nominal
against the time base in 10^-12. -/
def execAtomCountCycle (ppt : Int) (s : State) : Host.Outcome State Fault Refusal :=
  .next
    (if refEnabled s.quire.active 12 then
       setDpll (fun d => { d with atomSum := d.atomSum + ppt, atomN := d.atomN + 1 }) s
     else s)

/-- CLOCK_REFERENCE_ACTIVITY_RESTORED (R354): edges present for 1 ms on a CLOCK input, or on ATOM_10M, whose
reference also needs its pulses. -/
def execClockReferenceActivityRestored (r : Nat) (s : State) : Host.Outcome State Fault Refusal :=
  .next
    (let q := s.quire.active
     if 15 ≤ r ∨ ¬ refEnabled q r then s
     else if r = 12 then
       let s1 := setDpll (fun d => { d with atomOk := true }) s
       if 3 ≤ (refAt s 12).pulses.length then activityRestored 12 s1 else s1
     else if refKind q r = 1 then activityRestored r s
     else s)

/-- REFERENCE_HOLD_EXPIRY (R354): hold_ms runs out on a BRIDGING reference. -/
def execReferenceHoldExpiry (r : Nat) (s : State) : Host.Outcome State Fault Refusal :=
  .next
    (let x := refAt s r
     if 15 ≤ r ∨ ¬ decidesRefs s ∨ x.q ≠ 5 ∨ now s < x.bridgeSince + holdMs s.quire.active r * ticksPerMs then s
     else reselect (refEnter r 1 s))

/-! ### The loop (R360, R361, R366) -/

/-- The rate word's limit: 20 ppm (R382). -/
abbrev rhoLimit : Int := 5629499534

/-- Keeps a rate within max_slew of every rate of the last second, and within the limit of R382.
DESIGN CHOICE (safe, log 80). -/
def slewTo (s : State) (want : Int) : Int :=
  let s_ : Int := (qRd s.quire.active fRef 6 2 * 2 ^ 48 / 1000000000 : Nat)
  let rs := s.tb.rho :: ((s.time.dpll.rates.filter fun e => decide (now s ≤ e.1 + ticksPerSec)).map (·.2))
  let hi := rs.foldl min s.tb.rho + s_
  let lo := rs.foldl max s.tb.rho - s_
  max (-rhoLimit) (min rhoLimit (max lo (min hi want)))

/-- Writes the rate word, keeping the rates of the last second. DESIGN CHOICE (safe, log 80). -/
def setRate (want : Int) (s : State) : State :=
  let r := slewTo s want
  let t := now s
  let s1 := setDpll (fun d =>
    { d with
      rates := (d.rates.filter fun e => decide (t ≤ e.1 + ticksPerSec)) ++ [(t, s.tb.rho)] }) s
  { s1 with tb := { s1.tb with rho := r } }

/-- The loop falls back a rung where the error passes four times the advance of its rung (R361). -/
def fallBack (err : Nat) (s : State) : State :=
  let d := s.time.dpll
  let q := s.quire.active
  if err ≤ 4000 * rungField q d.rung 8 then s
  else if d.rung = 0 then if d.state = 2 then dpllEnter 1 s else s
  else
    let s1 := rfcEvent 5 (refNo d.selected) d.state (setDpll (fun x =>
      { x with rung := x.rung - 1, rungSince := now s, within := none, falls := satInc x.falls }) s)
    if d.state = 2 ∧ d.rung = 1 then dpllEnter 1 s1 else s1

/-- The loop takes a filtered phase error of `err` ps: it is kept for the servo term and the ladder, and the rate
word takes a value the loop filter gives, within max_slew. DESIGN CHOICE (safe, log 80). -/
def loopUpdate (err : Int) (s : State) : State :=
  let d := s.time.dpll
  let q := s.quire.active
  let t := now s
  let e := err.natAbs
  let f := draw (setDpll (fun x =>
    { x with
      errs := (x.errs.filter fun v => decide (t ≤ v.1 + 64 * ticksPerSec)) ++ [(t, e)]
      within := if e ≤ 1000 * rungField q d.rung 8 then some (x.within.getD t) else none }) s)
  fallBack e (setRate (Config.freeInt f.1) f.2)

/-- DPLL_PHASE_UPDATE (R360, R362, R366): on the deciding device the loop takes a filtered phase error in ps, or,
with no loop running, the rate moves to the flywheel's; a standby applies the holder's copy, or keeps its rate
and counts an own decision where none came. -/
def execDpllPhaseUpdate (err : Int) (copied : Option DpllCopy) (s : State) :
    Host.Outcome State Fault Refusal :=
  .next
    (if s.boot.inReset then s
     else if decidesRefs s then
       let d := s.time.dpll
       if 1 ≤ d.state ∧ d.state ≤ 3 then loopUpdate err s
       else if d.state = 4 then s
       else if d.state = 5 then setRate (flywheelRate s) s
       else setRate (if d.fly = 1 then d.atomRate else 0) s
     else
       match copied with
       | none => setTwin (fun x => { x with ownDecisions := satInc x.ownDecisions }) s
       | some c =>
         let f := draw s
         let g := draw f.2
         let trim := max (-rhoLimit) (min rhoLimit (c.rho + Config.freeInt f.1))
         let s1 := setDpll (fun d =>
           { d with
             ran := true, state := c.state, rung := c.rung, selected := c.selected
             last := if c.selected.isSome then c.selected else d.last, learntSys := c.learntSys
             learntAtom := c.learntAtom, bound := c.bound }) g.2
         setTwin (fun x => { x with trimPs := max (-2000) (min 2000 (Config.freeInt g.1)) })
           { s1 with tb := { s1.tb with rho := trim } })

/-- LADDER_ADVANCE (R361): the dwell of the rung is over with the error within its advance: the next rung, or, on
a ladder of one rung, LOCKED. -/
def execLadderAdvance (s : State) : Host.Outcome State Fault Refusal :=
  .next
    (let d := s.time.dpll
     let q := s.quire.active
     match d.selected, d.within with
     | some r, some w =>
       let dwell := rungField q d.rung 4 * ticksPerSec
       if d.state = 0 ∨ 4 ≤ d.state ∨ ¬ decidesRefs s ∨ now s < d.rungSince + dwell ∨ now s < w + dwell then s
       else if d.rung < finalRung q r then
         let s1 := setDpll (fun x => { x with rung := x.rung + 1, rungSince := now s, within := none }) s
         if d.state = 1 then dpllEnter 2 s1 else s1
       else if d.state = 1 then dpllEnter 2 s
       else s
     | _, _ => s)

/-! ### Synthesis (R374, R375, R380) -/

/-- Every network port, fabric lane, stitch lane and Ethernet media lane goes down (R375). -/
def ethrefDown (s : State) : State :=
  let ports := (s.net.ports.filter fun p => decide (p.2.state = 2)).map (·.1)
  let lanes := (s.fabric.lanes.filter fun p => decide (2 ≤ p.2.state ∧ p.2.state ≤ 5)).map (·.1)
  let s1 := ports.foldl (fun t p => portFall p 0 1 t) s
  lanes.foldl (fun t l => fabDetect l t) s1

/-- What gating a synthesiser off or on does (R375). DEDUCED (unsafe, log 87). -/
def gateEffects (d : Nat) (on : Bool) (s : State) : State :=
  if d = 11 then domainEnter 0 (if on then 2 else 0) s
  else if d = 12 then domainEnter 1 (if on then 2 else 0) s
  else if d = 13 ∧ ¬ on then ethrefDown s
  else s

/-- A synthesiser's state (R380). -/
def synthState (s : State) (d : Nat) : Nat := mget (fun _ => 0) s.time.synth d

/-- Sets a synthesiser's state. -/
def setSynth (d v : Nat) (s : State) : State :=
  setTime (fun t => { t with synth := mset (fun _ => 0) t.synth d v }) s

/-- SYNTH_LOCK_LOSS (R375): a synthesiser, by its domain number, loses lock and is gated off; its relock waits for the
governor (R581). DESIGN CHOICE (unsafe, log 157). -/
def execSynthLockLoss (domain : Nat) (s : State) : Host.Outcome State Fault Refusal :=
  .next
    (if domain < 9 ∨ 13 < domain ∨ synthState s domain ≠ 2 then s
     else
       let s1 := setTime (fun t => { t with losses := cAdd t.losses domain 1 }) (setSynth domain 3 s)
       addLoad ⟨2, 500 + domain, 2, 1, now s⟩ (gateEffects domain false (rfcEvent 4 domain 3 s1)))

/-- SYNTH_RELOCK (R375): a gated synthesiser has relocked and is ungated at its grid edge. -/
def execSynthRelock (domain : Nat) (s : State) : Host.Outcome State Fault Refusal :=
  .next
    (if domain < 9 ∨ 13 < domain ∨ synthState s domain ≠ 3 ∨ loadWaits s (500 + domain) 2 then s
     else gateEffects domain true (setSynth domain 2 s))

/-- SYSREF_LOSS (R374): SYSREF, or the lock of the ROOT MDLL, is lost: a fatal fault. -/
def execSysrefLoss (root : Bool) (s : State) : Host.Outcome State Fault Refusal :=
  .next
    (if s.boot.inReset then s
     else
       let d := if root then 0 else 7
       raise (if root then 903 else 902) 0 0 (setTime (fun t => { t with losses := cAdd t.losses d 1 }) s))

/-! ### Pulse outputs (R367 to R369) -/

/-- A field of a pulse entry (Table 12.11). -/
def pulseField (q : Quire) (o f k : Nat) : Nat := qRd q fRef (0x2C0 + 32 * o + f) k

/-- The reference that an align value names (Table 12.11). -/
def alignRef (a : Nat) : Option Nat :=
  if 1 ≤ a ∧ a ≤ 8 then some (a - 1) else if 9 ≤ a ∧ a ≤ 12 then some (a - 1)
  else if a = 13 then some 12 else none

/-- The output period of a pulse output in ticks (R367). -/
def pulsePeriod (q : Quire) (o : Nat) : Nat :=
  if 4 ≤ o then ticksPerSec else pulseField q o 4 1 * framePeriod (pulseField q o 2 2)

/-- The average phase of the input of an output against its grid, in hundredths of a tick, nearest to the phase
in use (R368). -/
def inputPhase (s : State) (o : Nat) (cur : Int) : Option Int :=
  let q := s.quire.active
  match alignRef (pulseField q o 1 1) with
  | none => none
  | some r =>
    let x := refAt s r
    if (x.q ≠ 4 ∧ x.q ≠ 5) ∨ x.pulses = [] then none
    else
      let per : Int := 100 * pulsePeriod q o
      let ds := x.pulses.map fun p => nearZero (p - cur) per
      some (cur + ds.sum / ds.length)

/-- PULSE_OUTPUT_EDGE (R367 to R369): the edge of output `o` whose number is `k`: a frame count for FPULSE, a
second for PPS. The phase moves by at most 10 ns a period; a squelched or disabled output emits nothing. -/
def execPulseOutputEdge (o k : Nat) (s : State) : Host.Outcome State Fault Refusal :=
  .next
    (let q := s.quire.active
     let fl := pulseField q o 0 1
     let x := mget (fun _ => ({} : PulseOut)) s.time.pulses o
     if 6 ≤ o ∨ ¬ bit fl 0 ∨ x.lastEdge = some k ∨ (o < 4 ∧ k % pulseField q o 4 1 ≠ 0) then s
     else
       let step : Int := 1000 * ticksPerNs
       let ph : Int := match inputPhase s o x.phase with
         | some v => x.phase + max (-step) (min step (v - x.phase))
         | none => if pulseField q o 1 1 = 0 then 0 else x.phase
       let nominal : Int := if o < 4 then (alignInstant (pulseField q o 2 2) k : Nat) else (k * ticksPerSec : Nat)
       let t : Int := nominal + qRdI q fRef (0x2C0 + 32 * o + 8) 4 * ticksPerNs + ph / 100
       let quiet := (decide (4 ≤ o) && bit fl 2 && !s.tb.acquired) || (bit fl 3 && s.time.dpll.holdExpire)
       let s1 := setTime (fun y =>
         { y with pulses := mset (fun _ => ({} : PulseOut)) y.pulses o ⟨ph, some k⟩ }) s
       if quiet then s1
       else emit (.pulse o (edgeStep t.toNat) (pulseField q o 0xC 4) (bit fl 1)) s1)

/-! ### Commands (R377 to R380) -/

/-- REF_ACT (R370): 0b111 until the DPLL first runs, 0 in FREERUN and HOLDOVER, else the class of the selected
reference. -/
def refAct (s : State) : Nat :=
  let d := s.time.dpll
  if ¬ d.ran then 7
  else if d.state = 0 ∨ d.state = 5 then 0
  else match d.selected with
    | none => 0
    | some r => if r < 8 then 5 else if r < 12 then 4 else if r = 12 then 3 else if r = 13 then 1 else 2

/-- The REF_LOCK pin (Table 12.4). -/
def refLock (s : State) : Bool :=
  let d := s.time.dpll
  let of (st : Nat) : Bool := decide (st = 2) || (decide (st = 3) && bit (qRd s.quire.active fRef 3 1) 0)
  d.ran && (if d.state = 4 then of d.bridgedFrom else of d.state)

/-- RFC_DPLL_STATUS (Table 12.7). -/
def rfcDpllStatus (s : State) : Nat :=
  let d := s.time.dpll
  d.state + 8 * d.rung + 64 * (d.selected.getD 0xF) + 1024 * refAct s + 8192 * b2n (refLock s) +
    16384 * b2n (d.ran && decide (d.state = 5)) + 32768 * b2n d.holdExpire + 65536 * d.fly +
    131072 * b2n (decide (d.force ≠ 0)) + 262144 * b2n s.tb.acquired

/-- RFC_EVENTS (Table 12.8). -/
def rfcEvents (s : State) : Nat :=
  s.time.dpll.rfc.toNat + 65536 *
    (match s.time.dpll.bound with
     | some b => min (cdiv b asPerNs) 0xFFFF
     | none => 0xFFFF)

/-- A reference record of REF_STATUS (R377). -/
def refRecord (s : State) (r : Nat) : Bytes :=
  let q := s.quire.active
  let x := refAt s r
  let left := x.soak + refField q r 0x10 2 * ticksPerSec - now s
  le 1 r ++ le 1 x.q ++ le 1 (refField q r 1 1) ++ zeros 1 ++ leI 4 (x.offset.getD 0) ++
    leI 8 (if isTimeRef q r then x.phase else 0) ++ le 4 (if x.q = 3 then left / ticksPerMs else 0) ++
    le 2 x.faults.toNat ++ le 2 x.rejections.toNat ++ le 8 (nsOf x.stateTime)

/-- The header and records of REF_STATUS. -/
def refStatus (s : State) : Bytes :=
  let d := s.time.dpll
  le 1 d.state ++ le 1 d.rung ++ le 1 (d.selected.getD 0xFF) ++
    le 1 (b2n (decide (d.force ≠ 0)) + 2 * d.fly + 4 * b2n d.holdExpire + 8 * b2n s.tb.acquired) ++
    le 1 (refAct s) ++ zeros 3 ++ le 8 (nsOf d.stateTime) ++ (List.range 15).flatMap (refRecord s)

/-- The parameters "u8 options (bit 0 clear after read) and three reserved bytes". -/
def clearForm (r : Req) : List (Bool × Nat) := [(decide (rd r.params 0 1 ≤ 1), 0), (isZero r.params 1 3, 1)]

/-- REF_STATUS (R377). -/
def execRefStatus (r : Req) (s : State) : Host.Outcome State Fault Refusal :=
  .next (command 0x0C01
    (fun r s => needLen 4 r s fun _ => needForm (clearForm r) s fun _ =>
      let clear := bit (rd r.params 0 1) 0
      let wipe (t : State) (k : Nat) : State := setRef k (fun y => { y with faults := 0, rejections := 0 }) t
      { st := if clear then (List.range 15).foldl wipe s else s
        params := refStatus s
        clearing := clear }) r s)

/-- REF_SELECT (R378): it takes effect at the next evaluation, and the reply leaves then. -/
def execRefSelect (r : Req) (s : State) : Host.Outcome State Fault Refusal :=
  .next (command 0x0C02
    (fun r s => needLen 8 r s fun _ =>
      let op := rd r.params 0 1
      let k := rd r.params 1 1
      needForm
        [(decide (op ≤ 2), 0), (decide (if op = 1 then k < 15 else k = 0), 1), (isZero r.params 2 6, 2)] s fun _ =>
        if op = 1 ∧ (refAt s k).q ≠ 4 then refuse s stNotActive 0
        else if op = 2 ∧ ¬ s.tb.acquired then refuse s stNotActive 0
        else
          { st := setDpll (fun d => { d with pendingSel := d.pendingSel ++ [⟨op, k, r⟩] }) s
            later := some [op, k] }) r s)

/-- The greatest whole number of seconds for which the bound stays within the specification, by bisection on
`fuel` bits. -/
def expireAux (s : State) (spec : Nat) : Nat → Nat → Nat
  | 0, n => n
  | f + 1, n =>
    if s.time.dpll.b0 + growthIn s ((n + 2 ^ f) * ticksPerSec) ≤ spec then expireAux s spec f (n + 2 ^ f)
    else expireAux s spec f n

/-- expire_in_s (Table 12.14). -/
def expireIn (s : State) : Nat :=
  let spec := qRd s.quire.active fRef 8 4 * asPerNs
  let d := s.time.dpll
  if d.state = 0 then 0
  else if d.state ≤ 2 then 0xFFFFFFFF
  else if spec < d.b0 + growthIn s 0 then 0
  else expireAux s spec 32 0

/-- The REF_HOLDOVER reply (Table 12.14). DEDUCED (unsafe, log 85). -/
def refHoldover (s : State) : Bytes :=
  let d := s.time.dpll
  let mode := if d.state = 0 then 4 else if d.state ≤ 2 then 0 else if d.state = 3 then 3
    else if d.state = 4 then 1 else 2
  let ns (b : Option Nat) : Nat := match b with
    | some b => min (cdiv b asPerNs) 0xFFFFFFFE
    | none => 0xFFFFFFFF
  le 1 d.fly ++ le 1 mode ++ le 1 (b2n d.holdExpire) ++ le 1 (b2n (learnt s)) ++
    le 4 (qRd s.quire.active fRef 8 4) ++
    le 8 (if mode = 0 then 0 else match d.entry with
      | some t => nsOf t
      | none => 0) ++
    le 4 (ns (if mode = 0 then d.bound else if mode = 4 then none else some d.b0)) ++ le 4 (ns d.bound) ++
    le 4 (expireIn s) ++ leI 4 (ratePpt (if d.fly = 1 then d.learntAtom else d.learntSys)) ++
    le 4 (kfInUse s) ++ zeros 4

/-- REF_HOLDOVER (R379). -/
def execRefHoldover (r : Req) (s : State) : Host.Outcome State Fault Refusal :=
  .next (command 0x0C03 (fun r s => needLen 0 r s fun _ => okay s (refHoldover s)) r s)

/-- The state of a clock domain (R380): the ROOT family and SYSREF run while the device does; a synthesiser as it
is; GNSS while its clock is good; HOST while PERST_N is high. -/
def clkState (s : State) (d : Nat) : Nat :=
  if 9 ≤ d ∧ d ≤ 13 then synthState s d
  else if d = 15 then (if s.time.gnss.goodClock then 2 else 0)
  else if d = 16 then (if s.host.perst then 0 else 2)
  else 2

/-- A CLK_STATUS record (R380): the measured frequency is what the device measures; LANERX and TCK give a nominal
the manual does not number. DESIGN CHOICE (unsafe, log 86). -/
def clkRecord (s : State) (d : Nat) : Bytes :=
  le 1 d ++ le 1 (clkState s d) ++ zeros 2 ++
    le 4 ((if d = 14 ∨ d = 17 then Config.code 0x0C04 d else Config.freeNat (s.free + d)) % 2 ^ 32) ++
    le 4 (cGet s.time.losses d).toNat ++ zeros 4

/-- CLK_STATUS (R380). DESIGN CHOICE (unsafe, log 86). -/
def execClkStatus (r : Req) (s : State) : Host.Outcome State Fault Refusal :=
  .next (command 0x0C04
    (fun r s => needLen 4 r s fun _ => needForm (clearForm r) s fun _ =>
      let clear := bit (rd r.params 0 1) 0
      let s1 := drawMany 18 s
      { st := if clear then setTime (fun t => { t with losses := [] }) s1 else s1
        params := (List.range 18).flatMap (clkRecord s)
        clearing := clear }) r s)

end Sys2Proof.Machine
end

