-- ==== Sys2Proof/Machine/TimeOps.lean ====
section
/-! DEFINITION. The time base's steps, UTC, and the rows of R381 to R392, R419, R420. -/

namespace Sys2Proof.Machine

/-! ### Steps of the time base (R385, R386) -/

/-- An instant moved by `d` ticks. DEDUCED (unsafe, log 88). -/
def shiftT (d : Int) (t : Nat) : Nat := ((t : Int) + d).toNat

/-- The references' own instants move with the time base, so that the durations measured from them do not.
DEDUCED (unsafe, log 88). -/
def shiftRefs (d : Int) (t : TimeSvc) : TimeSvc :=
  let f := shiftT d
  let one (x : RefState) : RefState :=
    { x with
      soak := f x.soak, qualSince := f x.qualSince, bridgeSince := f x.bridgeSince, stateTime := f x.stateTime
      pulses := x.pulses.map (· + 100 * d) }
  let y := t.dpll
  let dp :=
    { y with
      rungSince := f y.rungSince, within := y.within.map f, errs := y.errs.map fun e => (f e.1, e.2)
      stateTime := f y.stateTime, lockedSince := y.lockedSince.map f
      rates := y.rates.map fun e => (f e.1, e.2), entry := y.entry.map f, evalSec := none }
  { t with refs := t.refs.map fun p => (p.1, one p.2), dpll := dp, pulses := [] }

/-- The twin engine's leases and cycles on the new scale. DEDUCED (unsafe, log 88). -/
def shiftTwin (d : Int) (cycle : Nat) (x : Twin) : Twin :=
  let f := shiftT d
  { x with
    lastHeard := x.lastHeard.map f, ownLease := x.ownLease.map f, freeAt := x.freeAt.map f
    startedAt := f x.startedAt, partnerFoldAt := x.partnerFoldAt.map f, roleTime := f x.roleTime
    doneCycle := cycle }

/-- An engine at a step of the time base (R386): it ends its frame, and the shepherd layer keeps its fade steps on the new
scale. DEDUCED (unsafe, log 88). -/
def stepEngine (q : Quire) (old new : Nat) (p : Nat × Engine) : Nat × Engine :=
  let tf := framePeriod (leField q p.1 2 2)
  (p.1, { shepRebase (old / tf) (new / tf) p.2 with eras := [], mode := p.2.mode.map fun _ => new })

/-- A synchroniser at a step (R386): it ends its frame, and holds none of the old scale. DEDUCED (unsafe, log 88). -/
def stepSync (d : Int) (p : Nat × Sync) : Nat × Sync :=
  (p.1, { p.2 with frames := [], choices := [], last := none, restartAt := p.2.restartAt.map (shiftT d) })

/-- The sample counts of DOM48 and DOM441 restart on the new grid (R386). -/
def restartCounts (l : List (Nat × Section)) : List (Nat × Section) :=
  l.map fun p => if p.1 < 6 then (p.1, { p.2 with next := 0 }) else p

/-- The time base is written (R385, R386): every instant derived from it changes. Each enabled destination shows
nothing until its next switch point, sample counts restart, stitch cycles are renumbered, and every source is
re-evaluated. DEDUCED (unsafe, log 88). -/
def writeTimeBase (incs : Nat) (s : State) : State :=
  let old := s.tb.sec.toNat * incsPerSec + s.tb.inc
  let d : Int := ((incs : Int) - old) * ticksPerStep
  let tb := { s.tb with sec := BitVec.ofNat 48 (incs / incsPerSec), inc := incs % incsPerSec }
  let s1 : State := { s with tb := tb }
  let s2 : State :=
    { s1 with
      time := shiftRefs d s1.time
      twin := shiftTwin d (cycleNow s1) s1.twin
      layers := { s1.layers with engines := s1.layers.engines.map (stepEngine s.quire.active (now s) (now s1)) }
      dram := { s1.dram with syncs := s1.dram.syncs.map (stepSync d) }
      audio := { s1.audio with sections := restartCounts s1.audio.sections } }
  let dark (t : State) (i : Nat) : State :=
    if dstEnabled t.quire.active i then setDst i (fun x => { x with transit := true }) t else t
  let s3 := (List.range 1536).foldl dark s2
  let s4 := (s3.spine.src.map (·.1)).foldl (fun t i => evaluateSource i t) s3
  setTime (fun t => { t with secondsSet := true, gnss := { t.gnss with skip8 := true } }) s4

/-- ACQUISITION_STEP (R385): at the end of the cycle in which a first time reference was selected, the time base
is set to it, and is acquired; a twin without the crook takes its partner's step, in increments (R384). -/
def execAcquisitionStep (copied : Option Int) (s : State) : Host.Outcome State Fault Refusal :=
  .next
    (let old : Int := (s.tb.sec.toNat * incsPerSec + s.tb.inc : Nat)
     let go (delta : Int) : State :=
       let s1 := writeTimeBase (old + delta).toNat s
       setTime (fun t => { t with stepDue := none }) { s1 with tb := { s1.tb with acquired := true } }
     if s.tb.acquired ∨ s.boot.inReset then s
     else if decidesRefs s then
       match s.time.stepDue, s.time.dpll.selected with
       | some t, some r => if t ≤ now s then go (-(refAt s r).phase / 1250) else s
       | _, _ => s
     else
       match copied with
       | some d => go d
       | none => s)

/-- TIM_SET (R388): the value is taken at the end of the cycle, and the reply leaves then. DEDUCED (unsafe, log 89). -/
def execTimSet (r : Req) (s : State) : Host.Outcome State Fault Refusal :=
  .next (command 0x0D06
    (fun r s => needLen 16 r s fun _ =>
      needForm
        [(decide (rd r.params 0 8 < 2 ^ 48), 0), (decide (rd r.params 8 4 < 1000000000), 8),
          (isZero r.params 12 4, 12)] s fun _ =>
        if s.tb.acquired then refuse s stBadParam 0xFFFF
        else
          let p : PendingSet := ⟨rd r.params 0 8, rd r.params 8 4, cycleEndAfter (now s), r⟩
          { st := setTime (fun t => { t with pendingSet := t.pendingSet ++ [p] })
              (copyItem (.change (changeOf 0x0D06 r s)) s)
            later := some [] }) r s)

/-- TIM_SET_APPLY (R388): at the end of the cycle the time base takes the increment at or below the value; it is
not acquired by it. DEDUCED (unsafe, log 89). -/
def execTimSetApply (s : State) : Host.Outcome State Fault Refusal :=
  .next
    (match s.time.pendingSet, catalogue 0x0D06 with
     | p :: rest, some row =>
       if now s < p.due then s
       else
         let s1 := setTime (fun t => { t with pendingSet := rest }) s
         if s.tb.acquired then concludeLater row p.req (refuse s1 stBadParam 0xFFFF)
         else
           concludeLater row p.req
             (okay (writeTimeBase (p.sec * incsPerSec + p.ns * 4 / 5 + (now s - p.due) / ticksPerStep) s1) [])
     | _, _ => s)

/-- The quarter-nanosecond remainder (R381). -/
def quarterNow (s : State) : Nat := s.tb.inc * 5 % 4

/-- A short stamp: whole nanoseconds of an instant, modulo 2^32 (R389). -/
def shortStamp (ns : Nat) : Nat := ns % 2 ^ 32

/-- The host's extension of a short stamp from a snapshot of seconds and nanoseconds (R391). -/
def extendStamp (x sec ns : Nat) : Int :=
  let t := sec * 1000000000 + ns
  let d : Int := ((x : Int) - (t % 2 ^ 32 : Nat)) % 2 ^ 32
  t + (if d ≥ 2 ^ 31 then d - 2 ^ 32 else d)

/-- HST_TIME_NS (Table 13.1). -/
def hstTimeNs (s : State) : Nat := s.tb.inc * 5 / 4 + 2 ^ 30 * quarterNow s

/-- HST_TIME_NS_READ (R390): the read samples the time base and latches its seconds. -/
def execHstTimeNsRead (s : State) : Host.Outcome State Fault Refusal :=
  .next
    (emit (.regRead 0x010 (hstTimeNs s))
      { s with
        host := { s.host with timeSecLatch := s.tb.sec.toNat, timeAcqLatch := s.tb.acquired } })

/-! ### TAI and UTC (R392) -/

/-- The UTC data a constellation states that the receiver takes (R436): two constellations agree, or one has stated
it twice in a row. -/
def gnssUtc (s : State) : Option NavUtc :=
  s.time.gnss.utc.find? fun a =>
    decide (2 ≤ a.times) ||
      s.time.gnss.utc.any fun b => decide (b.con ≠ a.con ∧ b.offset = a.offset ∧ b.delta = a.delta ∧ b.leapNs = a.leapNs)

/-- What the first source that provides TAI − UTC provides (R392): its number (1 PTP, 2 GNSS, 3 the folio) and its
offset. -/
def utcSource (s : State) : Nat × Int :=
  let q := s.quire.active
  match (instAt s (refInstance q)).master.bind (·.utc) with
  | some o => (1, o)
  | none =>
    match gnssUtc s with
    | some u => (2, u.offset)
    | none => (3, qRdI q fTime 4 2)

/-- The leap of the folio: its instant in ticks and its delta. -/
def folioLeap (q : Quire) : Option (Nat × Int) :=
  let t := qRd q fTime 0x10 8
  let d := qRdI q fTime 0x18 1
  if t = 0 ∨ d = 0 then none else some (t * ticksPerNs, d)

/-- TAI − UTC in force (R392): that of the source, but a change by the same received source takes effect only at
the leap instant. DEDUCED (unsafe, log 90). -/
def utcNow (s : State) : Int :=
  let u := utcSource s
  if u.1 = 3 then
    u.2 + (match folioLeap s.quire.active with
      | some l => if l.1 ≤ now s then l.2 else 0
      | none => 0)
  else if s.time.utcSrc = u.1 then s.time.utc
  else u.2

/-- The pending leap: its instant in ticks and its delta. DEDUCED (unsafe, log 90). -/
def pendingLeap (s : State) : Option (Nat × Int) :=
  if (utcSource s).1 = 3 then
    match folioLeap s.quire.active with
    | some l => if l.1 = s.time.leapDone then none else some l
    | none => none
  else if s.time.leapAt = 0 then none else some (s.time.leapAt, s.time.leapBy)

/-- The received source in use is noted, with the offset it brings. DEDUCED (unsafe, log 90). -/
def noteUtc (s : State) : State :=
  let u := utcSource s
  if u.1 = s.time.utcSrc then s else setTime (fun t => { t with utc := u.2, utcSrc := u.1 }) s

/-- LEAP_SECOND (R392): the leap instant is reached, and TAI − UTC changes. DEDUCED (unsafe, log 90). -/
def execLeapSecond (s : State) : Host.Outcome State Fault Refusal :=
  .next
    (match pendingLeap s with
     | some l =>
       if l.1 ≤ now s ∧ s.time.leapDone ≠ l.1 then
         let o := if (utcSource s).1 = 3 then utcNow s else utcNow s + l.2
         setTime (fun t =>
           { t with utc := o, utcSrc := (utcSource s).1, leapDone := l.1, leapAt := 0, leapBy := 0 }) s
       else s
     | none => s)

/-! ### TIM_READ and TIM_BOUND -/

/-- The bound field: E, or 0xFFFF_FFFF for unlimited (R412). -/
def boundField (s : State) : Nat := s.time.bound.getD 0xFFFFFFFF

/-- The TIM_READ reply (Table 13.13); in ENDED it shows an unacquired time base of 0 (R502). -/
def timRead (s : State) : Bytes :=
  let ended := decide (lifeCycle s = 5)
  let l := pendingLeap s
  let fl := b2n (s.tb.acquired && !ended) + 2 * b2n s.drv.fenced + 4 * b2n s.time.dpll.holdExpire +
    8 * b2n l.isSome + 16 * b2n (decide ((utcSource s).1 ≠ 3))
  le 8 (if ended then 0 else s.tb.sec.toNat) ++ le 4 (if ended then 0 else s.tb.inc * 5 / 4) ++
    le 1 (if ended then 0 else quarterNow s) ++ le 1 s.time.dpll.state ++ le 1 fl ++ zeros 1 ++
    le 4 (boundField s) ++ leI 2 (utcNow s) ++ leI 1 ((l.map (·.2)).getD 0) ++ zeros 1 ++
    le 8 (nsOf ((l.map (·.1)).getD 0))

/-- TIM_READ (R419). -/
def execTimRead (r : Req) (s : State) : Host.Outcome State Fault Refusal :=
  .next (command 0x0D01 (fun r s => needLen 0 r s fun _ => okay s (timRead s)) r s)

/-- A term given in 10^-18 s as a field in 0.01 ns, rounded up (R420). -/
def term (a : Nat) : Nat := min (cdiv a 10000000) 0xFFFFFFFF

/-- The TIM_BOUND reply (Table 13.14). -/
def timBound (s : State) : Bytes :=
  let d := s.time.dpll
  let e := composed s
  le 1 d.state ++ le 1 ((if d.selected.isSome then d.selected else d.last).getD 0xFF) ++
    le 1 (b2n (decide (s.twin.role = .standby)) + 2 * b2n s.drv.fenced + 4 * b2n e.isNone) ++ zeros 1 ++
    le 4 (term (d.configured * asPerNs)) ++ le 4 (term (d.reported * asPerNs)) ++
    le 4 (term (d.path * asPerNs)) ++ le 4 (term (d.servo * 1000000)) ++ le 4 (term d.growth) ++
    le 4 (term (outputTerm s * asPerNs)) ++
    le 4 (match e with
      | some x => term x
      | none => 0xFFFFFFFF) ++
    le 4 (term (fenceBound s * asPerNs)) ++ zeros 4 ++ le 8 (nsOf d.evalTime)

/-- TIM_BOUND (R420). -/
def execTimBound (r : Req) (s : State) : Host.Outcome State Fault Refusal :=
  .next (command 0x0D02 (fun r s => needLen 0 r s fun _ => okay s (timBound s)) r s)

end Sys2Proof.Machine
end

