-- ==== Sys2Proof/Machine/Ptp.lean ====
section
/-! DEFINITION. PTP instances, their messages and unicast sessions (R393 to R406, R412 to R415, R421, R422). -/

namespace Sys2Proof.Machine

/-! ### Entries and state -/

/-- A signed byte of an instance entry. -/
def piLog (q : Quire) (i o : Nat) : Int := qRdI q fTime (0x40 + 64 * i + o) 1

/-- A field of a PTP port entry (Table 13.11). -/
def ppField (q : Quire) (p o k : Nat) : Nat := qRd q fTime (0x240 + 32 * p + o) k

/-- Whether an instance is enabled. -/
def piEnabled (q : Quire) (i : Nat) : Bool := decide (i < 8) && bit (piField q i 0 1) 0

/-- The enabled instance a port entry belongs to. -/
def portInst (q : Quire) (p : Nat) : Option Nat :=
  (List.range 8).find? fun i => piEnabled q i && (piPorts q i).contains p

/-- The period of a log interval in ticks. -/
def logTicks (l : Int) : Nat :=
  if 0 ≤ l then ticksPerSec * 2 ^ l.toNat else ticksPerSec / 2 ^ (-l).toNat

/-! ### Message fields (IEEE 1588-2019) -/

/-- The identity of this device's clock (Table 13.5). -/
def clockId (s : State) : Bytes := fit 8 s.keys.eui64

/-- A timestamp of a message in 2^-16 ns. -/
def tsField (m : Bytes) (o : Nat) : Int := ((rdB m o 6 * 1000000000 + rdB m (o + 6) 4) * 65536 : Nat)

/-- The correctionField. -/
def corrField (m : Bytes) : Int :=
  let n := rdB m 8 8
  if n < 2 ^ 63 then (n : Int) else (n : Int) - 2 ^ 64

/-- A signed byte of a message. -/
def logField (m : Bytes) (o : Nat) : Int :=
  let n := rdB m o 1
  if n < 128 then (n : Int) else (n : Int) - 256

/-- A stamp of 0.25 ns as a PTP timestamp. -/
def tsBytes (q4 : Nat) : Bytes := be 6 (q4 / 4000000000) ++ be 4 (q4 / 4 % 1000000000)

/-- A signed number in network order. -/
def beI (k : Nat) (n : Int) : Bytes := (leI k n).reverse

/-- The TLVs of a message from offset `o`, as (type, offset of the TLV, value), on `fuel` of them. -/
def tlvs : Nat → Bytes → Nat → List (Nat × Nat × Bytes)
  | 0, _, _ => []
  | f + 1, m, o =>
    if m.length < o + 4 then []
    else
      let n := rdB m (o + 2) 2
      (rdB m o 2, o, slice m (o + 4) n) :: tlvs f m (o + 4 + n)

/-- Where the TLVs of a message begin. -/
def tlvStart (kind : Nat) : Nat :=
  match kind with
  | 0 => 44 | 1 => 44 | 8 => 44 | 9 => 54 | 11 => 64 | 12 => 44 | _ => 44

/-! ### Authentication (R402, R403) -/

/-- The next key is due: key_next is set and its time has come. -/
def rollDue (s : State) (i : Nat) : Bool :=
  let q := s.quire.active
  decide (piField q i 0x10 2 ≠ 0xFFFF) && decide (piField q i 0x20 8 * ticksPerNs ≤ now s)

/-- The instance sends under its next key from key_next_time (R403). -/
def rollOver (i : Nat) (s : State) : State := setInst i (fun x => { x with onNext := rollDue s i }) s

/-- KEY_ROLLOVER (R403). -/
def execKeyRollover (inst : Nat) (s : State) : Host.Outcome State Fault Refusal :=
  .next (if piEnabled s.quire.active inst then rollOver inst s else s)

/-- The keys an instance accepts now: keyID and slot (R403). -/
def acceptKeys (s : State) (i : Nat) : List (Nat × Nat) :=
  let q := s.quire.active
  let cur := (piField q i 0x14 4, piField q i 0x0E 2)
  let nxt := (piField q i 0x18 4, piField q i 0x10 2)
  let t := piField q i 0x20 8 * ticksPerNs
  if nxt.2 = 0xFFFF ∨ now s + 60 * ticksPerSec < t then [cur]
  else if now s ≤ t + 60 * ticksPerSec then [cur, nxt]
  else [nxt]

/-- The ICV of a message up to an offset, its correctionField taken as zero (R402). -/
def ptpIcv (key m : Bytes) (o : Nat) : Bytes :=
  fit 16 (Config.hmac256 key (m.take 8 ++ zeros 8 ++ slice m 16 (o - 16)))

/-- Whether a message carries a valid AUTHENTICATION TLV: none without one. -/
def authCheck (i : Nat) (m : Bytes) (s : State) : State × Option Bool :=
  match (tlvs 32 m (tlvStart (rdB m 0 1 % 16))).find? fun t => decide (t.1 = 0x8009) with
  | none => (s, none)
  | some t =>
    match (acceptKeys s i).find? fun k => decide (k.1 = rdB t.2.2 2 4) with
    | none => (s, some false)
    | some k =>
      let u := keyUse k.2 7 1 0xF003 s
      match u.2 with
      | none => (u.1, some false)
      | some slot =>
        let good := decide (rdB t.2.2 0 1 = piField s.quire.active i 0xC 1) &&
          decide (t.2.2.length = 22) && decide (slice t.2.2 6 16 = ptpIcv slot.key m (t.2.1 + 10))
        (u.1, some good)

/-- The AUTHENTICATION TLV is set on a message where auth_send asks for it; a refused key sends it without one
(R402, R489). -/
def signPtp (i : Nat) (m : Bytes) (s : State) : State × Bytes :=
  let q := s.quire.active
  if ¬ bit (piField q i 0 1) 5 then (s, m)
  else
    let s1 := rollOver i s
    let next := (instAt s1 i).onNext
    let slot := piField q i (if next then 0x10 else 0x0E) 2
    let u := keyUse slot 7 1 0xF003 s1
    match u.2 with
    | none => (u.1, m)
    | some k =>
      let head := m.take 2 ++ be 2 (m.length + 26) ++ m.drop 4
      let body := head ++ be 2 0x8009 ++ be 2 22 ++ be 1 (piField q i 0xC 1) ++ be 1 0 ++
        be 4 (piField q i (if next then 0x18 else 0x14) 4)
      (u.1, body ++ ptpIcv k.key body body.length)

/-! ### The data sets (R397, Table 13.5) -/

/-- clockClass (Table 13.5). -/
def clockClass (s : State) : Nat :=
  let d := s.time.dpll
  if ¬ s.tb.acquired then 248
  else if d.state = 2 then 6
  else if d.state = 4 ∨ d.state = 5 then (if d.holdExpire then 52 else 7)
  else 248

/-- clockAccuracy (Table 13.5). -/
def clockAccuracy (s : State) : Nat :=
  match composed s with
  | none => 0xFE
  | some e =>
    match [(0x20, 25), (0x21, 100), (0x22, 250), (0x23, 1000), (0x24, 2500), (0x25, 10000), (0x26, 25000),
        (0x27, 100000), (0x28, 250000), (0x29, 1000000), (0x2F, 1000000000)].find? fun p =>
          decide (e ≤ p.2 * asPerNs) with
    | some p => p.1
    | none => 0xFE

/-- timeSource (Table 13.5). -/
def timeSource (s : State) : Nat :=
  let d := s.time.dpll
  let of (r : Option Nat) : Nat := match r with
    | some r => if r = 13 then 0x20 else if r = 14 then 0x40 else if 8 ≤ r then 0x10 else 0xA0
    | none => 0xA0
  if ¬ s.tb.acquired ∨ d.state = 0 ∨ d.state = 3 then 0xA0
  else if d.state = 4 ∨ d.state = 5 then of d.last else of d.selected

/-- The clock quality of a class: class, accuracy, variance. -/
def quality (s : State) (cls : Nat) : Nat := cls * 2 ^ 24 + clockAccuracy s * 2 ^ 16 + 0x4E5D

/-- The data set of this device in an instance's comparison. An instance that is the time's own source compares
as a clock not synchronised. DEDUCED (unsafe, log 92). -/
def ownData (s : State) (i : Nat) : Foreign :=
  let q := s.quire.active
  let fed := decide (i = refInstance q) && decide (s.time.dpll.selected = some 14)
  { identity := clockId s, portNo := 0, gm := clockId s, priority1 := piField q i 4 1
    quality := quality s (if fed then 248 else clockClass s), priority2 := piField q i 5 1, steps := 0
    timeSource := timeSource s, utc := none, leap := 0, bound := none, heard := [], addr := [] }

/-- The order of the data set comparison: smaller is better. -/
def dataKey (f : Foreign) : List Nat :=
  [f.priority1, f.quality, f.priority2, beNat f.gm, f.steps, beNat f.identity, f.portNo]

/-- Whether `a` is better than `b` by the best-master comparison. DEDUCED (unsafe, log 92). -/
def better (a b : Foreign) : Bool := decide (dataKey a < dataKey b)

/-- The best of a list of data sets. DEDUCED (unsafe, log 92). -/
def bestOf (l : List Foreign) : Option Foreign :=
  l.foldl (fun b f => match b with
    | none => some f
    | some g => if better f g then some f else some g) none

/-- The masters of a port that count: heard twice within four Announce intervals. PRESUMED (unsafe, log 91). -/
def qualifiedMasters (s : State) (i p : Nat) : List Foreign :=
  let w := 4 * logTicks (piLog s.quire.active i 6)
  (ppAt s p).masters.filter fun f =>
    decide (2 ≤ (f.heard.filter fun t => decide (now s ≤ t + w)).length) && decide (f.gm ≠ clockId s)

/-- The announce receipt timeout of an instance in ticks. -/
def announceTimeout (q : Quire) (i : Nat) : Nat := piField q i 9 1 * logTicks (piLog q i 6)

/-- The selected master of an instance changes (R396): measurements begin again. -/
def selectMaster (i : Nat) (p : Option Nat) (m : Option Foreign) (s : State) : State :=
  let x := instAt s i
  let same : Bool := match x.master, m with
    | some a, some b => decide (a.identity = b.identity ∧ a.portNo = b.portNo) && decide (x.slavePort = p)
    | none, none => true
    | _, _ => false
  noteUtc (setInst i (fun y =>
    if same then { y with master := m }
    else { y with master := m, slavePort := p, syncs := 0, resp := false, open_ := none, delayReq := none }) s)

/-- The state decision for a port of an instance, given the best master of all and whether this device beats it.
PRESUMED (unsafe, log 91). -/
def decidePort (i : Nat) (best : Option (Nat × Foreign)) (s : State) (p : Nat) : State :=
  let q := s.quire.active
  let role := ppField q p 2 1
  let own := ownData s i
  let gm := bit (piField q i 0 1) 1
  let st := (ppAt s p).state
  if st ≤ 1 then s
  else
    match best with
    | none =>
      let visible := (piPorts q i).any fun o => decide (qualifiedMasters s i o ≠ [])
      if role = 2 ∨ ¬ gm ∨ (¬ s.tb.acquired ∧ visible) then ppEnter p 4 s
      else if st = 6 ∨ (ppAt s p).since + announceTimeout q i ≤ now s then ppEnter p 6 s
      else s
    | some b =>
      if gm && s.tb.acquired && better own b.2 then
        (if role = 2 then ppEnter p 4 s else ppEnter p 6 s)
      else if b.1 = p then (if st = 9 then s else ppEnter p 8 s)
      else
        match bestOf (qualifiedMasters s i p) with
        | some f => if f.gm = b.2.gm ∧ better f { b.2 with steps := b.2.steps + 1 } then ppEnter p 7 s
            else if role = 2 then ppEnter p 4 s else ppEnter p 6 s
        | none => if role = 2 then ppEnter p 4 s else ppEnter p 6 s

/-- The best-master comparison of an instance and its state decisions (R393, R397, R406); held through a
control-plane restart (R415). PRESUMED (unsafe, log 91). -/
def bestMaster (i : Nat) (s : State) : State :=
  if ¬ vegenUp s then s
  else
    let q := s.quire.active
    let open_ := (piPorts q i).filter fun p => decide (ppField q p 2 1 ≠ 1)
    let cands := open_.flatMap fun p => (qualifiedMasters s i p).map fun f => (p, f)
    let best := cands.foldl (fun b c => match b with
      | none => some c
      | some d => if better c.2 d.2 then some c else some d) (none : Option (Nat × Foreign))
    let s1 := (piPorts q i).foldl (decidePort i best) s
    match best with
    | some b =>
      if (ppAt s1 b.1).state = 8 ∨ (ppAt s1 b.1).state = 9 then selectMaster i (some b.1) (some b.2) s1
      else selectMaster i none none s1
    | none => selectMaster i none none s1

/-! ### The slave's measurements (R395, R396) -/

/-- Whether the ref_instance delivers Sync now (R396). -/
def ptpSupplies (s : State) (i : Nat) : Bool :=
  let x := instAt s i
  let w := 4 * logTicks (piLog s.quire.active i 7)
  match x.slavePort with
  | some p =>
    decide ((ppAt s p).state = 9) && decide (2 ≤ x.syncs) && x.resp &&
      decide (now s ≤ x.lastSync + w ∧ now s ≤ x.lastResp + w)
  | none => false

/-- After a measurement: UNCALIBRATED becomes SLAVE once two Syncs and one Delay_Resp have come from the new
master, and the ref_instance's activity is restored as soon as it delivers (R354, R396). -/
def measured (i p : Nat) (s : State) : State :=
  let x := instAt s i
  let full := decide (2 ≤ x.syncs) && x.resp
  let s1 := if full ∧ vegenUp s ∧ (ppAt s p).state = 8 then ppEnter p 9 s else s
  if i ≠ refInstance s.quire.active ∨ ¬ full then s1
  else
    let s2 := setRef 14 (fun y => { y with phase := x.offset * 1000 / 65536 }) s1
    if ptpSupplies s2 i then
      activityRestored 14 (setInst i (fun y => { y with delivers := true }) s2)
    else s2

/-- A Sync with its origin and arrival, both in 2^-16 ns. -/
def takeSync (i p : Nat) (origin arrived corr : Int) (s : State) : State :=
  let asym := qRdI s.quire.active fTime (0x240 + 32 * p + 4) 4 * 65536
  let d := arrived - origin - corr - asym
  measured i p (setInst i (fun x =>
    { x with syncDiff := d, offset := d - x.pathDelay, syncs := x.syncs + 1, lastSync := now s, open_ := none }) s)

/-- A Delay_Resp to the last Delay_Req. -/
def takeDelayResp (i p : Nat) (m : Bytes) (s : State) : State :=
  let x := instAt s i
  match x.delayReq with
  | some r =>
    if rdB m 30 2 ≠ r.1 ∨ slice m 44 8 ≠ clockId s ∨ rdB m 52 2 ≠ p + 1 then s
    else
      let back := tsField m 34 - r.2 - corrField m
      let path := (x.syncDiff + back) / 2
      measured i p (setInst i (fun y =>
        { y with
          pathDelay := path, offset := y.syncDiff - path, resp := true, lastResp := now s
          delayReq := none }) s)
  | none => s

/-- A REFERENCE_ACTIVITY_FAULT of reference 14 at its instance: it ceases to deliver, and its port counts a sync
fault (R396, R421). -/
def ptpFault (s : State) : State :=
  let i := refInstance s.quire.active
  let x := instAt s i
  if ¬ x.delivers then s
  else
    let s1 := setInst i (fun y => { y with delivers := false }) s
    match x.slavePort with
    | some p => setPp p (fun y => { y with faults := satInc y.faults }) s1
    | none => s1

/-- REFERENCE_ACTIVITY_FAULT (R354): the activity monitor of a reference detects a fault of Table 12.3. GNSS and
PTP have one only while the receiver, or the instance, does not supply them. -/
def execReferenceActivityFault (r : Nat) (s : State) : Host.Outcome State Fault Refusal :=
  .next
    (if 15 ≤ r ∨ (r = 13 ∧ s.time.gnss.valid) ∨ (r = 14 ∧ ptpSupplies s (refInstance s.quire.active)) then s
     else
       activityFault r ((if r = 14 then ptpFault else id)
         (setDpll (fun d => { d with atomOk := d.atomOk && decide (r ≠ 12) }) s)))

/-! ### Messages sent -/

/-- The next sequence number of a message type. -/
def nextSeqOf (i kind : Nat) (s : State) : Nat × State :=
  let n := mget (fun _ => 0) (instAt s i).seqs kind
  (n, setInst i (fun x => { x with seqs := mset (fun _ => 0) x.seqs kind ((n + 1) % 65536) }) s)

/-- A PTP message with its header. PRESUMED (unsafe, log 91). -/
def ptpMessage (s : State) (i p kind seq flags : Nat) (corr logInt : Int) (body : Bytes) : Bytes :=
  let ctl := match kind with
    | 0 => 0 | 1 => 1 | 8 => 2 | 9 => 3 | _ => 5
  be 1 kind ++ be 1 0x12 ++ be 2 (34 + body.length) ++ be 1 (piField s.quire.active i 2 1) ++ zeros 1 ++
    be 2 flags ++ beI 8 corr ++ zeros 4 ++ clockId s ++ be 2 (p + 1) ++ be 2 seq ++ be 1 ctl ++ beI 1 logInt ++
    body

/-- Sends a message through an instance's port, with its TLV, if the network port is up. -/
def sendPtp (i p : Nat) (addr m : Bytes) (s : State) : State :=
  if portUp s (ppField s.quire.active p 0 2) then
    let x := signPtp i m s
    emit (.ptp p addr x.2) x.1
  else s

/-- The bound TLV (R413, Table 13.7). -/
def boundTlv (s : State) : Bytes :=
  if ¬ bit (qRd s.quire.active fTime 6 1) 3 then []
  else
    let d := s.time.dpll
    let fl := b2n d.holdExpire + 2 * b2n (s.tb.acquired && decide (d.state ≠ 3)) + 4 * b2n s.drv.fenced
    be 2 0x8000 ++ be 2 14 ++ be 3 0xDA4B19 ++ be 3 1 ++ be 4 (boundField s) ++ be 1 d.state ++ be 1 fl ++ zeros 2

/-- The flags of an Announce: leap61, leap59, a valid UTC offset, the PTP timescale and traceability. -/
def announceFlags (s : State) : Nat :=
  let near := match pendingLeap s with
    | some l => if l.1 ≤ now s + 86400 * ticksPerSec then l.2 else 0
    | none => 0
  let tr := s.tb.acquired && decide (s.time.dpll.state ≠ 3)
  b2n (decide (near = 1)) + 2 * b2n (decide (near = -1)) + 4 * b2n s.tb.acquired + 8 + 48 * b2n tr

/-- The data set that an instance advertises (R397): its grandmaster's, or this device's own. -/
def advertised (s : State) (i : Nat) : Foreign :=
  match (instAt s i).master with
  | some m => { m with steps := m.steps + 1 }
  | none => { ownData s i with quality := quality s (clockClass s) }

/-- The data sets are frozen as a control-plane restart begins (R415). -/
def freezeData (s : State) : State :=
  (List.range 8).foldl (fun t i => setInst i (fun x => { x with frozen := some (advertised s i) }) t) s

/-- The body of an Announce: the data set, frozen through a control-plane restart (R397, R415). -/
def announceBody (s : State) (i : Nat) : Bytes :=
  let f := if vegenUp s then advertised s i else ((instAt s i).frozen).getD (advertised s i)
  zeros 10 ++ beI 2 (utcNow s) ++ zeros 1 ++ be 1 f.priority1 ++ be 4 f.quality ++ be 1 f.priority2 ++ fit 8 f.gm ++
    be 2 f.steps ++ be 1 f.timeSource ++ boundTlv s

/-- A message a master sends on its interval (R395): Announce, or Sync with its Follow_Up. -/
def masterSend (i p kind : Nat) (addr : Bytes) (uni : Bool) (logInt : Int) (s : State) : State :=
  let q := s.quire.active
  let n := nextSeqOf i kind s
  let u := 0x400 * b2n uni
  if kind = 11 then
    sendPtp i p addr (ptpMessage s i p 11 n.1 (u + announceFlags s) 0 logInt (announceBody s i)) n.2
  else
    let st := tsBytes (egressStamp s (ppField q p 0 2))
    if bit (piField q i 0 1) 2 then
      sendPtp i p addr (ptpMessage s i p 8 n.1 u 0 logInt st)
        (sendPtp i p addr (ptpMessage s i p 0 n.1 (u + 0x200) 0 logInt (zeros 10)) n.2)
    else sendPtp i p addr (ptpMessage s i p 0 n.1 u 0 logInt st) n.2

/-- A Delay_Req of a slave port (R395): its departure is kept, and delayAsymmetry taken from its correction. -/
def slaveSend (i p : Nat) (s : State) : State :=
  let q := s.quire.active
  let n := nextSeqOf i 1 s
  let asym := qRdI q fTime (0x240 + 32 * p + 4) 4 * 65536
  let addr := if bit (ppField q p 3 1) 0 then qBytes q fTime (0x240 + 32 * p + 0x10) 16 else []
  let dep : Int := (egressStamp s (ppField q p 0 2) * 16384 : Nat)
  sendPtp i p addr (ptpMessage s i p 1 n.1 (0x400 * b2n (decide (addr ≠ []))) (-asym) 0x7F (zeros 10))
    (setInst i (fun x => { x with delayReq := some (n.1, dep) }) n.2)

/-- The request for unicast grants that a slave port with unicast_request sends to its master (R393). -/
def requestGrants (i p : Nat) (s : State) : State :=
  let q := s.quire.active
  let n := nextSeqOf i 12 s
  let one (kind o : Nat) : Bytes := be 2 4 ++ be 2 6 ++ be 1 (16 * kind) ++ beI 1 (piLog q i o) ++ be 4 300
  sendPtp i p (qBytes q fTime (0x240 + 32 * p + 0x10) 16)
    (ptpMessage s i p 12 n.1 0x400 0 0x7F (ffs 10 ++ one 11 6 ++ one 0 7 ++ one 9 8)) n.2

/-- PTP_MESSAGE_SEND (R395, R397): a port sends a message of type `kind` on its interval: a master Sync and
Announce, multicast or under a session's grant; a slave Delay_Req, or its request for grants. -/
def execPtpMessageSend (p kind : Nat) (session : Option Nat) (s : State) : Host.Outcome State Fault Refusal :=
  .next
    (let q := s.quire.active
     match portInst q p with
     | none => s
     | some i =>
       let st := (ppAt s p).state
       if (instAt s i).restarting then s
       else if st = 6 ∧ (kind = 0 ∨ kind = 11) then
         match session with
         | none => if bit (piField q i 0 1) 4 then masterSend i p kind [] false (piLog q i (if kind = 0 then 7 else 6)) s else s
         | some n =>
           match s.time.sessions.find? fun x => decide (x.index = n ∧ x.inst = i ∧ ¬ x.partner) with
           | some x =>
             match if kind = 0 then x.sync else x.announce with
             | some g => masterSend i p kind x.addr true g.log s
             | none => s
           | none => s
       else if (st = 8 ∨ st = 9) ∧ kind = 1 then slaveSend i p s
       else if kind = 12 ∧ bit (ppField q p 3 1) 0 ∧ ppField q p 2 1 ≠ 1 then requestGrants i p s
       else s)

/-! ### Unicast sessions (R398 to R401) -/

/-- The log range of a message type in an instance's profile (Table 13.4, R398). -/
def logRange (q : Quire) (i kind : Nat) : Int × Int :=
  if piField q i 1 1 = 1 then
    if kind = 11 then (-3, 1) else if kind = 0 then (-7, -1) else (piLog q i 7, piLog q i 7 + 5)
  else if kind = 11 then (0, 4) else if kind = 0 then (-1, 1) else (0, 5)

/-- Messages per second of a log interval, times 256. -/
def rate256 (l : Int) : Nat := if l ≤ 8 then 2 ^ (8 - l).toNat else 0

/-- The grants of a session. -/
def grantsOf (x : PtpSession) : List Grant := [x.announce, x.sync, x.delay].filterMap id

/-- The committed rate, times 256, of the sessions of this device and the multicast of its master ports (R400); of
one instance where named. -/
def committed (s : State) (inst : Option Nat) : Nat :=
  let q := s.quire.active
  let mine (i : Nat) : Bool := match inst with
    | some k => decide (i = k)
    | none => true
  let uni := ((s.time.sessions.filter fun x => mine x.inst && !x.partner).map fun x =>
    ((grantsOf x).map fun g => rate256 g.log).sum).sum
  let port (i p : Nat) : Nat :=
    let y := ppAt s p
    if y.state = 6 ∧ bit (piField q i 0 1) 4 then
      let sec := now s / ticksPerSec
      let req := if y.reqSecond = sec then y.reqBefore else if y.reqSecond + 1 = sec then y.reqCount else 0
      rate256 (piLog q i 6) + rate256 (piLog q i 7) + 256 * req
    else 0
  uni + ((List.range 8).map fun i =>
    if mine i && piEnabled q i then ((piPorts q i).map (port i)).sum else 0).sum

/-- The grant of a session for a message type. -/
def grantFor (x : PtpSession) (kind : Nat) : Option Grant :=
  if kind = 11 then x.announce else if kind = 0 then x.sync else x.delay

/-- Sets it. -/
def putGrant (kind : Nat) (g : Option Grant) (x : PtpSession) : PtpSession :=
  if kind = 11 then { x with announce := g } else if kind = 0 then { x with sync := g } else { x with delay := g }

/-- The lowest session index not in use (R422). -/
def freeIndex (l : List PtpSession) : Nat :=
  ((List.range (l.length + 1)).find? fun n => l.all fun x => decide (x.index ≠ n)).getD l.length

/-- Whether a session is the one of a client. -/
def isClient (i np : Nat) (addr ident : Bytes) (pn : Nat) (x : PtpSession) : Bool :=
  decide (x.inst = i ∧ x.netPort = np ∧ x.addr = addr ∧ x.identity = ident ∧ x.portNo = pn) && !x.partner

/-- A unicast request (R398 to R400, R415): the duration granted, and the state with the grant. -/
def requestUnicast (i p : Nat) (addr ident : Bytes) (pn kind : Nat) (l : Int) (dur : Nat) (auth : Bool) (s : State) :
    Nat × State :=
  let q := s.quire.active
  let np := ppField q p 0 2
  let me := isClient i np addr ident pn
  let old := s.time.sessions.find? me
  let held := old.bind fun x => grantFor x kind
  let lr := logRange q i kind
  let room : Bool := match old with
    | some _ => true
    | none =>
      let cap := piField q i 0x28 4
      vegenUp s && decide ((s.time.sessions.filter fun x => !x.partner).length < 1048576) &&
        decide (cap = 0 ∨ (s.time.sessions.filter fun x => !x.partner && decide (x.inst = i)).length < cap)
  let more : Bool := match held with
    | some g => decide (g.log ≤ l) || decide (committed s none + rate256 l ≤ 16777216 * 256 + rate256 g.log)
    | none => decide (committed s none + rate256 l ≤ 16777216 * 256)
  if (kind ≠ 11 ∧ kind ≠ 0 ∧ kind ≠ 9) ∨ dur < 10 ∨ 1000 < dur ∨ l < lr.1 ∨ lr.2 < l ∨ ¬ room ∨ ¬ more then (0, s)
  else
    let g : Grant := ⟨l, now s + dur * ticksPerSec⟩
    let l' := match old with
      | some _ => s.time.sessions.map fun x => if me x then putGrant kind (some g) x else x
      | none =>
        s.time.sessions ++ [putGrant kind (some g)
          { index := freeIndex s.time.sessions, inst := i, netPort := np
            v6 := decide (piField q i 3 1 = 1), auth := auth, partner := false, addr := addr, identity := ident
            portNo := pn, announce := none, sync := none, delay := none, lastReq := none, requests := 0
            excess := 0 }]
    (dur, setPtpSessions l' s)

/-- A session with no grant left ends (R398). -/
def dropEmpty (l : List PtpSession) : List PtpSession := l.filter fun x => decide (grantsOf x ≠ [])

/-- A client cancels a grant (R398). -/
def cancelUnicast (i p : Nat) (addr ident : Bytes) (pn kind : Nat) (s : State) : State :=
  let me := isClient i (ppField s.quire.active p 0 2) addr ident pn
  setPtpSessions (dropEmpty (s.time.sessions.map fun x => if me x then putGrant kind none x else x)) s

/-- One TLV of a signalling message: the bytes of the answer, and the state (R398). -/
def signalTlv (i p : Nat) (addr ident : Bytes) (pn : Nat) (auth : Bool) (a : Bytes × State) (t : Nat × Nat × Bytes) :
    Bytes × State :=
  let v := t.2.2
  if t.1 = 4 then
    let k := rdB v 0 1 / 16
    let g := requestUnicast i p addr ident pn k (logField v 1) (rdB v 2 4) auth a.2
    (a.1 ++ be 2 5 ++ be 2 8 ++ be 1 (16 * k) ++ slice v 1 1 ++ be 4 g.1 ++ zeros 1 ++ be 1 1, g.2)
  else if t.1 = 6 then
    (a.1 ++ be 2 7 ++ be 2 2 ++ slice v 0 1 ++ zeros 1, cancelUnicast i p addr ident pn (rdB v 0 1 / 16) a.2)
  else a

/-- A signalling message at a master port (R398). -/
def takeSignal (i p : Nat) (addr m : Bytes) (auth : Bool) (s : State) : State :=
  if (ppAt s p).state ≠ 6 ∨ ¬ bit (piField s.quire.active i 0 1) 3 then s
  else
    let r := (tlvs 32 m 44).foldl (signalTlv i p addr (slice m 20 8) (rdB m 28 2) auth) ([], s)
    if r.1 = [] then r.2
    else
      let n := nextSeqOf i 12 r.2
      sendPtp i p addr (ptpMessage s i p 12 n.1 0x400 0 0x7F (slice m 20 10 ++ r.1)) n.2

/-- The Delay_Resp to a Delay_Req (R395). -/
def delayResp (i p : Nat) (addr m : Bytes) (stamp : Nat) (uni : Bool) (l : Int) (s : State) : State :=
  sendPtp i p addr (ptpMessage s i p 9 (rdB m 30 2) (0x400 * b2n uni) (corrField m) l
    (tsBytes stamp ++ slice m 20 10)) s

/-- A Delay_Req at a master port (R395, R398): a session's within its grant's rate; multicast where served.
DEDUCED (unsafe, log 93). -/
def takeDelayReq (i p : Nat) (addr m : Bytes) (stamp : Nat) (s : State) : State :=
  let q := s.quire.active
  if (ppAt s p).state ≠ 6 then s
  else if bit (rdB m 6 1) 2 then
    let me := isClient i (ppField q p 0 2) addr (slice m 20 8) (rdB m 28 2)
    match s.time.sessions.find? me with
    | some x =>
      match x.delay with
      | some g =>
        let soon : Bool := match x.lastReq with
          | some t => decide (now s < t + logTicks g.log)
          | none => false
        let upd (f : PtpSession → PtpSession) : State :=
          setTime (fun t => { t with sessions := t.sessions.map fun y => if me y then f y else y }) s
        if soon then upd fun y => { y with excess := satInc y.excess }
        else
          delayResp i p addr m stamp true g.log
            (upd fun y => { y with requests := satInc y.requests, lastReq := some (now s) })
      | none => s
    | none => s
  else if bit (piField q i 0 1) 4 then
    let sec := now s / ticksPerSec
    delayResp i p [] m stamp false (piLog q i 8) (setPp p (fun y =>
      if y.reqSecond = sec then { y with reqCount := y.reqCount + 1 }
      else
        { y with
          reqBefore := if y.reqSecond + 1 = sec then y.reqCount else 0, reqSecond := sec, reqCount := 1 }) s)
  else s

/-- UNICAST_GRANT_AGEING (R399): at the end of a 1 ms cycle the grants whose time has passed expire. -/
def execUnicastGrantAgeing (s : State) : Host.Outcome State Fault Refusal :=
  .next
    (let keep (g : Option Grant) : Option Grant := g.filter fun x => decide (now s < x.ends)
     setPtpSessions
       (dropEmpty (s.time.sessions.map fun x =>
         { x with announce := keep x.announce, sync := keep x.sync, delay := keep x.delay })) s)

/-! ### Messages received (R393 to R396, R403) -/

/-- The master an Announce describes. -/
def foreignOf (m addr : Bytes) (heard : List Nat) : Foreign :=
  let fl := rdB m 7 1
  let tlv := (tlvs 32 m 64).find? fun t =>
    decide (t.1 = 0x8000 ∧ rdB t.2.2 0 3 = 0xDA4B19 ∧ rdB t.2.2 3 3 = 1)
  let u := rdB m 44 2
  { identity := slice m 20 8, portNo := rdB m 28 2, gm := slice m 53 8, priority1 := rdB m 47 1
    quality := rdB m 48 4, priority2 := rdB m 52 1, steps := rdB m 61 2, timeSource := rdB m 63 1
    utc := if bit fl 2 then some (if u < 32768 then (u : Int) else (u : Int) - 65536) else none
    leap := if bit fl 0 then 1 else if bit fl 1 then -1 else 0
    bound := tlv.map fun t => rdB t.2.2 6 4, heard := heard, addr := addr }

/-- A leap that the selected master of the ref_instance announces (R392): at the end of the UTC day. -/
def noteLeap (i : Nat) (f : Foreign) (s : State) : State :=
  if i ≠ refInstance s.quire.active ∨ (utcSource s).1 ≠ 1 then s
  else if f.leap = 0 then setTime (fun t => { t with leapAt := 0, leapBy := 0 }) s
  else if s.time.leapAt ≠ 0 then s
  else
    let o := utcNow s
    let utc := (s.tb.sec.toNat : Int) - o
    let day := (utc / 86400 + 1) * 86400 + o - (if f.leap = -1 then 1 else 0)
    setTime (fun t => { t with leapAt := day.toNat * ticksPerSec, leapBy := f.leap }) s

/-- An Announce: the master is noted, and the comparison made again. -/
def takeAnnounce (i p : Nat) (addr m : Bytes) (s : State) : State :=
  if slice m 20 8 = clockId s then s
  else
    let same (f : Foreign) : Bool := decide (f.identity = slice m 20 8 ∧ f.portNo = rdB m 28 2)
    let past := (((ppAt s p).masters.find? same).map (·.heard)).getD []
    let f := foreignOf m addr (keepLast 2 (past ++ [now s]))
    let s1 := setPp p (fun y => { y with masters := (y.masters.filter fun g => !same g) ++ [f] }) s
    let s2 := bestMaster i s1
    match (instAt s2 i).master with
    | some g => if same g then noteLeap i f s2 else s2
    | none => s2

/-- Whether a message came from an instance's selected master on its slave port. -/
def fromMaster (s : State) (i p : Nat) (m : Bytes) : Bool :=
  let x := instAt s i
  decide (x.slavePort = some p) &&
    match x.master with
    | some f => decide (f.identity = slice m 20 8 ∧ f.portNo = rdB m 28 2)
    | none => false

/-- A message accepted by its instance. PRESUMED (unsafe, log 91). -/
def handlePtp (i p : Nat) (addr m : Bytes) (auth : Bool) (s : State) : State :=
  let stamp := ingressStamp s (ppField s.quire.active p 0 2)
  let arrived : Int := (stamp * 16384 : Nat)
  match rdB m 0 1 % 16 with
  | 0 =>
    if ¬ fromMaster s i p m then s
    else if bit (rdB m 6 1) 1 then
      setInst i (fun x => { x with open_ := some ⟨rdB m 30 2, arrived, corrField m⟩ }) s
    else takeSync i p (tsField m 34) arrived (corrField m) s
  | 8 =>
    match (instAt s i).open_ with
    | some o =>
      if fromMaster s i p m ∧ o.seq = rdB m 30 2 then
        takeSync i p (tsField m 34) o.arrived (o.correction + corrField m) s
      else s
    | none => s
  | 9 => if fromMaster s i p m then takeDelayResp i p m s else s
  | 1 => takeDelayReq i p addr m stamp s
  | 11 => takeAnnounce i p addr m s
  | 12 => takeSignal i p addr m auth s
  | 13 => setInst i (fun x => { x with managed := satInc x.managed }) s
  | _ => s

/-- PTP_MESSAGE_RECEIVE (R393, R394, R403): a message on a PTP port, from the given address. It is authenticated, and
handled by its instance; management messages are dropped and counted. -/
def execPtpMessageReceive (p : Nat) (addr msg : Bytes) (s : State) : Host.Outcome State Fault Refusal :=
  .next
    (let q := s.quire.active
     match portInst q p with
     | none => s
     | some i =>
       if (instAt s i).restarting ∨ (ppAt s p).state ≤ 1 ∨ ¬ portUp s (ppField q p 0 2) ∨ msg.length < 44 ∨
           rdB msg 1 1 % 16 ≠ 2 ∨ rdB msg 4 1 ≠ piField q i 2 1 then s
       else
         let a := authCheck i msg s
         let drop : Bool := match a.2 with
           | some ok => !ok
           | none => bit (piField q i 0 1) 6
         if drop then setInst i (fun x => { x with authFailures := satInc x.authFailures }) a.1
         else handlePtp i p addr msg (decide (a.2 = some true)) a.1)

/-- ANNOUNCE_RECEIPT_TIMEOUT (R396): the master of a slave port is gone, or a listening port has heard none. -/
def execAnnounceReceiptTimeout (p : Nat) (s : State) : Host.Outcome State Fault Refusal :=
  .next
    (let q := s.quire.active
     match portInst q p with
     | none => s
     | some i =>
       let y := ppAt s p
       let w := announceTimeout q i
       let heard := (y.masters.flatMap (·.heard)).foldl max y.since
       let late := match (instAt s i).master with
         | some f => if (instAt s i).slavePort = some p then f.heard.foldl max 0 else heard
         | none => heard
       if y.state < 4 ∨ y.state = 6 ∨ ¬ vegenUp s ∨ now s < late + w then s
       else
         bestMaster i (setPp p (fun z =>
           { z with
             timeouts := satInc z.timeouts
             masters := z.masters.filter fun f => decide (now s < f.heard.foldl max 0 + w) }) s))

/-! ### Restart of an instance (R418) and commands -/

/-- Every port of a restarted instance has left INITIALIZING: for LISTENING, or with the instance disabled, unused.
DEDUCED (unsafe, log 96). -/
def startInst (i : Nat) (s : State) : State :=
  let q := s.quire.active
  let st := if piEnabled q i then 4 else 0
  setInst i (fun x => { x with restarting := false })
    ((piPorts q i).foldl (fun t p => ppEnter p st t) s)

/-- An instance record (Table 13.15). -/
def instRecord (s : State) (i : Nat) : Bytes :=
  let q := s.quire.active
  let x := instAt s i
  let own := ownData s i
  let gm := x.master.getD { own with quality := quality s (clockClass s) }
  let anyMaster := (piPorts q i).any fun p => decide ((ppAt s p).state = 6)
  let st := if ¬ piEnabled q i then 0 else if x.restarting then 1 else if x.master.isSome then 3
    else if anyMaster then 2 else 4
  le 1 i ++ le 1 st ++ le 1 (clockClass s) ++ le 1 (clockAccuracy s) ++
    le 2 (match x.master with
      | some m => m.steps + 1
      | none => 0) ++
    le 1 (gm.quality / 2 ^ 24) ++ le 1 gm.priority1 ++ fit 8 gm.gm ++
    fit 8 ((x.master.map (·.identity)).getD (clockId s)) ++ le 2 ((x.master.map (·.portNo)).getD 0) ++
    le 2 (x.slavePort.getD 0xFFFF) ++ le 4 ((x.master.bind (·.bound)).getD 0xFFFFFFFF) ++ leI 8 x.offset ++
    leI 8 x.pathDelay ++ le 4 (s.time.sessions.filter fun y => decide (y.inst = i)).length ++
    le 4 (committed s (some i) / 256) ++ le 4 x.authFailures.toNat ++ zeros 4

/-- A port record of PTP_STATUS (R421). -/
def ppRecord (s : State) (p : Nat) : Bytes :=
  let y := ppAt s p
  let used := (portInst s.quire.active p).isSome
  le 1 p ++ le 1 (if used then y.state else 0) ++ le 2 (ppField s.quire.active p 0 2) ++ le 4 y.timeouts.toNat ++
    le 4 y.faults.toNat ++ zeros 4

/-- PTP_STATUS (R421). -/
def execPtpStatus (r : Req) (s : State) : Host.Outcome State Fault Refusal :=
  .next (command 0x0D03
    (fun r s => needLen 4 r s fun _ => needForm (clearForm r) s fun _ =>
      let clear := bit (rd r.params 0 1) 0
      let s1 := (List.range 64).foldl (fun t p => setPp p (fun y => { y with timeouts := 0, faults := 0 }) t)
        ((List.range 8).foldl (fun t i => setInst i (fun x => { x with authFailures := 0 }) t) s)
      { st := if clear then s1 else s
        params := (List.range 8).flatMap (instRecord s) ++ (List.range 64).flatMap (ppRecord s)
        clearing := clear }) r s)

/-- A session record (Table 13.16). -/
def ptpSessionBytes (s : State) (x : PtpSession) : Bytes :=
  let l (g : Option Grant) : Bytes := leI 1 ((g.map (·.log)).getD 0x7F)
  let left (g : Option Grant) : Bytes := le 4 (((g.map fun y => (y.ends - now s) / ticksPerMs)).getD 0)
  le 4 x.index ++ le 1 x.inst ++ le 1 (b2n x.v6 + 2 * b2n x.auth + 4 * b2n x.partner) ++ le 2 x.netPort ++
    fit 16 x.addr ++ fit 8 x.identity ++ le 2 x.portNo ++ l x.announce ++ l x.sync ++ l x.delay ++ zeros 3 ++
    left x.announce ++ left x.sync ++ left x.delay ++ le 4 x.requests.toNat ++ le 4 x.excess.toNat ++ zeros 4

/-- PTP_SESSIONS (R422): the sessions of an instance, or of all, from an index on. -/
def execPtpSessions (r : Req) (s : State) : Host.Outcome State Fault Refusal :=
  .next (command 0x0D04
    (fun r s => needLen 8 r s fun _ =>
      let n := rd r.params 4 2
      let i := rd r.params 6 1
      needForm
        [(decide (1 ≤ n ∧ n ≤ 1000), 4), (decide (i < 8 ∨ i = 0xFF), 6), (isZero r.params 7 1, 7)] s fun _ =>
        let mine := s.time.sessions.filter fun x => decide (i = 0xFF ∨ x.inst = i)
        let from_ := (mine.filter fun x => decide (rd r.params 0 4 ≤ x.index)).mergeSort
          fun a b => decide (a.index ≤ b.index)
        let next := match from_[n]? with
          | some x => x.index
          | none => 0xFFFFFFFF
        okay s (le 4 mine.length ++ le 4 next ++ (from_.take n).flatMap (ptpSessionBytes s))) r s)

end Sys2Proof.Machine
end

