-- ==== Sys2Proof/Machine/NtpServe.lean ====
section
/-! DEFINITION. NTP, NTS and NTS key establishment (R407 to R411, R414, R423). -/

namespace Sys2Proof.Machine

/-- Changes the NTP service. -/
def setNtp (f : Ntp → Ntp) (s : State) : State := setTime (fun t => { t with ntp := f t.ntp }) s

/-- Counts (Table 13.17). -/
def ntpCount (k : Nat) (s : State) : State := setNtp (fun x => { x with counts := nAdd x.counts k 1 }) s

/-- The services of a network port (Table 13.12). -/
def portServices (q : Quire) (p : Nat) : Nat :=
  match (List.range (min 64 (qRd q fTime 0x1E 2))).find? fun j => decide (qRd q fTime (0xA40 + 4 * j) 2 = p) with
  | some j => qRd q fTime (0xA40 + 4 * j + 2) 1
  | none => 0

/-! ### Cookies (R409) -/

/-- The cookie period now. -/
def cookiePeriod (s : State) : Nat := s.tb.sec.toNat / 86400 % 2 ^ 32

/-- The cookie key of a period (R409, R495), if the slot may be used. -/
def cookieKey (p : Nat) (s : State) : State × Option Bytes :=
  let u := keyUse (qRd s.quire.active fTime 0x1A 2) 8 3 0xF003 s
  (u.1, u.2.map fun k => Config.hkdfExpand k.key ("DXK nts-cookie".toUTF8.toList.map (BitVec.ofNat 8 ·.toNat) ++ le 4 p) 32)

/-- A new cookie under the current period (Table 13.6), for the two keys. -/
def newCookie (key : Bytes) (keys : Bytes) (s : State) : State × Bytes :=
  let d := draw s
  let nonce := fit 16 (Config.freeBytes d.1)
  (d.2, le 4 (cookiePeriod s) ++ nonce ++ fit 82 (Config.sivSeal key (nonce ++ le 2 15 ++ keys)))

/-- `n` new cookies. -/
def newCookies (key keys : Bytes) : Nat → State → State × List Bytes
  | 0, s => (s, [])
  | n + 1, s =>
    let a := newCookie key keys s
    let b := newCookies key keys n a.1
    (b.1, a.2 :: b.2)

/-- The two keys a cookie holds, if it is of the current or the previous period and opens. -/
def openCookie (c : Bytes) (s : State) : State × Option Bytes :=
  let p := rd c 0 4
  if c.length < 102 ∨ (p ≠ cookiePeriod s ∧ (p + 1) % 2 ^ 32 ≠ cookiePeriod s) then (s, none)
  else
    let k := cookieKey p s
    match k.2 with
    | none => (k.1, none)
    | some key =>
      (k.1, (Config.sivOpen key (slice c 4 98)).bind fun pl =>
        if pl.length = 66 ∧ rd pl 0 2 = 15 then some (pl.drop 2) else none)

/-! ### Rate limiter (R411) -/

/-- The client of an address: an IPv4 /32 or an IPv6 /64. -/
def clientOf (addr : Bytes) : Bytes := if addr.length = 16 then addr.take 8 else addr

/-- Ticks between tokens. -/
def tokenTicks (s : State) : Nat := logTicks (qRdI s.quire.active fTime 0x19 1)

/-- The tokens of an entry now: one more for each interval passed, at most 8; and from when the next counts. -/
def refill (t g : Nat) (x : Limit) : Limit :=
  let n := (t - x.since) / g
  if 8 ≤ x.tokens + n then { x with tokens := 8, since := t } else { x with tokens := x.tokens + n, since := x.since + n * g }

/-- The entry with the oldest last hit. -/
def oldestHit (l : List Limit) : Option Limit :=
  l.foldl (fun b x => match b with
    | none => some x
    | some y => if x.hit < y.hit then some x else some y) none

/-- A client's request at the rate limiter: whether it has a token, which it spends, and whether it is the first
refused in its second. -/
def takeToken (addr : Bytes) (s : State) : Bool × Bool × State :=
  let c := clientOf addr
  let t := now s
  let n := s.time.ntp
  match n.limits.find? fun x => decide (x.client = c) with
  | some x0 =>
    let x := refill t (tokenTicks s) x0
    let sec := t / ticksPerSec
    let ok := decide (0 < x.tokens)
    let kiss := !ok && decide (x.kissed ≠ some sec)
    let y := { x with tokens := x.tokens - b2n ok, hit := t, kissed := if kiss then some sec else x.kissed }
    (ok, kiss, setNtp (fun m =>
      { m with limits := m.limits.map fun z => if z.client = c then y else z }) s)
  | none =>
    let full := decide (8388608 ≤ n.limits.length)
    let rest := match if full then oldestHit n.limits else none with
      | some o => n.limits.filter fun z => decide (z.client ≠ o.client)
      | none => n.limits
    let s1 := setNtp (fun m => { m with limits := rest ++ [⟨c, 7, t, t, none⟩] }) s
    (true, false, if full then ntpCount 8 s1 else s1)

/-- RATE_LIMITER_AGEING (R411): at the end of a 1 ms cycle, entries with no request for 64 s expire. -/
def execRateLimiterAgeing (s : State) : Host.Outcome State Fault Refusal :=
  .next
    (setNtp (fun m => { m with limits := m.limits.filter fun x => decide (now s < x.hit + 64 * ticksPerSec) }) s)

/-! ### Answers (R407, R410, R414) -/

/-- An NTP timestamp of an instant in units of 0.25 ns (R407). PRESUMED (unsafe, log 94). -/
def ntpStamp (s : State) (q4 : Nat) : Bytes :=
  let sec : Int := (q4 / 4000000000 : Nat) - utcNow s + 2208988800
  be 4 (sec % 2 ^ 32).toNat ++ be 4 (q4 / 4 % 1000000000 * 2 ^ 32 / 1000000000)

/-- ASCII as four bytes. -/
def ascii4 (t : String) : Bytes := fit 4 (t.toUTF8.toList.map (BitVec.ofNat 8 ·.toNat))

/-- The reference ID (R407). -/
def refId (s : State) : Bytes :=
  let d := s.time.dpll
  match if d.selected.isSome then d.selected else d.last with
  | some r => ascii4 (if r = 13 then "GNSS" else if r = 14 then "PTP" else if r = 12 then "ATOM"
      else if 8 ≤ r then "PPS" else "FREQ")
  | none => ascii4 "FREQ"

/-- The leap indicator: 3 while unsynchronised, else the leap pending within 24 hours (R392, R407). -/
def leapIndicator (s : State) : Nat :=
  if ¬ s.tb.acquired ∨ s.time.bound.isNone then 3
  else match pendingLeap s with
    | some l => if l.1 ≤ now s + 86400 * ticksPerSec then (if l.2 = 1 then 1 else 2) else 0
    | none => 0

/-- The 48 bytes of an answer to a request `m` (R407); a kiss-o'-death where `kiss` gives its code.
PRESUMED (unsafe, log 94). -/
def ntpHeader (s : State) (port : Nat) (m : Bytes) (kiss : Option String) : Bytes :=
  let li := if kiss.isSome then 3 else leapIndicator s
  let unsync := decide (leapIndicator s = 3)
  let disp := match s.time.bound with
    | some e => min (cdiv (e * 65536) 1000000000) (2 ^ 32 - 1)
    | none => 2 ^ 32 - 1
  let v := rdB m 0 1 / 8 % 8
  be 1 (64 * li + 8 * v + 4) ++ be 1 (if kiss.isSome then 0 else if unsync then 16 else 1) ++ slice m 2 1 ++
    be 1 0xE3 ++ zeros 4 ++ be 4 disp ++ (match kiss with
      | some k => ascii4 k
      | none => refId s) ++
    (match s.time.dpll.lockedEval with
      | some t => ntpStamp s (t * 4 / ticksPerNs)
      | none => zeros 8) ++ slice m 40 8 ++ ntpStamp s (ingressStamp s port) ++
    ntpStamp s (egressStamp s port)

/-- The extension fields of a packet from offset `o`: (type, offset, whole field). PRESUMED (unsafe, log 94). -/
def extFields : Nat → Bytes → Nat → List (Nat × Nat × Bytes)
  | 0, _, _ => []
  | f + 1, m, o =>
    if m.length < o + 4 then []
    else
      let n := max 4 (rdB m (o + 2) 2)
      (rdB m o 2, o, slice m o n) :: extFields f m (o + n)

/-- An extension field around a body, padded to a multiple of 4. -/
def extField (kind : Nat) (body : Bytes) : Bytes :=
  let n := (body.length + 3) / 4 * 4
  be 2 kind ++ be 2 (n + 4) ++ fit n body

/-- The bound extension field (R414). -/
def boundExt (s : State) : Bytes :=
  let d := s.time.dpll
  let fl := b2n d.holdExpire + 2 * b2n (s.tb.acquired && decide (d.state ≠ 3)) + 4 * b2n s.drv.fenced
  be 2 0xF5C3 ++ be 2 16 ++ be 4 (boundField s) ++ be 1 d.state ++ be 1 fl ++ zeros 6

/-- Whether a request's bound field is to be answered (R414). -/
def boundAsked (s : State) (l : List (Nat × Nat × Bytes)) : Bytes :=
  if bit (qRd s.quire.active fTime 6 1) 2 && l.any (fun x => decide (x.1 = 0xF5C3)) then boundExt s else []

/-- The NTS authenticator field around an encrypted part (RFC 8915): nonce and ciphertext. -/
def ntsAuth (key plain : Bytes) (s : State) : State × Bytes :=
  let d := draw s
  let nonce := fit 16 (Config.freeBytes d.1)
  let ct := Config.sivSeal key (nonce ++ plain)
  (d.2, extField 0x0404 (be 2 16 ++ be 2 ct.length ++ nonce ++ ct))

/-- Whether an NTS request is well formed (R410): the identifier, one cookie, at most 7 placeholders and the authenticator. -/
def ntsFormed (m : Bytes) : Bool :=
  let n (k : Nat) : Nat := ((extFields 32 m 48).filter fun x => decide (x.1 = k)).length
  decide (1 ≤ n 0x0104 ∧ n 0x0204 = 1 ∧ n 0x0304 ≤ 7 ∧ 1 ≤ n 0x0404)

/-- The answer to an NTS request (R410). PRESUMED (unsafe, log 94). DEDUCED (unsafe, log 95). -/
def ntsAnswer (port : Nat) (addr m : Bytes) (s : State) : State :=
  let l := extFields 32 m 48
  let of (k : Nat) : List (Nat × Nat × Bytes) := l.filter fun x => decide (x.1 = k)
  match of 0x0104, of 0x0204, of 0x0404 with
  | uid :: _, [ck], au :: _ =>
      let nak (t : State) : State :=
        ntpCount 2 (emit (.ntp port addr (ntpHeader t port m (some "NTSN") ++ uid.2.2)) t)
      let c := openCookie (ck.2.2.drop 4) s
      match c.2 with
      | none => nak c.1
      | some keys =>
        match Config.sivOpen (keys.take 32) (m.take au.2.1 ++ au.2.2) with
        | none => nak c.1
        | some inner =>
          let k := cookieKey (cookiePeriod c.1) c.1
          match k.2 with
          | none => nak k.1
          | some key =>
            let cs := newCookies key keys (1 + (of 0x0304).length) k.1
            let plain := (cs.2.flatMap fun x => extField 0x0204 x) ++ boundAsked cs.1 (extFields 32 inner 0)
            let a := ntsAuth (keys.drop 32) plain cs.1
            ntpCount 0 (emit (.ntp port addr
              (ntpHeader a.1 port m none ++ uid.2.2 ++ boundAsked a.1 (l.filter fun x => decide (x.2.1 < au.2.1)) ++ a.2)) a.1)
  | _, _, _ => ntpCount 5 s

/-- Requests answered in this second. -/
def servedNow (s : State) : Nat :=
  if s.time.ntp.second = now s / ticksPerSec then s.time.ntp.served else 0

/-- One more answer in this second (R410). -/
def noteServed (s : State) : State :=
  let sec := now s / ticksPerSec
  let n := servedNow s
  setNtp (fun x =>
    { x with second := sec, served := n + 1, handshakes := if x.second = sec then x.handshakes else 0 }) s

/-- NTP_REQUEST (R407, R410, R411): a packet to the NTP port of a network port, from the given client. -/
def execNtpRequest (port : Nat) (addr msg : Bytes) (s : State) : Host.Outcome State Fault Refusal :=
  .next
    (let q := s.quire.active
     let fl := qRd q fTime 6 1
     let v := rdB msg 0 1 / 8 % 8
     let nts := (extFields 32 msg 48).any fun x => decide (x.1 = 0x0204 ∨ x.1 = 0x0404)
     if ¬ bit (portServices q port) 0 ∨ ¬ portUp s port then s
     else if msg.length < 48 ∨ rdB msg 0 1 % 8 ≠ 3 ∨ (v ≠ 3 ∧ v ≠ 4) ∨ ¬ bit fl (if nts then 1 else 0) ∨
         (nts ∧ ¬ ntsFormed msg) then ntpCount 5 s
     else if 8388608 ≤ servedNow s then ntpCount 4 s
     else
       let t := takeToken addr s
       if ¬ t.1 then
         ntpCount 3 (if t.2.1 then emit (.ntp port addr (ntpHeader t.2.2 port msg (some "RATE"))) t.2.2 else t.2.2)
       else
         let u := noteServed t.2.2
         if nts then ntsAnswer port addr msg u
         else
           ntpCount 1 (emit (.ntp port addr
             (ntpHeader u port msg none ++ boundAsked u (extFields 32 msg 48))) u))

/-! ### NTS-KE (R408) -/

/-- NTS_KE_HANDSHAKE (R408, R415): a connection opens, or its handshake completes, well or not, with the two keys it
agreed; then eight cookies go and it closes. DEDUCED (unsafe, log 95). -/
def execNtsKeHandshake (port conn : Nat) (opened good : Bool) (keys : Bytes) (s : State) :
    Host.Outcome State Fault Refusal :=
  .next
    (let q := s.quire.active
     let n := s.time.ntp
     let listed := n.conns.any fun c => decide (c.1 = conn)
     if opened then
       if listed ∨ ¬ bit (portServices q port) 1 ∨ ¬ portUp s port ∨ ¬ vegenUp s ∨ 4096 ≤ n.conns.length then s
       else setNtp (fun x => { x with conns := x.conns ++ [(conn, now s)] }) s
     else if ¬ listed then s
     else
       let sec := now s / ticksPerSec
       let h := if n.second = sec then n.handshakes else 0
       let s1 := setNtp (fun x => { x with conns := x.conns.filter fun c => decide (c.1 ≠ conn) }) s
       let u := keyUse (qRd q fTime 0x1C 2) 8 4 0xF005 s1
       if ¬ good ∨ 16384 ≤ h ∨ u.2.isNone then ntpCount 7 u.1
       else
         let k := cookieKey (cookiePeriod u.1) u.1
         match k.2 with
         | none => ntpCount 7 k.1
         | some key =>
           let cs := newCookies key (fit 64 keys) 8 k.1
           let s2 := setNtp (fun x =>
             { x with
               second := sec, handshakes := h + 1, served := if n.second = sec then x.served else 0 }) cs.1
           ntpCount 6 (emit (.ntsKe conn cs.2) s2))

/-- NTS_KE_TIMEOUT (R408): a connection is closed after 5 s. -/
def execNtsKeTimeout (conn : Nat) (s : State) : Host.Outcome State Fault Refusal :=
  .next
    (if s.time.ntp.conns.any fun c => decide (c.1 = conn ∧ c.2 + 5 * ticksPerSec ≤ now s) then
       ntpCount 7 (setNtp (fun x => { x with conns := x.conns.filter fun c => decide (c.1 ≠ conn) }) s)
     else s)

/-- NTS_STATUS (R423). -/
def execNtsStatus (r : Req) (s : State) : Host.Outcome State Fault Refusal :=
  .next (command 0x0D05
    (fun r s => needLen 4 r s fun _ => needForm (clearForm r) s fun _ =>
      let clear := bit (rd r.params 0 1) 0
      let n := s.time.ntp
      { st := if clear then setNtp (fun x => { x with counts := [] }) s else s
        params := le 4 (cookiePeriod s) ++ le 4 n.limits.length ++
          (List.range 9).flatMap fun k => le 8 (mget (fun _ => 0) n.counts k)
        clearing := clear }) r s)

end Sys2Proof.Machine
end

