-- ==== Sys2Proof/Machine/Gnss.lean ====
section
/-! DEFINITION. The satellite receiver (chapter 14). -/

namespace Sys2Proof.Machine

/-! ### Entries and state -/

/-- Changes the receiver. -/
def setGnss (f : Gnss → Gnss) (s : State) : State := setTime (fun t => { t with gnss := f t.gnss }) s

/-- A field of the GNSS folio (Table 14.7). -/
def gnField (q : Quire) (o k : Nat) : Nat := qRd q fGnss o k

/-- Whether the receiver is enabled. -/
def gnssOn (q : Quire) : Bool := bit (gnField q 2 1) 0

/-- A channel. -/
def chanAt (s : State) (c : Nat) : Channel := mget (fun _ => ({} : Channel)) s.time.gnss.channels c

/-- Changes a channel. -/
def setSatChan (c : Nat) (f : Channel → Channel) (s : State) : State :=
  setGnss (fun g => { g with channels := mmod (fun _ => ({} : Channel)) g.channels c f }) s

/-- A channel enters a state (Table 14.2). -/
def chanEnter (c st : Nat) (s : State) : State :=
  if (chanAt s c).state = st then s
  else setSatChan c (fun x => { x with state := st, stateTime := now s, detected := false, dwells := 0 }) s

/-- The state of a stream (R426): 0 off, 1 good, 2 overloaded, 3 dead. -/
def streamState (s : State) (i : Nat) : Nat :=
  if qRd s.quire.active fGnss (8 + 8 * i) 1 = 0 then 0 else mget (fun _ => 1) s.time.gnss.streams i

/-- The in-phase and quadrature levels of a byte of a stream (R424): each 4-bit code is two's complement and stands for twice
itself and one. -/
def sampleLevels (b : Byte) : Int × Int :=
  (2 * (b.extractLsb' 0 4).toInt + 1, 2 * (b.extractLsb' 4 4).toInt + 1)

/-- The constellation of a signal code (Table 14.1): 1 GPS, 2 Galileo, 3 BeiDou. -/
def signalCon (sig : Nat) : Nat := (sig + 1) / 2

/-- Whether a signal lies in the L1 band. -/
def isL1 (sig : Nat) : Bool := decide (sig % 2 = 1)

/-- Every channel goes IDLE. -/
def idleAll (s : State) : State := (List.range 96).foldl (fun t c => chanEnter c 0 t) s

/-- The receiver's solution is not valid: reference 13 has its activity fault (Table 12.3). -/
def gnssInvalid (s : State) : State :=
  activityFault 13 (setGnss (fun g => { g with valid := false, goodRun := 0 }) s)

/-- Block reset of the receiver (Table 17.6): its channels go to SEARCH and keep their aids; reference 13 bridges. -/
def gnssReset (s : State) : State :=
  let anew (t : State) (c : Nat) : State := if (chanAt t c).state = 0 then t else chanEnter c 1 t
  gnssInvalid ((List.range 96).foldl anew s)

/-- GNSS_CLOCK_STAMP (R426): every 1,048,576th edge is stamped, in units of 10 ps. -/
def execGnssClockStamp (stamp : Nat) (s : State) : Host.Outcome State Fault Refusal :=
  .next (setGnss (fun g => { g with stamp := stamp }) s)

/-- GNSS_NO_CLOCK (R426): GNSS_CLK is absent or off frequency. -/
def execGnssNoClock (s : State) : Host.Outcome State Fault Refusal :=
  .next
    (if ¬ s.time.gnss.goodClock then s
     else
       let s1 := setGnss (fun g => { g with goodClock := false }) s
       if ¬ gnssOn s.quire.active then s1
       else raiseIn 12 1056 0 0 gnssReset (gnssInvalid (idleAll (setGnss (fun g => { g with state := 1 }) s1))))

/-- GNSS_CLOCK_RETURN (R426): the clock is back within 100 ppm. -/
def execGnssClockReturn (s : State) : Host.Outcome State Fault Refusal :=
  .next
    (setGnss (fun g =>
      { g with
        goodClock := true
        state := if gnssOn s.quire.active then (if g.state ≤ 1 then 2 else g.state) else 0 }) s)

/-- GNSS_STREAM_CHECK (R426): in this 1 ms, `extreme` of `total` codes of a stream were −8 or 7; `equal` says all were
equal. -/
def execGnssStreamCheck (stream extreme total : Nat) (equal : Bool) (s : State) :
    Host.Outcome State Fault Refusal :=
  .next
    (if 4 ≤ stream then s
     else
       let st := if equal then 3 else if total < 5 * extreme then 2 else 1
       let s1 := setGnss (fun g => { g with streams := mset (fun _ => 1) g.streams stream st }) s
       if st = 3 then
         (List.range 96).foldl (fun t c => if (chanAt t c).stream = stream then chanEnter c 0 t else t) s1
       else s1)

/-! ### Allocation (R429) -/

/-- The stream of a band and antenna. -/
def streamFor (q : Quire) (band ant : Nat) : Option Nat :=
  (List.range 4).find? fun i => decide (qRd q fGnss (8 + 8 * i) 1 = band ∧ qRd q fGnss (8 + 8 * i + 1) 1 = ant)

/-- A signal wanted: code, satellite, stream, where it stands in the sky. -/
structure Want where
  signal : Nat
  sat : Sat
  stream : Nat

/-- The signals of a list of satellites on a band and an antenna. -/
def wants (s : State) (band ant : Nat) (l : List Sat) : List Want :=
  match streamFor s.quire.active band ant with
  | some st => if streamState s st = 3 then [] else l.map fun x => ⟨2 * x.con - (if band = 1 then 1 else 0), x, st⟩
  | none => []

/-- The navigation data of a satellite. -/
def navOf (s : State) (con svid : Nat) : Option NavData :=
  s.time.gnss.nav.find? fun n => decide (n.con = con ∧ n.svid = svid)

/-- How good the orbit data of a satellite are: 0 none, 1 an almanac, 2 an ephemeris. -/
def orbitOf (s : State) (con svid : Nat) : Nat :=
  match navOf s con svid with
  | some n => Config.navOrbit con n.records (nowNs s)
  | none => 0

/-- The position uncertainty in mm, none without a position (Table 14.3). DEDUCED (unsafe, log 103). -/
def posUncNow (s : State) : Option Nat :=
  let g := s.time.gnss
  let q := s.quire.active
  if gnField q 4 1 = 1 then some (gnField q 0x50 4)
  else if g.surveyDone then some g.posUnc
  else match g.posAid with
    | some a => some a.2
    | none => if 0 < g.surveyN then some 100000 else none

/-- The satellites to look for (R429): those that orbit data and a position place above the elevation mask, highest first;
then those of which either is missing, in ascending number. DESIGN CHOICE (unsafe, log 97). -/
def visibleSats (s : State) (sats : List Sat) : List Sat :=
  let q := s.quire.active
  let on := sats.filter fun x => bit (gnField q 2 1) x.con && decide (1 ≤ x.con ∧ x.con ≤ 3)
  let placed (x : Sat) : Bool := decide (orbitOf s x.con x.svid ≠ 0) && (posUncNow s).isSome
  ((on.filter fun x => placed x && decide (((100 * gnField q 5 1 : Nat) : Int) < x.elevation)).mergeSort
      fun a b => decide (b.elevation ≤ a.elevation)) ++
    (on.filter fun x => !placed x).mergeSort fun a b => decide (a.con < b.con ∨ (a.con = b.con ∧ a.svid ≤ b.svid))

/-- The signals wanted, in the order of R429, 96 at most. -/
def wanted (s : State) (sats : List Sat) : List Want :=
  let q := s.quire.active
  let fl := gnField q 2 1
  let l := visibleSats s sats
  let tracked := l.filter fun x => s.time.gnss.channels.any fun c =>
    decide (c.2.state = 3 ∧ signalCon c.2.signal = x.con ∧ c.2.svid = x.svid) &&
      decide (streamFor q 1 0 = some c.2.stream)
  let two := bit fl 5
  let l5 := bit fl 4
  let one := wants s 1 0 l
  let second := if l5 then wants s 2 0 l else []
  let third := if two then wants s 1 1 (tracked.take 8) else []
  let rest := if two then (wants s 1 1 l ++ (if l5 then wants s 2 1 l else [])) else []
  let more := rest.filter fun w => !(third.any fun v =>
    decide (v.signal = w.signal ∧ v.sat.svid = w.sat.svid ∧ v.stream = w.stream))
  (one ++ second ++ third ++ more).take 96

/-- Whether a channel holds a signal wanted. -/
def holdsWant (x : Channel) (w : Want) : Bool :=
  decide (x.signal = w.signal ∧ x.svid = w.sat.svid ∧ x.stream = w.stream ∧ x.state ≠ 0)

/-- A signal wanted keeps its channel, or takes the lowest free one. -/
def giveChannel (s : State) (w : Want) : State :=
  let sky (x : Channel) : Channel := { x with elevation := w.sat.elevation, azimuth := w.sat.azimuth }
  match (List.range 96).find? fun c => holdsWant (chanAt s c) w with
  | some c => setSatChan c sky s
  | none =>
    match (List.range 96).find? fun c => decide ((chanAt s c).state = 0) with
    | some c =>
      chanEnter c 1 (setSatChan c (fun _ => sky { signal := w.signal, svid := w.sat.svid, stream := w.stream }) s)
    | none => s

/-- CHANNEL_ALLOCATION (R429): with these satellites visible, or, where orbit data or a position is missing, next in
the search, channels are freed and allocated by priority. DESIGN CHOICE (unsafe, log 97). -/
def execChannelAllocation (sats : List Sat) (s : State) : Host.Outcome State Fault Refusal :=
  .next
    (if ¬ gnssOn s.quire.active ∨ ¬ s.time.gnss.goodClock then s
     else
       let ws := wanted s sats
       let s1 := (List.range 96).foldl (fun t c =>
         if ws.any (holdsWant (chanAt t c)) then t
         else setSatChan c (fun x => { x with signal := 0, svid := 0, used := false, cause := 0 }) (chanEnter c 0 t)) s
       ws.foldl giveChannel s1)

/-! ### Search (R431, R432) -/

/-- Chip rate, carrier, code length and coherent time in ms of a signal (Table 14.1). -/
def signalInfo (sig : Nat) : Nat × Nat × Nat × Nat :=
  let r := if isL1 sig then 1023000 else 10230000
  let f := if isL1 sig then 1575420000 else 1176450000
  match sig with
  | 1 => (r, f, 1023, 1) | 3 => (r, f, 4092, 4) | 5 => (r, f, 10230, 10) | _ => (r, f, 10230, 1)

/-- The time uncertainty in ps, none for the whole code (Table 14.3). -/
def timeUnc (s : State) : Option Nat :=
  if s.tb.acquired then (composed s).map fun e => cdiv e 1000000
  else s.time.gnss.timeAid.map fun a => a.2 * 1000

/-- The frequency uncertainty in 10^-12 (Table 14.3). DEDUCED (unsafe, log 102). -/
def freqUnc (s : State) : Nat :=
  let d := s.time.dpll
  if d.state = 2 ∨ d.state = 3 then 50000 else if d.state = 4 ∨ d.state = 5 then cdiv (kfInUse s) 1000 else 10000000

/-- The grid of a search (R432): code cells and Doppler bins, from the uncertainties of time in ps, position in mm,
orbit in m, and frequency in 10^-12, and v_d. -/
def searchGrid (sig : Nat) (ut : Option Nat) (mm orbit : Option Nat) (uf vd : Nat) : Nat × Nat :=
  let i := signalInfo sig
  let full := 2 * i.2.2.1
  let code := match ut, mm, orbit with
    | some t, some p, some e =>
      let w := t * 299792458 + p * 1000000000 + e * 1000000000000
      min (2 * cdiv (2 * w * i.1) (299792458 * 1000000000000) + 1) full
    | _, _, _ => full
  let den := 1000000000000 * 1575420000
  let w := max (25 * den) (i.2.1 * uf * 1575420000 + vd * i.2.1 * 1000000000000)
  (code, 2 * cdiv (w * 2 * i.2.2.2) (den * 1000) + 1)

/-- The cells a channel's search covers now. -/
def searchCells (s : State) (c : Nat) : Nat :=
  let x := chanAt s c
  let con := signalCon x.signal
  let orbit := orbitOf s con x.svid
  let pos := posUncNow s
  let tracked := !isL1 x.signal && s.time.gnss.channels.any fun y =>
    decide (y.2.state = 3 ∧ isL1 y.2.signal ∧ signalCon y.2.signal = con ∧ y.2.svid = x.svid)
  let vd := if orbit = 0 ∨ pos.isNone then 5000 else if orbit = 1 then 150 else 10
  let g := if tracked then searchGrid x.signal (some 0) pos (some 0) (freqUnc s) vd
    else searchGrid x.signal (timeUnc s) pos (if orbit = 0 then none else some (if orbit = 1 then 3000 else 10)) (freqUnc s) vd
  g.1 * g.2

/-- SEARCH_DWELL (R432): a dwell of a searching channel ends. A detection is confirmed by one more dwell on its
cell before the channel enters PULLIN. -/
def execSearchDwell (channel : Nat) (detected : Bool) (s : State) : Host.Outcome State Fault Refusal :=
  .next
    (let x := chanAt s channel
     if 96 ≤ channel ∨ (x.state ≠ 1 ∧ x.state ≠ 4) then s
     else if detected then
       if x.detected then chanEnter channel 2 s else setSatChan channel (fun y => { y with detected := true }) s
     else
       let n := cdiv (searchCells s channel) 16384
       setSatChan channel (fun y =>
         { y with detected := false, dwells := if y.detected then y.dwells else if n ≤ y.dwells + 1 then 0 else y.dwells + 1 }) s)

/-- CHANNEL_PULLIN_DONE (R430). -/
def execChannelPullinDone (channel : Nat) (s : State) : Host.Outcome State Fault Refusal :=
  .next
    (if (chanAt s channel).state = 2 ∧ (chanAt s channel).stateTime + 100 * ticksPerMs ≤ now s then
       chanEnter channel 3 s
     else s)

/-- CHANNEL_LOCK_LOSS (R430): a tracking channel goes to REACQ. -/
def execChannelLockLoss (channel : Nat) (s : State) : Host.Outcome State Fault Refusal :=
  .next (if (chanAt s channel).state = 3 then chanEnter channel 4 s else s)

/-- REACQ_TIMEOUT (R430): 10 s without reacquisition. -/
def execReacqTimeout (channel : Nat) (s : State) : Host.Outcome State Fault Refusal :=
  .next
    (let x := chanAt s channel
     if x.state = 4 ∧ x.stateTime + 10 * ticksPerSec ≤ now s then chanEnter channel 1 s else s)

/-! ### Navigation data (R431, R436, R437 check 2) -/

/-- Takes a navigation record of a satellite: it is kept; one that differs from the last excludes the satellite until two
consecutive broadcasts agree; UTC data it states are noted. -/
def takeNav (con svid msg : Nat) (bits_ : Bytes) (aided : Bool) (s : State) : State :=
  let g := s.time.gnss
  let old := (navOf s con svid).getD ⟨con, svid, [], aided, []⟩
  let past := (old.records.find? fun r => decide (r.1 = msg)).map (·.2)
  let jump := match past with
    | some b => Config.navJump con msg b bits_
    | none => false
  let n : NavData :=
    { old with
      records := (old.records.filter fun r => decide (r.1 ≠ msg)) ++ [(msg, bits_)]
      aided := aided, odd := (old.odd.filter fun m => decide (m ≠ msg)) ++ if jump then [msg] else [] }
  let us := match Config.navUtc con msg bits_ with
    | some u =>
      let was := g.utc.find? fun a => decide (a.con = con)
      let k := match was with
        | some a => if a.offset = u.1 ∧ a.delta = u.2.1 ∧ a.leapNs = u.2.2 then a.times + 1 else 1
        | none => 1
      (g.utc.filter fun a => decide (a.con ≠ con)) ++ [⟨con, u.1, u.2.1, u.2.2, k⟩]
    | none => g.utc
  let s1 := setGnss (fun y =>
    { y with nav := (y.nav.filter fun a => !decide (a.con = con ∧ a.svid = svid)) ++ [n], utc := us }) s
  match gnssUtc s1 with
  | some u =>
    let s2 := noteUtc s1
    if (utcSource s2).1 = 2 ∧ u.delta ≠ 0 ∧ u.leapNs * ticksPerNs ≠ s2.time.leapDone then
      setTime (fun t => { t with leapAt := u.leapNs * ticksPerNs, leapBy := u.delta }) s2
    else s2
  | none => s1

/-- A record newly decoded in a valid state is sent to the flock where aid_send is set (R478). -/
def shareAid (con svid msg : Nat) (bits_ : Bytes) (fresh : Bool) (s : State) : State :=
  if fresh ∧ s.time.gnss.valid ∧ bit (qRd s.quire.active fFlock 2 1) 2 ∧ Config.navShared con msg then
    flockSend false 3 1 (le 1 con ++ le 1 1 ++ zeros 2 ++ le 1 svid ++ le 1 msg ++ zeros 6 ++ bits_) s
  else s

/-- NAV_MESSAGE_DECODE (R427, R436, R478): a channel in TRACK decodes a message; Vegen's decoding pauses in a restart
(R441). -/
def execNavMessageDecode (channel message : Nat) (bits : Bytes) (s : State) :
    Host.Outcome State Fault Refusal :=
  .next
    (let x := chanAt s channel
     let con := signalCon x.signal
     let b := fit 40 bits
     if x.state ≠ 3 ∨ ¬ vegenUp s ∨ ¬ Config.navGood con message b then s
     else
       let held := ((navOf s con x.svid).map (·.records)).getD []
       shareAid con x.svid message b (!held.contains (message, b))
         (takeNav con x.svid message b false (setSatChan channel (fun y => { y with nav := true }) s)))

/-! ### Integrity (R437) -/

/-- A signal of an epoch with its channel's state. -/
structure Sig where
  rec_ : GnssRec
  chan : Channel

/-- The satellite of a signal. -/
def Sig.sat (x : Sig) : Nat × Nat := (signalCon x.chan.signal, x.chan.svid)

/-- What a check leaves: the signals still in, those excluded with the check's number, and its verdict. -/
structure Checked where
  left : List Sig
  out : List (Nat × Nat)
  failed : List Nat
  spoof : Option Nat
  invalid : Bool

/-- Excludes the signals that satisfy `bad` under check `n`. -/
def Checked.exclude (n : Nat) (bad : Sig → Bool) (k : Checked) : Checked :=
  let gone := k.left.filter bad
  { k with
    left := k.left.filter fun x => !bad x
    out := k.out ++ gone.map fun x => (x.rec_.channel, n)
    failed := if gone = [] then k.failed else k.failed ++ [n] }

/-- Check `n` fails in the spoofing class. -/
def Checked.suspect (n : Nat) (yes : Bool) (k : Checked) : Checked :=
  if yes then
    { k with failed := if k.failed.contains n then k.failed else k.failed ++ [n], spoof := some (k.spoof.getD n) }
  else k

/-- Check `n` makes the solution invalid. -/
def Checked.void (n : Nat) (yes : Bool) (k : Checked) : Checked :=
  if yes then { k with failed := if k.failed.contains n then k.failed else k.failed ++ [n], invalid := true } else k

/-- The median of a list, the mean of the middle two where there are two. DEDUCED (unsafe, log 100). -/
def medianOf (l : List Int) : Int :=
  let m := l.mergeSort fun a b => decide (a ≤ b)
  let n := m.length
  if n % 2 = 1 then m.getD (n / 2) 0 else (m.getD (n / 2 - 1) 0 + m.getD (n / 2) 0) / 2

/-- How far a constellation's clock lies from the median of the others. DEDUCED (unsafe, log 100). -/
def clockOff (l : List (Nat × Int)) (c : Nat × Int) : Nat :=
  (c.2 - medianOf ((l.filter fun x => decide (x.1 ≠ c.1)).map (·.2))).natAbs

/-- The constellations that check 7 excludes, farthest first, and whether two are left in disagreement.
DEDUCED (unsafe, log 100). -/
def clockCheck (limit : Nat) : Nat → List (Nat × Int) → List Nat × Bool
  | 0, _ => ([], false)
  | n + 1, l =>
    let bad := (l.filter fun c => decide (limit < clockOff l c)).mergeSort
      fun a b => decide (clockOff l b ≤ clockOff l a)
    match bad with
    | [] => ([], false)
    | c :: _ =>
      if l.length ≤ 2 then ([], decide (l.length = 2))
      else
        let r := clockCheck limit n (l.filter fun x => decide (x.1 ≠ c.1))
        (c.1 :: r.1, r.2)

/-- The signals of an epoch, one for each channel at most, in channel order. -/
def epochSigs (s : State) (e : GnssEpoch) : List Sig :=
  (List.range 96).filterMap fun c => (e.recs.find? fun r => decide (r.channel = c)).map fun r => ⟨r, chanAt s c⟩

/-- Satellites, each once, of the signals that satisfy a test. -/
def satsOf (l : List Sig) (p : Sig → Bool) : List (Nat × Nat) := ((l.filter p).map Sig.sat).eraseDups

/-- Excludes the satellites listed. -/
def Checked.dropSats (n : Nat) (l : List (Nat × Nat)) (k : Checked) : Checked :=
  k.exclude n fun x => l.contains x.sat

/-- Checks 1 and 2 of Table 14.5: interference, navigation data. -/
def checksData (s : State) (e : GnssEpoch) (k : Checked) : Checked :=
  let jam : Int := gnField s.quire.active 0x72 1 * 100
  let loud (i : Nat) : Bool := decide (jam < e.noise.getD i 0)
  let k1 := k.exclude 1 fun x => loud x.chan.stream && decide (x.rec_.cn0 < 3500)
  let any := (List.range 4).any fun i => loud i && decide (streamState s i ≠ 0)
  let k2 := if any ∧ ¬ k1.failed.contains 1 then { k1 with failed := k1.failed ++ [1] } else k1
  k2.exclude 2 fun x => match navOf s x.sat.1 x.sat.2 with
    | some n => decide (n.odd ≠ [])
    | none => false

/-- Checks 3 to 5 of Table 14.5: cross-frequency, cross-antenna, signal strength. -/
def checksSky (s : State) (e : GnssEpoch) (k : Checked) : Checked :=
  let q := s.quire.active
  let iono := satsOf k.left fun x => match x.rec_.iono with
    | some v => decide (v < -10000 ∨ 150000 < v)
    | none => false
  let k3 := (k.dropSats 3 iono).suspect 3 (decide (3 ≤ iono.length))
  let b := (List.range 3).map fun i => qRdI q fGnss (0x58 + 4 * i) 4
  let two := bit (gnField q 2 1) 5 && decide (250000 ≤ (b.map fun x => x * x).sum)
  let has (x : Sig) : Bool := x.rec_.diff.isSome
  let far := satsOf k3.left fun x => decide (150 < x.rec_.diff.getD 0)
  let same := e.common && decide (4 ≤ (satsOf k3.left has).length)
  let k4 := if two then (k3.dropSats 4 far).suspect 4 same else k3
  let l1 := (k4.left.filter fun x => isL1 x.chan.signal).map (·.rec_.cn0)
  let hi := l1.foldl max 0
  let lo := l1.foldl min hi
  let spread := gnField q 0x6F 1 * 10
  k4.suspect 5 (decide (gnField q 0x6E 1 * 100 < hi) ||
    (decide (6 ≤ l1.length) && decide (hi - lo < spread)))

/-- The growth of the bound now, in ps. -/
def growthPs (s : State) : Nat := cdiv (growthIn s 0) 1000000

/-- Checks 6 to 9 of Table 14.5: residuals, constellations, the time base twice; `t` is the epoch in ns.
DEDUCED (unsafe, log 102). -/
def checksTime (s : State) (t : Nat) (e : GnssEpoch) (k : Checked) : Checked :=
  let q := s.quire.active
  let n0 := k.left.length
  let k6 := k.exclude 6 fun x => decide (max (gnField q 0x68 2 * 1000) x.rec_.sigma5 < x.rec_.resid.natAbs)
  let k6' := k6.suspect 6 (decide (n0 < 3 * (n0 - k6.left.length)))
  let cons := e.clocks.filter fun c => k6'.left.any fun x => decide (x.sat.1 = c.1)
  let r := clockCheck (gnField q 0x6A 2 * 1000) 4 cons
  let k7 := (k6'.exclude 7 fun x => r.1.contains x.sat.1).void 7 r.2
  let limit (g : Nat) : Nat := gnField q 0x6C 2 * 1000 + (growthPs s - g)
  let jump : Bool := match s.time.gnss.lastValid with
    | some v =>
      decide (v.1 + 1000000000 = t) && !s.time.gnss.skip8 &&
        decide (limit v.2.2 < (e.offset - v.2.1 - e.predicted).natAbs)
    | none => false
  let d := s.time.dpll
  let other := (decide (d.state = 2) && decide (d.selected ≠ some 13)) || (decide (d.state = 5) && decide (d.fly = 1))
  let off : Bool := match composed s with
    | some b => decide (max (100 * asPerNs) b < e.offset.natAbs * 1000000)
    | none => false
  (k7.suspect 8 jump).void 9 (other && off)

/-- The checks of Table 14.5 in their order. -/
def runChecks (s : State) (t : Nat) (e : GnssEpoch) : Checked :=
  checksTime s t e (checksSky s e (checksData s e ⟨epochSigs s e, [], [], none, false⟩))

/-! ### The solution (R434 to R439) -/

/-- Whether the receiver surveys now. -/
def surveying (s : State) : Bool := decide (gnField s.quire.active 4 1 = 0) && !s.time.gnss.surveyDone

/-- Marks the signals used and excluded in the channels and in the epoch's records. -/
def markUsed (t : Nat) (k : Checked) (s : State) : State :=
  let used (c : Nat) : Bool := k.left.any fun x => decide (x.rec_.channel = c)
  let cause (c : Nat) : Nat := ((k.out.find? fun o => decide (o.1 = c)).map (·.2)).getD 0
  let touched := (k.left.map fun x => x.rec_.channel) ++ k.out.map (·.1)
  let s1 := touched.foldl (fun u c => setSatChan c (fun x => { x with used := used c, cause := cause c }) u) s
  let mark (b : Nat × Bytes) : Nat × Bytes :=
    if used b.1 then (b.1, b.2.take 3 ++ (b.2.getD 3 0#8 ||| 0x10#8) :: b.2.drop 4) else b
  setGnss (fun g =>
    { g with epochs := g.epochs.map fun p => if p.1 = t then (p.1, p.2.map mark) else p }) s1

/-- A second of the survey (R435): solutions with a PDOP of at most 6 are averaged. -/
def surveySecond (e : GnssEpoch) (s : State) : State :=
  if 60 < e.pdop then s
  else
    let g := s.time.gnss
    let n := g.surveyN + 1
    let sum := (List.range 3).map fun i => g.surveySum.getD i 0 + e.position.getD i 0
    setGnss (fun x =>
      { x with
        surveyN := n, surveySum := sum, position := sum.map (· / (n : Int)), posUnc := e.posUnc
        surveyDone := decide (gnField s.quire.active 0x54 4 ≤ n) }) s

/-- The uncertainty of the position in use, mm. -/
def posMm (s : State) (e : GnssEpoch) : Nat :=
  if gnField s.quire.active 4 1 = 1 then gnField s.quire.active 0x50 4
  else if s.time.gnss.surveyDone then s.time.gnss.posUnc else e.posUnc

/-- The reported uncertainty (R434), ns. -/
def solutionUnc (s : State) (e : GnssEpoch) : Nat :=
  cdiv (5 * e.sigma) 1000 + cdiv (posMm s e * 1000000) 299792458 + 5

/-- SUSPECT entered, or its count restarted (R438, R440). -/
def suspectOn (n : Nat) (s : State) : State :=
  if s.time.gnss.state = 6 then setGnss (fun g => { g with clean := 0 }) s
  else
    raiseIn 12 1057 0 n gnssReset (copyItem (.suspect n) (setGnss (fun g =>
      { g with state := 6, clean := 0, everValid := false, counts := cAdd g.counts 0 1 }) s))

/-- SUSPECT left (R438). -/
def suspectOff (s : State) : State :=
  copyItem .cleared (setGnss (fun g => { g with state := 2, clean := 0, skip8 := true, lastValid := none }) s)

/-- A valid solution (R436): reference 13 measures, and its activity is restored at the third in a row. On a twin whose
partner is linked the two solutions are compared (R440). DEDUCED (unsafe, log 98). DESIGN CHOICE (safe, log 195). -/
def validEpoch (t : Nat) (e : GnssEpoch) (s : State) : State :=
  let grown := growthPs s
  let s1 := setGnss (fun g =>
    { g with
      valid := true, everValid := true, skip8 := false, goodRun := g.goodRun + 1
      lastValid := some (t, e.offset, grown) }) s
  let f := draw s1
  let s1 := if isTwin s ∧ s.fabric.stitch.active then setTwin (fun x => { x with gnssDiffPs := Config.freeInt f.1 }) f.2
    else s1
  let s2 := setRef 13 (fun y => { y with phase := e.offset }) s1
  if 3 ≤ s2.time.gnss.goodRun then activityRestored 13 s2 else s2

/-- An epoch without a valid solution. DEDUCED (unsafe, log 98). -/
def invalidEpoch (s : State) : State :=
  gnssInvalid (setGnss (fun g => { g with counts := cAdd g.counts 1 1 }) s)

/-- HOLDOVER entered (R439). DEDUCED (unsafe, log 98). -/
def gnssHold (s : State) : State := setGnss (fun g => { g with state := 5, holdSince := now s }) s

/-- What the states of R438 and R439 make of an epoch: `enough` signals are left, `fits` says the uncertainty is
within max_unc_ns. DEDUCED (unsafe, log 98). -/
def concludeEpoch (t : Nat) (e : GnssEpoch) (k : Checked) (enough fits : Bool) (s : State) : State :=
  match k.spoof with
  | some n => invalidEpoch (suspectOn n s)
  | none =>
    let g := s.time.gnss
    if g.state = 6 then
      let s1 := setGnss (fun x => { x with clean := x.clean + 1 }) s
      invalidEpoch (if gnField s.quire.active 0x70 2 ≤ g.clean + 1 then suspectOff s1 else s1)
    else
      let sound := enough && !k.invalid
      let s1 := if sound && surveying s then surveySecond e s else s
      if sound && fits then
        validEpoch t e (setGnss (fun x => { x with state := if surveying s then 3 else 4 }) s1)
      else if sound && surveying s then invalidEpoch (setGnss (fun x => { x with state := 3 }) s1)
      else if g.state = 5 then invalidEpoch s1
      else if (g.state = 3 ∨ g.state = 4) ∧ g.everValid then invalidEpoch (gnssHold s1)
      else invalidEpoch (setGnss (fun x => { x with state := 2 }) s1)

/-- The interference event of check 1 for each stream above its threshold (R437); the spec does not give its number, one
of the receiver's unnamed sources. DESIGN CHOICE (unsafe, log 101). -/
def jamEvents (e : GnssEpoch) (s : State) : State :=
  let jam : Int := gnField s.quire.active 0x72 1 * 100
  (List.range 4).foldl (fun t i =>
    if jam < e.noise.getD i 0 ∧ streamState t i ≠ 0 then raiseIn 12 (1058 + Config.code 14 437 % 46) i 1 gnssReset t else t) s

/-- The solution of an epoch of a TAI second, `t` ns (R434 to R439). -/
def solveEpoch (t : Nat) (e : GnssEpoch) (s : State) : State :=
  let k := runChecks s t e
  let unc := solutionUnc s e
  let enough := if surveying s then decide (4 ≤ (satsOf k.left fun _ => true).length)
    else decide (gnField s.quire.active 6 1 ≤ k.left.length)
  let fits := decide (unc ≤ gnField s.quire.active 0x66 2)
  let hold := s.time.gnss.state = 5 ∧ ¬ (enough ∧ fits)
  let mask := (k.failed.map fun n => 2 ^ (n - 1)).foldl (· ||| ·) 0
  let s1 := setGnss (fun g =>
    { g with
      noise := (List.range 4).map fun i => e.noise.getD i 0
      used := k.left.length, checks := mask, counts := cAdd g.counts 2 k.out.length
      epoch := if enough then t else g.epoch, offset := if enough then e.offset else g.offset
      uncertainty := if enough ∧ ¬ hold then unc else g.uncertainty }) (markUsed t k s)
  concludeEpoch t e k enough fits (jamEvents e s1)

/-- The buffered epochs of a control-plane restart are solved in order (R441). DEDUCED (unsafe, log 102). -/
def solvePaused (s : State) : State :=
  let l := s.time.gnss.paused
  l.foldl (fun u p => solveEpoch p.1 p.2 u) (setGnss (fun g => { g with paused := [] }) s)

/-- A measurement record (Table 14.4), the stream's delay_ps subtracted (R425). DEDUCED (unsafe, log 99). -/
def measRecord (s : State) (x : Sig) : Bytes :=
  let d := qRdI s.quire.active fGnss (0x28 + 4 * x.chan.stream) 4
  le 1 x.rec_.channel ++ le 1 x.chan.signal ++ le 1 x.chan.svid ++ le 1 (x.rec_.flags % 16) ++ le 2 x.rec_.cn0 ++
    le 2 (min x.rec_.lockS 0xFFFF) ++ le 8 (((x.rec_.txPs : Int) - d) % 604800000000000000).toNat ++
    leI 8 x.rec_.carrier ++ leI 4 x.rec_.doppler ++ zeros 4

/-- MEASUREMENT_EPOCH (R433, R434): at a whole multiple of 1 / meas_rate, the records of the channels in TRACK are
latched; a TAI second's epoch is solved, or kept until Vegen is up. DESIGN CHOICE (unsafe, log 97). -/
def execMeasurementEpoch (e : GnssEpoch) (s : State) : Host.Outcome State Fault Refusal :=
  .next
    (let g := s.time.gnss
     if g.state = 0 then s
     else
       let rate := gnField s.quire.active 7 1
       let p := 1000000000 / max rate 1
       let t := nowNs s / p * p
       if g.state = 1 then (if t % 1000000000 = 0 then invalidEpoch s else s)
       else
         let tracked := { e with recs := e.recs.filter fun r => decide ((chanAt s r.channel).state = 3) }
         let sigs := epochSigs s tracked
         let recs := sigs.map fun x => (x.rec_.channel, measRecord s x)
         let s1 := sigs.foldl (fun u x => setSatChan x.rec_.channel (fun y => { y with cn0 := x.rec_.cn0 }) u)
           (setGnss (fun y => { y with epochs := keepLast 64 (y.epochs ++ [(t, recs)]) }) s)
         if t % 1000000000 ≠ 0 then s1
         else if vegenUp s then solveEpoch t tracked (solvePaused s1)
         else gnssInvalid (setGnss (fun y => { y with paused := keepLast 64 (y.paused ++ [(t, tracked)]) }) s1))

/-- GNSS_HOLD_TIMEOUT (R439): after hold_s in HOLDOVER the time aid is discarded. -/
def execGnssHoldTimeout (s : State) : Host.Outcome State Fault Refusal :=
  .next
    (let g := s.time.gnss
     if g.state = 5 ∧ g.holdSince + gnField s.quire.active 0x74 4 * ticksPerSec ≤ now s then
       setGnss (fun x => { x with state := 2, everValid := false, lastValid := none, timeAid := none }) s
     else s)

/-- What a swap of the GNSS folio does to the channels and the receiver (R443), the device's former folio being
that of `old`. DEDUCED (unsafe, log 103). -/
def gnssChange (old : Quire) (s : State) : State :=
  let q := s.quire.active
  let img (x : Quire) (o n : Nat) : Bytes := (List.range n).map fun i => qByte x fGnss (o + i)
  if img old 0 128 = img q 0 128 then s
  else
    let s1 := setGnss (fun g => { g with skip8 := true }) s
    if ¬ gnssOn q then
      let s2 := setGnss (fun g => { g with state := 0 }) (idleAll s1)
      if s.time.gnss.valid then gnssInvalid s2 else s2
    else
      let rate := decide (gnField old 3 1 ≠ gnField q 3 1)
      let strm (i : Nat) : Bool := decide (img old (8 + 8 * i) 8 ≠ img q (8 + 8 * i) 8)
      let flag (c : Nat) : Bool := bit (gnField old 2 1) c != bit (gnField q 2 1) c
      let touch (u : State) (c : Nat) : State :=
        let x := chanAt u c
        if x.state = 0 then u
        else if qRd q fGnss (8 + 8 * x.stream) 1 = 0 ∨ ¬ bit (gnField q 2 1) (signalCon x.signal) then chanEnter c 0 u
        else if rate || strm x.stream || flag (signalCon x.signal) then chanEnter c 1 u
        else u
      let s2 := (List.range 96).foldl touch s1
      let anew := decide (gnField old 4 1 = 1 ∧ gnField q 4 1 = 0)
      setGnss (fun g =>
        { g with
          state := if g.state = 0 then (if g.goodClock then 2 else 1) else g.state
          surveyN := if anew then 0 else g.surveyN
          surveySum := if anew then [0, 0, 0] else g.surveySum
          surveyDone := g.surveyDone && !anew }) s2

/-! ### Commands (R444 to R447) -/

/-- The reply of GNS_STATUS (Table 14.8). DEDUCED (unsafe, log 103). -/
def gnsStatus (s : State) : Bytes :=
  let g := s.time.gnss
  let q := s.quire.active
  let fixed := decide (gnField q 4 1 = 1)
  let u := gnssUtc s
  let leap := (u.map (·.delta)).getD 0
  let pos := if fixed then (List.range 3).map fun i => qRdI q fGnss (0x38 + 8 * i) 8 else g.position
  let unc := if g.state = 5 then g.uncertainty + cdiv (growthIn s 0) asPerNs else g.uncertainty
  le 1 g.state ++ le 1 g.used ++ le 1 (g.channels.filter fun c => decide (c.2.state = 3)).length ++
    le 1 ((List.range 4).map fun i => streamState s i * 4 ^ i).sum ++ le 2 g.checks ++
    le 2 (if g.state = 6 then gnField q 0x70 2 - g.clean else 0) ++ le 8 g.epoch ++ leI 8 g.offset ++
    le 4 (min unc 0xFFFFFFFF) ++ le 4 (if surveying s then gnField q 0x54 4 - g.surveyN else 0) ++
    (List.range 3).flatMap (fun i => leI 8 (pos.getD i 0)) ++
    le 4 (if fixed then gnField q 0x50 4 else g.posUnc) ++
    (match u with
     | some x => leI 2 x.offset
     | none => le 2 0x7FFF) ++
    leI 1 leap ++ zeros 1 ++ le 8 (if leap = 0 then 0 else (u.map (·.leapNs)).getD 0) ++
    (List.range 4).flatMap (fun i => leI 2 (g.noise.getD i 0)) ++ cBytes g.counts 3 ++ zeros 4

/-- GNS_STATUS (R444). -/
def execGnsStatus (r : Req) (s : State) : Host.Outcome State Fault Refusal :=
  .next (command 0x0E01
    (fun r s => needLen 4 r s fun _ => needForm (clearForm r) s fun _ =>
      let clear := bit (rd r.params 0 1) 0
      { st := if clear then setGnss (fun g => { g with counts := [] }) s else s
        params := gnsStatus s
        clearing := clear }) r s)

/-- A record of GNS_CHANNELS (Table 14.9). -/
def channelRecord (s : State) (c : Nat) : Bytes :=
  let x := chanAt s c
  le 1 c ++ le 1 x.state ++ le 1 x.signal ++ le 1 x.svid ++ le 1 x.stream ++
    le 1 (b2n x.used + 2 * b2n (decide (x.cause ≠ 0)) + 4 * b2n x.nav) ++ le 1 x.cause ++ zeros 1 ++ le 2 x.cn0 ++
    leI 2 x.elevation ++ le 2 x.azimuth ++ zeros 2 ++ le 8 (x.stateTime / ticksPerNs)

/-- GNS_CHANNELS (R445). -/
def execGnsChannels (r : Req) (s : State) : Host.Outcome State Fault Refusal :=
  .next (command 0x0E02
    (fun r s => needLen 4 r s fun _ =>
      let first := rd r.params 0 1
      let n := rd r.params 1 1
      needForm [(decide (first < 96), 0), (decide (1 ≤ n ∧ first + n ≤ 96), 1), (isZero r.params 2 2, 2)] s fun _ =>
        okay s ((List.range n).flatMap fun j => channelRecord s (first + j))) r s)

/-- The navigation records of a GNS_AID: satellite, message number, message bits. -/
def aidRecords (p : Bytes) (n : Nat) : List (Nat × Nat × Bytes) :=
  (List.range n).map fun i => (rd p (8 + 48 * i) 1, rd p (9 + 48 * i) 1, slice p (16 + 48 * i) 40)

/-- Takes an aid (R431, R446), its parameters as GNS_AID has them, already checked in form. -/
def takeAid (p : Bytes) (s : State) : State :=
  let kind := rd p 0 1
  copyItem (.aid p)
    (if kind = 1 then setGnss (fun g => { g with timeAid := some (rd p 8 8, rd p 16 4) }) s
     else if kind = 2 then
       setGnss (fun g =>
         { g with posAid := some ((List.range 3).map fun i => rdI p (8 + 8 * i) 8, rd p 32 4) }) s
     else if kind = 6 then (if s.time.gnss.state = 6 then suspectOff s else s)
     else (aidRecords p (rd p 2 2)).foldl (fun t x => takeNav (rd p 1 1) x.1 x.2.1 x.2.2 true t) s)

/-- What forbids an aid (R446): status and detail. DEDUCED (unsafe, log 103). -/
def aidRefused (port : Nat) (p : Bytes) (s : State) : Option (Nat × Nat) :=
  let kind := rd p 0 1
  let con := rd p 1 1
  let n := rd p 2 2
  let nav := decide (3 ≤ kind ∧ kind ≤ 5)
  let len := match kind with
    | 1 => 20 | 2 => 36 | 6 => 8 | _ => 8 + 48 * n
  let good (i : Nat) : Bool := Config.navGood con (rd p (9 + 48 * i) 1) (slice p (16 + 48 * i) 40)
  let badRec := (List.range n).find? fun i => !(isZero p (10 + 48 * i) 6 && good i)
  if 1 ≤ kind ∧ kind ≤ 6 ∧ p.length ≠ len then some (stBadLength, 0xFFFF)
  else if ¬ (1 ≤ kind ∧ kind ≤ 6) then some (stBadParam, 0)
  else if nav ∧ ¬ (1 ≤ con ∧ con ≤ 3) ∨ ¬ nav ∧ con ≠ 0 then some (stBadParam, 1)
  else if nav ∧ ¬ (1 ≤ n ∧ n ≤ 64) then some (stBadParam, 2)
  else if ¬ isZero p 4 4 then some (stBadParam, 4)
  else if kind = 6 ∧ port ≠ portRoot then some (stNotPermitted, port)
  else if kind = 1 ∧ s.tb.acquired then some (stNotActive, 0)
  else if kind = 2 ∧ gnField s.quire.active 4 1 = 1 then some (stNotActive, 0)
  else if nav then badRec.map fun i => (stBadParam, if good i then 10 + 48 * i else 8 + 48 * i)
  else none

/-- GNS_AID (R446). -/
def execGnsAid (r : Req) (s : State) : Host.Outcome State Fault Refusal :=
  .next (command 0x0E03
    (fun r s =>
      if r.params.length < 8 then refuse s stBadLength 0xFFFF
      else match aidRefused r.port r.params s with
        | some (st, d) => refuse s st d
        | none => okay (takeAid r.params s) []) r s)

/-- GNS_MEAS (R447). -/
def execGnsMeas (r : Req) (s : State) : Host.Outcome State Fault Refusal :=
  .next (command 0x0E04
    (fun r s => needLen 16 r s fun _ =>
      let t := rd r.params 0 8
      let first := rd r.params 8 1
      let n := rd r.params 9 1
      needForm [(decide (first < 96), 8), (decide (1 ≤ n ∧ first + n ≤ 96), 9), (isZero r.params 10 6, 10)] s fun _ =>
        let es := s.time.gnss.epochs
        match (if t = 0 then es.getLast? else es.find? fun p => decide (p.1 = t)) with
        | none => refuse s stNotActive 0
        | some p =>
          let recs := p.2.filter fun b => decide (first ≤ b.1 ∧ b.1 < first + n)
          okay s (le 8 p.1 ++ le 2 recs.length ++ zeros 6 ++ recs.flatMap (·.2))) r s)

end Sys2Proof.Machine
end

