-- ==== Sys2Proof/Machine/Flock.lean ====
section
/-! DEFINITION. The flock (R473 to R479, R481 to R483). -/

namespace Sys2Proof.Machine

/-- Changes the flock's state. -/
def setFlock (f : Flock → Flock) (s : State) : State := { s with flock := f s.flock }

/-- A field of the FLOCK folio (Table 15.9). -/
def fkField (q : Quire) (o k : Nat) : Nat := qRd q fFlock o k

/-- The composed bound as packets carry it (R412). -/
def boundWord (s : State) : Nat := (servedBound s).getD 0xFFFFFFFF

/-- The partner's flock_id (R64, Table 15.9). -/
def partnerFlockId (s : State) : Nat :=
  if isTwin s then fkField s.quire.active (if s.boot.side = 0 then 0xE8 else 4) 4 else 0x3FFFF

/-- The flags of a HELLO (Table 15.11). -/
def helloFlags (s : State) : Nat :=
  b2n s.drv.fenced + 2 * b2n (!s.tb.acquired) + 4 * b2n s.time.dpll.holdExpire + 8 * b2n (hasPartner s)

/-- The body of a HELLO (Table 15.11). -/
def helloBody (s : State) : Bytes :=
  le 1 s.twin.role.code ++ le 1 (helloFlags s) ++ zeros 2 ++ le 4 (boundWord s) ++ fit 16 s.keys.serial ++
    le 4 (partnerFlockId s) ++ zeros 4 ++ fit 48 s.quire.baseDigest ++ le 4 s.quire.changeCount.toNat

/-- The lowest index no member has. -/
def freeMember (l : List (Nat × Member)) : Nat :=
  ((List.range (l.length + 1)).find? fun i => !(l.any fun p => decide (p.1 = i))).getD l.length

/-- Whether another member has this flock_id under another serial (R476). DESIGN CHOICE (unsafe, log 101). -/
def clashes (l : List (Nat × Member)) (id : Nat) (serial : Bytes) : Bool :=
  l.any fun p => decide (p.2.flockId = id ∧ p.2.serial ≠ serial)

/-- A sender is listed, at its index if it has one (R476, R483); a new clash of identities raises an event, whose number
among the flock's unnamed sources the spec does not give. -/
def listMember (m : Member) (s : State) : State :=
  let l := s.flock.members
  let mine (p : Nat × Member) : Bool := decide (p.2.flockId = m.flockId ∧ p.2.serial = m.serial)
  match l.find? mine with
  | some p => setFlock (fun f => { f with members := mput f.members p.1 m }) s
  | none =>
    let dup := clashes l m.flockId m.serial
    let s1 := setFlock (fun f =>
      { f with members := mput f.members (freeMember l) m, duplicateSeen := f.duplicateSeen || dup }) s
    if dup then raise (1109 + Config.code 15 476 % 59) 0 m.flockId s1 else s1

/-- This device as a member of its flock. DESIGN CHOICE (unsafe, log 105). -/
def selfMember (s : State) : Member :=
  { flockId := flockId s, serial := fit 16 s.keys.serial, epoch := s.boot.epoch
    side := if isTwin s then s.boot.side else 2, fenced := s.drv.fenced, partner := hasPartner s, bound := boundWord s
    netPort := fkField s.quire.active 0x24 2, station := s.boot.foldAddr, addr := zeros 16, heard := nowNs s
    digest := fit 48 s.quire.baseDigest }

/-- FLOCK_HELLO_SEND (R476, Table 15.11): to the group and on the fold bus. -/
def execFlockHelloSend (s : State) : Host.Outcome State Fault Refusal :=
  .next (if flockMember s then flockSend false 1 1 (helloBody s) (listMember (selfMember s) s) else s)

/-- MEMBER_AGEING (R476): senders not heard for 3 × hello_s are no longer listed. -/
def execMemberAgeing (s : State) : Host.Outcome State Fault Refusal :=
  .next (setFlock (fun f =>
    { f with
      members := f.members.filter fun p =>
        decide (nowNs s ≤ p.2.heard + 3 * fkField s.quire.active 3 1 * 1000000000) }) s)

/-- A HELLO accepted (R476). -/
def takeHello (port station : Nat) (addr m : Bytes) (s : State) : State :=
  let b := m.drop 32
  listMember
    { flockId := rd m 8 4, serial := slice b 8 16, epoch := rd m 0xC 2, side := rd m 0xE 1
      fenced := bit (rd b 1 1) 0, partner := bit (rd b 1 1) 3, bound := rd b 4 4, netPort := port
      station := station, addr := fit 16 addr, heard := nowNs s, digest := slice b 32 48 } s

/-- A REPORT accepted (R477): entered in the heard log of 4,096. -/
def takeReport (m : Bytes) (s : State) : State :=
  let b := slice m 32 (rd m 4 2)
  setFlock (fun f =>
    { f with
      heard := keepLast 4096 (f.heard ++ [⟨f.heardSerial + 1, rd b 8 4, b⟩])
      heardSerial := f.heardSerial + 1, heardCount := satInc f.heardCount }) s

/-- An AID accepted (R478): its records go to the receiver as GNS_AID from FLOCK, after a control-plane restart if one is
under way (Table 18.11). -/
def takeAidMessage (m : Bytes) (s : State) : State :=
  let b := slice m 32 (rd m 4 2)
  let p := le 1 4 ++ le 1 (rd b 0 1) ++ le 2 (rd b 1 1) ++ zeros 4 ++ b.drop 4
  if bit (fkField s.quire.active 2 1) 3 ∧ 1 ≤ rd b 1 1 ∧ rd b 1 1 ≤ 28 ∧ (aidRefused portFlock p s).isNone then
    if s.boot.restart.isSome then setFlock (fun f => { f with aids := f.aids ++ [p] }) s else takeAid p s
  else s

/-- The serial by which a message's sender is identified: a HELLO's own, else that of the member listed under its
flock_id, at its address first. DEDUCED (unsafe, log 104). -/
def senderSerial (s : State) (addr m : Bytes) : Bytes :=
  if rd m 3 1 = 1 then slice m 40 16
  else
    let l := s.flock.members.filter fun p => decide (p.2.flockId = rd m 8 4)
    match l.find? fun p => decide (p.2.addr = fit 16 addr) with
    | some p => p.2.serial
    | none => match l with
      | p :: _ => p.2.serial
      | [] => []

/-- A flock message whose ICV holds: sequence, epoch and type (R474, R475), then its body. -/
def acceptFlock (port station : Nat) (addr m : Bytes) (s : State) : State :=
  let id := rd m 8 4
  let ser := senderSerial s addr m
  let seq := rd m 0x10 8
  let mine (x : Nat × Bytes × Nat) : Bool := decide (x.1 = id ∧ x.2.1 = ser)
  let old : Bool := match s.flock.accepted.find? mine with
    | some x => decide (seq ≤ x.2.2)
    | none => false
  if old then setFlock (fun f => { f with replays := satInc f.replays }) s
  else if s.boot.epoch < rd m 6 2 ∨ ¬ (1 ≤ rd m 3 1 ∧ rd m 3 1 ≤ 3) then
    setFlock (fun f => { f with unknown := satInc f.unknown }) s
  else
    let s1 := setFlock (fun f =>
      { f with
        accepted := (f.accepted.filter fun x => !mine x) ++ [(id, ser, seq)]
        acceptedCount := satInc f.acceptedCount }) s
    match rd m 3 1 with
    | 1 => takeHello port station addr m s1
    | 2 => takeReport m s1
    | _ => takeAidMessage m s1

/-- A flock message heard (R474), on a network port or, with port 0xFFFF, from a fold bus station. -/
def handleFlock (port station : Nat) (addr m : Bytes) (s : State) : State :=
  let n := rd m 4 2
  if ¬ flockMember s ∨ m.length ≠ 48 + n ∨ 1400 < n ∨ rd m 0 2 ≠ 0xF10C ∨ rd m 2 1 ≠ 1 then s
  else
    let k := keyUse (fkField s.quire.active 0xE 2) 9 1 0xF004 s
    let good : Bool := match k.2 with
      | some slot => decide (fit 16 (Config.hmac256 slot.key (m.take (32 + n))) = m.drop (32 + n))
      | none => false
    if good then acceptFlock port station addr m k.1
    else setFlock (fun f => { f with icvFailures := satInc f.icvFailures }) k.1

/-- FLOCK_MESSAGE_RECEIVE (R474 to R478). DEDUCED (unsafe, log 104). -/
def execFlockMessageReceive (port station : Nat) (addr msg : Bytes) (s : State) :
    Host.Outcome State Fault Refusal :=
  .next (handleFlock port station addr msg s)

/-! ### Commands (R481 to R483) -/

/-- The bellwether (R406): its clockIdentity and clockClass, and whether it is this device.
DESIGN CHOICE (unsafe, log 105). -/
def bellwether (s : State) : Bytes × Nat × Bool :=
  let q := s.quire.active
  let i := qRd q fTime 3 1
  if ¬ piEnabled q i then (zeros 8, 0, false)
  else match (instAt s i).master with
    | some f => (fit 8 f.gm, f.quality / 2 ^ 24 % 256, false)
    | none =>
      if (piPorts q i).any fun p => decide ((ppAt s p).state = 6) then (clockId s, clockClass s, true)
      else (zeros 8, 0, false)

/-- The reply of FLK_STATUS (R481). DESIGN CHOICE (unsafe, log 105). -/
def flkStatus (s : State) : Bytes :=
  let f := s.flock
  let b := bellwether s
  let es := f.members.map fun p => p.2.epoch
  let hi := es.foldl max 0
  le 4 (flockId s) ++ le 2 s.boot.epoch ++
    le 1 (b2n (flockMember s) + 2 * b2n s.drv.fenced + 4 * b2n b.2.2 + 8 * b2n f.duplicateSeen) ++ zeros 1 ++
    le 4 f.members.length ++ le 4 (fenceBound s) ++ le 4 (boundWord s) ++ le 2 (es.foldl min hi) ++ le 2 hi ++
    b.1 ++ le 1 b.2.1 ++ zeros 7 ++ le 4 f.acceptedCount.toNat ++ le 4 f.icvFailures.toNat ++ le 4 f.replays.toNat ++
    le 4 f.unknown.toNat ++ le 4 f.sent.toNat ++ le 4 f.heardCount.toNat

/-- FLK_STATUS (R481). -/
def execFlkStatus (r : Req) (s : State) : Host.Outcome State Fault Refusal :=
  .next (command 0x0F05 (fun r s => needLen 0 r s fun _ => okay s (flkStatus s)) r s)

/-- FLK_REPORT (R482). -/
def execFlkReport (r : Req) (s : State) : Host.Outcome State Fault Refusal :=
  .next (command 0x0F06
    (fun r s => needLen 16 r s fun _ =>
      let log := rd r.params 0 1
      let op := rd r.params 1 1
      let n := rd r.params 2 2
      let aft := BitVec.ofNat 32 (rd r.params 4 4)
      let rel := BitVec.ofNat 32 (rd r.params 8 4)
      needForm
        [(decide (log ≤ 1), 0), (decide (op ≤ 1), 1), (decide (1 ≤ n ∧ n ≤ 64), 2), (isZero r.params 12 4, 12)] s fun _ =>
        let l := if log = 0 then s.flock.own else s.flock.heard
        let out := (l.filter fun x => serialAfter x.serial aft).take n
        { st :=
            if op = 1 ∧ log = 0 then
              setFlock (fun f => { f with own := f.own.filter fun x => serialAfter x.serial rel }) s
            else s
          params := out.flatMap fun x => le 4 x.serial.toNat ++ le 4 x.reporter ++ x.body
          clearing := decide (op = 1) }) r s)

/-- A record of FLK_MEMBERS (R483). -/
def memberRecord (s : State) (m : Member) : Bytes :=
  le 4 m.flockId ++ le 2 m.epoch ++ le 1 m.side ++
    le 1 (b2n m.fenced + 2 * b2n m.partner + 4 * b2n (clashes s.flock.members m.flockId m.serial)) ++ le 4 m.bound ++
    le 2 m.netPort ++ le 1 m.station ++ zeros 1 ++ fit 16 m.addr ++ le 8 m.heard ++ fit 8 m.digest

/-- FLK_MEMBERS (R483). -/
def execFlkMembers (r : Req) (s : State) : Host.Outcome State Fault Refusal :=
  .next (command 0x0F07
    (fun r s => needLen 8 r s fun _ =>
      let first := rd r.params 0 4
      let n := rd r.params 4 2
      needForm [(decide (1 ≤ n ∧ n ≤ 512), 4), (isZero r.params 6 2, 6)] s fun _ =>
        let l := s.flock.members.filter fun p => decide (first ≤ p.1)
        let next := match l[n]? with
          | some p => p.1
          | none => 0xFFFFFFFF
        okay s (le 4 s.flock.members.length ++ le 4 next ++ (l.take n).flatMap fun p => memberRecord s p.2)) r s)

end Sys2Proof.Machine
end

