-- ==== Sys2Proof/Machine/Keys.lean ====
section
/-! DEFINITION. The key store, the life cycle and the imprint (chapter 16). -/

namespace Sys2Proof.Machine

/-- Changes the key store. -/
def setKeys (f : Keys → Keys) (s : State) : State := { s with keys := f s.keys }

/-- The root generation of a life-cycle state (Table 16.1), 0 for none. -/
def rootGen (lc : Nat) : Nat := if lc ≤ 1 then 1 else if lc ≤ 3 then 2 else if lc = 4 then 3 else 0

/-- The code of a slot state (Table 16.7). -/
def KeyState.code : KeyState → Nat
  | .empty => 0 | .loaded => 1 | .generated => 2 | .fixed => 3 | .damaged => 4

/-- A slot record (Table 16.7). -/
def slotRecord (s : State) (n : Nat) : Bytes :=
  let k := keySlot s n
  le 2 n ++ le 1 k.state.code ++ le 1 k.alg ++ le 1 k.world ++ le 1 k.lcsMask ++ le 2 k.master ++ le 1 k.flags ++
    zeros 3 ++ le 4 k.version ++ fit 16 k.keyId

/-- The attribute digest (R490). -/
def attributeDigest (s : State) : Bytes :=
  sha384 (le 1 (lifeCycle s) ++ le 1 (rootGen (lifeCycle s)) ++
    (List.range 496).flatMap fun j => slotRecord s (16 + j))

/-- KEY_STATUS (R499). -/
def execKeyStatus (r : Req) (s : State) : Host.Outcome State Fault Refusal :=
  .next (command 0x1001
    (fun r s => needLen 8 r s fun _ =>
      let first := rd r.params 0 2
      let n := rd r.params 2 2
      needForm [(decide (first < 512), 0), (decide (1 ≤ n ∧ first + n ≤ 512), 2), (isZero r.params 4 4, 4)] s fun _ =>
        { st := setKeys (fun k => { k with refused := 0 }) s
          params :=
            le 1 (lifeCycle s) ++ le 1 (rootGen (lifeCycle s)) ++ zeros 2 ++ le 4 s.keys.refused.toNat ++
              attributeDigest s ++ (List.range n).flatMap fun j => slotRecord s (first + j)
          clearing := true }) r s)

/-! ### Permitted combinations (R488, R496) -/

/-- Key bytes of an algorithm (Table 16.5). -/
def keyBytes : Nat → Nat
  | 1 => 32 | 2 => 32 | 3 => 48 | 4 => 48 | 5 => 97 | 6 => 4032 | 7 => 48 | _ => 0

/-- Whether a user slot may have an algorithm, a world and a master together (Table 16.6, R488).
DEDUCED (unsafe, log 108). -/
def permits (alg world master : Nat) : Bool :=
  match world with
  | 4 => decide (alg = 2 ∧ master = 0xF002)
  | 5 => decide (alg = 4 ∧ master = 0xF005)
  | 6 => decide (alg = 5 ∧ master ≤ 0x105 ∧ master ≠ portPartner)
  | 7 => decide (alg = 1 ∧ master = 0xF003)
  | 8 => decide ((alg = 3 ∧ master = 0xF003) ∨ (alg = 4 ∧ master = 0xF005))
  | 9 => decide (alg = 1 ∧ master = 0xF004)
  | _ => false

/-- Whether a load needs an authorisation (R496). DEDUCED (unsafe, log 108). -/
def needsAuth (s : State) (world master mask : Nat) : Bool :=
  (decide (world = 6) && decide (master ∈ [portSafety, portFactory, portDebug])) ||
    (List.range 5).any fun n => bit mask n && decide (rootGen n ≠ rootGen (lifeCycle s))

/-- The slot of the present root (Table 16.1). -/
def rootSlot (s : State) : Nat := rootGen (lifeCycle s) - 1

/-- Verification of a signature under the present root over the SHA-384 of some bytes. -/
def rootSigned (bytes sig : Bytes) (s : State) : State × Bool :=
  let k := keyUse (rootSlot s) 1 5 0xF001 s
  match k.2 with
  | some x => (k.1, Config.ecdsaVerify x.pub (Config.sha384 bytes) sig)
  | none => (k.1, false)

/-- The plain key of a KEY_LOAD: none if the wrapping key is refused or the tag fails (R496). -/
def unwrap (p blob : Bytes) (s : State) : State × Option Bytes :=
  let aad := p.take 0x18
  let nonce := slice p 0x7C 12
  match rd p 2 1 with
  | 0 => (s, some blob)
  | 1 =>
    let k := keyUse (rd p 0xA 2) 4 2 0xF002 s
    (k.1, k.2.bind fun x => Config.gcmOpen x.key nonce aad blob)
  | _ =>
    let k := keyUse 6 3 7 0xF002 s
    let eph := slice p 0x18 97
    (k.1, k.2.bind fun x =>
      Config.gcmOpen (Config.hkdf (fit 16 s.keys.serial) (Config.ecdh x.key eph) (ascii "DXK key-load" ++ eph) 32)
        nonce aad blob)

/-- Puts a key into a user slot, and its flash record where it is persistent (R492). -/
def putKey (n : Nat) (k : KeySlot) (s : State) : State :=
  let s1 := setKey n k s
  if bit k.flags 0 then setKeys (fun x => { x with flash := mset noKey x.flash n k }) s1 else s1

/-- The form of KEY_LOAD (Table 16.8). DEDUCED (unsafe, log 108). -/
def keyLoadForm (p : Bytes) : List (Bool × Nat) :=
  let slot := rd p 0 2
  let mode := rd p 2 1
  [ (decide (16 ≤ slot ∧ slot < 512), 0), (decide (mode ≤ 2), 2), (decide (rd p 3 1 < 4), 3),
    (decide (1 ≤ rd p 4 1 ∧ rd p 4 1 ≤ 7), 4), (decide (4 ≤ rd p 5 1 ∧ rd p 5 1 ≤ 9), 5), (decide (rd p 6 1 < 64), 6),
    (isZero p 7 1, 7), (decide (if mode = 1 then rd p 0xA 2 < 512 else rd p 0xA 2 = 0), 0xA),
    (decide (rd p 0x12 2 ≤ 8192), 0x12), (isZero p 0x14 4, 0x14), (decide (mode = 2) || isZero p 0x18 97, 0x18),
    (isZero p 0x79 3, 0x79), (decide (mode ≠ 0) || isZero p 0x7C 12, 0x7C),
    (permits (rd p 4 1) (rd p 5 1) (rd p 8 2), 0xFFFF), (decide (mode ≠ 0 ∨ rd p 4 1 = 5), 0xFFFF) ]

/-- What KEY_LOAD does once its form is right: the key is unwrapped, authorised and put into its slot.
DEDUCED (unsafe, log 108). -/
def keyLoad (p : Bytes) (s : State) : Ans :=
  let slot := rd p 0 2
  let alg := rd p 4 1
  let nb := rd p 0x10 2
  let nc := rd p 0x12 2
  let auth := bit (rd p 3 1) 1
  if rd p 2 1 = 1 ∧ (keySlot s (rd p 0xA 2)).world ≠ 4 then refuse s stBadParam 0xFFFF
  else if (keySlot s slot).state ≠ .empty then refuse s stBusy 0
  else
    let u := unwrap p (slice p 0x88 nb) s
    match u.2 with
    | none => refuse u.1 stNotPermitted 0
    | some key =>
      let pub := if alg = 5 then key else if 4 ≤ alg then Config.pubOf alg key else []
      let kid := keyIdOf alg key pub
      let v := if auth then rootSigned (p.take 0x18 ++ kid) (slice p (0x88 + nb + nc) 96) u.1 else (u.1, true)
      if ¬ v.2 ∨ (¬ auth ∧ needsAuth s (rd p 5 1) (rd p 8 2) (rd p 6 1)) then refuse v.1 stNotPermitted 0
      else
        okay (putKey slot
          { state := .loaded, alg := alg, world := rd p 5 1, lcsMask := rd p 6 1, master := rd p 8 2
            flags := rd p 3 1 % 2 + 2 * b2n auth + 4 * b2n (decide (nc ≠ 0)), version := rd p 0xC 4, keyId := kid
            key := key, pub := pub, cert := slice p (0x88 + nb) nc } v.1) []

/-- KEY_LOAD (R496). DESIGN CHOICE (unsafe, log 21). -/
def execKeyLoad (r : Req) (s : State) : Host.Outcome State Fault Refusal :=
  .next (command 0x1002
    (fun r s =>
      let p := r.params
      let known := decide (1 ≤ rd p 4 1 ∧ rd p 4 1 ≤ 7 ∧ rd p 2 1 ≤ 2)
      let right := keyBytes (rd p 4 1) + (if rd p 2 1 = 0 then 0 else 16)
      let total := 0x88 + rd p 0x10 2 + rd p 0x12 2 + (if bit (rd p 3 1) 1 then 96 else 0)
      if p.length < 0x88 ∨ p.length ≠ total ∨ (known ∧ rd p 0x10 2 ≠ right) then refuse s stBadLength 0xFFFF
      else needForm (keyLoadForm p) s fun _ => keyLoad p s) r s)

/-- A key generated from the DRBG (R493, R497). -/
def generate (alg : Nat) (s : State) : (Bytes × Bytes) × State :=
  let d := draw s
  (Config.keygen alg d.1, setKeys (fun k => { k with requests := k.requests + 1 }) d.2)

/-- KEY_GENERATE (R497). -/
def execKeyGenerate (r : Req) (s : State) : Host.Outcome State Fault Refusal :=
  .next (command 0x1003
    (fun r s => needLen 16 r s fun _ =>
      let p := r.params
      let slot := rd p 0 2
      let alg := rd p 3 1
      let world := rd p 4 1
      let mask := rd p 5 1
      let master := rd p 6 2
      needForm
        [(decide (16 ≤ slot ∧ slot < 512), 0), (decide (rd p 2 1 < 2), 2), (decide (alg = 4 ∨ alg = 6 ∨ alg = 7), 3),
          (decide (4 ≤ world ∧ world ≤ 9), 4), (decide (mask < 64), 5), (isZero p 12 4, 12),
          (permits alg world master, 0xFFFF)] s fun _ =>
        if ¬ s.keys.healthy then refuse s stNotActive 0
        else if (keySlot s slot).state ≠ .empty then refuse s stBusy 0
        else if needsAuth s world master mask then refuse s stNotPermitted 0
        else
          let g := generate alg s
          let kid := keyIdOf alg g.1.1 g.1.2
          okay (putKey slot
            { state := .generated, alg := alg, world := world, lcsMask := mask, master := master, flags := rd p 2 1
              version := rd p 8 4, keyId := kid, key := g.1.1, pub := g.1.2, cert := [] } g.2)
            (kid ++ fit (if alg = 6 then 1952 else 97) g.1.2)) r s)

/-! ### Erasing (R498, R506) -/

/-- The key slots a quire names: PTP, NTS, flock and session keys. -/
def namedKeys (q : Quire) : List Nat :=
  [qRd q fTime 0x1A 2, qRd q fTime 0x1C 2, qRd q fFlock 0xE 2, qRd q fMgmt 0x44 2, qRd q fMgmt 0x84 2] ++
    (List.range 8).flatMap fun i => [qRd q fTime (0x40 + 64 * i + 0xE) 2, qRd q fTime (0x40 + 64 * i + 0x10) 2]

/-- Sessions whose slot can no longer be used close (R498, R506). DESIGN CHOICE (unsafe, log 109). -/
def sweepSessions (s : State) : State :=
  { s with host := { s.host with sessions := s.host.sessions.filter fun x => keyAllowed s x.slot 6 5 0xF005 } }

/-- KEY_ERASE (R498): sessions of an erased slot close after the reply is sent. DESIGN CHOICE (unsafe, log 109). -/
def execKeyErase (r : Req) (s : State) : Host.Outcome State Fault Refusal :=
  .next (sweepSessions (command 0x1004
    (fun r s => needLen 8 r s fun _ =>
      let n := rd r.params 0 2
      let q := s.quire
      let shadow := decide (q.shadowState = .opened ∨ q.shadowState = .sealed ∨ q.shadowState = .locked)
      needForm [(decide (16 ≤ n ∧ n < 512), 0), (isZero r.params 2 6, 2)] s fun _ =>
        if (namedKeys q.active).contains n ∨ (shadow ∧ (namedKeys q.shadow).contains n) then refuse s stBusy 0
        else
          okay (setKeys (fun k => { k with slots := mdel k.slots n, flash := mdel k.flash n }) s) []) r s))

/-! ### Life cycle (R484 to R486) -/

/-- Whether Table 16.2 lists a transition, and the ports it names. -/
def transitionPort (from_ to_ port : Nat) : Option Bool :=
  if from_ = 0 ∧ to_ = 1 then some (decide (port = portFactory))
  else if (from_ = 1 ∧ to_ = 2) ∨ (from_ < 5 ∧ to_ = 5) then some (decide (port = portFactory ∨ port = portRoot))
  else if (from_ = 2 ∧ to_ = 3) ∨ ((from_ = 2 ∨ from_ = 3) ∧ to_ = 4) then some (decide (port = portRoot))
  else none

/-- Generates a fixed key (Table 16.4). -/
def fixKey (n alg world mask : Nat) (s : State) : State :=
  let g := generate alg s
  setKey n
    { state := .fixed, alg := alg, world := world, lcsMask := mask, master := 0xF002, flags := 0, version := 0
      keyId := keyIdOf alg g.1.1 g.1.2, key := g.1.1, pub := g.1.2, cert := [] } g.2

/-- Erases the slots from `lo` on, and their flash records. -/
def eraseFrom (lo : Nat) (s : State) : State :=
  setKeys (fun k =>
    { k with
      slots := k.slots.filter fun p => decide (p.1 < lo)
      flash := k.flash.filter fun p => decide (p.1 < lo) }) s

/-- The colophon key is zeroed, and every dump with it (R507, R523). -/
def zeroColophon (s : State) : State :=
  let s1 := setKeys (fun k => { k with colophonKey := [] }) s
  { s1 with ev := { s1.ev with half0 := {}, half1 := {} } }

/-- Steps 2 and 3 of a transition (R486, Table 16.2): erasing and generating, then the state fuses and the done fuse. -/
def finishTransition (to_ : Nat) (s : State) : State :=
  let transport (t : State) : State := fixKey 6 7 3 30 t
  let s1 :=
    match to_ with
    | 1 => transport (fixKey 4 6 2 30 (fixKey 3 4 2 62 s))
    | 2 => transport (eraseFrom 16 s)
    | 3 => s
    | 4 => zeroColophon (transport (eraseFrom 16 s))
    | _ => zeroColophon (eraseFrom 4 s)
  setKeys (fun k => { k with lifeCycle := to_, transition := none }) s1

/-- Commands of ports no longer available are refused with LIFECYCLE (R486). -/
def refuseWaiting (s : State) : State :=
  let lost := s.cmds.waiting.filter fun w => !portAvailable w.req.port (lifeCycle s)
  lost.foldl (fun t w => match catalogue w.opcode with
    | some row => if row.a then t else conclude row w.req (refuse (unwait w.opcode w.req t) stLifecycle (lifeCycle t))
    | none => t) s

/-- The token's fields that its transition does not use must be zero (R485). DESIGN CHOICE (unsafe, log 107). -/
def tokenForm (p : Bytes) : List (Bool × Nat) :=
  let first := decide (rd p 4 1 = 0 ∧ rd p 5 1 = 1)
  [ (first || isZero p 0x20 16, 0x20), (first || isZero p 0x30 8, 0x30),
    (decide (rd p 4 1 = 1 ∧ rd p 5 1 = 2) || isZero p 0x38 97, 0x38) ]

/-- Burns the fuses that the token carries, and the started fuse, then runs the transition (R485, R486).
DESIGN CHOICE (unsafe, log 107). -/
def transition (p : Bytes) (s : State) : State :=
  let to_ := rd p 5 1
  let s1 := setKeys (fun k =>
    { k with
      transition := some to_
      serial := if to_ = 1 then slice p 0x20 16 else k.serial
      eui64 := if to_ = 1 then slice p 0x30 8 else k.eui64
      ownerFuse := if to_ = 2 then sha384 (slice p 0x38 97) else k.ownerFuse }) s
  finishTransition to_ s1

/-- LCS_ADVANCE (R485, R486). DESIGN CHOICE (unsafe, log 107). -/
def execLcsAdvance (r : Req) (s : State) : Host.Outcome State Fault Refusal :=
  .next (sweepSessions (refuseWaiting (command 0x1006
    (fun r s => needLen 0x100 r s fun _ =>
      let p := r.params
      let lc := lifeCycle s
      needForm [(decide (rd p 0 4 = 0x4E4B544C), 0), (isZero p 6 2, 6), (isZero p 0x99 7, 0x99)] s fun _ =>
        match transitionPort lc (rd p 5 1) r.port with
        | none => refuse s stLifecycle lc
        | some here =>
          if rd p 4 1 ≠ lc then refuse s stLifecycle lc
          else if ¬ here then refuse s stNotPermitted r.port
          else if slice p 8 16 ≠ (if rd p 5 1 = 1 then zeros 16 else fit 16 s.keys.serial) then refuse s stBadParam 0xFFFF
          else if s.tb.acquired ∧ rd p 0x18 8 ≠ 0 ∧ rd p 0x18 8 < nowNs s then refuse s stBadParam 0xFFFF
          else needForm (tokenForm p) s fun _ =>
            let v := rootSigned (p.take 0xA0) (slice p 0xA0 96) s
            if v.2 then okay (transition p v.1) [] else refuse v.1 stNotPermitted 0) r s)))

/-! ### The imprint (R503) -/

/-- The imprint body (Table 16.10). DESIGN CHOICE (unsafe, log 106). -/
def imprintBody (s : State) (opts : Nat) (nonce : Bytes) : Bytes :=
  let b := s.boot
  let caseDigest (c : Bytes) : Bytes := if c = [] then zeros 48 else sha384 (c.take (c.length - 360))
  le 4 0x52504D49 ++ le 2 1 ++ le 2 560 ++ le 4 0xA00 ++ le 1 (b2n Config.extended) ++ le 1 Config.stepping ++
    le 1 (lifeCycle s) ++ le 1 (rootGen (lifeCycle s)) ++ fit 16 s.keys.serial ++ fit 8 s.keys.eui64 ++ le 2 b.epoch ++
    le 1 (twinSide s) ++
    le 1 (b2n s.tb.acquired + 2 * b2n (bit opts 0) + 4 * b2n (bit opts 1) +
      8 * b2n (portAvailable portDebug (lifeCycle s))) ++
    le 4 (flockId s % 2 ^ 18) ++ le 4 b.vegenVersion ++ le 4 s.keys.securityCounter ++ le 8 (nowNs s) ++ fit 32 nonce ++
    fit 48 b.loader ++ fit 48 b.vegen ++ fit 48 b.micro ++ caseDigest b.factoryCase ++ caseDigest b.userCase ++
    fit 48 s.quire.baseDigest ++ le 4 s.quire.changeCount.toNat ++ zeros 4 ++ attributeDigest s ++
    fit 16 (keySlot s 3).keyId ++ fit 97 (keySlot s 6).pub ++ zeros 7

/-- IMP_GET (R503): refused where the identity keys may not be used. DESIGN CHOICE (unsafe, log 109). -/
def execImpGet (r : Req) (s : State) : Host.Outcome State Fault Refusal :=
  .next (command 0x1005
    (fun r s => needLen 40 r s fun _ =>
      let o := rd r.params 0 1
      needForm [(decide (o < 4), 0), (isZero r.params 1 7, 1)] s fun _ =>
        if lifeCycle s = 5 ∧ bit o 0 then refuse s stLifecycle 5
        else
          let body := imprintBody s o (slice r.params 8 32)
          let k := keyUse 3 2 4 0xF002 s
          match k.2 with
          | none => refuse k.1 stNotActive 0
          | some x =>
            let sig := fit 96 (Config.ecdsaSign x.key (Config.sha384 body))
            let chain := if bit o 1 then le 2 Config.imprintChain.length ++ Config.imprintChain else []
            if bit o 0 then
              let m := keyUse 4 2 6 0xF002 k.1
              match m.2 with
              | none => refuse m.1 stNotActive 0
              | some y => okay m.1 (body ++ sig ++ fit 3309 (Config.mldsaSign y.key body) ++ chain)
            else okay k.1 (body ++ sig ++ chain)) r s)

/-! ### The random source, the shares, the engines (R489, R491, R493, R509) -/

/-- KEY_USE_REQUEST (R489, R491): a requester of a hardware identity asks to use a key. -/
def execKeyUseRequest (slot world alg requester : Nat) (s : State) : Host.Outcome State Fault Refusal :=
  .next (keyUse slot world alg requester s).1

/-- DRBG_RESEED (R493): every 1 s, and after every 2^16 requests. -/
def execDrbgReseed (s : State) : Host.Outcome State Fault Refusal :=
  .next
    (let k := s.keys
     if k.reseedTime + ticksPerSec ≤ now s ∨ 65536 ≤ k.requests then
       setKeys (fun x => { x with reseedTime := now s, requests := 0, reseeds := x.reseeds + 1 }) s
     else s)

/-- ENTROPY_HEALTH_FAIL (R493). -/
def execEntropyHealthFail (test : Nat) (s : State) : Host.Outcome State Fault Refusal :=
  .next (raise 1170 0 test (setKeys (fun k => { k with healthy := false }) s))

/-- KEY_SHARE_RERANDOMISATION (R491). -/
def execKeyShareRerandomisation (s : State) : Host.Outcome State Fault Refusal := .next (rerandomise s)

/-- Whether user `a` is served before user `b` of the shared engine: by class unless it is a 64th boundary, then by the
boundary of arrival, requester code and receipt (R509). DESIGN CHOICE (unsafe, log 110). -/
def servedFirst (fair : Bool) (a b : CryptoUser) : Bool :=
  if ¬ fair ∧ a.cls ≠ b.cls then decide (a.cls < b.cls)
  else if a.order ≠ b.order then decide (a.order < b.order)
  else decide (a.requester ≤ b.requester)

/-- CRYPTO_CHUNK_BOUNDARY (R508, R509): the user served has done one chunk or step; the users of `arrived` (class,
requester code, chunks or steps) have come since the last boundary; the next user is picked.
DESIGN CHOICE (unsafe, log 110). -/
def execCryptoChunkBoundary (arrived : List (Nat × Nat × Nat)) (s : State) : Host.Outcome State Fault Refusal :=
  .next
    (let k := s.keys
     let n := k.boundary + 1
     let back : List CryptoUser := match k.serving with
       | some u => if u.left ≤ 1 then [] else [{ u with left := u.left - 1 }]
       | none => []
     let l := back ++ k.engine ++ arrived.map fun a => ⟨a.1, a.2.1, n, a.2.2⟩
     match l.mergeSort (servedFirst (decide (n % 64 = 0))) with
     | [] => setKeys (fun x => { x with boundary := n, engine := [], serving := none }) s
     | u :: t => setKeys (fun x => { x with boundary := n, engine := t, serving := some u }) s)

end Sys2Proof.Machine
end

