-- ==== Sys2Proof/Machine/Events.lean ====
section
/-! DEFINITION. Events, block resets and the colophon's commands (chapter 17). -/

namespace Sys2Proof.Machine

/-- Changes the event collector. -/
def setEv (f : Events → Events) (s : State) : State := { s with ev := f s.ev }

/-! ### Block resets (R514, Table 17.6) -/

/-- A block, or its instance that a source names, enters block reset. -/
def enterBlock (src inst : Nat) (s : State) : State :=
  match blockOf src with
  | 3 => laneReset inst s
  | 4 => portReset inst (if portUp s inst then portDrop inst 0 1 s else s)
  | 5 =>
    if src = 480 then fabReset inst s
    else ((List.range 68).filter fun l => decide (if src = 482 then 64 ≤ l else l < 64)).foldl (fun t l => fabReset l t) s
  | 6 =>
    if src = 576 then groupOut (groupOfChan inst) 3 s
    else if src = 577 then groupOut inst 4 s
    else if src = 579 then groupOut (syncAt s inst).group 0 s
    else (List.range 4).foldl (fun t g => groupOut g 0 t) s
  | 7 => audioReset s
  | 8 => apReset inst s
  | 9 => layerReset (inst / 4) s
  | 11 => timeReset s
  | 12 => gnssReset s
  | _ => s

/-- A fault of an element, or an occurrence of a source, with the block reset it may start.
DESIGN CHOICE (unsafe, log 113). -/
def faultIn (inj : Bool) (f : HwFault) (s : State) : State :=
  let t := hwFault inj f s
  match f with
  | .source src inst _ => if began (blockOf src) inst s t then enterBlock src inst t else t
  | _ => t

/-- HARDWARE_FAULT (R51, R512, R518): a fault of an element of the spine or of the event system, or an occurrence of a
source that has no row of its own. -/
def execHardwareFault (f : HwFault) (s : State) : Host.Outcome State Fault Refusal :=
  .next (faultIn false f s)

/-- Whether a layer engine has a usable store again (R327), or no layer that could have one.
DESIGN CHOICE (unsafe, log 115). -/
def storeHeld (s : State) (e : Nat) : Bool :=
  let rec_ (l : Nat) : Bytes := liveRecord (liveEntry (inForce s (2000 + e)) e) l
  let held (l : Nat) : Bool := (layerAt (engineAt s e) l).bufs.any fun b => (usableBuf s e l (b.k + 1) (rec_ l)).isSome
  (List.range 4).any held || (List.range 4).all fun l => !bit (rd (rec_ l) 0 1) 0

/-- Whether a block reset has run its course (Table 17.6). DESIGN CHOICE (unsafe, log 115). -/
def hasRecovered (r : BlockReset) (s : State) : Bool :=
  match r.block with
  | 0 => vegenUp s
  | 2 => decide (r.since + ticksPerMs ≤ now s)
  | 3 => !loadWaits s r.inst 0
  | 4 => portUp s r.inst
  | 5 => decide ((fabLane s r.inst).state = 5)
  | 6 => false
  | 7 => decide (r.since * 48000 / ticksPerSec < now s * 48000 / ticksPerSec)
  | 9 => storeHeld s (r.inst / 4)
  | 12 => s.time.gnss.valid
  | 15 => decide (r.since + ticksPerMs ≤ now s)
  | _ => true

/-- What recovery itself does: an audio port starts again, PTP instances leave INITIALIZING.
DESIGN CHOICE (unsafe, log 115). -/
def recover (r : BlockReset) (s : State) : State :=
  match r.block with
  | 8 => apStart r.inst s
  | 11 => (List.range 8).foldl (fun t i => if (instAt t i).restarting then startInst i t else t) s
  | _ => s

/-- BLOCK_RESET_RECOVERED (R514, Table 17.6). DESIGN CHOICE (unsafe, log 22). -/
def execBlockResetRecovered (block inst : Nat) (s : State) : Host.Outcome State Fault Refusal :=
  .next
    (match s.ev.resetting.find? fun r => decide (r.block = block ∧ r.inst = inst) with
     | some r =>
       if hasRecovered r s then
         recover r (setEv (fun e => { e with resetting := e.resetting.filter fun x => decide (x ≠ r) }) s)
       else s
     | none => s)

/-- CORE_WATCHDOG (R511): a Vegen task has not reported within 100 ms; suspended in a restart (Table 18.11), and for a halted
core (R569). -/
def execCoreWatchdog (core task : Nat) (s : State) : Host.Outcome State Fault Refusal :=
  .next (if vegenUp s ∧ ¬ s.host.halted.contains core then raise 0 core task s else s)

/-! ### Registers (R519 to R521, R371) -/

/-- Clears pending bits (W1C), but those that hardware sets at this instant (R10), and releases ERR_N where R521 allows it. -/
def clearPend (mask : BitVec 1280) (s : State) : State :=
  releaseErrN (setEv (fun e =>
    let keep := if e.sameAt = some (now s) then e.sameSet else 0#1280
    { e with pend := e.pend &&& ~~~(mask &&& ~~~keep) }) s)

/-- EVT_PEND_WRITE (R519, R520): a write to EVT_PENDn. -/
def execEvtPendWrite (n value : Nat) (s : State) : Host.Outcome State Fault Refusal :=
  .next (if n < 40 then clearPend (BitVec.ofNat 1280 (value % 2 ^ 32 * 2 ^ (32 * n))) s else s)

/-- A write to EVT_SUMMARY (R519): a flag set at this instant stays set (R10). -/
def clearSummary (value : Nat) (s : State) : State :=
  setEv (fun e =>
    let stays (at_ : Option Nat) (b : Nat) : Bool := !bit value b || decide (at_ = some (now s))
    { e with overflow := e.overflow && stays e.overflowAt 19, lastGaspFlag := e.lastGaspFlag && stays e.gaspAt 21 }) s

/-- EVT_SUMMARY_WRITE (R519). -/
def execEvtSummaryWrite (value : Nat) (s : State) : Host.Outcome State Fault Refusal :=
  .next (clearSummary value s)

/-- The occurrences of a block at this instant, with the count before them (R10). -/
def occurredNow (s : State) (b : Nat) : Option (BitVec 16 × Nat) :=
  if s.ev.sameAt = some (now s) then (s.ev.sameOcc.find? fun p => decide (p.1 = b)).map (·.2) else none

/-- Sets the occurrence count of a block. -/
def putOcc (b : Nat) (n : BitVec 16) (e : Events) : Events := { e with blkOcc := mset (fun _ => 0#16) e.blkOcc b n }

/-- What a read of EVT_BLK_STATUSb returns: without the occurrences of this instant (R10). -/
def blkValue (s : State) (b : Nat) : Nat :=
  match occurredNow s b with
  | some x => evtBlkStatus (putOcc b x.1 s.ev) b
  | none => evtBlkStatus s.ev b

/-- The count of a block is cleared by its read, and then holds the occurrences of this instant (R10, R519). -/
def blkClear (b : Nat) (s : State) : State :=
  match occurredNow s b with
  | some x => setEv (fun e => { putOcc b (BitVec.ofNat 16 (min x.2 65535)) e with sameOcc := mput e.sameOcc b (0#16, x.2) }) s
  | none => setEv (putOcc b 0#16) s

/-- EVT_BLK_STATUS_READ (R519). -/
def execEvtBlkStatusRead (b : Nat) (s : State) : Host.Outcome State Fault Refusal :=
  .next (if b < 18 then emit (.regRead (0x4100 + 4 * b) (blkValue s b)) (blkClear b s) else s)

/-- RFC_EVENTS_WRITE (R371). -/
def execRfcEventsWrite (value : Nat) (s : State) : Host.Outcome State Fault Refusal :=
  .next (clearRfc value s)

/-- ERR_N_MINIMUM_HOLD_END (R521). -/
def execErrNMinimumHoldEnd (s : State) : Host.Outcome State Fault Refusal := .next (releaseErrN s)

/-! ### Commands (Table 17.12) -/

/-- An event record as bytes (Table 17.3). -/
def evBytes (r : EvRec) : Bytes :=
  le 4 r.serial.toNat ++ le 2 r.source ++ le 2 r.inst ++ le 8 r.time ++ le 4 r.count.toNat ++ le 4 r.detail.toNat ++
    le 1 r.reaction ++ le 1 r.blockState ++ le 2 (b2n r.throttled + 2 * b2n r.injected + 4 * b2n r.rom) ++
    le 4 (min (r.last - r.time) 0xFFFFFFFF)

/-- EVT_READ (R512): what it has returned counts as read. DEDUCED (unsafe, log 111). -/
def execEvtRead (r : Req) (s : State) : Host.Outcome State Fault Refusal :=
  .next (command 0x1101
    (fun r s => needLen 8 r s fun _ =>
      let aft := BitVec.ofNat 32 (rd r.params 0 4)
      let n := rd r.params 4 2
      let b := rd r.params 6 2
      needForm [(decide (1 ≤ n ∧ n ≤ 1024), 4), (decide (b < 18 ∨ b = 0xFFFF), 6)] s fun _ =>
        let e := s.ev
        let l := (e.log.filter fun x => serialAfter x.serial aft && decide (b = 0xFFFF ∨ blockOf x.source = b)).take n
        let left := match l.getLast? with
          | some x => min e.unread (e.log.filter fun y => serialAfter y.serial x.serial).length
          | none => e.unread
        { st := setEv (fun x => { x with lost := 0, unread := left }) s
          params := le 4 e.serial.toNat ++ le 4 e.lost.toNat ++ l.flatMap evBytes
          clearing := true }) r s)

/-- Whether a byte is a reaction of R513. -/
def reactionOk (x : Nat) : Bool := decide (x / 16 ∈ [0, 3, 4]) && decide (x % 16 ∈ [0, 1, 2, 5])

/-- Whether a source may have a reaction and a count_only flag (R511, R516, R525). DEDUCED (unsafe, log 111). -/
def entryAllowed (src rx only : Nat) : Bool :=
  if fixedSource src then decide (rx = defaultReaction src ∧ only = 0)
  else (decide (rx / 16 ≠ 3) || resettable (blockOf src)) && (decide (only = 0) || decide (rx / 16 = 0))

/-- EVT_CONFIG (R525). DEDUCED (unsafe, log 26). -/
def execEvtConfig (r : Req) (s : State) : Host.Outcome State Fault Refusal :=
  .next (command 0x1102
    (fun r s => needLen 8 r s fun _ =>
      let src := rd r.params 0 2
      let rx := rd r.params 2 1
      let fl := rd r.params 3 1
      needForm
        [(decide (src < 1280), 0), (reactionOk rx, 2), (decide (fl < 2), 3), (isZero r.params 4 4, 4),
          (entryAllowed src rx fl, 0xFFFF)] s fun _ =>
        let act := qWrite s.quire.active fEvents (8 * src) (le 1 rx ++ le 1 fl)
        okay (countChange { s with quire := { s.quire with active := act } }) []) r s)

/-- EVT_CLEAR (R520). -/
def execEvtClear (r : Req) (s : State) : Host.Outcome State Fault Refusal :=
  .next (command 0x1103
    (fun r s => needLen 8 r s fun _ =>
      let first := rd r.params 0 2
      let n := rd r.params 2 2
      let op := rd r.params 4 1
      needForm
        [(decide (first < 1280), 0), (decide (1 ≤ n ∧ first + n ≤ 1280), 2), (decide (op ≤ 1), 4),
          (isZero r.params 5 3, 5)] s fun _ =>
        let s1 := clearPend (BitVec.ofNat 1280 ((2 ^ n - 1) * 2 ^ first)) s
        okay (if op = 0 then s1
          else setEv (fun e => { e with occ := e.occ.filter fun p => !decide (first ≤ p.1 ∧ p.1 < first + n) }) s1) [])
    r s)

/-- A last-gasp record as bytes (Table 17.17). -/
def gaspBytes (g : LastGasp) : Bytes :=
  fit 256 (le 2 g.source ++ le 2 g.inst ++ le 4 g.detail ++ le 8 g.time ++ le 1 g.reaction ++ le 1 g.role ++
    leI 1 g.temperature ++ le 1 (1 + 2 * b2n g.brownout) ++ le 4 g.cycle ++ le 2 g.txSeq ++ le 2 g.rxExpected ++
    le 4 g.serial.toNat ++ g.rails.flatMap (le 2))

/-- A ring of `n` records of which the last ones written are `l`, `total` having been written ever (R524). -/
def ringBytes (n total : Nat) (l : List LastGasp) : Bytes :=
  (List.range n).flatMap fun p =>
    match (List.range l.length).find? fun i => decide ((total - l.length + i) % n = p) with
    | some i => (l[i]?.map gaspBytes).getD (zeros 256)
    | none => zeros 256

/-- COL_READ (R522 to R524). -/
def execColRead (r : Req) (s : State) : Host.Outcome State Fault Refusal :=
  .next (command 0x1104
    (fun r s => needLen 12 r s fun _ =>
      let kind := rd r.params 0 1
      let o := rd r.params 4 4
      let n := rd r.params 8 4
      let e := s.ev
      let half := if kind = 0 then e.half0 else e.half1
      needForm [(decide (kind ≤ 3), 0), (isZero r.params 1 3, 1), (decide (1 ≤ n ∧ n ≤ 65504), 8)] s fun _ =>
        if kind ≤ 1 then
          if ¬ half.held ∨ half.bytes.length < o + n then refuse s stNotActive 0 else okay s (slice half.bytes o n)
        else if (if kind = 2 then 4096 else 65536) < o + n then refuse s stBadParam 4
        else
          okay s (slice (if kind = 2 then ringBytes 16 e.gaspSerial.toNat e.retention
            else ringBytes 256 e.flashCopied e.flashRing) o n)) r s)

/-- COL_RELEASE (R523). -/
def execColRelease (r : Req) (s : State) : Host.Outcome State Fault Refusal :=
  .next (command 0x1105
    (fun r s => needLen 8 r s fun _ =>
      let h := rd r.params 0 1
      needForm [(decide (h ≤ 1), 0), (isZero r.params 1 7, 1)] s fun _ =>
        okay (setEv (fun e => if h = 0 then { e with half0 := {} } else { e with half1 := {} }) s) []) r s)

/-- Symbol errors in a codeword that a fabric lane receives (R201, R228): up to 15 are corrected.
DESIGN CHOICE (unsafe, log 112). -/
def symbolErrors (l n : Nat) (s : State) : State :=
  if (fabLane s l).state < 3 then s
  else fabCount l 0 1 (fabCount l (if n ≤ 15 then 1 else 2) 1 s)

/-- One injection of a kind (R526): the fault itself, or the source raised. DESIGN CHOICE (unsafe, log 112). -/
def injectOne (kind src inst detail : Nat) (s : State) : State :=
  match kind with
  | 0 => faultIn true (.source src inst detail) s
  | 1 => hwFault true (.voted inst detail) s
  | 2 => hwFault true (.voteLost inst) s
  | 3 => hwFault true (.rest inst 0xFFFFFFFF) s
  | 4 =>
    let d := draw s
    let ring := (srcSlot s inst).ring
    match ring[d.1 % max ring.length 1]? with
    | some e => setSrc inst (spoilLine e.k e.line) d.2
    | none => s
  | 5 => setGroup (groupOfChan inst) (fun x => { x with counts := cAdd x.counts 0 1 }) s
  | 6 =>
    let g := groupOfChan inst
    let s1 := setChan inst (fun x => { x with uncorrected := keepLast 17 (x.uncorrected ++ [now s]) }) s
    let s2 := setGroup g (fun x => { x with counts := cAdd x.counts 1 1 }) s1
    let s3 := raiseInj true 576 inst detail s2
    if began 6 inst s2 s3 then groupOut g 3 s3 else s3
  | _ => symbolErrors inst detail s

/-- The form of EVT_INJECT (Table 17.13). -/
def injectForm (p : Bytes) : List (Bool × Nat) :=
  let kind := rd p 0 1
  let d := rd p 8 4
  [ (decide (kind ≤ 7), 0), (decide (1 ≤ rd p 1 1), 1), (decide (if kind = 0 then rd p 2 2 < 1280 else rd p 2 2 = 0), 2),
    (decide (kind ≤ 2 ∨ (kind ≤ 4 ∧ rd p 4 2 < 1536) ∨ (kind ≤ 6 ∧ 4 < kind ∧ rd p 4 2 < 32) ∨
      (kind = 7 ∧ rd p 4 2 < 64)), 4),
    (isZero p 6 2, 6),
    (decide (kind = 0 ∨ ((kind = 1 ∨ kind = 2) ∧ d ≤ 2) ∨ (3 ≤ kind ∧ kind ≤ 6) ∨ (kind = 7 ∧ 1 ≤ d ∧ d ≤ 30)), 8),
    (isZero p 12 4, 12) ]

/-- EVT_INJECT (R526): it answers the serial of the record that results, or 0. -/
def execEvtInject (r : Req) (s : State) : Host.Outcome State Fault Refusal :=
  .next (command 0x1106
    (fun r s => needLen 16 r s fun _ => needForm (injectForm r.params) s fun _ =>
      let p := r.params
      let s1 := (List.range (rd p 1 1)).foldl
        (fun t _ => injectOne (rd p 0 1) (rd p 2 2) (rd p 4 2) (rd p 8 4) t) s
      let made := s1.ev.log.filter fun x => x.injected && serialAfter x.serial s.ev.serial
      okay s1 (le 4 ((made.getLast?.map fun x => x.serial.toNat).getD 0))) r s)

/-! ### The colophon (R522) -/

/-- Section 4, the twin state (Table 17.14). -/
def colTwin (s : State) (at_ : Nat) : Bytes :=
  let x := s.twin
  let st := s.fabric.stitch
  le 1 x.role.code ++ le 1 s.boot.side ++ zeros 2 ++ le 4 (at_ / cycleTicks % 2 ^ 32) ++
    le 8 (nsOf (max (x.lastHeard.getD 0) (x.ownLease.getD 0))) ++ le 4 (x.lastCopy.getD 0 % 2 ^ 32) ++ le 2 st.nextSeq ++
    le 2 st.expected ++ le 2 st.replay.length ++ zeros 2 ++ zeros 4

/-- An event with its origin, as DRV_QUEUE_READ returns it (Table 03.20). -/
def queueBytes (e : DrvEvent) : Bytes :=
  eventBytes e ++ le 8 e.seq ++ le 2 e.port ++ le 2 e.entry ++ le 4 e.serial.toNat

/-- A held entry (Table 17.15). -/
def heldBytesOf (h : HeldEntry) : Bytes :=
  le 8 h.seq ++ le 2 h.opcode ++ le 1 (b2n h.complete) ++ le 1 (b2n h.cached) ++ le 4 h.crc ++ le 2 h.status ++ zeros 2 ++
    le 4 h.params.length

/-- Section 6, the held sets (Table 17.15). -/
def colHeld (s : State) : Bytes :=
  s.cmds.ports.flatMap fun p =>
    if p.2.held = [] then []
    else
      le 2 p.1 ++ le 2 p.2.held.length ++ zeros 4 ++ le 8 p.2.floor ++ p.2.held.flatMap heldBytesOf

/-- Section 7, the DPLL and the time base (Table 17.16). -/
def colTime (s : State) : Bytes :=
  let d := s.time.dpll
  le 8 s.tb.sec.toNat ++ le 4 s.tb.inc ++ zeros 4 ++ leI 8 s.tb.rho ++ le 1 d.state ++ le 1 d.rung ++
    le 1 (d.selected.getD 0xFF) ++ le 1 (b2n s.tb.acquired + 2 * b2n d.holdExpire + 4 * b2n s.drv.fenced) ++
    le 4 (boundField s) ++ leI 4 (ratePpt d.learntSys) ++ leI 4 (ratePpt d.learntAtom) ++
    le 8 ((d.entry.map nsOf).getD 0)

/-- The sections of a dump, in directory order: type and content. Sections 2 and 3 are vendor-internal.
DESIGN CHOICE (unsafe, log 114). -/
def colSections (s : State) (f : Fatal) : List (Nat × Bytes) :=
  [ (1, s.ev.log.flatMap evBytes), (2, Config.freeBytes s.free), (3, Config.freeBytes (s.free + 1)),
    (4, colTwin s f.time), (5, s.drv.queue.flatMap queueBytes), (6, colHeld s), (7, colTime s) ]

/-- What was written of each section: one that had not completed after 20 ms, and those after it, are truncated. -/
def colWritten (cut : Option (Nat × Nat)) (l : List (Nat × Bytes)) : List (Nat × Bool × Bytes) :=
  l.zipIdx.map fun x =>
    match cut with
    | some (i, n) =>
      if x.2 < i then (x.1.1, false, x.1.2) else if x.2 = i then (x.1.1, true, x.1.2.take n) else (x.1.1, true, [])
    | none => (x.1.1, false, x.1.2)

/-- The directory of a dump whose first section lies at `o`. DESIGN CHOICE (unsafe, log 114). -/
def colDirectory : Nat → List (Nat × Bool × Bytes) → Bytes
  | _, [] => []
  | o, x :: t =>
    le 1 x.1 ++ le 1 (b2n x.2.1) ++ zeros 2 ++ le 4 o ++ le 4 x.2.2.length ++ le 4 (crc32c x.2.2).toNat ++
      colDirectory (o + x.2.2.length) t

/-- The bytes of a dump (Table 17.11). DESIGN CHOICE (unsafe, log 114). -/
def colophonBytes (cut : Option (Nat × Nat)) (f : Fatal) (s : State) : Bytes :=
  let l := colWritten cut (colSections s f)
  let body := l.flatMap (·.2.2)
  let head := le 4 0x4E4C4F43 ++ le 2 1 ++ le 2 l.length ++ le 8 (nsOf f.time) ++ le 2 f.source ++ le 2 f.inst ++
    le 4 f.detail ++ le 4 s.boot.bootCount.toNat ++ le 4 s.boot.vegenVersion ++ fit 16 s.keys.serial ++
    le 1 s.twin.role.code ++ le 1 (b2n cut.isSome + 4 * b2n s.tb.acquired) ++ zeros 2 ++ le 4 (320 + body.length) ++
    zeros 4
  head ++ le 4 (crc32c head).toNat ++ fit 256 (colDirectory 320 l) ++ body

/-- The dump goes into a half that holds none, else over the later one (R522); none without a colophon region.
DESIGN CHOICE (unsafe, log 114). -/
def writeColophon (cut : Option (Nat × Nat)) (s : State) : State :=
  match s.ev.fatal with
  | none => s
  | some f =>
    if s.dram.colophon = 0xFF ∨ ¬ inService s s.dram.colophon then s
    else
      let e := s.ev
      let h : ColHalf := { held := true, bytes := colophonBytes cut f s, order := e.dumps + 1 }
      let first := if ¬ e.half0.held then true else if ¬ e.half1.held then false
        else decide (e.half1.order < e.half0.order)
      setEv (fun x =>
        if first then { x with half0 := h, dumps := x.dumps + 1 } else { x with half1 := h, dumps := x.dumps + 1 })
        { s with free := s.free + 2 }

end Sys2Proof.Machine
end

