-- ==== Sys2Proof/Machine/SealSpine.lean ====
section
/-! DEFINITION. The checks at seal (R74) of the spine's folios: SOURCES, DESTINATIONS, BINDINGS, PENS and
SPINE_TIMING. -/

namespace Sys2Proof.Machine

/-! ### Shapes of a check -/

/-- What a check at seal found: a status and the entry at fault. -/
abbrev Found := Option (Nat × Nat)

/-- The first of `n` entries whose check answers a status other than OK. -/
def entries (n : Nat) (st : Nat → Nat) : Found :=
  ((List.range n).find? fun i => decide (st i ≠ stOk)).map fun i => (st i, i)

/-- BAD_PARAM unless every condition holds. -/
def need (l : List Bool) : Nat := if l.all id then stOk else stBadParam

/-- The first status that is not OK. -/
def firstSt : List Nat → Nat
  | [] => stOk
  | a :: t => if a = stOk then firstSt t else a

/-- A status if a condition fails. -/
def orSt (ok : Bool) (st : Nat) : Nat := if ok then stOk else st

/-- The first thing found. -/
def firstFound : List Found → Found
  | [] => none
  | some x :: _ => some x
  | none :: t => firstFound t

/-- The position at whose inclusion a running sum first exceeds a limit (R124). -/
def sumExceeds (limit : Nat) : List Nat → Nat → Nat → Option Nat
  | [], _, _ => none
  | x :: t, acc, i => if limit < acc + x then some i else sumExceeds limit t (acc + x) (i + 1)

/-- All bytes of a folio from `o` for `n` are zero. -/
def qZero (q : Quire) (ty o n : Nat) : Bool := (qBytes q ty o n).all (· == 0#8)

/-- A signed value within a range. -/
def withinI (lo hi v : Int) : Bool := decide (lo ≤ v ∧ v ≤ hi)

/-! ### SOURCES and DESTINATIONS (R24 to R27) -/

/-- The check of a source descriptor (Table 02.4); of a disabled slot only its reserved fields (R27). -/
def sealSource (q : Quire) (i : Nat) : Nat :=
  let f := srcFormat q i
  let o := 16 * i
  let gran := qRd q fSources (o + 8) 2
  let rate := qRd q fSources (o + 10) 2
  let w := qRd q fSources (o + 4) 1
  need
    ([decide (qRd q fSources (o + 7) 1 < 2), qZero q fSources (o + 12) 4] ++
      if ¬ srcEnabled q i then []
      else
        [validFormat true f, if isAuto f then rasterFormat (srcMax q i) else decide (srcMax q i = f),
          decide (w = 0) || within 2 32 w, decide (srcAnc q i ∈ [0, 1, 2, 4]),
          if isOpaque f then within 1 512 gran && decide (0 < rate) else decide (gran = 0 ∧ rate = 0)])

/-- The check of a destination descriptor (Table 02.5, R25, R26); of a disabled slot only its reserved fields and
route (R27). DEDUCED (unsafe, log 118). -/
def sealDest (q : Quire) (d : Nat) : Nat :=
  let o := 16 * d
  need
    ([decide (qRd q fDests (o + 6) 1 < 2), qZero q fDests (o + 7) 9,
        decide (dstRoute q d < 1536 ∨ dstRoute q d = 0xFFFF)] ++
      if ¬ dstEnabled q d then []
      else
        [validFormat false (dstFormat q d), decide (dstLoss q d ≤ 1),
          decide (dstRoute q d = 0xFFFF) || routeValid q (dstRoute q d) d])

/-- The limits of R38: granules, write and read reservation, with the folio that exceeds them (R124).
DEDUCED (unsafe, log 116). -/
def sealCapacity (q : Quire) : Option (Nat × Nat × Nat) :=
  let cap := 25600000000000 * 2002
  let reads := slotRange.map fun d =>
    if dstEnabled q d && decide (dstRoute q d < 1536) then srcRate q (dstRoute q d) else 0
  match sumExceeds 32512 (slotRange.map (srcGranules q)) 0 0 with
  | some i => some (stNoCapacity, fSources, i)
  | none =>
    match sumExceeds cap (slotRange.map fun i => if srcEnabled q i then srcRate q i else 0) 0 0 with
    | some i => some (stNoCapacity, fSources, i)
    | none =>
      match sumExceeds cap reads 0 0 with
      | some d => some (stNoCapacity, fDests, d)
      | none => if cap < readReserved q then some (stNoCapacity, fDram, 0) else none

/-! ### BINDINGS (R68, R171, R339) -/

/-- Entry `i` of a keyed folio. -/
def keyedEntry (q : Quire) (ty i : Nat) : Bytes := qBytes q ty (qOff ty i) (folioMeta ty).2.1

/-- Whether the keys of a keyed folio rise strictly up to entry `i` (R67). -/
def keyRises (q : Quire) (ty i : Nat) : Bool :=
  decide (i = 0) || decide (rd (keyedEntry q ty (i - 1)) 0 2 < rd (keyedEntry q ty i) 0 2)

/-- The slots a binding names: for the output of a layer engine gang also those that follow (R339). -/
def boundSlots (q : Quire) (e : Bytes) : List Nat :=
  let k := rd e 0 2
  if rd e 2 1 = 4 ∧ k < 0x8000 ∧ rd e 4 2 < 64 then (List.range (gangOf q (rd e 4 2)).length).map (· + k) else [k]

/-- The resources each kind may name (Table 03.5, R22, R169, R211). -/
def bindingResource (e : Bytes) : Bool :=
  let dest := decide (0x8000 ≤ rd e 0 2)
  let r := rd e 4 2
  match rd e 2 1 with
  | 1 => decide (r < 256)
  | 2 => if dest then within 8192 16383 r else decide (r < 8192)
  | 3 => decide (r < 4096)
  | 4 => decide (r < 64)
  | 5 => decide (r < 96) && !dest
  | _ => false

/-- Whether the producer or consumer of a binding may be bound: a lane that is no member, a flow of essence 1, 2 or 6
that exists and is no leg B, an engine that is no gang member's output (R131, R171, R180, R339). R180 says of receive
pairs that leg A alone is bound; of transmit pairs DEDUCED (unsafe, log 188). -/
def bindable_ (q : Quire) (e : Bytes) : Bool :=
  let r := rd e 4 2
  match rd e 2 1 with
  | 1 => decide (lnGang q r ≠ 3 ∧ (if rd e 0 2 < 0x8000 then lnRxMode q r else lnTxMode q r) ≠ 3)
  | 2 =>
    match flowEntry q r with
    | some f => decide (feEssence f ∈ [1, 2, 6] ∧ legA f = r)
    | none => false
  | 4 => decide (rd e 0 2 ≥ 0x8000) || decide (leField q r 4 1 ≠ 0xFF)
  | _ => true

/-- The check of binding `i`. -/
def sealBinding (q : Quire) (i : Nat) : Nat :=
  let e := keyedEntry q fBindings i
  let dest := decide (0x8000 ≤ rd e 0 2)
  let slot := rd e 0 2 % 0x8000
  let same (x : Bytes) : Bool :=
    (boundSlots q x).any (fun k => (boundSlots q e).contains k) ||
      (decide (rd x 2 4 = rd e 2 4) && decide (decide (0x8000 ≤ rd x 0 2) = dest))
  need
    [keyRises q fBindings i, decide (slot < 1536), bindingResource e, isZero e 6 2,
      if rd e 2 1 = 4 ∧ dest then decide (rd e 3 1 < 4) else decide (rd e 3 1 = 0),
      (boundSlots q e).all fun k =>
        if dest then dstEnabled q slot else decide (k < 1536) && srcEnabled q k,
      bindable_ q e, !((List.range i).any fun j => same (keyedEntry q fBindings j))]

/-! ### PENS and SPINE_TIMING -/

/-- The check of a pen (Table 03.6, R50). -/
def sealPen (q : Quire) (p : Nat) : Nat :=
  let f (j : Nat) : Nat := qRd q fPens (40 * p + 8 + 4 * j) 2
  let src (j : Nat) : Nat := qRd q fPens (40 * p + 10 + 4 * j) 2
  need
    ([decide (qRd q fPens (40 * p) 1 < 2), qZero q fPens (40 * p + 1) 7] ++
      (List.range 8).map fun j =>
        decide (src j = 0xFFFF) ||
          (decide (src j < 1536) && rasterFormat (f j) &&
            !((List.range j).any fun m => decide (src m ≠ 0xFFFF ∧ f m = f j))))

/-- The check of a format class (Table 03.7). -/
def sealTiming (q : Quire) (i : Nat) : Nat :=
  let e := keyedEntry q fTiming i
  let c := rd e 0 2
  need
    [keyRises q fTiming i, decide (c % 16 = 0), ratePermitted (rasterOf c) (rateOf c),
      decide (rd e 2 1 ≤ defaultWindow (rasterOf c)), isZero e 3 1]

end Sys2Proof.Machine
end

