-- ==== Sys2Proof/Machine/SealIo.lean ====
section
/-! DEFINITION. The checks at seal of LANES, PACKET, FLOWS and FABRIC, and of the audio channels that producers and
consumers name (R265). -/

namespace Sys2Proof.Machine

/-- The transmit clock family a lane asks of its group (R20, R129): none when OFF or SD. -/
def txFamily (q : Quire) (l : Nat) : Option Nat :=
  if lnTxMode q l = 0 ∨ (lnTxMode q l = 1 ∧ lnTxRate q l = 1) then none
  else if lnTxMode q l = 3 then some 2 else some (lnTxRate q l / 16)

/-- Whether a lane, in either direction, is in Ethernet mode. -/
def laneEth (q : Quire) (l : Nat) : Bool := decide (lnRxMode q l = 3 ∨ lnTxMode q l = 3)

/-- Whether a lane, in either direction, is in an SDI mode. -/
def laneSdi (q : Quire) (l : Nat) : Bool := decide (lnRxMode q l = 1 ∨ lnRxMode q l = 2 ∨ lnTxMode q l = 1)

/-- The lanes of a group. -/
def groupLanes (l : Nat) : List Nat := (List.range 4).map (· + l / 4 * 4)

/-- The transmit family of a lane's group (R20): that of the first lane that asks for one. -/
def groupFamily (q : Quire) (l : Nat) : Option Nat := (groupLanes l).findSome? (txFamily q)

/-- Whether a group changes its transmit family, or between SDI and Ethernet (R129). -/
def groupMoves (a t : Quire) (l : Nat) : Bool :=
  let any (p : Quire → Nat → Bool) (q : Quire) : Bool := (groupLanes l).any (p q)
  decide (groupFamily a l ≠ none ∧ groupFamily t l ≠ none ∧ groupFamily a l ≠ groupFamily t l) ||
    (any laneEth a && any laneSdi t) || (any laneSdi a && any laneEth t)

/-- The audio limit of a lane's slot in one direction: from its format, or an AUTO slot's max_format, over the rate codes
that the lane may run at; none where it carries none of them, nor where the direction is OFF: the rule does not name a slot
bound to a lane that is OFF. DESIGN CHOICE (unsafe, log 167). An AUTO slot on a lane of a fixed code is judged by its
max_format too. DESIGN CHOICE (unsafe, log 168). -/
def laneLimit (q : Quire) (l mode rate f : Nat) : Option Nat :=
  let codes := if mode = 2 then huntOrder else [rate]
  (codes.filterMap fun c => carried (gangSize q l) c (lnByte q l 5) f).head?

/-- The consecutive channels of a base and count in the section of its block (R264). -/
def channels (q : Quire) (output : Bool) (base count : Nat) : List Nat := (List.range count).map (channelOf q output base)

/-- The check of a list of channels: each a channel of a used block, all in one section of those permitted (R265). -/
def channelsOk (q : Quire) (output : Bool) (secs : List Nat) (base count : Nat) : Bool :=
  (channels q output base count).all fun c =>
    channelOk q output c && decide (blockSection q output c = blockSection q output base) &&
      secs.contains (blockSection q output c)

/-- A lane of a gang agrees with its leader (R131, R149). DEDUCED (unsafe, log 117). -/
def memberOk (q : Quire) (l : Nat) : Bool :=
  let g := laneLeader q l
  decide (g ≠ l ∧ (lnGang q g = 2 ∨ (lnGang q g = 1 ∧ l = g + 1)) ∧ lnRxMode q l = lnRxMode q g ∧
    lnTxMode q l = lnTxMode q g ∧ lnRxRate q l = lnRxRate q g ∧ lnTxRate q l = lnTxRate q g) && qZero q fLanes (32 * l + 8) 6

/-- The check of a leader's gang (R19, R131, R133): ganged in both directions or off, at one rate and for one format; an AUTO
source has none to compare. DEDUCED (unsafe, log 117). -/
def leaderOk (q : Quire) (l : Nat) : Bool :=
  let n := gangSize q l
  let formats :=
    match slotBound q false 1 0 l, slotBound q true 1 0 l with
    | some i, some d => decide (isAuto (srcFormat q i) ∨ srcFormat q i = dstFormat q d)
    | _, _ => true
  decide (l % n = 0 ∧ lnRxMode q l ≠ 2 ∧ ¬ laneEth q l) &&
    ((List.range n).all fun i => decide (i = 0 ∨ lnGang q (l + i) = 3)) &&
    decide (lnRxMode q l = lnTxMode q l ∧ lnRxRate q l = lnTxRate q l) && formats

/-- The check of media lane `l` (R20, R129 to R131, R133, R149, R265). DEDUCED (unsafe, log 117). -/
def sealLane (q : Quire) (l : Nat) : Nat :=
  let b (o : Nat) : Nat := lnByte q l o
  let rx := lnRxMode q l
  let tx := lnTxMode q l
  let rateOk (mode rate : Nat) : Bool :=
    if mode = 1 then sdiCode rate else if mode = 3 then ethCode rate else decide (rate = 0)
  let src := slotBound q false 1 0 l
  let dst := slotBound q true 1 0 l
  let deemb := qRd q fLanes (32 * l + 8) 2
  let nDe := if bit (b 7) 2 then b 10 else 0
  let nEm := lnEmbCount q l
  let lim (slot : Option Nat) (fmt : Nat → Nat) (mode rate n : Nat) : Bool :=
    match slot with
    | some i =>
      (match laneLimit q l mode rate (fmt i) with
        | some v => decide (n ≤ v)
        | none => false)
    | none => true
  let owner (pen : Option Nat) (output : Bool) (base n : Nat) : Bool :=
    match pen with
    | some p => (channels q output base n).all fun c => decide (blockPen q output c = p)
    | none => true
  let overlap := (List.range l).any fun m =>
    decide (0 < lnDeembCount q m) &&
      decide (deemb < qRd q fLanes (32 * m + 8) 2 + lnByte q m 10 ∧ qRd q fLanes (32 * m + 8) 2 < deemb + nDe)
  firstSt
    [need
      [decide (rx ≤ 3), decide (tx = 0 ∨ tx = 1 ∨ tx = 3), decide (laneEth q l = true → rx = tx ∧ b 2 = b 3), rateOk rx (b 2), rateOk tx (b 3), decide (b 4 ≤ 3),
        decide (b 5 ≤ 4), decide (b 6 ≤ 2 ∧ (b 6 = 2 → b 2 = 0x22 ∨ b 3 = 0x22)), decide (b 7 < 32),
        decide (deemb < 32768), decide (b 10 ≤ 32 ∧ b 10 % 4 = 0),
        decide (b 11 ≤ 32 ∧ b 11 % 4 = 0), decide (lnEmbBase q l < 32768), decide (b 14 ≤ 3), decide (b 15 = 0),
        decide (b 16 ≤ 16), decide (b 17 ≤ 2), decide (b 18 ≤ 15), decide (b 19 ≤ 8), decide (b 20 ≤ 12),
        qZero q fLanes (32 * l + 21) 11,
        (groupLanes l).all fun m =>
          match txFamily q l, txFamily q m with
          | some x, some y => decide (x = y)
          | _, _ => true,
        !(laneEth q l && (groupLanes l).any (laneSdi q)),
        !(laneEth q l) ||
          decide (((List.range (l / 4)).filter fun g => (groupLanes (4 * g)).any (laneEth q)).length < 16),
        if b 4 = 3 then memberOk q l else if b 4 = 0 then true else leaderOk q l,
        lim src (fun i => srcSizing q i) rx (b 2) nDe, lim dst (fun d => dstFormat q d) tx (b 3) nEm,
        decide (nDe = 0) || !overlap, channelsOk q false [0] deemb nDe, channelsOk q true [0] (lnEmbBase q l) nEm],
      orSt (owner (src.map (srcPen q)) false deemb nDe && owner (dst.map (dstPen q)) true (lnEmbBase q l) nEm) stNotOwner]

/-! ### PACKET (R158, R161) -/

/-- The signalling class of a packet lane mode: 106.25, 53.125 or 25.78125 Gbit/s. -/
def laneClass (m : Nat) : Nat := if m = 4 then 2 else if m = 5 then 3 else if m = 0 then 0 else 1

/-- The mode of a packet lane as written. -/
def plMode (q : Quire) (l : Nat) : Nat := qRd q fPacket (192 * l) 1

/-- The leader of a packet lane: itself unless it is MEMBER. -/
def plLeader (q : Quire) (l : Nat) : Nat :=
  if plMode q l ≠ 7 then l else if plMode q (l / 4 * 4) = 1 then l / 4 * 4 else l / 2 * 2

/-- The check of a port block at offset `o` (Table 06.4). -/
def portBlockOk (q : Quire) (o : Nat) : Bool :=
  let v (i : Nat) : Nat := qRd q fPacket (o + 0x20 + 2 * i) 2
  [within 1518 9216 (qRd q fPacket (o + 6) 2), decide (qRd q fPacket (o + 8) 1 < 8), decide (qRd q fPacket (o + 9) 1 ≤ 7),
    decide (qRd q fPacket (o + 10) 1 ≤ 32), decide (qRd q fPacket (o + 11) 1 ≤ 128),
    (List.range 4).all fun i => decide (v i / 4096 % 8 = 0), qZero q fPacket (o + 0x2C) 4].all id

/-- The non-zero addresses, MAC, IPv4 and IPv6, of a 48-byte port block or of a 32-byte side B block.
DEDUCED (unsafe, log 122). -/
def blockAddrs (q : Quire) (o : Nat) (sideB : Bool) : List Bytes :=
  let v4 := if sideB then o + 8 else o + 12
  [qBytes q fPacket o 6, qBytes q fPacket v4 4, qBytes q fPacket (v4 + if sideB then 8 else 4) 16].filter fun a => !(a.all (· == 0#8))

/-- The check of packet lane `k`'s entry. A MEMBER lane's fec is its leader's or 0, where Table 06.1 has a dash.
DESIGN CHOICE (unsafe, log 175). -/
def sealPacket (q : Quire) (k : Nat) : Nat :=
  let o := 192 * k
  let m := plMode q k
  let fec := qRd q fPacket (o + 1) 1
  let ml := qRd q fPacket (o + 0x40) 2
  let lead := plLeader q k
  let lanes := match m with | 1 => 4 | 2 => 2 | _ => 1
  let twin := decide (qRd q fFabric (528 * 64) 1 = 1)
  let sideA := (List.range 64).flatMap fun j => blockAddrs q (192 * j + 0x10) false ++ blockAddrs q (192 * j + 0x50) false
  need
    [decide (m ≤ 5 ∨ m = 7), if m = 0 then true else if m = 7 then decide (fec = qRd q fPacket (192 * lead + 1) 1 ∨ fec = 0)
        else if m = 5 then decide (fec ≤ 2) else decide (fec = 3),
      decide (qRd q fPacket (o + 2) 1 < 4), decide (qRd q fPacket (o + 3) 1 ≤ 32), withinI (-8) 0 (qRdI q fPacket (o + 4) 1),
      withinI (-16) 0 (qRdI q fPacket (o + 5) 1), withinI (-16) 0 (qRdI q fPacket (o + 6) 1), qZero q fPacket (o + 7) 9,
      decide (k % lanes = 0), (List.range lanes).all fun i => decide (i = 0 ∨ plMode q (k + i) = 7),
      if m = 7 then decide (plMode q lead = 1 ∨ (plMode q lead = 2 ∧ k = lead + 1)) else true,
      (groupLanes k).all fun j => decide (m = 0 ∨ plMode q j = 0 ∨ laneClass m = laneClass (plMode q j)),
      decide (m = 0 ∨ m = 7) || portBlockOk q (o + 0x10), decide (ml < 256 ∨ ml = 0xFFFF), qZero q fPacket (o + 0x42) 14,
      if ml = 0xFFFF then qZero q fPacket (o + 0x50) 48
      else portBlockOk q (o + 0x50) && decide (lnRxMode q ml = 3) &&
        decide (((List.range 64).filter fun j => decide (qRd q fPacket (192 * j + 0x40) 2 = ml)).length = 1),
      qZero q fPacket (o + 0x86) 2, qZero q fPacket (o + 0x8C) 4, qZero q fPacket (o + 0xA6) 2, qZero q fPacket (o + 0xAC) 4,
      decide (ml ≠ 0xFFFF) || qZero q fPacket (o + 0xA0) 32,
      !twin || !((blockAddrs q (o + 0x80) true ++ blockAddrs q (o + 0xA0) true).any sideA.contains)]

/-- A media lane in Ethernet mode that no slot names (R161): LANES entry at fault. -/
def sealMediaPorts (q : Quire) : Found :=
  ((List.range 256).find? fun l => laneEth q l && (mediaSlot q l).isNone).map fun l => (stBadParam, l)

/-! ### FLOWS (R169 to R173, R178, R180, R183, R186) -/

/-- The slot of a flow, the binding's or the companion's, as its format. -/
def flowSlotFormat (q : Quire) (e : Bytes) : Option Nat :=
  let i := servedFlow q e
  if rd e 0 2 < 8192 then (flowSource q i).map (srcFormat q) else (flowDest q i).map (dstFormat q)

/-- Bytes of a frame of a flow around an RTP payload of `n` bytes, with preamble, FCS and interframe gap (R171).
DESIGN CHOICE (unsafe, log 119). -/
def wireBytes (e : Bytes) (n : Nat) : Nat :=
  8 + 14 + (if bit (feFlags e) 2 then 4 else 0) + (if bit (feFlags e) 0 then 40 else 20) + 8 + 12 + n + 4 + 12

/-- Packets a second of a flow and the bytes of each RTP payload, both counted as (packets per `frames`/`secs` period).
A -40 flow counts a packet for every raster line and the final one, and in them all that anc_alloc of its route's source
holds. DESIGN CHOICE (unsafe, logs 119, 187). DESIGN CHOICE (unsafe, log 119). DESIGN CHOICE (unsafe, log 187). -/
def flowPackets (q : Quire) (output : Bool) (e : Bytes) : Nat × Nat × Nat × Nat :=
  let f := (flowSlotFormat q e).getD 0
  let fr := if rasterFormat f then frameRate f else (0, 1)
  match feEssence e with
  | 1 =>
    let m := if output then maxPayload e else 1200
    let n := if rasterFormat f then packetsPerFrame f m else 0
    (n, cdiv (lineBytes20 f) (max 1 (packetsPerLine f m)) + 8, fr.1, fr.2)
  | 3 =>
    (1, packetSamples (flowRate q output e) e * feAudioCount e * (if bit (feFlags e) 4 then 2 else 3),
      flowRate q output e, packetSamples (flowRate q output e) e)
  | 4 => (1, packetSamples (flowRate q output e) e * feAudioCount e * 4, flowRate q output e,
      packetSamples (flowRate q output e) e)
  | 5 =>
    let n := if rasterFormat f then rasterLines (rasterOf f) + 1 else 0
    let src := ((flowDest q (servedFlow q e)).map (dstRoute q)).getD 0xFFFF
    (n, 8 + (if src < 1536 then cdiv (srcAnc q src * 4096) (max 1 n) else 0), fr.1, fr.2)
  | 6 => (if rasterFormat f then cdiv (sdiFrameBytes f) 1376 else 0, 1384, fr.1, fr.2)
  | _ => (0, 0, 0, 1)

/-- The wire rate of a transmit flow in bit/s, rounded up; of a -22 flow that of its route's source at its declared rate,
in packets of 1,200 bytes of payload. DESIGN CHOICE (unsafe, logs 119, 187).
DESIGN CHOICE (unsafe, log 119). DESIGN CHOICE (unsafe, log 187). -/
def wireRate (q : Quire) (e : Bytes) : Nat :=
  if feEssence e = 2 then
    match flowDest q (rd e 0 2) with
    | some d =>
      if dstRoute q d < 1536 then cdiv (qRd q fSources (16 * dstRoute q d + 10) 2 * 1000000 * wireBytes e 1200) 1212 else 0
    | none => 0
  else
    let p := flowPackets q true e
    cdiv (8 * wireBytes e p.2.1 * p.1 * p.2.2.1) (max 1 p.2.2.2)

/-- Whether an essence carries a slot's format (Table 06.9). A receive -20 flow fits its port when the format's active lines
do, headers apart; a transmit flow falls under the 90 % of R171. DESIGN CHOICE (unsafe, log 187). -/
def essenceCarries (q : Quire) (e : Bytes) (f : Nat) : Bool :=
  match feEssence e with
  | 1 =>
    isAuto f ||
      (rasterFormat f && decide (sampleOf f ≤ 3) &&
        decide (8192 ≤ rd e 0 2 ∨ 8 * lineBytes20 f * rasterActive (rasterOf f) * (frameRate f).1 ≤
          portGbps q (fePort e) * 1000000000 * (frameRate f).2))
  | 2 => isOpaque f
  | 6 =>
    isAuto f || ((carried 1 1 0 f).isSome || [2, 0x12].any (fun c => (carried 1 c 0 f).isSome) ||
      [3, 0x13].any fun c => (carried 1 c 1 f).isSome || (carried 1 c 2 f).isSome)
  | _ => true

/-- Whether two receive entries have one match key (R170). -/
def sameKey (a b : Bytes) : Bool :=
  let key (e : Bytes) : Bytes :=
    le 2 (fePort e) ++ (if bit (feFlags e) 2 then le 2 (rd e 8 2 % 4096) else le 2 0xFFFF) ++ le 1 (feFlags e % 2) ++
      slice e 0x10 32 ++ le 2 (rd e 0x0C 2)
  key a = key b

/-- The fields a receive or transmit flow of an essence may set (Table 06.7). -/
def flowFields (e : Bytes) : List Bool :=
  let tx := decide (8192 ≤ rd e 0 2)
  let k := feEssence e
  let n := feAudioCount e
  let p := feParam e
  let v4 := !bit (feFlags e) 0
  let win := rd e 0x3C 2
  let paired := decide (fePair e ≠ 0xFFFF)
  [within 1 6 k, decide (feFlags e < 32), !tx || !bit (feFlags e) 1, !bit (feFlags e) 3 || (tx && decide (k = 1)),
    !bit (feFlags e) 4 || decide (k = 3), isNetPort (fePort e), !paired || decide (fePair e < 16384),
    !bit (rd e 8 2) 12, within 96 127 (rd e 0x0A 1), if tx then decide (rd e 0x0B 1 < 64) else decide (rd e 0x0B 1 = 0),
    tx || decide (rd e 0x0E 2 = 0), !v4 || (isZero e 0x14 12 && isZero e 0x24 12), !tx || isZero e 0x20 16,
    tx || isZero e 0x30 6, decide (k = 5) || decide (feCompanion e = 0xFFFF),
    match k with
    | 3 => within 1 64 n
    | 4 => within 2 32 n && decide (n % 2 = 0)
    | 6 => decide (n ≤ 32 ∧ n % 4 = 0)
    | _ => decide (n = 0),
    if k = 3 ∨ k = 4 then decide (rd e 0x3B 1 ≤ 4) else decide (rd e 0x3B 1 = 0),
    if paired && !tx then within 10 1000 win else decide (win = 0),
    if tx ∧ k = 1 then decide (p = 0) || within 256 8960 p
    else if ¬ tx ∧ (k = 3 ∨ k = 4) then true
    else if tx ∧ k = 2 then within 100 10000 p else decide (p = 0),
    if ¬ tx ∧ k = 1 then decide (rd e 0x44 1 ≤ 3 ∨ rd e 0x44 1 = 0xFF) else decide (rd e 0x44 1 = 0), isZero e 0x45 1,
    !tx || decide (rd e 0x46 2 = 0), isZero e 0x48 8,
    !(ipMulticast (bit (feFlags e) 0) (slice e 0x10 16)) || isZero e 0x30 6]

/-- The check of a pair of legs (R180), whose merge window is strictly shorter than its activity age (R472). -/
def pairOk (q : Quire) (e : Bytes) : Bool :=
  if fePair e = 0xFFFF then true
  else
    match flowEntry q (fePair e) with
    | none => false
    | some x =>
      let pk := flowPackets q false e
      decide (fePair x = rd e 0 2 ∧ fePair e ≠ rd e 0 2 ∧ decide (rd e 0 2 < 8192) = decide (rd x 0 2 < 8192) ∧
        feEssence x = feEssence e ∧ rd x 0x3C 2 = rd e 0x3C 2 ∧ rd x 0x44 1 = rd e 0x44 1 ∧
        slice x 0x38 4 = slice e 0x38 4 ∧ feFlags x / 16 = feFlags e / 16) &&
      decide (8192 ≤ rd e 0 2 ∨
        (pk.1 * pk.2.2.1 * rd e 0x3C 2 ≤ 16384 * 100000 * max 1 pk.2.2.2 ∧
          rd e 0x3C 2 * 10 * ticksPerUs < flowAge q e))

/-- The check of flow entry `i` of the folio. Leg A alone carries a -40 pair's companion relation (R180), so leg B may leave
its companion 0xFFFF. DEDUCED (unsafe, log 188). -/
def sealFlow (q : Quire) (i : Nat) : Nat :=
  let e := keyedEntry q fFlows i
  let tx := decide (8192 ≤ rd e 0 2)
  let k := feEssence e
  let f := flowSlotFormat q e
  let base := feAudioBase e
  let n := feAudioCount e
  let rate := flowRate q tx e
  let secs := if k = 3 then [0, 1] else [0]
  let earlier := (List.range i).map (keyedEntry q fFlows)
  let comp (c : Bytes) : Bool := decide (feEssence c = 1 ∧ decide (8192 ≤ rd c 0 2) = tx)
  let pens := (if tx then (flowDest q (rd e 0 2)).map (dstPen q) else (flowSource q (legA e)).map (srcPen q))
  let sampled := decide (k = 1) && !tx && (match f with | some v => isAuto v | none => false)
  let held := match flowDest q (rd e 0 2) with
    | some d =>
      let s := dstRoute q d
      decide (1536 ≤ s) ||
        decide (qRd q fSources (16 * s + 10) 2 * feParam e ≤ qRd q fSources (16 * s + 8) 2 * 4096 * 8)
    | none => true
  let mine := (earlier ++ [e]).filter fun x => decide (8192 ≤ rd x 0 2 ∧ fePort x = fePort e)
  firstSt
    [need
      ([keyRises q fFlows i, decide (rd e 0 2 < 16384)] ++ flowFields e ++
        [tx || !(earlier.any fun x => decide (rd x 0 2 < 8192) && sameKey x e), portMode q (fePort e) ≠ 0,
          decide (k ≠ 5) ||
            (match flowEntry q (feCompanion e) with
              | some c => comp c
              | none => decide (legA e ≠ rd e 0 2 ∧ feCompanion e = 0xFFFF)),
          (match f with
            | some v => decide (k = 5) || essenceCarries q e v
            | none => true),
          !sampled || decide (rd e 0x44 1 ≠ 0xFF), pairOk q e,
          decide (k ≠ 3 ∧ k ≠ 4) ||
            decide (packetSamples rate e * n * (if k = 4 then 4 else if bit (feFlags e) 4 then 2 else 3) ≤ 1440),
          channelsOk q tx secs base n, !tx || decide (k ≠ 2) || held]),
      orSt (decide (k ≠ 6) ||
        (match pens with
          | some p => (channels q tx base n).all fun c => decide (blockPen q tx c = p)
          | none => true)) stNotOwner,
      orSt (!tx || decide (10 * (mine.map (wireRate q)).sum ≤ 9 * portGbps q (fePort e) * 1000000000)) stNoCapacity]

/-! ### FABRIC (R219, R220) -/

/-- Lanes of a bond mode. -/
def bondSize (m : Nat) : Nat := match m with | 2 => 2 | 3 => 4 | _ => 1

/-- Cells a second of a transmit item, as a fraction. -/
def itemCells (q : Quire) (it : Bytes) : Nat × Nat :=
  if rd it 2 1 = 2 then (48000, max 1 (cellSamples (max 1 (rd it 3 1))))
  else
    match streamDest q (rd it 0 2) with
    | some d =>
      let f := dstFormat q d
      if rasterFormat f then (rasterActive (rasterOf f) * lineCells f * (frameRate f).1, (frameRate f).2) else (0, 1)
    | none => (0, 1)

/-- The sum of two fractions. -/
def addFrac (a b : Nat × Nat) : Nat × Nat := (a.1 * b.2 + b.1 * a.2, a.2 * b.2)

/-- The lanes and bonds on which a transmit stream is named (R220), whatever their mode. -/
def txNamed (q : Quire) (stream : Nat) : List Nat :=
  (List.range 64).filter fun l =>
    (fabItems q l).any fun e => decide ((rd e 2 1 = 1 ∨ rd e 2 1 = 2) ∧ rd e 0 2 = stream)

/-- The receive streams a quire names: kind 3 bindings of source slots and kind 3 items (R220). -/
def receiveStreams (q : Quire) : List Nat :=
  ((qAll q fBindings).filter fun e => decide (rd e 0 2 < 0x8000 ∧ rd e 2 1 = 3)).map (fun e => rd e 4 2) ++
    ((List.range 64).flatMap (fabItems q)).filterMap fun it => if rd it 2 1 = 3 then some (rd it 0 2) else none

/-- The check of a stream item of lane `l` (Table 07.6, R215, R220, R265). -/
def itemOk (q : Quire) (l j : Nat) : Bool :=
  let it := fabItem q l j
  let kind := rd it 2 1
  let n := rd it 3 1
  let twice := (List.range j).any fun m => decide (rd (fabItem q l m) 2 1 = kind ∧ rd (fabItem q l m) 0 2 = rd it 0 2)
  [decide (kind ≤ 3), decide (kind ≠ 0) || isZero it 0 8, decide (rd it 0 2 < 4096),
    if kind = 2 ∨ kind = 3 then within 1 64 n else decide (n = 0), kind = 2 || kind = 3 || decide (rd it 4 2 = 0),
    kind = 3 || decide (rd it 6 2 = 0), decide (kind = 0) || !twice,
    decide (kind ≠ 1) ||
      (match streamDest q (rd it 0 2) with
        | some d => dstEnabled q d
        | none => false),
    decide (kind ≠ 1 ∧ kind ≠ 2) || decide ((txNamed q (rd it 0 2)).length ≤ 4),
    decide (kind ≠ 3) || decide (((receiveStreams q).filter (· = rd it 0 2)).length = 1),
    decide (kind ≠ 3) || channelsOk q false [0] (rd it 4 2) n, decide (kind ≠ 2) || channelsOk q true [0] (rd it 4 2) n].all id

/-- The check of fabric or stitch lane `l`. -/
def sealFabric (q : Quire) (l : Nat) : Nat :=
  let o := 528 * l
  let m := fabMode q l
  let n := bondSize m
  let used := (fabItems q l).any fun it => decide (rd it 2 1 ≠ 0)
  let leads (j : Nat) : Bool := decide (fabMode q j = 3 ∧ j = l / 4 * 4) || decide (fabMode q j = 2 ∧ l = j + 1)
  let form :=
    [decide (qRd q fFabric (o + 1) 1 < 2), decide (qRd q fFabric (o + 2) 1 ≤ 32), withinI (-8) 0 (qRdI q fFabric (o + 3) 1),
      withinI (-16) 0 (qRdI q fFabric (o + 4) 1), withinI (-16) 0 (qRdI q fFabric (o + 5) 1),
      decide (qRd q fFabric (o + 6) 1 ≤ 1), qZero q fFabric (o + 7) 1]
  if 64 ≤ l then need (form ++ [decide (m ≤ 1 ∧ m = fabMode q 64), qZero q fFabric (o + 16) 512])
  else
    let cells := ((fabItems q l).filter fun it => decide (rd it 2 1 = 1 ∨ rd it 2 1 = 2)).map (itemCells q)
    let total := cells.foldl addFrac (0, 1)
    firstSt
      [need (form ++
        [decide (m ≤ 3 ∨ m = 7), decide (l % n = 0), (List.range n).all fun i => decide (i = 0 ∨ fabMode q (l + i) = 7),
          decide (m ≠ 7) || ((groupLanes l).any leads && !used), (List.range 64).all (itemOk q l),
          decide (l ≠ 0) || ((receiveStreams q).Nodup && decide ((receiveStreams q).length ≤ 2048))]),
        orSt (decide (m = 0 ∨ m = 7 ∨ total.1 ≤ 48828125 * n * total.2)) stNoCapacity]

end Sys2Proof.Machine
end

