-- ==== Sys2Proof/Machine/SealAudio.lean ====
section
/-! DEFINITION. The checks at seal of DRAM, AUDIO_PROGRAM, AUDIO_PARAMS, AUDIO_PORTS and LAYERS. -/

namespace Sys2Proof.Machine

/-! ### DRAM (R239, R248 to R251, R292, R328) -/

/-- The charges of a partition's users in a quire (R250): synchronisers, with `lines` the delay lines, and the layer stores
of the first `n` engines. -/
def chargeOf (q : Quire) (lines : Bool) (n pen g : Nat) : Charge :=
  let a := ((List.range 96).filter fun i => syEnabled q i && decide (syPen q i = pen ∧ syField q i 1 1 = g)).map (syCharge q)
  let stores := (List.range n).flatMap fun e => (List.range 4).map fun l => (e, l)
  let b := (stores.filter fun p =>
    bit (leField q p.1 0 1) 0 && decide (leField q p.1 1 1 = pen ∧ leField q p.1 6 1 = g) &&
      (layerDest q p.1 p.2).isSome).map fun p => layerCharge q p.1 p.2
  let c := ((List.range (if lines then progDelays q else 0)).filter fun j =>
    decide (rd (progDelay q j) 4 1 = pen ∧ rd (progDelay q j) 5 1 = g)).map fun j => delayCharge q (progDelay q j)
  (a ++ b ++ c).foldl Charge.add {}

/-- The delay lines of the running program that are not in the new one as they stand: at a program exchange the new lines
need room beside them (R292). -/
def runningLines (s : State) (q : Quire) (pen g : Nat) : Charge :=
  let old := s.audio.prog
  let new := (List.range (progDelays q)).map (progDelay q)
  (((List.range (progDelays old)).map (progDelay old)).filter fun e =>
    decide (rd e 4 1 = pen ∧ rd e 5 1 = g) && !new.contains e).foldl (fun c e => c.add (delayCharge old e)) {}

/-- Whether a program differs from the running one, so that a bank exchange comes with it. -/
def programDiffers (s : State) (q : Quire) : Bool := decide (qBody q fProgram ≠ qBody s.audio.prog fProgram)

/-- Whether partition entries rise by group and then pen (R248). -/
def partsRise : List Bytes → Bool
  | a :: b :: t => decide (256 * rd a 1 1 + rd a 0 1 < 256 * rd b 1 1 + rd b 0 1) && partsRise (b :: t)
  | _ => true

/-- The form of a partition entry (Table 08.6). -/
def partForm (e : Bytes) : Bool :=
  [decide (rd e 1 1 < 4), decide (rd e 2 1 < 2), isZero e 3 1, within 1 (partitionable (rd e 1 1)) (rd e 4 2), isZero e 6 2,
    isZero e 12 4].all id

/-- The form of synchroniser `i`'s entry, and the rules of R249 that refuse it with BAD_PARAM. -/
def syncForm (q : Quire) (i : Nat) : Bool :=
  let loss := syField q i 6 1
  let frz := syField q i 7 1
  let o := 0x40 + 32 * i
  [decide (syField q i 0 1 < 2), decide (syField q i 1 1 < 4), decide (syInput q i < 1536), decide (syDelay q i ≤ 13),
    decide (loss ≤ 2), if loss = 1 then within 1 250 frz else decide (frz = 0), qZero q fDram (o + 9) 23].all id &&
  (!(syEnabled q i) ||
    (match syOutput q i with
      | some out =>
        [decide (srcPen q out = syPen q i ∧ srcFormat q out = syFormat q i), rasterFormat (syFormat q i), srcEnabled q (syInput q i),
          (partOf q (syPen q i) (syField q i 1 1)).isSome,
          !((List.range i).any fun j => syEnabled q j && decide (syOutput q j = some out))].all id
      | none => false))

/-- Whether the charges of R250 fit every enabled partition: `lines` and `n` as in `chargeOf`; at a program exchange the
lines that run on need room too (R292). -/
def partsFit (s : State) (q : Quire) (lines : Bool) (n : Nat) : Bool :=
  let fits (e : Bytes) : Bool :=
    let c := chargeOf q lines n (rd e 0 1) (rd e 1 1)
    (if lines && programDiffers s q then c.add (runningLines s q (rd e 0 1) (rd e 1 1)) else c).fits e
  ((partitions q).filter fun e => bit (rd e 2 1) 0).all fits

/-- The check of the DRAM folio. -/
def sealDram (s : State) (q : Quire) : Nat :=
  let b (o k : Nat) : Nat := qRd q fDram o k
  let pr (p : Nat) : Nat := b (0x10 + p) 1
  let ps := partitions q
  let on := ps.filter fun e => bit (rd e 2 1) 0
  let sumIn (g o k : Nat) : Nat := ((on.filter fun e => decide (rd e 1 1 = g)).map fun e => rd e o k).sum
  firstSt
    [need
      [decide (b 0 2 = 1), decide (partCount q ≤ 1024 ∧ qLen q fDram = 3136 + 16 * partCount q), decide (b 4 1 ≤ 2),
        decide (b 5 1 ≤ 250), decide (b 6 1 < 2), within 1 100 (b 7 1), within 60 1440 (b 8 2), qZero q fDram 10 6,
        (List.range 8).all fun p => decide (pr p ≤ 7),
        (List.range 4).all fun p => (List.range 4).all fun r => decide (pr (4 + r) < pr p), qZero q fDram 0x18 40,
        ps.all partForm, partsRise ps, (List.range 96).all (syncForm q)],
      orSt ((List.range 96).all fun i => !(syEnabled q i) ||
        decide (srcPen q (syInput q i) = syPen q i) || granted q (syInput q i) (syPen q i)) stNotOwner,
      orSt ((List.range 4).all (fun g => decide (sumIn g 4 2 ≤ partitionable g ∧ sumIn g 8 4 ≤ groupBudget g)) &&
        partsFit s q false 0) stNoCapacity]

/-! ### AUDIO_PROGRAM (R266, R272 to R279) -/

/-- The section of a signal: of an input channel's block, of the element that writes a scratch word, of a bridge's
output; none of an address that is reserved or names no channel (R273). -/
def signalSection (q : Quire) (addr : Nat) : Option Nat :=
  if addr < 0x8000 then (if channelOk q false addr then some (blockSection q false addr) else none)
  else if 0x10000 ≤ addr ∧ addr < 0x1FF00 then
    (List.range 7).find? fun k => (secElements q k).any fun i => decide (rd (progElement q i) 8 4 = addr)
  else if 0x1FF00 ≤ addr ∧ addr < 0x20000 then
    (if bridgeOn q (addr - 0x1FF00) then some (rd (progBridge q (addr - 0x1FF00)) 2 1) else none)
  else none

/-- The cost of an element in operation slots (Table 09.5). -/
def elementCost (e : Bytes) : Nat := match rd e 0 1 with | 1 => rd e 4 2 | 3 => 5 * rd e 4 2 | _ => 1

/-- The operation charge of a program (R278). DEDUCED (unsafe, log 120). -/
def programCharge (q : Quire) : Nat :=
  (((List.range 7).filter (secPresent q)).map fun k =>
    cdiv (((secElements q k).map fun i => elementCost (progElement q i)).sum * capRate q k) 48000).sum

/-- The parameter entries an element uses: first, count, and their type. -/
def elementParams (e : Bytes) : Nat × Nat × Nat :=
  match rd e 0 1 with
  | 1 => if bit (rd e 1 1) 0 then (0, 0, 1) else (rd e 0x10 4, rd e 4 2, 1)
  | 2 => (rd e 0x10 4, 1, 1)
  | 3 => (rd e 0x10 4, rd e 4 2, 2)
  | _ => (0, 0, 1)

/-- The signals an element reads. -/
def elementReads (q : Quire) (e : Bytes) : List Nat :=
  if rd e 0 1 = 1 then (List.range (rd e 4 2)).map fun j => progSource q (rd e 0xC 4 + j) else [rd e 0xC 4]

/-- The check of element `i` of section `k` (R273, R274, R279), but for ownership. -/
def elementOk (q : Quire) (k i : Nat) : Bool :=
  let e := progElement q i
  let op := rd e 0 1
  let n := rd e 4 2
  let par := elementParams e
  let others := (List.range (progHead q 0x10 4)).filter (· ≠ i)
  let set_ := (List.range (progSets q)).find? fun j =>
    let x := progSet q j
    decide (rd x 0 4 ≤ par.1 ∧ par.1 + par.2.1 ≤ rd x 0 4 + rd x 4 4 ∧ rd x 8 1 = k ∧ rd x 9 1 = rd e 2 1)
  [within 1 4 op, decide (rd e 1 1 < 2 ∧ (op ≠ 1 → rd e 1 1 = 0)), isZero e 3 1, isZero e 6 2,
    match op with | 1 => within 1 1024 n | 3 => within 1 16 n | _ => decide (n = 1),
    decide (op ≠ 1) || decide (rd e 0xC 4 + n ≤ progHead q 0x18 4), within 0x10000 0x1FEFF (rd e 8 4),
    (elementReads q e).all fun a => decide (signalSection q a = some k),
    !(others.any fun j => decide (rd (progElement q j) 8 4 = rd e 8 4)),
    decide (par.2.1 = 0) || (set_.isSome &&
      (List.range par.2.1).all fun j => decide (rd (paramEntry q (par.1 + j)) 0 1 = par.2.2)),
    decide (op ≠ 4) || (decide (rd e 0x10 4 < progDelays q ∧ rd (progDelay q (rd e 0x10 4)) 6 1 = k) &&
      !(others.any fun j => decide (rd (progElement q j) 0 1 = 4 ∧ rd (progElement q j) 0x10 4 = rd e 0x10 4))),
    decide (rd e 0x14 4 = 0) ||
      !((secElements q k).any fun j => decide (j ≠ i ∧ rd (progElement q j) 0x14 4 = rd e 0x14 4))].all id

/-- What an element, an output map entry and a bridge may read or use (R266, R279). -/
def programOwners (q : Quire) : Bool :=
  let elems := (List.range 7).flatMap (secElements q)
  (elems.all fun i =>
    let e := progElement q i
    (elementReads q e).all (mayRead q (rd e 2 1)) &&
      (decide (rd e 0 1 ≠ 4) || decide (rd (progDelay q (rd e 0x10 4)) 4 1 = rd e 2 1))) &&
  ((List.range 32768).all fun ch =>
    decide (outMap q ch = 0xFFFFFFFF) || mayRead q (blockPen q true ch) (outMap q ch)) &&
  ((List.range 256).all fun b => !(bridgeOn q b) || mayRead q (rd (progBridge q b) 3 1) (rd (progBridge q b) 4 4))

/-- The layout of a program's header and tables (Tables 09.2, 09.3, 09.6, 09.7). -/
def programForm (q : Quire) : Bool :=
  let h (o k : Nat) : Nat := progHead q o k
  let part (o n : Nat) : Bool := decide (o % 8 = 0 ∧ 0x258B0 ≤ o ∧ o + n ≤ qLen q fProgram)
  let blockOk (o : Nat) : Bool := decide (qRd q fProgram o 1 ≤ 6 ∨ qRd q fProgram o 1 = 0xFF) && qZero q fProgram (o + 2) 2
  let setOk (j : Nat) : Bool :=
    let x := progSet q j
    decide (1 ≤ rd x 4 4 ∧ rd x 0 4 + rd x 4 4 ≤ h 0x2C 4 ∧ rd x 8 1 ≤ 6) && isZero x 10 6 &&
      !((List.range j).any fun m =>
        decide (rd (progSet q m) 0 4 < rd x 0 4 + rd x 4 4 ∧ rd x 0 4 < rd (progSet q m) 0 4 + rd (progSet q m) 4 4))
  let lineOk (j : Nat) : Bool :=
    let x := progDelay q j
    within 1 1440000 (rd x 0 4) && decide (rd x 5 1 < 4 ∧ rd x 6 1 ≤ 6) && isZero x 7 9
  let dirOk (k : Nat) : Bool :=
    let d := progDir q k
    decide (rd d 0 1 = k ∧ rd d 1 1 < 2 ∧ rd d 4 4 + rd d 8 4 ≤ h 0x10 4) && isZero d 2 2 &&
      decide (((secElements q k).map fun i => elementCost (progElement q i)).sum = rd d 12 4)
  let bridgeOk (b : Nat) : Bool :=
    let x := progBridge q b
    decide (rd x 0 1 < 2) &&
      (!(bridgeOn q b) || decide (rd x 1 1 ≤ 6 ∧ rd x 2 1 ≤ 6 ∧ signalSection q (rd x 4 4) = some (rd x 1 1)))
  let mapOk (ch : Nat) : Bool :=
    decide (outMap q ch = 0xFFFFFFFF) ||
      (channelOk q true ch && decide (signalSection q (outMap q ch) = some (blockSection q true ch)))
  [decide (h 0 4 = 0x4D524741 ∧ h 4 2 = 1 ∧ h 6 2 ≤ 4096 ∧ (h 6 2 = 0 → h 0x2C 4 = 0)),
    decide (h 8 4 = qLen q fProgram ∧ h 0x10 4 ≤ 1048576 ∧ h 0x18 4 ≤ 2097152 ∧ h 0x24 2 ≤ 4096 ∧ h 0x2C 4 ≤ 524288),
    part (h 0x14 4) (24 * h 0x10 4), part (h 0x1C 4) (4 * h 0x18 4), part (h 0x20 4) (16 * h 6 2),
    part (h 0x28 4) (16 * h 0x24 2), isZero (le 2 (h 0x26 2)) 0 2, qZero q fProgram 0x34 4,
    if secPresent q 6 then within 32000 192000 (freeRate q) else decide (freeRate q = 0),
    (List.range 1024).all fun b => blockOk (0x40 + 4 * b), (List.range 7).all dirOk, (List.range 256).all bridgeOk,
    (List.range (progSets q)).all setOk,
    decide (((List.range (progSets q)).map fun j => rd (progSet q j) 4 4).sum = h 0x2C 4),
    (List.range (progDelays q)).all lineOk, (List.range 32768).all mapOk,
    decide (((List.range 7).map fun k => (secElements q k).length).sum = h 0x10 4),
    (List.range (h 0x18 4)).all fun j => (signalSection q (progSource q j)).isSome,
    (List.range 7).all fun k => (secElements q k).all (elementOk q k)].all id

/-- The check of AUDIO_PROGRAM (R265, R266, R272 to R279). DEDUCED (unsafe, log 120). -/
def sealProgram (s : State) (q : Quire) : Nat :=
  let lines := (List.range (progDelays q)).all fun j =>
    (partOf q (rd (progDelay q j) 4 1) (rd (progDelay q j) 5 1)).isSome
  firstSt
    [orSt (programForm q) stBadParam, orSt (programOwners q) stNotOwner, orSt (decide (programCharge q ≤ 2097152)) stNoCapacity,
      orSt (decide (progHead q 12 4 = programCharge q)) stBadParam,
      orSt (lines && partsFit s q true 0) stNoCapacity]

/-- The check of AUDIO_PARAMS (R281). -/
def sealParams (q : Quire) : Nat :=
  let n := progHead q 0x2C 4
  need
    [decide (qRd q fParams 0 2 = 1 ∧ qRd q fParams 4 4 = n ∧ qLen q fParams = 16 + 24 * n), qZero q fParams 2 2, qZero q fParams 8 8,
      (List.range n).all fun i => paramOk (paramEntry q i)]

/-! ### Producers of input channels (R264, R265) -/

/-- The input channels each producer names, with the folio and entry that names them. -/
def producers (q : Quire) : List (Nat × Nat × List Nat) :=
  let lanes := (List.range 256).map fun l =>
    (fLanes, l, channels q false (qRd q fLanes (32 * l + 8) 2) (if bit (lnFlags q l) 2 then lnByte q l 10 else 0))
  let flows := (List.range (qEntries q fFlows)).map fun i =>
    let e := keyedEntry q fFlows i
    (fFlows, i, if rd e 0 2 < 8192 ∧ legA e = rd e 0 2 then channels q false (feAudioBase e) (feAudioCount e) else [])
  let items := (List.range 64).map fun l =>
    (fFabric, l, (fabItems q l).flatMap fun it => if rd it 2 1 = 3 then channels q false (rd it 4 2) (rd it 3 1) else [])
  let ports := (List.range 72).map fun p =>
    (fAudioPorts, p, if apEnabled q p then channels q false (apInputs q p).1 (apInputs q p).2 else [])
  lanes ++ flows ++ items ++ ports

/-- The first producer that names a channel another before it names, or a channel twice. -/
def sharedProducer : List (Nat × Nat × List Nat) → List Nat → Option (Nat × Nat × Nat)
  | [], _ => none
  | (ty, i, cs) :: t, seen =>
    if cs.any seen.contains || !cs.Nodup then some (stBadParam, ty, i) else sharedProducer t (cs ++ seen)

/-! ### AUDIO_PORTS (R301, R302) -/

/-- The check of audio port entry `p`. DEDUCED (unsafe, log 120). -/
def sealAudioPort (q : Quire) (p : Nat) : Nat :=
  let b (o k : Nat) : Nat := apField q p o k
  let zero (o n : Nat) : Bool := qZero q fAudioPorts (128 * p + o) n
  let sec := apSection q p
  let free := apField q 72 1 1
  let six := decide (sec ≠ 6) || decide (freeRate q ≠ 0 ∧ free ≠ 0xFF)
  let on := apEnabled q p
  if p < 64 then
    need
      [decide (b 0 1 < (if p < 32 then 2 else 4)), decide (sec ≤ 6), decide (b 4 1 ≤ 2),
        if p < 32 then zero 5 123 else decide (b 5 1 ≤ 1) && zero 6 2 && zero 0x68 24, !on || six,
        !on || channelsOk q (decide (32 ≤ p)) [sec] (b 2 2) (b 4 1)]
  else if p < 72 then
    let n := b 6 1
    need
      [decide (b 0 1 < 64), decide (sec ≤ 6),
        !on || [decide (n ∈ [2, 4, 8, 16, 32]), decide (b 7 1 ≤ n ∧ b 8 1 ≤ n), decide (n * capRate q sec ≤ 1537536), six,
          channelsOk q false [sec] (b 2 2) (b 7 1), channelsOk q true [sec] (b 4 2) (b 8 1)].all id, zero 9 119]
  else
    let used := (List.range 512).any fun k => decide (blockSection q true (64 * k) = b 2 1 ∨ blockSection q false (64 * k) = b 2 1)
    need
      [decide (b 0 1 < 8), decide (free ≤ 32 ∨ free = 0xFF), decide (b 2 1 ≤ 6), zero 3 1,
        withinI (-10000) 10000 (qRdI q fAudioPorts (128 * 72 + 4) 4), zero 8 120, decide (free ≠ 0) || bit (b 0 1) 0,
        decide (free = 0 ∨ 32 < free) || bit (apField q (free - 1) 0 1) 0, !(bit (b 0 1) 1) || used]

/-! ### LAYERS (R319 to R321, R328, R334, R339) -/

/-- An output format an engine permits (R319). -/
def engineFormat (f : Nat) : Bool :=
  rasterFormat f && decide (colourOf f = 0 ∧ sampleOf f ≤ 3) &&
    match rasterOf f with
    | 0x10 => true
    | 0x22 => true
    | 0x30 => true
    | _ => false

/-- A layer format that an engine of output format `f` may read (R320). -/
def layerFormatOk (f v : Nat) : Bool :=
  rasterFormat v && decide (colourOf v = 0 ∧ framePeriod v = framePeriod f) && decide (rasterOf v ∈ [0x10, 0x22, 0x30])

/-- The records of an engine's entry: live, then presets, with the layer of each. -/
def engineRecords (q : Quire) (e : Nat) : List (Nat × Bytes) :=
  ((List.range 4).map fun l => (l, qBytes q fLayers (1184 * e + 0x20 + 32 * l) 32)) ++
    (List.range 32).map fun j => (j % 4, qBytes q fLayers (1184 * e + 0xA0 + 32 * j) 32)

/-- The check of engine `e`. -/
def sealEngine (s : State) (q : Quire) (e : Nat) : Nat :=
  let b (o k : Nat) : Nat := leField q e o k
  let f := b 2 2
  let g := b 4 1
  let on := bit (b 0 1) 0
  let lead := gangFirst q e
  let gang := gangOf q e
  let inGang := decide (e < lead + (gangOf q lead).length)
  let same (m : Nat) : Bool := decide (m = e) ||
    decide (leField q m 4 1 = 0xFF ∧ leField q m 2 2 = f ∧ leField q m 1 1 = b 1 1 ∧ leField q m 5 1 = b 5 1 ∧ leField q m 6 1 = b 6 1)
  let fmt (l : Nat) : Option Nat := (layerDest q e l).map (dstFormat q)
  let live (l : Nat) : Bool := bit (rd (qBytes q fLayers (1184 * e + 0x20 + 32 * l) 32) 0 1) 0
  let slots := (List.range 4).filterMap (layerDest q e)
  firstSt
    [need
      [decide (b 0 1 < 2), decide (g = 0 ∨ (2 ≤ g ∧ g ≤ 16) ∨ g = 0xFF), decide (b 5 1 ∈ [0, 8, 10]), decide (b 6 1 < 4),
        decide (b 7 1 = 0), (List.range 3).all fun i => decide (b (8 + 2 * i) 2 ≤ 4095), qZero q fLayers (1184 * e + 14) 18,
        decide (g = 0xFF) || decide (e % 16 + gang.length ≤ 16), decide (g = 0xFF) || gang.all same, decide (g ≠ 0xFF) || inGang,
        engineFormat f, (List.range 4).all fun l => (fmt l).all (layerFormatOk f),
        (engineRecords q e).all fun r => recordOk (fmt r.1) r.2, (List.range 4).all fun l => !(live l) || (fmt l).isSome,
        !on || slots = [] || (partOf q (b 1 1) (b 6 1)).isSome, decide (b 5 1 ≠ 10) || decide (10 ≤ sampleDepth (sampleOf f))],
      orSt ((engineOutput q e).all (fun i => decide (srcPen q i = b 1 1)) && slots.all fun d => decide (dstPen q d = b 1 1)) stNotOwner,
      orSt (!on || slots = [] || partsFit s q true (e + 1)) stNoCapacity]

end Sys2Proof.Machine
end

