-- ==== Sys2Proof/Machine/SealTime.lean ====
section
/-! DEFINITION. The checks at seal of REFERENCE, TIME, GNSS, FLOCK, EVENTS and MANAGEMENT. -/

namespace Sys2Proof.Machine

/-- A folio image of one entry: its check as a finding at entry 0. -/
def whole (st : Nat) : Found := if st = stOk then none else some (st, 0)

/-! ### REFERENCE (R373, Tables 12.9 to 12.11) -/

/-- The kind that Table 12.1 fixes for an index; CLOCK or FRAME below 8. -/
def kindOk (i k : Nat) : Bool :=
  if i < 8 then decide (k = 1 ∨ k = 2) else if i < 12 then decide (k = 3) else decide (k = i - 8)

/-- The fields of reference entry `i`. -/
def refEntryOk (q : Quire) (i : Nat) : Bool :=
  let f (o k : Nat) : Nat := refField q i o k
  let kind := f 0 1
  let num := f 4 4
  let den := f 8 2
  let others := (List.range i).any fun j => refEnabled q j && decide (refKind q j = kind)
  [kindOk i kind, decide (f 1 1 ≤ 15), decide (f 2 1 < 4), if kind = 2 then within 1 11 (f 3 1) else decide (f 3 1 = 0),
    if kind ≠ 1 then decide (num = 0 ∧ den = 0)
    else if refEnabled q i then
      decide ((den = 1 ∨ den = 1001) ∧ 8000 * den ≤ num ∧ num ≤ 200000000 * den)
    else decide (den = 0 ∨ den = 1 ∨ den = 1001),
    decide (f 0xA 2 ≤ 10000), within 1 4999 (f 0xC 2), decide (f 0xC 2 < f 0xE 2 ∧ f 0xE 2 ≤ 5000), within 1 3600 (f 0x10 2),
    decide (f 0x12 1 ≤ 7 ∧ f 0x12 1 ≤ lastRung q), decide (f 0x13 1 = 0),
    if i < 13 then withinI (-1000000) 1000000 (qRdI q fRef (0x40 + 32 * i + 0x18) 4) else decide (f 0x18 4 = 0),
    decide (f 0x1C 4 = 0), decide (kind ≤ 3) || !refEnabled q i || !others].all id

/-- The ladder: rungs in use first, in ranges, of strictly falling bandwidth. -/
def ladderOk (q : Quire) : Bool :=
  decide (rungField q 0 0 ≠ 0) &&
    (List.range 8).all fun r =>
      let b := rungField q r 0
      decide (rungField q r 12 = 0) &&
        (if b = 0 then (List.range 8).all fun m => decide (m < r ∨ rungField q m 0 = 0)
         else
          within 1000 100000000 b && within 1 86400 (rungField q r 4) && within 1 1000000 (rungField q r 8) &&
            (decide (r = 0) || decide (b < rungField q (r - 1) 0)))

/-- The period in ticks of the pulses of a reference: none of one that gives no pulses. -/
def inputPeriod (q : Quire) (r : Nat) : Option Nat :=
  match refKind q r with
  | 2 => let f := rateFrac (refField q r 3 1); some (ticksPerSec * f.2 / f.1)
  | 3 => some ticksPerSec
  | 4 => some ticksPerSec
  | _ => none

/-- Pulse output `o` (Table 12.11, R368): of a disabled output only its reserved fields and its align's range.
DEDUCED (unsafe, log 121). -/
def pulseOk (q : Quire) (o : Nat) : Bool :=
  let a := pulseField q o 1 1
  let f := pulseField q o 2 2
  let per := pulsePeriod q o
  let w := pulseField q o 0xC 4
  let off := qRdI q fRef (0x2C0 + 32 * o + 8) 4
  [decide (pulseField q o 0 1 < 16), decide (a ≤ 13), qZero q fRef (0x2C0 + 32 * o + 5) 3,
    qZero q fRef (0x2C0 + 32 * o + 16) 16].all id &&
    (!bit (pulseField q o 0 1) 0 ||
      [if 4 ≤ o then decide (f = 0 ∧ pulseField q o 4 1 = 1)
        else decide (f % 16 = 0 ∧ pulseField q o 4 1 ≠ 0) && ratePermitted (rasterOf f) (rateOf f),
        decide (2 * off.natAbs * ticksPerNs ≤ per), decide (10 ≤ w ∧ (w + 10) * ticksPerNs ≤ per),
        (match alignRef a with
          | none => true
          | some r =>
            refEnabled q r &&
              (match inputPeriod q r with
                | some p => decide (p % max 1 per = 0)
                | none => false))].all id)

/-- The announce receipt timeout of an instance in milliseconds, in units of 1/1,024 ms. -/
def announceTimeout1024 (q : Quire) (i : Nat) : Nat :=
  let l := qRdI q fTime (0x40 + 64 * i + 6) 1
  piField q i 9 1 * 1000 * 2 ^ (10 + l).toNat

/-- The hold of the PTP reference against its instance's announce receipt timeout (R356). -/
def ptpPairingOk (q : Quire) : Bool :=
  !refEnabled q 14 || decide (8 ≤ refInstance q) ||
    decide (announceTimeout1024 q (refInstance q) < 1024 * holdMs q 14)

/-- The check of REFERENCE. -/
def sealRef (q : Quire) : Found :=
  whole (need
    ([decide (qLen q fRef = 896), decide (qRd q fRef 0 2 = 1), decide (qRd q fRef 2 1 ≤ 1), decide (qRd q fRef 3 1 ≤ 1),
      decide (qRd q fRef 4 2 ≤ 3600), within 1 1000 (qRd q fRef 6 2), within 10 10000000 (qRd q fRef 8 4),
      qZero q fRef 12 52, ladderOk q, ptpPairingOk q] ++
      (List.range 15).map (refEntryOk q) ++ (List.range 6).map (pulseOk q)))

/-! ### TIME (R417, Tables 13.4 and 13.9 to 13.12) -/

/-- A field of PTP port entry `p`. -/
def peField (q : Quire) (p o k : Nat) : Nat := qRd q fTime (0x240 + 32 * p + o) k

/-- Whether a network port has an address for a transport, on each side that a device of this quire may be.
DEDUCED (unsafe, log 122). -/
def hasAddress (q : Quire) (transport p : Nat) : Bool :=
  let some_ (o n : Nat) : Bool := !(qZero q fPacket o n)
  match portBlock q p with
  | none => false
  | some (a, b) =>
    let one (mac v4 v6 : Nat) : Bool :=
      if transport = 0 then some_ v4 4 else if transport = 1 then some_ v6 16 else some_ mac 6
    one a (a + 12) (a + 16) && (decide (qRd q fFabric (528 * 64) 1 ≠ 1) || one b (b + 8) (b + 16))

/-- The enabled instances. -/
def runningInsts (q : Quire) : List Nat := (List.range 8).filter (piEnabled q)

/-- The entries of an instance that is in range. -/
def piEntries (q : Quire) (i : Nat) : List Nat := (List.range (piField q i 11 1)).map (· + piField q i 10 1)

/-- The ranges of an instance entry. DEDUCED (unsafe, log 121). -/
def instRanges (q : Quire) (i : Nat) : List Bool :=
  let f (o k : Nat) : Nat := piField q i o k
  let v (o : Nat) : Int := qRdI q fTime (0x40 + 64 * i + o) 1
  [decide (f 0 1 < 128), decide (f 1 1 = 1 ∨ f 1 1 = 2), decide (f 2 1 ≤ 127), decide (f 3 1 ≤ 2),
    if f 1 1 = 1 then withinI (-3) 1 (v 6) && withinI (-7) (-1) (v 7) && withinI (v 7) (v 7 + 5) (v 8)
    else withinI 0 4 (v 6) && withinI (-1) 1 (v 7) && withinI 0 5 (v 8),
    within 2 10 (f 9 1), decide (f 10 1 < 64), decide (f 13 1 = 0), decide (f 0x10 2 < 512 ∨ f 0x10 2 = 0xFFFF),
    qZero q fTime (0x40 + 64 * i + 0x12) 2, qZero q fTime (0x40 + 64 * i + 0x1C) 4, qZero q fTime (0x40 + 64 * i + 0x2C) 20]

/-- The ports of an enabled instance and its keys. DEDUCED (unsafe, log 121). -/
def instOk (s : State) (q : Quire) (i : Nat) : Bool :=
  let auth := bit (piField q i 0 1) 5 || bit (piField q i 0 1) 6
  let ports := piEntries q i
  let others := (runningInsts q).filter (· < i)
  let tc (d : Nat) : Bool := (List.range (min 8 (qRd q fTime 7 1))).any fun j => decide (qRd q fTime (8 + j) 1 = d)
  let key (n : Nat) : Bool := decide (n < 512) && keyAllowed s n 7 1 0xF003
  [within 1 16 (piField q i 11 1), decide (piField q i 10 1 + piField q i 11 1 ≤ 64),
    ports.all fun p =>
      let np := peField q p 0 2
      decide (portMode q np ≠ 0) && hasAddress q (piField q i 3 1) np &&
        (!bit (portFlags q np) 1 || tc (piField q i 2 1)) &&
        decide (((ports.filter fun m => decide (peField q m 0 2 = np)).length) = 1),
    others.all fun j =>
      (piEntries q j).all fun m =>
        !ports.contains m &&
          (decide (piField q j 2 1 ≠ piField q i 2 1) || !(ports.any fun p => decide (peField q p 0 2 = peField q m 0 2))),
    !auth || (key (piField q i 0xE 2) && (decide (piField q i 0x10 2 = 0xFFFF) || key (piField q i 0x10 2)))].all id

/-- A port entry's ranges. -/
def portEntryOk (q : Quire) (p : Nat) : Bool :=
  let asym := qRdI q fTime (0x240 + 32 * p + 4) 4
  [decide (peField q p 2 1 ≤ 2), decide (peField q p 3 1 < 2), withinI (-1000000) 1000000 asym,
    decide (peField q p 8 4 ≤ 1000000), decide (peField q p 12 4 = 0)].all id

/-- A service entry: used ones name a network port of their own (R417). DEDUCED (unsafe, log 122). -/
def serviceOk (q : Quire) (j : Nat) : Bool :=
  let f (i o k : Nat) : Nat := qRd q fTime (0xA40 + 4 * i + o) k
  decide (f j 2 1 < 4 ∧ f j 3 1 = 0) &&
    (decide (qRd q fTime 0x1E 2 ≤ j) ||
      (decide (portMode q (f j 0 2) ≠ 0) && (List.range j).all fun i => decide (f i 0 2 ≠ f j 0 2)))

/-- The check of TIME. DEDUCED (unsafe, log 121). -/
def sealTime (s : State) (q : Quire) : Found :=
  let h (o k : Nat) : Nat := qRd q fTime o k
  let nts := bit (h 6 1) 1
  let leap := h 0x18 1
  let names (i : Nat) : Bool := decide (i = 0xFF) || (decide (i < 8) && piEnabled q i)
  whole (need
    ([decide (qLen q fTime = 2880), decide (h 0 2 = 1), names (h 2 1), names (h 3 1), withinI 0 100 (qRdI q fTime 4 2),
      decide (h 6 1 < 16), decide (h 7 1 ≤ 8), (List.range 8).all fun i => decide (h (8 + i) 1 ≤ 127),
      decide (leap = 0 ∨ leap = 1 ∨ leap = 0xFF), withinI (-3) 6 (qRdI q fTime 0x19 1), decide (h 0x1A 2 < 512 ∧ h 0x1C 2 < 512),
      decide (h 0x1E 2 ≤ 64), decide (h 0x20 4 ≤ 1000000), qZero q fTime 0x24 28,
      decide (8 ≤ h 2 1) || (piEntries q (h 2 1)).any fun p => decide (peField q p 2 1 = 0 ∨ peField q p 2 1 = 2),
      !nts || (keyAllowed s (h 0x1A 2) 8 3 0xF003 && keyAllowed s (h 0x1C 2) 8 4 0xF005), ptpPairingOk q] ++
      (List.range 8).flatMap (fun i => if piEnabled q i then instRanges q i ++ [instOk s q i] else instRanges q i) ++
      (List.range 64).map (portEntryOk q) ++ (List.range 64).map (serviceOk q)))

/-! ### GNSS (R443, Table 14.7) -/

/-- The sample rate in samples a second (Table 14.7). -/
def gnssRate (code : Nat) : Nat :=
  match code with
  | 1 => 30690000 | 2 => 40920000 | 3 => 61380000 | 4 => 81840000 | 5 => 122760000 | _ => 0

/-- The check of GNSS. -/
def sealGnss (q : Quire) : Found :=
  let f (o k : Nat) : Nat := gnField q o k
  let fl := f 2 1
  let band (i : Nat) : Nat := f (8 + 8 * i) 1
  let ant (i : Nat) : Nat := f (9 + 8 * i) 1
  let st (b a : Nat) : Bool := (List.range 4).any fun i => decide (band i = b ∧ ant i = a)
  let half (b : Nat) : Nat := if b = 1 then 2046000 else 10230000
  let stream (i : Nat) : Bool :=
    [decide (band i ≤ 2), decide (ant i ≤ 1), decide (f (10 + 8 * i) 1 < 2), decide (f (11 + 8 * i) 1 = 0),
      decide (band i = 0) || decide (ant i = 0) || bit fl 5,
      decide (band i = 0) ||
        decide (100 * ((qRdI q fGnss (12 + 8 * i) 4).natAbs + half (band i)) ≤ 45 * gnssRate (f 3 1)),
      withinI (-1000000) 1000000 (qRdI q fGnss (0x28 + 4 * i) 4)].all id
  whole (need
    ([decide (qLen q fGnss = 128), decide (f 0 2 = 1), decide (fl < 64), within 1 5 (f 3 1), decide (f 4 1 ≤ 1),
      decide (f 5 1 ≤ 30), within 1 8 (f 6 1), decide (f 7 1 ∈ [1, 2, 5, 10]), decide (f 0x50 4 ≤ 100000),
      within 60 86400 (f 0x54 4), within 1 20 (f 0x64 1), within 1 20 (f 0x65 1), within 10 10000 (f 0x66 2),
      within 5 1000 (f 0x68 2), within 10 1000 (f 0x6A 2), within 5 1000 (f 0x6C 2), within 45 60 (f 0x6E 1),
      decide (f 0x6F 1 ≤ 50), within 10 3600 (f 0x70 2), within 3 20 (f 0x72 1), decide (f 0x73 1 = 0),
      within 60 604800 (f 0x74 4), qZero q fGnss 0x78 8, !bit fl 0 || st 1 0, !bit fl 4 || st 2 0 || st 2 1,
      !bit fl 5 || ((st 1 1 || st 2 1) && !qZero q fGnss 0x58 12), decide (f 4 1 ≠ 1) || !qZero q fGnss 0x38 24] ++
      (List.range 4).map stream))

/-! ### FLOCK (R473, Table 15.9) -/

/-- The check of FLOCK. -/
def sealFlock (q : Quire) : Found :=
  let f (o k : Nat) : Nat := fkField q o k
  let member := bit (f 2 1) 0
  let crook := bit (f 2 1) 1
  let twin := decide (qRd q fFabric (528 * 64) 1 = 1)
  let target (i : Nat) : Bool := qZero q fFlock (0x28 + 24 * i + 20) 4
  whole (need
    ([decide (qLen q fFlock = 256), decide (f 0 2 = 1), decide (f 2 1 < 16), within 1 60 (f 3 1), decide (f 4 4 < 2 ^ 18),
      within 100 100000 (f 8 4), decide (f 0xE 2 < 512 ∨ f 0xE 2 = 0xFFFF), within 100 10000 (f 0x20 2), decide (f 0x22 1 ≤ 8),
      decide (f 0x23 1 = 0 ∧ f 0x27 1 = 0), decide (isNetPort (f 0x24 2) ∨ f 0x24 2 = 0xFFFF),
      decide (f 0x26 1 < 64 ∨ f 0x26 1 = 0xFF), decide (f 0xE8 4 < 2 ^ 18), decide (f 0xEC 1 < 64 ∨ f 0xEC 1 = 0xFF),
      qZero q fFlock 0xED 19, !member || decide (f 0xC 2 ≠ 0 ∧ f 0xE 2 ≠ 0xFFFF),
      decide (f 0xC 2 ∉ [123, 319, 320, 4460]), !crook || decide (f 0x26 1 ≠ 0xFF), !(crook && twin) || decide (f 0xEC 1 ≠ 0xFF),
      !(member && twin) || decide (f 0xE8 4 ≠ f 4 4)] ++ (List.range 8).map target))

/-! ### EVENTS (R511, R513, R525) -/

/-- The check of an EVENTS entry. DEDUCED (unsafe, log 111). -/
def sealEvent (q : Quire) (i : Nat) : Nat :=
  let rx := qRd q fEvents (8 * i) 1
  let only := qRd q fEvents (8 * i + 1) 1
  need [reactionOk rx, decide (only ≤ 1), entryAllowed i rx only, qZero q fEvents (8 * i + 2) 6]

/-! ### MANAGEMENT (R567, R568, Table 19.19) -/

/-- The non-zero addresses of a management port's entry, side A, and of its side B block. -/
def mgmtAddrs (q : Quire) (side m : Nat) : List Bytes :=
  let at_ (o n : Nat) : Bytes := qBytes q fMgmt o n
  let l := if side = 0 then [at_ (0x46 + 64 * m) 6, at_ (0x50 + 64 * m) 4, at_ (0x58 + 64 * m) 16]
    else [at_ (0x2C0 + 32 * m) 6, at_ (0x2C8 + 32 * m) 4, at_ (0x2D0 + 32 * m) 16]
  l.filter fun a => !(a.all (· == 0#8))

/-- A management port's entry. DEDUCED (unsafe, log 122). -/
def mgmtPortOk (q : Quire) (m : Nat) : Bool :=
  let f (o k : Nat) : Nat := qRd q fMgmt (0x40 + 64 * m + o) k
  [decide (f 0 1 ≤ 2), decide (f 1 1 ≤ 1 ∧ (f 1 1 = 1 → f 0 1 = 1 ∨ f 0 1 = 0)), decide (f 0xC 1 ≤ 32), decide (f 0xD 1 ≤ 128),
    decide (f 0xE 2 = 0 ∧ f 0x38 8 = 0), qZero q fMgmt (0x2C6 + 32 * m) 2, qZero q fMgmt (0x2CC + 32 * m) 4,
    decide (f 0 1 = 0) ||
      (decide (f 2 2 ≠ 0 ∧ 16 ≤ f 4 2 ∧ f 4 2 ≤ 511) && !(isZero (qBytes q fMgmt (0x50 + 64 * m) 4) 0 4 && isZero (qBytes q fMgmt (0x58 + 64 * m) 16) 0 16))].all id

/-- A queue-pair binding of the folio (R107, R567). -/
def mgmtBindingOk (q : Quire) (i : Nat) : Bool :=
  let o := 0xC0 + 8 * i
  [decide (qRd q fMgmt o 1 = i + 1), decide (qRd q fMgmt (o + 1) 1 < 2), qZero q fMgmt (o + 4) 4,
    decide (qRd q fMgmt (o + 1) 1 = 0) || bindable (qRd q fMgmt (o + 2) 2)].all id

/-- The check of MANAGEMENT. -/
def sealMgmt (q : Quire) : Found :=
  whole (need
    ([decide (qLen q fMgmt = 768), decide (qRd q fMgmt 0 2 = 1), qZero q fMgmt 2 2, within 115200 12000000 (qRd q fMgmt 4 4),
      qZero q fMgmt 8 56, qZero q fMgmt 0x2B8 8,
      (mgmtAddrs q 0 0 ++ mgmtAddrs q 0 1 ++ mgmtAddrs q 1 0 ++ mgmtAddrs q 1 1).Nodup] ++
      (List.range 2).map (mgmtPortOk q) ++ (List.range 63).map (mgmtBindingOk q)))

end Sys2Proof.Machine
end

