-- ==== Sys2Proof/Machine/Items.lean ====
section
/-! DEFINITION. Quire items and their atomicity classes (R70, Table 03.8, and the chapters' refinements: Table 06.8, R149,
R161, R220, R252, R303, R334, R418), the differences of two quires, and what is in force between a swap and its staging. -/

namespace Sys2Proof.Machine

/-- An item of a folio entry: its bytes, the bits of them that it takes, and whether it is of class N.
DESIGN CHOICE (unsafe, log 28). -/
structure QItem where
  at_ : Nat
  len : Nat
  mask : Nat := 0xFF
  n : Bool := false

/-- The items of entry `i` of a dense folio, of an entry of a keyed folio with fixed classes, or of an image folio; an
image whose length may vary has one item for what lies beyond its fixed part. DESIGN CHOICE (unsafe, log 28). -/
def folioItems (ty i : Nat) : List QItem :=
  match ty with
  | 1 => [⟨0, 2, 0xFF, true⟩, ⟨2, 2, 0xFF, true⟩, ⟨4, 1, 0xFF, true⟩, ⟨5, 1, 0xFF, true⟩, ⟨6, 1, 0xFF, false⟩, ⟨7, 1, 0xFF, true⟩,
      ⟨8, 4, 0xFF, true⟩]
  | 2 => [⟨0, 2, 0xFF, true⟩, ⟨2, 2, 0xFF, false⟩, ⟨4, 1, 0xFF, false⟩, ⟨5, 1, 0xFF, false⟩, ⟨6, 1, 0xFF, false⟩]
  | 3 => [⟨2, 6, 0xFF, true⟩]
  | 4 => ⟨0, 1, 0xFF, false⟩ :: (List.range 8).map fun j => ⟨8 + 4 * j, 4, 0xFF, false⟩
  | 5 => [⟨0, 32, 0xFF, false⟩]
  | 6 => [⟨2, 1, 0xFF, true⟩]
  | 7 => [⟨0, 6, 0xFF, true⟩, ⟨6, 1, 0xFF, true⟩, ⟨7, 1, 0xFF, false⟩, ⟨8, 6, 0xFF, false⟩, ⟨14, 1, 0xFF, false⟩,
      ⟨16, 5, 0xFF, false⟩]
  | 8 => [⟨0, 2, 0xFF, true⟩, ⟨2, 5, 0xFF, false⟩, ⟨0x10, 8, 0xFF, false⟩, ⟨0x18, 1, 0xFD, false⟩, ⟨0x18, 1, 0x02, true⟩,
      ⟨0x19, 0x27, 0xFF, false⟩, ⟨0x40, 2, 0xFF, true⟩, ⟨0x50, 8, 0xFF, false⟩, ⟨0x58, 1, 0xFD, false⟩, ⟨0x58, 1, 0x02, true⟩,
      ⟨0x59, 0x27, 0xFF, false⟩, ⟨0x80, 32, 0xFF, false⟩, ⟨0xA0, 32, 0xFF, false⟩]
  | 10 => [⟨0, 1, 0xFF, true⟩, ⟨1, 1, 0xFF, false⟩, ⟨2, 5, 0xFF, false⟩, ⟨8, 8, 0xFF, false⟩] ++
      if i < 64 then (List.range 64).map fun j => ⟨16 + 8 * j, 8, 0xFF, false⟩ else []
  | 11 => ⟨0, 0x40, 0xFF, true⟩ :: (List.range 96).map fun j => ⟨0x40 + 32 * j, 32, 0xFF, true⟩
  | 14 =>
    if i < 64 then
      [⟨0, 1, 0x01, true⟩, ⟨0, 1, 0xFE, false⟩, ⟨1, 1, 0xFF, true⟩, ⟨2, 2, 0xFF, false⟩, ⟨4, 1, 0xFF, false⟩, ⟨5, 1, 0xFF, false⟩,
        ⟨8, 48, 0xFF, false⟩, ⟨56, 48, 0xFF, false⟩]
    else if i < 72 then
      [⟨0, 1, 0xFF, true⟩, ⟨1, 1, 0xFF, true⟩, ⟨2, 4, 0xFF, false⟩, ⟨6, 1, 0xFF, true⟩, ⟨7, 2, 0xFF, false⟩]
    else [⟨0, 1, 0xFF, true⟩, ⟨1, 1, 0xFF, true⟩, ⟨2, 1, 0xFF, true⟩, ⟨4, 4, 0xFF, false⟩]
  | 15 => [⟨0, 1, 0xFF, true⟩, ⟨1, 1, 0xFF, true⟩, ⟨2, 2, 0xFF, true⟩, ⟨4, 1, 0xFF, true⟩, ⟨5, 1, 0xFF, false⟩, ⟨6, 1, 0xFF, true⟩,
      ⟨8, 6, 0xFF, false⟩] ++ (List.range 36).map fun j => ⟨0x20 + 32 * j, 32, 0xFF, false⟩
  | 17 => ⟨0, 0x40, 0xFF, false⟩ ::
      ((List.range 8).flatMap fun j =>
        let b := 0x40 + 64 * j
        [⟨b, 1, 0x01, true⟩, ⟨b, 1, 0xFE, false⟩, ⟨b + 1, 3, 0xFF, true⟩, ⟨b + 4, 6, 0xFF, false⟩, ⟨b + 10, 2, 0xFF, true⟩,
          ⟨b + 12, 52, 0xFF, false⟩]) ++
      ((List.range 64).flatMap fun p =>
        [⟨0x240 + 32 * p, 3, 0xFF, true⟩, ⟨0x243 + 32 * p, 29, 0xFF, false⟩]) ++ [⟨0xA40, 256, 0xFF, false⟩]
  | 20 => [⟨0, 2, 0xFF, false⟩]
  | _ => []

/-- The items of a flow entry (Table 06.8), by direction and essence. -/
def flowItems (tx : Bool) (k : Nat) : List QItem :=
  let n (o l : Nat) : QItem := ⟨o, l, 0xFF, true⟩
  let s (o l : Nat) : QItem := ⟨o, l, 0xFF, false⟩
  if tx then
    [n 2 1, n 4 2, n 6 2, s 8 2, s 10 1, s 11 1, s 12 2, s 14 2, s 16 16, s 0x30 6, s 0x36 2, s 0x38 2, s 0x3A 1, n 0x3B 1,
      s 0x40 4, ⟨3, 1, 0x01, false⟩, ⟨3, 1, 0x04, false⟩] ++
      if k = 3 ∨ k = 4 ∨ k = 5 then [⟨3, 1, 0x10, true⟩] else [⟨3, 1, 0x08, true⟩, n 0x3E 2]
  else
    [n 2 1, ⟨3, 1, 0x07, true⟩, ⟨3, 1, 0x10, false⟩, n 4 2, n 6 2, n 8 2, n 10 1, n 12 2, n 16 16, n 32 16, n 0x36 2, s 0x38 2, s 0x3A 1,
      n 0x3B 1, n 0x3C 2, s 0x3E 2, n 0x40 4, n 0x44 1, s 0x46 2]

/-- Whether an item differs between two byte blocks. -/
def QItem.differs (a b : Bytes) (x : QItem) : Bool :=
  (List.range x.len).any fun j =>
    decide (((a.getD (x.at_ + j) 0#8) ^^^ (b.getD (x.at_ + j) 0#8)) &&& BitVec.ofNat 8 x.mask ≠ 0#8)

/-- The bits of byte `o` of an entry that its class N items take. -/
def itemsMask (l : List QItem) (o : Nat) : Byte :=
  l.foldl (fun m x => if x.n && decide (x.at_ ≤ o ∧ o < x.at_ + x.len) then m ||| BitVec.ofNat 8 x.mask else m) 0#8

/-- A byte with the bits of a mask from one byte and the rest from another. -/
def mixByte (m n s : Byte) : Byte := (n &&& m) ||| (s &&& ~~~m)

/-- An entry with its class N bits from one block and the rest from another. -/
def mixEntry (l : List QItem) (nq sq : Bytes) : Bytes :=
  (List.range sq.length).map fun o => mixByte (itemsMask l o) (nq.getD o 0#8) (sq.getD o 0#8)

/-- The items of a flow present in two quires. -/
def flowPairItems (a b : Bytes) : List QItem :=
  flowItems (decide (8192 ≤ rd a 0 2)) (rd a 2 1) ++ (if rd a 2 1 = rd b 2 1 then [] else flowItems (decide (8192 ≤ rd b 0 2)) (rd b 2 1))

/-- Whether the adding or removing of a flow is of class N (Table 06.8). -/
def flowWhole (e : Bytes) : Bool := decide (rd e 0 2 < 8192 ∨ rd e 2 1 ∈ [1, 2, 6])

/-- The keys of a keyed folio held by either of two quires, ascending. -/
def keysOf (a b : Quire) (ty : Nat) : List Nat :=
  (((qAll a ty ++ qAll b ty).map fun e => rd e 0 2).mergeSort fun x y => decide (x ≤ y)).eraseDups

/-- The items of a keyed folio at a key that differ, each as whether it is of class N. -/
def keyedDiffs (a b : Quire) (ty key : Nat) : List Bool :=
  match qKeyed a ty key, qKeyed b ty key with
  | none, none => []
  | some x, some y =>
    ((if ty = 9 then flowPairItems x y else folioItems ty 0).filter (QItem.differs x y)).map (·.n)
  | some x, none => [decide (ty ≠ 9) || flowWhole x]
  | none, some y => [decide (ty ≠ 9) || flowWhole y]

/-- The items that differ between two quires: folio, entry or key, and whether the item is of class N (R74, Table 03.11).
Of an image of varying length what lies beyond its fixed part, and the AUDIO_PROGRAM, AUDIO_PARAMS, REFERENCE, GNSS, FLOCK
and MANAGEMENT folios, are one item each. -/
def folioDiffs (a b : Quire) (ty : Nat) : List (Nat × Nat × Bool) :=
  match (folioMeta ty).1 with
  | .dense =>
    (List.range (folioMeta ty).2.2).flatMap fun i =>
      let x := qBytes a ty (qOff ty i) (folioMeta ty).2.1
      let y := qBytes b ty (qOff ty i) (folioMeta ty).2.1
      if x = y then [] else ((folioItems ty i).filter (QItem.differs x y)).map fun z => (ty, i, z.n)
  | .keyed => (keysOf a b ty).flatMap fun k => (keyedDiffs a b ty k).map fun n => (ty, k, n)
  | .image =>
    let x := qBody a ty
    let y := qBody b ty
    if x = y then []
    else if ty = fDram ∨ ty = fTime then
      ((folioItems ty 0).filter (QItem.differs x y)).map (fun z => (ty, 0, z.n)) ++
        if x.drop 0xC40 ≠ y.drop 0xC40 ∧ ty = fDram then [(ty, 0, true)] else []
    else [(ty, 0, false)]

/-- The items that differ between two quires. -/
def quireDiffs (a b : Quire) : List (Nat × Nat × Bool) := folioTypes.flatMap (folioDiffs a b)

/-- Whether class N items differ: a swap then needs staging (R75). -/
def needsStaging (a b : Quire) : Bool := (quireDiffs a b).any fun d => d.2.2

/-! ### Between the atomic part and the staged items (R79) -/

/-- The class N bits of byte `o` of a folio that is not FLOWS; the folios whose every item is of class N wholly. -/
def nMask (ty o : Nat) : Byte :=
  if ty = fBindings ∨ ty = fTiming ∨ ty = fDram then 0xFF#8
  else
    match (folioMeta ty).1 with
    | .dense => itemsMask (folioItems ty (o / (folioMeta ty).2.1)) (o % (folioMeta ty).2.1)
    | _ => if ty = fTime then itemsMask (folioItems ty 0) o else 0#8

/-- A flow between a swap and its staging: of class N as in `old`, otherwise as in `new`. -/
def mixFlow (old new : Quire) (k : Nat) : List Bytes :=
  match qKeyed old fFlows k, qKeyed new fFlows k with
  | some x, some y => [mixEntry (flowPairItems x y) x y]
  | some x, none => if flowWhole x then [x] else []
  | none, some y => if flowWhole y then [] else [y]
  | none, none => []

/-- The quire in force after a swap's atomic part and before its staging: class N items from `old`, all others and the
header from `new`. DEDUCED (unsafe, log 27). -/
def mixQuires (old new : Quire) : Quire :=
  let keys := (old.cells ++ new.cells).map (·.1)
  let byte (k : Nat) : Byte :=
    mixByte (nMask (k / 2 ^ 27) (k % 2 ^ 27)) (mget qDefault old.cells k) (mget qDefault new.cells k)
  let lens := folioTypes.foldl (fun l ty =>
    mset defaultLen l ty (if ty = fBindings ∨ ty = fTiming ∨ ty = fDram then qLen old ty else qLen new ty)) []
  let q : Quire :=
    { cells := keys.foldl (fun m k => mset qDefault m k (byte k)) [], lens := lens, minEpoch := new.minEpoch
      creatorTag := new.creatorTag }
  qReplace q fFlows ((keysOf old new fFlows).flatMap (mixFlow old new)).flatten

/-- A dense entry's, or an image's, class N bits taken from another quire. DEDUCED (unsafe, log 27). -/
def takeEntry (ty i : Nat) (target q : Quire) : Quire :=
  let sz := (folioMeta ty).2.1
  qWrite q ty (sz * i) (mixEntry (folioItems ty i) (qBytes target ty (sz * i) sz) (qBytes q ty (sz * i) sz))

/-- A keyed entry as another quire holds it: put, or removed. DEDUCED (unsafe, log 27). -/
def takeKeyed (ty k : Nat) (target q : Quire) : Quire :=
  match qKeyed target ty k with
  | some e => qUpsert q ty k e
  | none => qDelete q ty k

end Sys2Proof.Machine
end

