-- ==== Sys2Proof/Machine/Seal.lean ====
section
/-! DEFINITION. The validation of a shadow at seal (R74) and the checks repeated at a swap's time (R291, R344). -/

namespace Sys2Proof.Machine

/-- A finding with its folio (R124). -/
abbrev SealFault := Option (Nat × Nat × Nat)

/-- Names the folio of a finding. -/
def inFolio (ty : Nat) (f : Found) : SealFault := f.map fun p => (p.1, ty, p.2)

/-- The first of several checks that fails. DEDUCED (unsafe, log 116). -/
def firstFault : List SealFault → SealFault
  | [] => none
  | some x :: _ => some x
  | none :: t => firstFault t

/-- The folios in ascending type order, each by its entries (R74). DEDUCED (unsafe, log 116). -/
def sealFolios (s : State) (q : Quire) : SealFault :=
  let keyed (ty : Nat) (f : Quire → Nat → Nat) : SealFault := inFolio ty (entries (qEntries q ty) (f q))
  let dense (ty : Nat) (f : Quire → Nat → Nat) : SealFault := inFolio ty (entries (folioMeta ty).2.2 (f q))
  let one (ty st : Nat) : SealFault := inFolio ty (whole st)
  firstFault
    [dense fSources sealSource, dense fDests sealDest, keyed fBindings sealBinding, dense fPens sealPen, keyed fTiming sealTiming,
      dense fLanes sealLane, inFolio fLanes (sealMediaPorts q), dense fPacket sealPacket, keyed fFlows sealFlow,
      dense fFabric sealFabric, one fDram (sealDram s q), one fProgram (sealProgram s q), one fParams (sealParams q),
      dense fAudioPorts sealAudioPort, sharedProducer (producers q) [], dense fLayers (sealEngine s), inFolio fRef (sealRef q),
      inFolio fTime (sealTime s q), inFolio fGnss (sealGnss q), inFolio fFlock (sealFlock q), dense fEvents sealEvent,
      inFolio fMgmt (sealMgmt q)]

/-! ### What the safety inserts and the shepherd layer protect (R291, R344) -/

/-- The producer of an input channel: its folio, its entry or key, and the channel's place in what it produces. -/
def producerOf (q : Quire) (c : Nat) : Option (Nat × Nat × Nat) :=
  ((producers q).find? fun p => p.2.2.contains c).map fun p =>
    (p.1, if p.1 = fFlows then rd (keyedEntry q fFlows p.2.1) 0 2 else p.2.1, p.2.2.idxOf c)

/-- The consumers of an output channel: media lanes that embed it, transmit flows, fabric streams and audio ports, with the
channel's place in each (R264). -/
def consumersOf (q : Quire) (c : Nat) : List (Nat × Nat × Nat) :=
  let at_ (ty i : Nat) (cs : List Nat) : List (Nat × Nat × Nat) := if cs.contains c then [(ty, i, cs.idxOf c)] else []
  let lanes := (List.range 256).flatMap fun l =>
    if lnTxMode q l = 1 then at_ fLanes l (channels q true (lnEmbBase q l) (lnEmbCount q l)) else []
  let flows := (qAll q fFlows).flatMap fun e =>
    if 8192 ≤ rd e 0 2 then at_ fFlows (rd e 0 2) (channels q true (feAudioBase e) (feAudioCount e)) else []
  let items := (List.range 64).flatMap fun l => (fabItems q l).flatMap fun it =>
    if rd it 2 1 = 2 then at_ fFabric l (channels q true (rd it 4 2) (rd it 3 1)) else []
  let ports := (List.range 72).flatMap fun p =>
    if apEnabled q p then at_ fAudioPorts p (channels q true (apOutputs q p).1 (apOutputs q p).2) else []
  lanes ++ flows ++ items ++ ports

/-- The place of a keyed folio's entry among its entries (R67): what R124 calls the entry index. -/
def keyedPlace (q : Quire) (ty key : Nat) : Option Nat := (qAll q ty).findIdx? fun e => decide (rd e 0 2 = key)

/-- The entry index to name for an entry: of a keyed folio its place in the shadow, or its place in the active quire where
the shadow holds it no more. DESIGN CHOICE (safe, log 166): R124 names no index for an entry that is gone. -/
def namedEntry (a q : Quire) (ty key : Nat) : Nat :=
  match folioMeta ty with
  | (.keyed, _, _) => ((keyedPlace q ty key).orElse fun _ => keyedPlace a ty key).getD 0
  | _ => key

/-- What an insert table entry's channels would lose (R291): the folio and entry to name (R124).
DESIGN CHOICE (safe, log 166). -/
def insertFault (a q : Quire) (e : Bytes) : SealFault :=
  let out := rd e 0 2
  let inp := rd e 2 2
  let name (x : Option (Nat × Nat × Nat)) : SealFault := x.map fun p => (stBadParam, p.1, namedEntry a q p.1 p.2.1)
  if blockSection a true out ≠ blockSection q true out ∨ blockSection a false inp ≠ blockSection q false inp then
    some (stBadParam, fProgram, 0)
  else if producerOf a inp ≠ producerOf q inp then
    firstFault [name (producerOf q inp), name (producerOf a inp), some (stBadParam, fProgram, 0)]
  else if consumersOf a out ≠ consumersOf q out then
    firstFault
      [name ((consumersOf q out).find? fun x => !(consumersOf a out).contains x),
        name ((consumersOf a out).find? fun x => !(consumersOf q out).contains x)]
  else none

/-- The key of the binding through which an engine writes its output: that of its gang's first engine (R321, R339). -/
def engineBindingKey (q : Quire) (e : Nat) : Option Nat := slotBound q false 4 0 (gangFirst q e)

/-- What an engine that the shepherd table names would lose (R344). DESIGN CHOICE (safe, log 166). -/
def shepFault (a q : Quire) (e : Nat) : SealFault :=
  let on (x : Quire) : Bool := bit (leField x e 0 1) 0
  if (on a && !on q) || decide (gangOf a (gangFirst a e) ≠ gangOf q (gangFirst q e)) then some (stBadParam, fLayers, e)
  else if engineOutput a e ≠ engineOutput q e then
    some (stBadParam, fBindings, namedEntry a q fBindings (((engineBindingKey q e).orElse fun _ => engineBindingKey a e).getD 0))
  else none

/-- The rules of R291 and R344, checked at seal and again at a swap's time. -/
def protectedFault (s : State) (q : Quire) : SealFault :=
  let a := s.quire.active
  firstFault
    ((s.audio.table.map (insertFault a q)) ++ (s.layers.table.map fun r => shepFault a q (rd r 0 1)))

/-- The whole check of a shadow (R67, R74): the folios, the limits of R38, the image's length, the epoch, and the rules
against the present state. DEDUCED (unsafe, log 116). -/
def sealCheck (s : State) (q : Quire) : SealFault :=
  firstFault
    [if s.boot.epoch < q.minEpoch then some (stFenced, 0, 0) else none, sealFolios s q, sealCapacity q,
      if 134217728 < imageLength q then some (stBadParam, fProgram, 0) else none, protectedFault s q]

end Sys2Proof.Machine
end

