-- ==== Sys2Proof/Machine/Quires.lean ====
section
/-! DEFINITION. The quire commands (R60 to R81, Tables 03.9 to 03.13, 03.16). -/

namespace Sys2Proof.Machine

/-- Changes the quires. -/
def setQuires (f : QuireState → QuireState) (s : State) : State := { s with quire := f s.quire }

/-- The swap that is pending in the queue. -/
def pendingSwap (s : State) : Option DrvEvent := s.drv.queue.find? fun e => decide (e.kind = kSwap)

/-- Answers a command of an opcode whose reply was deferred, by its origin. -/
def answerDeferred (opcode port seq : Nat) (f : Deferred → State → Ans) (s : State) : State :=
  match s.cmds.deferred.find? fun w => decide (w.opcode = opcode ∧ w.req.port = port ∧ w.req.seq = seq) with
  | some w =>
    match catalogue opcode with
    | some row => concludeLater row w.req (f w s)
    | none => s
  | none => s

/-- A swap leaves the queue unapplied, with a result of an outcome and status; its submitter has the reply if it waits for
one (R75, R76, R78). -/
def dropSwap (e : DrvEvent) (outcome status : Nat) (s : State) : State :=
  answerDeferred 0x0204 e.port e.seq (fun _ t => { st := t, status := if outcome = 3 then stOk else status })
    (addResult e outcome status 0 (dequeue e.serial s))

/-- What a shadow that no swap claims any more returns to: SEALED from LOCKED, OPEN from PENDING_OPEN (R76, R88). -/
def releaseShadow (s : State) : State :=
  setQuires (fun x =>
    { x with
      shadowState := match x.shadowState with
        | .locked => .sealed
        | .pendingOpen => .opened
        | y => y }) s

/-- The code of a shadow state (Table 03.1). -/
def shadowCode : ShadowState → Nat
  | .empty => 0 | .opened => 1 | .sealed => 2 | .locked => 3 | .pendingOpen => 4

/-- The refusal of a quire command in a shadow state that does not permit it (R61, Table 03.1): BUSY where the state is
LOCKED, or PENDING_OPEN and the command not permitted there; else NOT_ACTIVE. -/
def shadowRefusal (s : State) (permitted : List ShadowState) : Option Nat :=
  let st := s.quire.shadowState
  if permitted.contains st then none
  else if st = .locked ∨ st = .pendingOpen then some stBusy
  else some stNotActive

/-- QIR_OPEN (R72): a new shadow from the factory defaults, the active quire, or the sealed shadow reopened. -/
def execQirOpen (r : Req) (s : State) : Host.Outcome State Fault Refusal :=
  .next (command 0x0201
    (fun r s => needLen 8 r s fun _ =>
      let mode := rd r.params 0 1
      needForm [(decide (mode ≤ 2), 0), (isZero r.params 1 7, 1)] s fun _ =>
        match shadowRefusal s (if mode = 2 then [.sealed] else [.empty, .opened, .sealed]) with
        | some st => refuse s st 0
        | none =>
          okay (setQuires (fun x =>
            { x with
              shadow := if mode = 0 then {} else if mode = 1 then x.active else x.shadow
              shadowState := .opened, shadowDigest := none, assembly := [] }) s) []) r s)

/-! ### QIR_WRITE (R73, Table 03.10) -/

/-- Whether a folio body has the form of R67: a dense folio its whole length, a keyed one whole entries, not too many, in
strictly ascending key order. DEDUCED (unsafe, log 123). -/
def bodyForm (ty : Nat) (b : Bytes) : Bool :=
  let sz := (folioMeta ty).2.1
  let n := (folioMeta ty).2.2
  match (folioMeta ty).1 with
  | .dense => decide (b.length = sz * n)
  | .keyed =>
    decide (b.length % sz = 0 ∧ b.length / sz ≤ n) &&
      (List.range (b.length / sz)).all fun i => decide (i = 0) || decide (rd b (sz * (i - 1)) 2 < rd b (sz * i) 2)
  | .image => decide (b.length ≤ 134217728)

/-- The first `n` bytes of a folio's assembly buffer, if all of them have been written. -/
def assembled (s : State) (ty n : Nat) : Option Bytes :=
  (List.range n).foldr (fun i acc =>
    match acc, s.quire.assembly.find? fun c => decide (c.1 = qKey ty i) with
    | some l, some c => some (c.2 :: l)
    | _, _ => none) (some [])

/-- Writes a chunk into a folio's assembly buffer. -/
def assemble (ty : Nat) : Nat → Bytes → List (Nat × Byte) → List (Nat × Byte)
  | _, [], m => m
  | o, b :: t, m => assemble ty (o + 1) t (mput m (qKey ty o) b)

/-- The records of operations 3 and 4: key, and for an upsert the entry. -/
def qirRecords (p : Bytes) : List (Nat × Bytes) :=
  let sz := (folioMeta (rd p 0 1)).2.1
  (List.range (rd p 2 2)).map fun i =>
    if rd p 1 1 = 3 then (rd p (16 + (4 + sz) * i) 2, slice p (20 + (4 + sz) * i) sz) else (rd p (16 + 2 * i) 2, [])

/-- The form of the records: an index within a dense folio, a keyed entry that begins with its key. -/
def recordForm (p : Bytes) : List (Bool × Nat) :=
  let ty := rd p 0 1
  let sz := (folioMeta ty).2.1
  let at_ (i : Nat) : Nat := if rd p 1 1 = 3 then 16 + (4 + sz) * i else 16 + 2 * i
  (List.range (rd p 2 2)).flatMap fun i =>
    let k := rd p (at_ i) 2
    [(decide ((folioMeta ty).1 ≠ .dense) || decide (k < (folioMeta ty).2.2), at_ i),
      (decide (rd p 1 1 ≠ 3) || isZero p (at_ i + 2) 2, at_ i + 2),
      (decide (rd p 1 1 ≠ 3 ∨ (folioMeta ty).1 ≠ .keyed) || decide (rd p (at_ i + 4) 2 = k), at_ i + 4)]

/-- The length of the parameters that operation and count ask for; none where a chunk may have any.
DEDUCED (unsafe, log 123). -/
def writeLength (p : Bytes) : Option Nat :=
  let sz := (folioMeta (rd p 0 1)).2.1
  match rd p 1 1 with
  | 2 => some 16
  | 3 => if (folioMeta (rd p 0 1)).1 = .image then none else some (16 + (4 + sz) * rd p 2 2)
  | 4 => some (16 + 2 * rd p 2 2)
  | _ => none

/-- The effect of a QIR_WRITE whose form is good. DEDUCED (unsafe, log 123). -/
def qirWrite (p : Bytes) (s : State) : Ans :=
  let ty := rd p 0 1
  let x := s.quire
  match rd p 1 1 with
  | 1 => okay (setQuires (fun y => { y with assembly := assemble ty (rd p 4 4) (p.drop 16) y.assembly }) s) []
  | 2 =>
    match assembled s ty (rd p 8 4) with
    | some b =>
      if bodyForm ty b then
        okay (setQuires (fun y =>
          { y with
            shadow := qReplace y.shadow ty b
            assembly := y.assembly.filter fun c => decide (c.1 / 2 ^ 27 ≠ ty) }) s) []
      else refuse s stBadParam 8
    | none => refuse s stBadParam 8
  | 3 =>
    let q := (qirRecords p).foldl (fun q e => qUpsert q ty e.1 e.2) x.shadow
    if (folioMeta ty).2.2 < qEntries q ty then refuse s stBadParam 2 else okay (setQuires (fun y => { y with shadow := q }) s) []
  | _ => okay (setQuires (fun y => { y with shadow := (qirRecords p).foldl (fun q e => qDelete q ty e.1) y.shadow }) s) []

/-- QIR_WRITE (R73). -/
def execQirWrite (r : Req) (s : State) : Host.Outcome State Fault Refusal :=
  .next (command 0x0202
    (fun r s =>
      let p := r.params
      let ty := rd p 0 1
      let op := rd p 1 1
      if p.length < 16 ∨ (writeLength p).any (· ≠ p.length) then refuse s stBadLength 0xFFFF
      else
        needForm
          ([(decide (1 ≤ ty ∧ ty ≤ 21), 0),
            (decide (1 ≤ op ∧ op ≤ 4) && (decide (op ≤ 2) || decide ((folioMeta ty).1 ≠ .image)), 1),
            (decide (3 ≤ op ∨ rd p 2 2 = 0), 2),
            (if op = 1 then decide (rd p 4 4 + (p.length - 16) ≤ 134217728) else decide (rd p 4 4 = 0), 4),
            (if op = 2 then decide (rd p 8 4 ≤ 134217728) else decide (rd p 8 4 = 0), 8), (isZero p 12 4, 12)] ++
            if 3 ≤ op then recordForm p else []) s fun _ =>
          match shadowRefusal s [.opened, .pendingOpen] with
          | some st => refuse s st 0
          | none => qirWrite p s) r s)

/-! ### QIR_SEAL (R74, R75, R124) -/

/-- A sealed shadow against the swap that waits for it (R75). -/
def meetSwap (d : Bytes) (s : State) : State :=
  match pendingSwap s with
  | none => setQuires (fun x => { x with shadowState := .sealed }) s
  | some e =>
    let sealed (t : State) : State := setQuires (fun x => { x with shadowState := .sealed }) t
    if e.digest ≠ d then dropSwap e 2 stDigest (sealed s)
    else if needsStaging s.quire.active s.quire.shadow ∧ ¬ e.staged then dropSwap e 2 stStaging (sealed s)
    else setQuires (fun x => { x with shadowState := .locked }) s

/-- QIR_SEAL (R74): the first failure with its folio and entry, or the digest and the comparison with the active quire.
DESIGN CHOICE (unsafe, log 21). DESIGN CHOICE (unsafe, log 159). -/
def execQirSeal (r : Req) (s : State) : Host.Outcome State Fault Refusal :=
  .next (command 0x0203
    (fun r s => needLen 0 r s fun _ =>
      let q := s.quire.shadow
      match shadowRefusal s [.opened, .pendingOpen] with
      | some st => refuse s st 0
      | none =>
        match sealCheck s q with
        | some (st, ty, i) =>
          { st := s, status := st, detail := 2048 * ty + min i 0x7FF, params := le 1 ty ++ zeros 3 ++ le 4 i }
        | none =>
          let d := sha384 (quireImage q)
          let diffs := quireDiffs s.quire.active q
          let s1 := setQuires (fun x => { x with shadowDigest := some d }) s
          okay
            (if s.quire.shadowState = .pendingOpen then meetSwap d s1
              else setQuires (fun x => { x with shadowState := .sealed }) s1)
            (d ++ le 4 (imageLength q) ++ le 2 q.minEpoch ++ zeros 2 ++ le 4 (diffs.filter fun x => !x.2.2).length ++
              le 4 (diffs.filter fun x => x.2.2).length)) r s)

/-! ### QIR_SWAP (R75) -/

/-- The refusal of a swap against the state of the shadow, in the order of R75. DEDUCED (unsafe, log 124). -/
def swapRefusal (r : Req) (s : State) : Option Nat :=
  let x := s.quire
  if x.shadowState = .empty then some stNotActive
  else if x.shadowState = .sealed ∧ x.shadowDigest ≠ some (slice r.params 0x18 48) then some stDigest
  else if (pendingSwap s).isSome ∨ stagingNow s ∨ x.shadowState = .locked ∨ x.shadowState = .pendingOpen then some stBusy
  else if x.shadowState = .sealed ∧ needsStaging x.active x.shadow ∧ ¬ isStaged r then some stStaging
  else none

/-- QIR_SWAP (R75): enters a QUIRE_SWAP event; a refusal for the digest is reported to the flock (R95).
DESIGN CHOICE (unsafe, log 21). DEDUCED (unsafe, log 124). -/
def execQirSwap (r : Req) (s : State) : Host.Outcome State Fault Refusal :=
  .next (command 0x0204
    (fun r s => needLen 72 r s fun _ =>
      let t := rd r.params 0 8
      needForm [(isScheduled r || decide (t = 0), 0), (isZero r.params 0x10 8, 0x10)] s fun _ =>
        match timeCheck r s t 0 with
        | some (st, d) => refuseTimed s 1 st d
        | none =>
          let e := { mkEvent r s kSwap 0 t (rd r.params 8 8) 0 (zeros 32) with
            staged := isStaged r, digest := slice r.params 0x18 48 }
          match swapRefusal r s with
          | some st => refuse (if st = stDigest then flockReport e 2 st 0 s else s) st 0
          | none =>
            if queueFull s 1 then refuse s stNoCapacity 0
            else
              let s1 := setQuires (fun x =>
                { x with shadowState := if x.shadowState = .sealed then .locked else .pendingOpen }) (enqueue e s)
              if isScheduled r then { st := s1, status := stAccepted } else { st := s1, later := some [] }) r s)

/-! ### Reading and discarding -/

/-- active_state of QIR_STATUS (Table 03.13). -/
def activeState (s : State) : Nat := if s.quire.swapping.isSome then 1 else if stagingNow s then 2 else 0

/-- The digest of a shadow that has one (R61, Table 03.13): SEALED, or LOCKED once computed. -/
def reportedDigest (s : State) : Bytes :=
  if s.quire.shadowState = .sealed ∨ s.quire.shadowState = .locked then (s.quire.shadowDigest.getD (zeros 48)) else zeros 48

/-- QIR_STATUS (Table 03.13). -/
def execQirStatus (r : Req) (s : State) : Host.Outcome State Fault Refusal :=
  .next (command 0x0205
    (fun r s => needLen 0 r s fun _ =>
      let x := s.quire
      let n (st : ItemState) : Nat := (x.staging.filter fun i => decide (i.state = st)).length
      okay s
        ((x.baseDigest ++ zeros 48).take 48 ++ le 4 x.changeCount.toNat ++ le 1 (activeState s) ++ le 1 (shadowCode x.shadowState) ++
          le 2 x.staging.length ++ reportedDigest s ++ le 8 ((pendingSwap s).elim 0 fun e => nsOf e.time) ++
          le 8 ((pendingSwap s).elim 0 fun e => e.changeId) ++ le 2 (n .done) ++ le 2 (n .failed) ++ zeros 4)) r s)

/-- QIR_READ (R72): bytes of a folio of the active quire or the shadow. -/
def execQirRead (r : Req) (s : State) : Host.Outcome State Fault Refusal :=
  .next (command 0x0206
    (fun r s => needLen 12 r s fun _ =>
      let which := rd r.params 0 1
      let ty := rd r.params 1 1
      let o := rd r.params 4 4
      let n := rd r.params 8 4
      needForm
        [(decide (which ≤ 1), 0), (decide (1 ≤ ty ∧ ty ≤ 21), 1), (isZero r.params 2 2, 2), (decide (n ≤ 65504), 8)] s fun _ =>
        let q := if which = 0 then s.quire.active else s.quire.shadow
        if which = 1 ∧ s.quire.shadowState = .empty then refuse s stNotActive 0
        else if qLen q ty ≤ o then refuse s stBadParam 4
        else okay s (qBytes q ty o (min n (qLen q ty - o)))) r s)

/-- QIR_DISCARD: the shadow is EMPTY again. -/
def execQirDiscard (r : Req) (s : State) : Host.Outcome State Fault Refusal :=
  .next (command 0x0207
    (fun r s => needLen 0 r s fun _ =>
      match shadowRefusal s [.opened, .sealed] with
      | some st => refuse s st 0
      | none => okay (setQuires (fun x => { x with shadow := {}, shadowState := .empty, shadowDigest := none, assembly := [] }) s) []) r s)

/-- A staging item's record (Table 03.16). -/
def stageRecord (i : Nat) (x : StageItem) : Bytes :=
  let st := match x.state with | .waiting => 0 | .inProgress => 1 | .done => 2 | .failed => 3
  le 2 i ++ le 1 x.folio ++ le 1 st ++ le 2 x.index ++ le 2 x.status ++ le 8 x.doneTime

/-- QIR_STAGE_READ: the items of the current or last staging. -/
def execQirStageRead (r : Req) (s : State) : Host.Outcome State Fault Refusal :=
  .next (command 0x0208
    (fun r s => needLen 4 r s fun _ =>
      let first := rd r.params 0 2
      let n := rd r.params 2 2
      needForm [(decide (1 ≤ n ∧ n ≤ 512), 2)] s fun _ =>
        okay s ((s.quire.staging.zipIdx.drop first).take n |>.flatMap fun p => stageRecord p.2 p.1)) r s)

end Sys2Proof.Machine
end

