-- ==== Sys2Proof/Machine/Swap.lean ====
section
/-! DEFINITION. A swap at its time, its completion, and the staged items it leaves (R76 to R81, R62; R52, R150, R162,
R220, R252, R303, R345, R418, Table 06.8). -/

namespace Sys2Proof.Machine

/-! ### Class I items at T (R76, Table 03.8) -/

/-- Whether a folio's bytes from `o` for `n` differ between two quires. -/
def bytesDiffer (a b : Quire) (ty o n : Nat) : Bool := decide (qBytes a ty o n ≠ qBytes b ty o n)

/-- A REFERENCE change (R359): entries whose kind, frequency, rate code, delay or limits change restart from SOAKING, and
qualification and selection run again under the new entries. DEDUCED (unsafe, log 85). -/
def refChange (old : Quire) (s : State) : State :=
  let q := s.quire.active
  if ¬ bytesDiffer old q fRef 0 896 then s
  else
    let all := List.range 15
    let o (r : Nat) : Nat := 0x40 + 32 * r
    let moved (r : Nat) : Bool :=
      bytesDiffer old q fRef (o r) 1 || bytesDiffer old q fRef (o r + 3) 7 || bytesDiffer old q fRef (o r + 12) 4 ||
        bytesDiffer old q fRef (o r + 0x18) 4
    let restart (t : State) (r : Nat) : State :=
      if moved r && decide (2 < (refAt t r).q) then setRef r (fun y => { y with soak := now t, pulses := [] }) (refEnter r 3 t) else t
    let s1 := all.foldl restart (all.foldl refUse s)
    let lost := match s1.time.dpll.selected with
      | some r => moved r && decide ((refAt s1 r).q = 3)
      | none => false
    if ¬ decidesRefs s then s1
    else evaluateBounds (reselect (all.foldl promote (all.foldl disqualify (if lost then dpllEnter 4 s1 else s1))))

/-- The AUDIO_PROGRAM and AUDIO_PARAMS of a swap wait for their sample boundaries (R280, R287). -/
def audioChange (old : Quire) (t : Nat) (s : State) : State :=
  let q := s.quire.active
  if qBody old fProgram ≠ qBody q fProgram then
    { s with audio := { s.audio with exchangeDue := some t } }
  else if qBody old fParams ≠ qBody q fParams then
    { s with audio := { s.audio with paramsDue := List.range 7, paramsAt := t } }
  else s

/-- The addresses of a management port on this device's side (R567): mac, ipv4, ipv6. -/
def mgtAddress (q : Quire) (sideB : Bool) (m : Nat) : Bytes × Bytes × Bytes :=
  let o := 0x40 + 64 * m
  let b := 0x2C0 + 32 * m
  if sideB then (qBytes q fMgmt b 6, qBytes q fMgmt (b + 8) 4, qBytes q fMgmt (b + 16) 16)
  else (qBytes q fMgmt (o + 6) 6, qBytes q fMgmt (o + 0x10) 4, qBytes q fMgmt (o + 0x18) 16)

/-- Whether this device uses the side B addresses. -/
def sideB (s : State) : Bool := isTwin s && decide (s.boot.side = 1)

/-- A management port whose mode, addresses, tcp_port or session_ks change restarts and closes its sessions; the UART takes
its rate (R568). DESIGN CHOICE (unsafe, log 151). -/
def mgmtChange (old : Quire) (s : State) : State :=
  let q := s.quire.active
  let moved (m : Nat) : Bool :=
    let o := 0x40 + 64 * m
    bytesDiffer old q fMgmt o 1 || bytesDiffer old q fMgmt (o + 2) 4 ||
      decide (mgtAddress old (sideB s) m ≠ mgtAddress q (sideB s) m)
  { s with
    host := { s.host with
      sessions := s.host.sessions.filter fun x => !moved x.mgt
      uartRate := qRd q fMgmt 4 4 } }

/-- Everything of class I that has an effect of its own at T. -/
def instantChange (old : Quire) (t : Nat) (s : State) : State :=
  fenceEvaluation (noteUtc (mgmtChange old (gnssChange old (refChange old (audioChange old t s)))))

/-! ### The swap (R76 to R78) -/

/-- The check of a swap at its time (R76, R93, R291, R344). DEDUCED (unsafe, log 124). -/
def swapStatus (s : State) (e : DrvEvent) : Nat :=
  let x := s.quire
  if x.shadowState = .pendingOpen ∨ x.shadowDigest ≠ some e.digest then stDigest
  else if ¬ e.staged ∧ needsStaging x.active x.shadow then stStaging
  else if e.scheduled ∧ s.drv.fenced then stFenced
  else if (protectedFault s x.shadow).isSome then stBadParam
  else stOk

/-- The transmit audio flows that a swap of time `t` changes keep their entries for the packets that have begun (R173). -/
def keepEntries (old new : Quire) (t : Nat) (s : State) : State :=
  let audio (e : Option Bytes) : Bool := e.any fun x => decide (feEssence x = 3 ∨ feEssence x = 4)
  ((keysOf old new fFlows).filter fun i =>
    decide (8192 ≤ i ∧ flowEntry old i ≠ flowEntry new i) && (audio (flowEntry old i) || audio (flowEntry new i))).foldl
    (fun u i => setFlow i (fun x => { x with was := some (t, (flowEntry old i).getD []) }) u) s

/-- A swap that has passed its check: the atomic part is in force, class S items at each output's own point. -/
def takeQuire (e : DrvEvent) (t : Nat) (s : State) : State :=
  let old := s.quire.active
  let new := s.quire.shadow
  let s1 := setQuires (fun x =>
    { x with
      active := if needsStaging old new then mixQuires old new else new
      baseDigest := e.digest, changeCount := 0, target := new, swapping := some ⟨e, old, t, []⟩ }) (dequeue e.serial s)
  wakeUsed (instantChange old t (keepEntries old new t s1))

/-- A pending swap whose time has come is checked and taken, or dropped (R76). -/
def applySwap (s : State) : State :=
  match pendingSwap s with
  | some e =>
    (match appPoint s e with
     | some t =>
       if ¬ reached s t then s
       else
         let st := swapStatus s e
         if st = stOk then takeQuire e t s else dropSwap e 2 st (releaseShadow s)
     | none => s)
  | none => s

/-- QUIRE_SWAP_APPLY (R76): the pending swap's time has come. -/
def execQuireSwapApply (s : State) : Host.Outcome State Fault Refusal :=
  .next (applySwap s)

/-- The outputs a changed class S item concerns: destinations by number, engines by 2000 + number, and what is bound to a
source slot by 4000 + slot, unbound transmit flows by 20000 + index (R70, R149, R173, Table 03.8). DEDUCED (unsafe, log 25).
-/
def pointsOf (old new : Quire) (ty i : Nat) : List Nat :=
  let dests (p : Nat → Bool) : List Nat := slotRange.filter p
  let bound (kind res : Nat) : List Nat := ((List.range 4).filterMap fun sub => slotBound old true kind sub res)
  let from_ (kind res : Nat) : List Nat := ((slotBound old false kind 0 res).map (· + 4000)).toList
  match ty with
  | 1 => dests fun d => decide (dstRoute old d = i ∨ dstRoute new d = i)
  | 2 => [i]
  | 4 => dests fun d => decide (dstPen old d = i ∨ dstPen new d = i)
  | 5 => dests fun d => decide (dstRoute old d = i ∨ dstRoute new d = i)
  | 7 => bound 1 (laneLeader old i) ++ from_ 1 (laneLeader old i)
  | 9 =>
    match (flowEntry old i).orElse fun _ => flowEntry new i with
    | some e => bound 2 (legA e) ++ from_ 2 (legA e) ++ (if 8192 ≤ i ∧ (feEssence e = 3 ∨ feEssence e = 4) then [20000 + i] else [])
    | none => []
  | 10 => ((fabItems old i) ++ (fabItems new i)).flatMap fun it => if rd it 2 1 = 1 then bound 3 (rd it 0 2) else []
  | 15 => [2000 + i]
  | _ => []

/-- The instant at which output `k` takes a swap of time `t`: its first switch point at or after it (R77). -/
def swapPoint (s : State) (q : Quire) (k t : Nat) : Nat :=
  let f := if k < 2000 then dstFormat q k else leField q (k - 2000) 2 2
  if 20000 ≤ k then
    let e := ((flowEntry q (k - 20000)).orElse fun _ => flowEntry s.quire.target (k - 20000)).getD []
    let rate := flowRate q true e
    let size := max 1 (packetSamples rate e)
    cdiv (t * rate) (size * ticksPerSec) * size * ticksPerSec / max 1 rate
  else if 4000 ≤ k then srcPoint s (k - 4000) t
  else if isOpaque f then t + lossPeriod
  else if rasterFormat f then (if k < 2000 then dstSwitchAfter s k f t else switchAfter s.quire.active f t)
  else t

/-- Whether the last class S point of a swap has passed (R78). DEDUCED (unsafe, log 25). -/
def swapDone (s : State) (w : Swapping) : Bool :=
  let diffs := (quireDiffs w.old s.quire.target).filter fun d => !d.2.2
  ((diffs.flatMap fun d => pointsOf w.old s.quire.target d.1 d.2.1).eraseDups).all fun k =>
    mget (fun _ => false) w.taken k || reached s (swapPoint s w.old k w.time)

/-! ### Staged items (R79, Tables 03.15, 03.16) -/

/-- The step of Table 03.15 of an item. -/
def stageStep (ty i : Nat) : Nat :=
  match ty with
  | 11 => 1
  | 7 => 2
  | 8 => 2
  | 10 => 2
  | 14 => 3
  | 1 => 4
  | 3 => if i < 0x8000 then 4 else 5
  | 9 => if i < 8192 then 4 else 5
  | 6 => 6
  | 17 => 7
  | _ => 5

/-- The lane that stands for the resource of a media lane's change: the first of its group where its transmit family, or SDI
or Ethernet, changes; else its leader (R150). -/
def laneItem (a t : Quire) (l : Nat) : Nat :=
  if groupMoves a t l then l / 4 * 4 else min (laneLeader a l) (laneLeader t l)

/-- The first lane of the bond of a fabric lane; 64 for the stitch lanes. -/
def fabItemOf (q : Quire) (l : Nat) : Nat := if 64 ≤ l then 64 else (bondLanes q l).headD l

/-- The DRAM partition resources that differ: those of a pen and group whose entry does. DESIGN CHOICE (unsafe, log 28). -/
def partItems (a t : Quire) : List Nat :=
  let key (e : Bytes) : Nat := 256 * rd e 1 1 + rd e 0 1
  let find (q : Quire) (k : Nat) : Option Bytes := (partitions q).find? fun e => decide (key e = k)
  (((partitions a ++ partitions t).map key).eraseDups.filter fun k => decide (find a k ≠ find t k)).map (· + 0x1000)

/-- The staged items of a folio's class N differences, as folio and resource. Of DRAM resource 0 is the header, 0x1000 + 256 ×
group + pen a partition, 0x2000 + number a synchroniser; of TIME the instances. DESIGN CHOICE (unsafe, log 28). -/
def stageResources (a t : Quire) (ty : Nat) : List Nat :=
  let diff : List Nat := ((folioDiffs a t ty).filter fun d => d.2.2).map fun d => d.2.1
  match ty with
  | 7 => diff.map (laneItem a t)
  | 8 => diff.map (plLeader t)
  | 10 => diff.map (fabItemOf t)
  | 15 => diff.map (gangFirst t)
  | 11 =>
    (if bytesDiffer a t fDram 0 2 || bytesDiffer a t fDram 4 60 then [0] else []) ++ partItems a t ++
      ((List.range 96).filter fun k => bytesDiffer a t fDram (0x40 + 32 * k) 32).map (· + 0x2000)
  | 17 =>
    (List.range 8).filter fun i =>
      ((folioItems fTime 0).any fun x =>
        x.n && x.differs (qBody a fTime) (qBody t fTime) &&
          (decide (0x40 + 64 * i ≤ x.at_ ∧ x.at_ < 0x80 + 64 * i) ||
            ((piPorts a i ++ piPorts t i).any fun p => decide (x.at_ = 0x240 + 32 * p))))
  | _ => diff

/-- The staged items between two quires, in the order of Table 03.15, within a step by folio and ascending resource.
DESIGN CHOICE (unsafe, log 28). -/
def stageList (a t : Quire) : List StageItem :=
  let raw := folioTypes.flatMap fun ty => ((stageResources a t ty).map fun i => (stageStep ty i, ty, i)).eraseDups
  let sorted := raw.mergeSort fun x y =>
    decide (x.1 < y.1 ∨ (x.1 = y.1 ∧ (x.2.1 < y.2.1 ∨ (x.2.1 = y.2.1 ∧ x.2.2 ≤ y.2.2))))
  sorted.map fun x => ⟨x.1, x.2.1, x.2.2, .waiting, 0, 0, 0, 0⟩

/-- SWAP_COMPLETE (R62, R78, R79): the old active quire becomes the shadow, LOCKED until its digest is known; the staged
items begin; the result and the reply leave. DEDUCED (unsafe, log 25). -/
def execSwapComplete (s : State) : Host.Outcome State Fault Refusal :=
  .next
    (match s.quire.swapping with
     | none => s
     | some w =>
       if ¬ swapDone s w then s
       else
         let s1 := (List.range 64).foldl (fun t e => engineTake e t) s
         let old := ((s1.quire.swapping.map (·.old)).getD w.old)
         let items := stageList s1.quire.active s1.quire.target
         let s2 := setQuires (fun x =>
           { x with
             swapping := none, shadow := old, shadowState := .locked, shadowDigest := none, assembly := []
             staging := if w.event.staged then items else x.staging }) s1
         answerDeferred 0x0204 w.event.port w.event.seq (fun _ t => okay t [])
           (addResult w.event 0 stOk (nsOf w.time) s2))

/-- QUIRE_DIGEST_DONE (R62): the returned quire has its digest, and the shadow is SEALED. -/
def execQuireDigestDone (s : State) : Host.Outcome State Fault Refusal :=
  .next
    (if s.quire.shadowState = .locked ∧ s.quire.shadowDigest.isNone ∧ s.quire.swapping.isNone then
       setQuires (fun x => { x with shadowDigest := some (sha384 (quireImage x.shadow)), shadowState := .sealed }) s
     else s)

/-! ### An item begins (R79) -/

/-- Changes the active quire by what the quire under staging holds. -/
def stageActive (f : Quire → Quire → Quire) (s : State) : State :=
  setQuires (fun x => { x with active := f x.target x.active }) s

/-- A partition of a pen and group as another quire has it; the entries stay in ascending order (R248). -/
def takePartition (k : Nat) (t a : Quire) : Quire :=
  let key (e : Bytes) : Nat := 256 * rd e 1 1 + rd e 0 1
  let mine := (partitions t).filter fun e => decide (key e = k)
  let es := ((partitions a).filter (fun e => decide (key e ≠ k)) ++ mine).mergeSort fun x y => decide (key x ≤ key y)
  qReplace a fDram (qBytes a fDram 0 2 ++ le 2 es.length ++ qBytes a fDram 4 (0xC40 - 4) ++ es.flatten)

/-- Extents of a partition in a quire. -/
def partExtents (q : Quire) (k : Nat) : Nat := ((partOf q (k % 256) (k / 256)).map fun e => rd e 4 2).getD 0

/-- A DRAM resource begins: the header, a partition, or a synchroniser, which unless only its priority changes restarts at the
end of the output frame it writes (R252). DEDUCED (unsafe, log 194). -/
def startDram (i : Nat) (s : State) : State × Nat :=
  let t := s.quire.target
  let a := s.quire.active
  if i = 0 then
    (stageActive (fun t a => qWrite (qWrite a fDram 0 (qBytes t fDram 0 2)) fDram 4 (qBytes t fDram 4 60)) s, ticksPerMs)
  else if i < 0x2000 then
    let k := i - 0x1000
    (allocate (k % 256) (k / 256) (partExtents t k) (stageActive (takePartition k) s),
      ticksPerMs + 6 * ticksPerMs * (partExtents t k - partExtents a k))
  else
    let k := i - 0x2000
    let o := 0x40 + 32 * k
    let same := decide (qBytes a fDram o 8 = qBytes t fDram o 8 ∧ qBytes a fDram (o + 9) 23 = qBytes t fDram (o + 9) 23)
    let tf := framePeriod (syFormat a k)
    let writes := decide (1 ≤ (syncAt s k).state ∧ (syncAt s k).state ≤ 4 ∧ 0 < tf)
    (if same then stageActive (takeSyncEntry k) s
     else if writes then setSync k (fun y => { y with restartAt := some ((now s / tf + 1) * tf) }) s
     else syRestart k (stageActive (takeSyncEntry k) s), 3 * framePeriod (syFormat t k) + ticksPerMs)

/-- A media lane takes its new setting (R150, R151): a direction that changes is powered up again under the governor; a
running SDI transmitter whose rate changes relocks. With its whole group moving, each transmitter stops, and the group
counts as four lanes (R129, R150). -/
def startLane (old : Quire) (wide : Bool) (l : Nat) (s : State) : State :=
  let q := s.quire.active
  let x := laneAt s l
  let mapDiffers := decide (lnGang old l ≠ lnGang q l ∨ lnByte old l 5 ≠ lnByte q l 5 ∨ lnByte old l 6 ≠ lnByte q l 6)
  let rxMoves := decide (lnRxMode old l ≠ lnRxMode q l ∨ lnRxRate old l ≠ lnRxRate q l) || (mapDiffers && decide (lnRxMode q l ≠ 0))
  let txMoves := decide (lnTxMode old l ≠ lnTxMode q l ∨ lnTxRate old l ≠ lnTxRate q l) || wide
  let relock := decide (x.tx = 2 ∧ lnTxMode old l = 1 ∧ lnTxMode q l = 1)
  let s1 := if rxMoves then setLane l rxStop (laneLost l s) else s
  let s2 := if txMoves then setLane l (fun y => if relock then { y with tx := 1 } else txStop y) s1 else s1
  let eth := decide (lnRxMode old l = 3 ∨ lnRxMode q l = 3)
  let s3 := if ¬ eth ∨ ¬ (rxMoves || txMoves) then s2
    else
      let t := portDrop (0x100 + l) 0 (if lnRxMode q l = 3 then 4 else 0) s2
      if lnRxMode q l = 3 then addLoad (portLoad t (0x100 + l)) t else t
  if wide || (rxMoves && decide (lnRxMode q l ≠ 0)) || (txMoves && !relock && decide (lnTxMode q l ≠ 0)) then
    addLoad ⟨5, l, 0, 1, now s⟩ s3
  else s3

/-- A media lane, gang or group item begins: its bound is 5, 10 or 15 ms (R150). -/
def startLanes (i : Nat) (s : State) : State × Nat :=
  let t := s.quire.target
  let a := s.quire.active
  let wide := decide (i = i / 4 * 4) && groupMoves a t i
  let mine := (groupLanes i).filter fun l =>
    wide || (decide (laneItem a t l = i) && decide (qBytes a fLanes (32 * l) 7 ≠ qBytes t fLanes (32 * l) 7))
  let s1 := stageActive (fun t a => mine.foldl (fun q l => takeEntry fLanes l t q) a) s
  let eth := mine.any fun l => laneEth t l || laneEth a l
  (mine.foldl (fun u l => startLane a wide l u) s1,
    if wide then 15 * ticksPerMs else if eth then 10 * ticksPerMs else 5 * ticksPerMs)

/-- A packet port's item begins (R162): its port goes down and waits for the governor. -/
def startPacket (i : Nat) (s : State) : State × Nat :=
  let t := s.quire.target
  let a := s.quire.active
  let mine := (groupLanes i).filter fun l => decide (plLeader t l = i)
  let moved := mine.filter fun l => bytesDiffer a t fPacket (192 * l) 2
  let s1 := stageActive (fun t a => mine.foldl (fun q l => takeEntry fPacket l t q) a) s
  let s2 := moved.foldl (fun u l => if portMode a l = 0 then u else portDrop l 0 0 u) s1
  let s3 := if moved = [] ∨ portMode t i = 0 then s2 else addLoad (portLoad s2 i) (portEnter i 4 s2)
  (s3, if plMode t i ≤ 3 then 20 * ticksPerMs else 10 * ticksPerMs)

/-- A fabric lane's, bond's or the stitch link's item begins (R220); a lane already as the target has it but off comes up. -/
def startFabric (i : Nat) (s : State) : State × Nat :=
  let t := s.quire.target
  let a := s.quire.active
  let all := if i = 64 then [64, 65, 66, 67] else groupLanes i
  let mine := all.filter fun l => decide (fabItemOf t l = i) && (bytesDiffer a t fFabric (528 * l) 1 || (decide (fabMode t l ≠ 0) && decide ((fabLane s l).state = 0)))
  let s1 := stageActive (fun t a => mine.foldl (fun q l => takeEntry fFabric l t q) a) s
  let go (u : State) (l : Nat) : State :=
    let v := if (fabLane u l).state = 0 then u else fabLeave l 0 u
    if fabMode u.quire.active l = 0 ∨ (fabLane u l).hold then v else fabWait l v
  (mine.foldl go s1, 5 * ticksPerMs)

/-- An audio port's item begins (R303): there is no quiet point; a change of free_source leaves DOMFREE without a clock, and
the word clock input starts again only where its own flags change. -/
def startAudioPort (p : Nat) (s : State) : State × Nat :=
  let a := s.quire.active
  let t := s.quire.target
  let free := decide (p = 72) && bytesDiffer a t fAudioPorts (128 * 72 + 1) 1
  let keep := decide (p = 72) &&
    decide (apField a 72 0 1 % 2 = apField t 72 0 1 % 2 ∧ apField a 72 0 1 / 4 = apField t 72 0 1 / 4)
  let s0 := stageActive (fun t a => takeEntry fAudioPorts p t a) s
  let s1 := if keep then s0 else apStart p s0
  (if free then domainEnter 2 0 s1 else s1, if free then 10 * ticksPerMs else 2 * ticksPerMs)

/-- A source slot's item: refused with NO_CAPACITY where the new ring finds no room beside the old one, or where it would
exceed a reservation (R38, R52). A producer that writes moves to the new ring at its next frame start. -/
def startSource (i : Nat) (s : State) : Option (State × Nat) :=
  let a := s.quire.active
  let entry := qBytes s.quire.target fSources (16 * i) 16
  let next := qWrite a fSources (16 * i) entry
  let most := 25600000000000 * 2002
  if 32512 < granulesUsed a + srcGranules s.quire.target i ∨ most < writeReserved next ∨ most < readReserved next then none
  else
    let f := srcFormat s.quire.target i
    let bound := (if rasterFormat f then framePeriod f else lossPeriod) + ticksPerMs
    let on := srcEnabled a i && srcEnabled s.quire.target i && decide ((srcSlot s i).state ≠ .lost)
    let s1 := setSrc i (fun x => { x with moving := true }) s
    some (if on then s1 else moveRing i (now s) s1, bound)

/-- A flow's item begins (Table 06.8): its packets are dropped until it completes; a removed or changed joined flow leaves its
group. DEDUCED (unsafe, log 53). -/
def startFlow (i : Nat) (s : State) : State × Nat :=
  let a := s.quire.active
  let s0 := match flowEntry a i with
    | some e =>
      let u := if i < 8192 then entryIdle e s else s
      if i < 8192 ∧ bit (feFlags e) 1 then sendReport e 2 u else u
    | none => s
  let mix (t q : Quire) : Quire :=
    match qKeyed t fFlows i, qKeyed q fFlows i with
    | some x, some y => qUpsert q fFlows i (mixEntry (flowPairItems y x) x y)
    | some x, none => qUpsert q fFlows i x
    | none, _ => qDelete q fFlows i
  let frame := match flowDest a i with
    | some d => if rasterFormat (dstFormat a d) then framePeriod (dstFormat a d) else lossPeriod
    | none => 0
  (setFlow i (fun x => { ({} : Flow) with staging := true, counts := x.counts }) (stageActive mix s0), frame + ticksPerMs)

/-- The load of a layer engine that is enabled (Table 20.6). -/
def engineLoad (s : State) (e : Nat) : Load := ⟨5, 600 + e, 6, 1, now s⟩

/-- A layer engine's item waits for the end of the output frame, with its gang (R345); engines it enables wait for the
governor first (R581). -/
def startEngine (e : Nat) (s : State) : State × Nat :=
  let t := s.quire.target
  let a := s.quire.active
  let g := (List.range 64).filter fun i =>
    decide (gangFirst t i = e) && ((folioItems fLayers i).any fun x =>
      x.n && x.differs (qBytes a fLayers (1184 * i) 1184) (qBytes t fLayers (1184 * i) 1184))
  let enabled (i : Nat) : Bool := bit (leField t i 0 1) 0 && !bit (leField a i 0 1) 0
  let go (u : State) (i : Nat) : State :=
    let v := setEngine i (fun x => { x with waiting := true }) u
    if enabled i then addLoad (engineLoad v i) v else v
  ((e :: g).foldl go s, framePeriod (leField t e 2 2) + ticksPerMs)

/-- A PTP instance's item begins: the instance restarts (R418). DEDUCED (unsafe, log 96). -/
def startPtp (i : Nat) (s : State) : State × Nat :=
  let ps := piPorts s.quire.active i ++ piPorts s.quire.target i
  let take (t q : Quire) : Quire :=
    (folioItems fTime 0).foldl (fun q x =>
      if x.n && (decide (0x40 + 64 * i ≤ x.at_ ∧ x.at_ < 0x80 + 64 * i) || ps.any fun p => decide (x.at_ = 0x240 + 32 * p)) then
        qWrite q fTime x.at_ (mixEntry [{ x with at_ := 0 }] (qBytes t fTime x.at_ x.len) (qBytes q fTime x.at_ x.len))
      else q) q
  (restartInst i (stageActive take s), 10 * ticksPerMs)

/-- What an item does when it begins, with its completion bound; none where its resource refuses it.
DEDUCED (unsafe, log 27). -/
def beginItem (ty i : Nat) (s : State) : Option (State × Nat) :=
  match ty with
  | 11 => some (startDram i s)
  | 7 => some (startLanes i s)
  | 8 => some (startPacket i s)
  | 10 => some (startFabric i s)
  | 14 => some (startAudioPort i s)
  | 1 => startSource i s
  | 3 =>
    let s1 := stageActive (fun t a => takeKeyed fBindings i t a) s
    if i < 0x8000 then some (srcLost i s1, ticksPerMs)
    else
      let f := dstFormat s.quire.active (i - 0x8000)
      some (setDst (i - 0x8000) (fun x => { x with transit := true }) s1, (if rasterFormat f then framePeriod f else 0) + ticksPerMs)
  | 9 => some (startFlow i s)
  | 2 =>
    let f := dstFormat s.quire.target i
    some (s, (if rasterFormat f then framePeriod f else 0) + ticksPerMs)
  | 15 => some (startEngine i s)
  | 6 =>
    let f := i
    let o := outputDelay s.quire.active f
    let hold (t : State) (d : Nat) : State :=
      if dstEnabled (inForce t d) d ∧ dstFormat (inForce t d) d / 16 * 16 = f / 16 * 16 then
        setDst d (fun x => { x with delay := some (x.delay.getD o) }) t
      else t
    some (stageActive (fun t a => takeKeyed fTiming i t a) (slotRange.foldl hold s), 1536 * framePeriod f + ticksPerMs)
  | 17 => some (startPtp i s)
  | _ => some (s, ticksPerMs)

/-- Changes a staged item by its number. -/
def setItem (n : Nat) (f : StageItem → StageItem) (s : State) : State :=
  setQuires (fun x => { x with staging := x.staging.modify n f }) s

/-- The format item of a destination has ended: its lanes emit what the destination reads (R151). -/
def lanesSettle (d : Nat) (s : State) : State :=
  match bindingOf s.quire.active true d with
  | some (1, _, l) => (gangLanes s.quire.active l).foldl (fun t m => setLane m (fun x => { x with relocked := false }) t) s
  | _ => s

/-- A staged item fails (R80): EV0161. DEDUCED (unsafe, log 124). DEDUCED (unsafe, log 125). -/
def failItem (n status : Nat) (x : StageItem) (s : State) : State :=
  let s1 := if x.folio = fDests then lanesSettle x.index s else s
  raise 161 n status (finishItem x.folio x.index status s1)

/-- STAGED_ITEM_START (R79): item `n`, the first that waits, reaches its quiet point, or its turn; staging is held
through a control-plane restart (Table 18.11). -/
def execStagedItemStart (i : Nat) (s : State) : Host.Outcome State Fault Refusal :=
  .next
    (match s.quire.staging[i]? with
     | some x =>
       let first := s.quire.staging.findIdx fun y => decide (y.state = .waiting)
       if ¬ vegenUp s ∨ first ≠ i ∨ (s.quire.staging.any fun y => decide (y.state = .inProgress)) then s
       else
         let s1 := setItem i (fun y => { y with state := .inProgress, started := now s }) s
         match beginItem x.folio x.index s1 with
         | some r => wakeUsed (setItem i (fun y => { y with bound := r.2 }) r.1)
         | none => failItem i stNoCapacity x s1
     | none => s)

/-! ### An item ends (R80) -/

/-- Whether a load of a staged item still waits for the governor: of its media lanes, packet port, fabric lanes or layer
engines. DEDUCED (unsafe, log 140). -/
def itemWaits (s : State) (ty i : Nat) : Bool :=
  match ty with
  | 7 => (groupLanes i).any fun l => loadWaits s l 0
  | 8 => (groupLanes i).any fun l => loadWaits s (256 + l) 0
  | 10 => (if i = 64 then [64, 65, 66, 67] else groupLanes i).any fun l => loadWaits s (fabLoad s l).resource 0
  | 15 => (itemEngines s i).any fun l => loadWaits s (600 + l) 6
  | _ => false

/-- Whether the resource of an item in progress is at its new setting. DEDUCED (unsafe, log 29). -/
def itemReady (s : State) (x : StageItem) : Bool :=
  let q := s.quire.active
  let i := x.index
  !itemWaits s x.folio i &&
    match x.folio with
    | 11 =>
      let y := syncAt s (i - 0x2000)
      decide (i < 0x2000) || (y.restartAt.isNone && (decide (y.state ≠ 1) || syLoss s (i - 0x2000)))
    | 7 => (groupLanes i).all fun l =>
        decide ((laneAt s l).tx ≠ 1 ∧ (lnRxMode q l = 0 ∨ (laneAt s l).rx ≠ 0) ∧ (lnTxMode q l = 0 ∨ (laneAt s l).tx ≠ 0))
    | 8 => decide (portMode q i = 0 ∨ ((netPort s i).state ≠ 4 ∧ (netPort s i).state ≠ 0))
    | 10 => (if i = 64 then [64, 65, 66, 67] else bondLanes q i).all fun l =>
        decide (fabMode q l = 0 ∨ (fabLane s l).hold ∨ (fabLane s l).state ≠ 0)
    | 14 => decide (i ≠ 72 ∨ apField q 72 1 1 = 0xFF ∨ s.audio.domFree = 2 ∨ x.started + 10 * ticksPerMs ≤ now s)
    | 1 => !(srcSlot s i).moving &&
        (decide ((srcSlot s i).oldRing = []) ||
          slotRange.all fun d => decide ((dstSlot s d).shown ≠ i ∨ (srcSlot s i).movedAt < (dstSlot s d).lastSwitch))
    | 2 => false
    | 6 => slotRange.all fun d =>
        (dstSlot s d).delay.isNone || decide (dstFormat (inForce s d) d / 16 * 16 ≠ i / 16 * 16)
    | 15 => false
    | _ => true

/-- The instant an item's bound counts from: a destination's format and an engine from their quiet points (R345, R595); none
before. DEDUCED (unsafe, log 29). -/
def boundFrom (s : State) (x : StageItem) : Option Nat :=
  match x.folio with
  | 2 => if (dstSlot s x.index).transit then some x.started else none
  | 15 => (engineAt s x.index).mode
  | _ => some x.started

/-- What completes with an item: a slot's old ring is released (R38); a flow comes into use and joins its group; layer stores
find room in changed partitions (R329); an instance's ports leave INITIALIZING. DEDUCED (unsafe, log 29). -/
def endItem (ty i : Nat) (s : State) : State :=
  match ty with
  | 9 =>
    let s1 := setFlow i (fun x => { x with staging := false }) s
    match flowEntry s.quire.active i with
    | some e =>
      if i < 8192 ∧ bit (feFlags e) 1 then
        { s1 with net := { s1.net with reports := s1.net.reports ++ joinReports (now s) i } }
      else s1
    | none => s1
  | 1 => setSrc i (fun x => { x with oldRing := [], oldAnc := [] }) s
  | 11 => if i < 0x2000 then storesRetry s else s
  | 17 => startInst i s
  | _ => s

/-- STAGED_ITEM_COMPLETE (R80): item `n` is at its new setting. Destination formats and layer engines complete by rows of
their own. -/
def execStagedItemComplete (i : Nat) (s : State) : Host.Outcome State Fault Refusal :=
  .next
    (match s.quire.staging[i]? with
     | some x =>
       let s := if x.folio = fDram ∧ 0x2000 ≤ x.index then syDue (x.index - 0x2000) s else s
       if vegenUp s ∧ x.state = .inProgress ∧ itemReady s x then finishItem x.folio x.index stOk (endItem x.folio x.index s) else s
     | none => s)

/-- STAGED_ITEM_TIMEOUT (R80): item `n` has not completed within its bound; the item fails and staging goes on. -/
def execStagedItemTimeout (i : Nat) (s : State) : Host.Outcome State Fault Refusal :=
  .next
    (match s.quire.staging[i]? with
     | some x =>
       let late := (boundFrom s x).any fun t => decide (t + x.bound < now s)
       if vegenUp s ∧ x.state = .inProgress ∧ ¬ itemWaits s x.folio x.index ∧ late then
         failItem i (0xFF00 + x.folio) x s
       else s
     | none => s)

/-- The governor has admitted the loads of the item in progress: its bound counts from now (R150, R582). -/
def itemAdmitted (ty i : Nat) (s : State) : State :=
  setQuires (fun q =>
    { q with
      staging := updFirst (fun x => decide (x.folio = ty ∧ x.index = i ∧ x.state = .inProgress))
        (fun x => { x with started := now s }) q.staging }) s

/-! ### Destination formats (R151, R595) -/

/-- The format item of a destination that is in progress. -/
def formatItem (s : State) (d : Nat) : Option StageItem :=
  s.quire.staging.find? fun x => decide (x.folio = fDests ∧ x.index = d ∧ x.state = .inProgress)

/-- DEST_FORMAT_QUIET_POINT (R595): the consumer has completed the frame in the old format; from the next line boundary it
emits black of the new one. An unbound destination keeps its format until the frame start that completes the item. -/
def execDestFormatQuietPoint (d : Nat) (s : State) : Host.Outcome State Fault Refusal :=
  .next
    (match formatItem s d with
     | some _ =>
       if (dstSlot s d).transit then s
       else
         itemAdmitted fDests d
           (setDst d (fun x => { x with transit := true })
             (if bound s.quire.active (0x8000 + d) then stageActive (fun t a => takeEntry fDests d t a) s else s))
     | none => s)

/-- DEST_FORMAT_COMPLETE (R595): the first frame start of the new format at or after the quiet point. -/
def execDestFormatComplete (d : Nat) (s : State) : Host.Outcome State Fault Refusal :=
  .next
    (match formatItem s d with
     | some x =>
       let f := dstFormat s.quire.target d
       let due := if rasterFormat f then cdiv x.started (framePeriod f) * framePeriod f else x.started
       if (dstSlot s d).transit ∧ reached s due then
         finishItem fDests d stOk (lanesSettle d <| stageActive (fun t a => takeEntry fDests d t a) s)
       else s
     | none => s)

end Sys2Proof.Machine
end

