-- ==== Sys2Proof/Machine/Drover.lean ====
section
/-! DEFINITION. The drover (R82 to R96): submitting, cancelling and reading events, and what a drover event does
at its application point. -/

namespace Sys2Proof.Machine

/-! ### DRV_SUBMIT (R82, Table 03.17) -/

/-- The form of a LAYER_UPDATE payload (Table 11.4): checks with their offsets in the command. DEDUCED (unsafe, log 127). -/
def layerForm (p : Bytes) : List (Bool × Nat) :=
  let op := rd p 0 1
  [(decide (op = 1 ∨ op = 2), 0x20), (decide (rd p 1 1 ≤ 15), 0x21),
    (decide (if op = 1 then rd p 2 1 ≤ 3 else rd p 2 1 = 0), 0x22),
    (decide (if op = 1 then rd p 3 1 < 16 else rd p 3 1 = 0), 0x23),
    (decide (if op = 2 then rd p 4 1 ≤ 7 else rd p 4 1 = 0), 0x24), (isZero p 5 3, 0x25),
    (decide (op = 1) || isZero p 8 16, 0x28), (isZero p 0x18 8, 0x38)]

/-- The form of an event's target and payload, by its kind (Table 03.17). DEDUCED (unsafe, log 127). -/
def eventForm (q : Quire) (kind target : Nat) (p : Bytes) : List (Bool × Nat) :=
  if kind = kRoute then
    [(decide (target < 1536), 0xA), (decide (rd p 0 2 < 1536 ∨ rd p 0 2 = 0xFFFF), 0x20), (isZero p 2 30, 0x22)]
  else if kind = kDest then
    let ok (v : Nat) : Bool := decide (v ≤ 1 ∨ v = 0xFF)
    [(decide (target < 1536), 0xA), (ok (rd p 0 1), 0x20), (ok (rd p 1 1), 0x21), (isZero p 2 30, 0x22)]
  else if kind = kSafeload then
    [(decide (target ≤ 2), 0xA), (decide (1 ≤ rd p 0 2 ∧ rd p 0 2 ≤ 15), 0x20), (safeloadForm p, 0x22 + 2 * rd p 0 2)]
  else if kind = kLayer then
    (decide (target < 64 ∧ qRd q fLayers (1184 * target + 4) 1 ≠ 0xFF), 0xA) :: layerForm p
  else [(decide (target = 0), 0xA), (isZero p 0 32, 0x20)]

/-- Whether the submitting port may send an event of a kind for a target (R48, R82, R286). -/
def mayTarget (r : Req) (s : State) (kind target : Nat) (p : Bytes) : Bool :=
  if ¬ isPen r.port then true
  else if kind = kRoute then
    let q := inForce s target
    decide (dstPen q target = r.port) && (decide (rd p 0 2 = 0xFFFF) || permitted s q r.port (rd p 0 2))
  else if kind = kDest then decide (dstPen (inForce s target) target = r.port)
  else if kind = kSafeload then (safeloadSets p).all fun k => decide (setPen s.audio.prog k = r.port)
  else if kind = kLayer then decide (leField (inForce s (2000 + target)) target 1 1 = r.port)
  else true

/-- Whether an event breaks a rule against the state of the device at receipt: the route of R25 and R26, the sets of
R286, the member of R336. DEDUCED (unsafe, log 129). -/
def breaksRule (s : State) (r : Req) (kind target : Nat) (p : Bytes) : Bool :=
  if kind = kRoute then decide (rd p 0 2 ≠ 0xFFFF) && !routeValid (inForce s target) (rd p 0 2) target
  else if kind = kSafeload then decide (safeloadFault s r.port target p = some stBadParam)
  else if kind = kLayer then decide ((gangOf s.quire.active target).length ≤ rd p 1 1)
  else false

/-- DRV_SUBMIT (R82): one event, scheduled or best-effort. -/
def execDrvSubmit (r : Req) (s : State) : Host.Outcome State Fault Refusal :=
  .next (command 0x0301
    (fun r s => needLen 64 r s fun _ =>
      let p := slice r.params 0x20 32
      let t := rd r.params 0 8
      let kind := rd r.params 8 1
      let target := rd r.params 0xA 2
      needForm
        ([(decide (isScheduled r = decide (t ≠ 0)), 0),
          (decide (kind ∈ [kRoute, kDest, kSafeload, kLayer, kMarker]), 8), (isZero r.params 9 1, 9)] ++
          ((eventForm s.quire.active kind target p).filter fun c => decide (c.2 < 0xE)) ++
          [(isZero r.params 0xE 2, 0xE), (isZero r.params 0x18 8, 0x18)] ++
          ((eventForm s.quire.active kind target p).filter fun c => decide (0xE ≤ c.2))) s fun _ =>
        if ¬ mayTarget r s kind target p then refuse s stNotOwner 0
        else if s.boot.epoch < rd r.params 0xC 2 then refuse s stFenced 2
        else
          match timeCheck r s t 0 with
          | some (st, d) => refuseTimed s 1 st d
          | none =>
            if breaksRule s r kind target p then refuse s stBadParam 0xFFFF
            else if queueFull s 1 then refuse s stNoCapacity 0
            else if targetFull s kind target then refuse s stBusy 0
            else
              let e := { mkEvent r s kind target t (rd r.params 0x10 8) 0 p with minEpoch := rd r.params 0xC 2 }
              if isScheduled r then { st := enqueue e s, status := stAccepted }
              else { st := enqueue e s, later := some [] }) r s)

/-! ### Replies that wait for their events -/

/-- The reply of an unscheduled SPN_ROUTE (R53, Table 02.14): an entry overridden at its switch point is OK there.
DEDUCED (unsafe, log 37). DEDUCED (unsafe, log 39). -/
def routeReply (w : Deferred) (s : State) : Ans :=
  let one (x : (Bytes × Nat) × Nat) : Bytes :=
    let d := slice x.1.1 0 2
    if x.1.2 ≠ stOk then d ++ le 2 x.1.2 ++ zeros 12
    else
      match w.outs.find? fun o => decide (o.entry = x.2) with
      | some o => d ++ le 2 (if o.status = stSuperseded then stOk else o.status) ++ zeros 4 ++ le 8 o.applied
      | none => d ++ zeros 14
  okay s (le 2 w.info.length ++ zeros 6 ++ ((((routeList w.req).zip w.info).zipIdx).flatMap one))

/-- The reply of an unscheduled DRV_SUBMIT (R82). -/
def submitReply (w : Deferred) (s : State) : Ans :=
  match w.outs with
  | o :: _ =>
    { st := s
      status := if o.outcome ≤ 1 ∨ o.outcome = 3 ∨ o.status = stSuperseded then stOk else o.status
      detail := if o.outcome = 2 then (if o.status = stFenced then 1 else if o.status = stBadParam then 0xFFFF else 0) else 0
      params := resultBytes o }
  | [] => okay s []

/-- The reply of LAY_SET operations 0 and 1 (R348): the outcome of each event, in a layout that is not given. -/
def layerReply (w : Deferred) (s : State) : Ans :=
  okay s (Config.layout 0x0B02 (w.outs.flatMap fun o => [o.entry, o.outcome, o.status]))

/-- Answers the command an event came from, once none of its events is pending (R53, R82, R348). -/
def settle (port seq : Nat) (s : State) : State :=
  if s.drv.queue.any fun e => decide (e.port = port ∧ e.seq = seq) then s
  else
    answerDeferred 0x0B02 port seq layerReply
      (answerDeferred 0x0301 port seq submitReply (answerDeferred 0x0401 port seq routeReply s))

/-! ### DRV_CANCEL (R88) -/

/-- The application point of a queued event, armed or to be armed at the end of the present stitch cycle.
DEDUCED (unsafe, log 126). -/
def pointOf (s : State) (e : DrvEvent) : Nat :=
  let a := e.armed.getD ((e.entered / cycleTicks + 1) * cycleTicks)
  (appPoint s { e with armed := some a }).getD (max e.time a)

/-- An event leaves the queue cancelled; a swap gives its shadow back (R88). DEDUCED (unsafe, log 126). -/
def cancelEvent (s : State) (e : DrvEvent) : State :=
  if e.kind = kSwap then dropSwap e 3 stOk (releaseShadow s)
  else addResult e 3 stOk 0 (copyItem (.cancelled e.serial) (dequeue e.serial s))

/-- DRV_CANCEL (R88): every pending event of an origin but those that apply within 2 ms of the receipt.
DEDUCED (unsafe, log 126). -/
def execDrvCancel (r : Req) (s : State) : Host.Outcome State Fault Refusal :=
  .next (command 0x0302
    (fun r s => needLen 16 r s fun _ =>
      let port := rd r.params 0 2
      let entry := rd r.params 2 2
      let seq := rd r.params 8 8
      needForm [(isZero r.params 4 4, 4)] s fun _ =>
        if r.port ≠ portRoot ∧ r.port ≠ port then
          (if isPen r.port then refuse s stNotOwner 0 else refuse s stNotPermitted r.port)
        else
          let named := s.drv.queue.filter fun e =>
            decide (e.port = port ∧ e.seq = seq ∧ (entry = 0xFFFF ∨ e.entry = entry))
          let late := named.filter fun e => decide (pointOf s e < r.receipt + 2 * ticksPerMs)
          let free := named.filter fun e => decide (r.receipt + 2 * ticksPerMs ≤ pointOf s e)
          let s1 := settle port seq (free.foldl cancelEvent s)
          let counts := le 4 free.length ++ le 4 late.length
          if named = [] then { st := s, status := stNotActive, params := counts }
          else if late ≠ [] then
            { st := s1, status := stTooLate, detail := (late.map (·.entry)).foldl min 0xFFFF, params := counts }
          else okay s1 counts) r s)

/-! ### Reading (Tables 03.20, 03.21) -/

/-- Whether a port sees an event or its result, by its origin, kind, target and payload (Table 03.20). -/
def sees (s : State) (port origin kind target : Nat) (payload : Bytes) : Bool :=
  if ¬ isPen port then true
  else if kind = kSwap then false
  else if origin = port then true
  else if kind = kRoute ∨ kind = kDest then decide (dstPen (inForce s target) target = port)
  else if kind = kGrant then decide (srcPen s.quire.active target = port)
  else if kind = kLayer then decide (leField (inForce s (2000 + target)) target 1 1 = port)
  else if kind = kSafeload then (safeloadSets payload).all fun k => decide (setPen s.audio.prog k = port)
  else false

/-- DRV_QUEUE_READ (Table 03.20). -/
def execDrvQueueRead (r : Req) (s : State) : Host.Outcome State Fault Refusal :=
  .next (command 0x0303
    (fun r s => needLen 12 r s fun _ =>
      let target := rd r.params 0 2
      let kind := rd r.params 2 1
      let n := rd r.params 8 4
      needForm
        [(decide (kind ∈ [0, kRoute, kDest, kGrant, kSwap, kSafeload, kLayer, kMarker]), 2), (isZero r.params 3 1, 3),
          (decide (1 ≤ n ∧ n ≤ 512), 8)] s fun _ =>
        let l := s.drv.queue.filter fun e =>
          sees s r.port e.port e.kind e.target e.payload && decide (target = 0xFFFF ∨ e.target = target) &&
            decide (kind = 0 ∨ e.kind = kind)
        okay s (((l.drop (rd r.params 4 4)).take n).flatMap queueBytes)) r s)

/-- DRV_RESULTS (Table 03.20). -/
def execDrvResults (r : Req) (s : State) : Host.Outcome State Fault Refusal :=
  .next (command 0x0304
    (fun r s => needLen 8 r s fun _ =>
      let n := rd r.params 4 2
      needForm [(decide (1 ≤ n ∧ n ≤ 1024), 4), (isZero r.params 6 2, 6)] s fun _ =>
        let after := BitVec.ofNat 32 (rd r.params 0 4)
        let l := s.drv.results.filter fun x =>
          serialAfter x.serial after && sees s r.port x.port x.kind x.target x.payload
        okay s ((l.take n).flatMap resultBytes)) r s)

/-- DRV_STATUS (Table 03.21): always a clearing read (R115). -/
def execDrvStatus (r : Req) (s : State) : Host.Outcome State Fault Refusal :=
  .next (command 0x0305
    (fun r s => needLen 0 r s fun _ =>
      let d := s.drv
      { st := { s with drv := { d with tooLate := 0, superseded := 0, fencedCount := 0 } }
        params := le 4 d.queue.length ++ le 4 d.resultSerial.toNat ++ le 1 (b2n d.fenced) ++ zeros 1 ++ le 2 s.boot.epoch ++
          le 4 (fenceBound s) ++ le 4 (boundWord s) ++ le 4 d.tooLate.toNat ++ le 4 d.superseded.toNat ++
          le 4 d.fencedCount.toNat
        clearing := true }) r s)

/-! ### At the application point (R84, R90 to R93) -/

/-- Whether two events reach one target together (R90). DEDUCED (unsafe, log 128). -/
def sharesTarget (q : Quire) (a b : DrvEvent) : Bool :=
  decide (a.serial = b.serial) || sameTarget q a.kind a.target b.kind b.target ||
    decide (a.kind = kGrant ∧ b.kind = kGrant ∧ a.target = b.target)

/-- Writes a destination's descriptor: in the active quire where the destination has taken the swap under way, else in the
old one, which the swap replaces (R77). DEDUCED (unsafe, log 129). -/
def writeDest (d o : Nat) (b : Bytes) (s : State) : State :=
  let put (q : Quire) : Quire := qWrite q fDests (16 * d + o) b
  if taken s d then { s with quire := { s.quire with active := put s.quire.active } }
  else { s with quire := { s.quire with swapping := s.quire.swapping.map fun w => { w with old := put w.old } } }

/-- A ROUTE at the switch point `t` (R25, R26, R48): the state and the status. DEDUCED (unsafe, log 129). -/
def applyRoute (e : DrvEvent) (t : Nat) (s0 : State) : State × Nat :=
  let s := takeSwap e.target t s0
  let q := inForce s e.target
  let src := rd e.payload 0 2
  if src ≠ 0xFFFF ∧ isPen e.port ∧ e.scheduled ∧
      ¬ (dstPen q e.target = e.port ∧ permitted s q e.port src) then (s, stNotOwner)
  else if src ≠ 0xFFFF ∧ ¬ routeValid q src e.target then (s, stBadParam)
  else (writeDest e.target 2 (le 2 src) s, stOk)

/-- A DEST_STATE at the switch point `t` (R27). -/
def applyDest (e : DrvEvent) (t : Nat) (s0 : State) : State × Nat :=
  let s := takeSwap e.target t s0
  let q := inForce s e.target
  let loss := rd e.payload 0 1
  let en := rd e.payload 1 1
  let src := dstRoute q e.target
  if en = 1 ∧ (dstFormat q e.target = 0 ∨ (src < 1536 ∧ ¬ routeValid q src e.target)) then (s, stBadParam)
  else
    let s1 := if loss = 0xFF then s else writeDest e.target 4 (le 1 loss) s
    (if en = 0xFF then s1
      else writeDest e.target 6 (le 1 (qRd q fDests (16 * e.target + 6) 1 / 2 * 2 + en)) s1, stOk)

/-- A LAYER_UPDATE at the switch point `t`, after a swap under way (R336, R337): the state, the status, and whether only a
part was applied. DEDUCED (unsafe, log 26). -/
def applyLayer (e : DrvEvent) (t : Nat) (s : State) : State × Nat × Bool :=
  let u := layerUpdate e.target e.payload t ((gangOf s.quire.active e.target).foldl (fun x g => engineTake g x) s)
  if u.2.1 = 0 then (u.1, stBadParam, false) else (u.1, stOk, decide (u.2.1 < u.2.2))

/-- An AUDIO_SAFELOAD at the sample boundary `t` (R286): with a program exchange at the same boundary it changes nothing.
DEDUCED (unsafe, log 130). -/
def applySafeload (e : DrvEvent) (t : Nat) (s : State) : State × Nat :=
  let s := takeDueSwaps e.target t s
  match safeloadFault s e.port e.target e.payload with
  | some st => (s, st)
  | none =>
    let a := s.audio
    let edges := if e.target = 1 then a.edges441 else a.edgesFree
    let between := edges.any fun x => decide (a.exchangeTime ≤ x ∧ x < t)
    let fresh := if e.target = 0 then decide (a.exchangeTime = t) else decide (a.exchangeTime ≤ t ∧ t < a.exchangeTime + ticksPerMs) && !between
    if fresh ∧ a.exchangeTime ≠ 0 then (s, stSuperseded) else (safeload e.payload s, stOk)

/-- What an event does at its application point `t`: the fence, then its kind (R90, R93). DEDUCED (unsafe, log 130). -/
def applyEvent (e : DrvEvent) (t : Nat) (s : State) : State × Nat × Bool :=
  if e.scheduled ∧ s.drv.fenced then (s, stFenced, false)
  else if e.kind = kRoute then ((applyRoute e t s).1, (applyRoute e t s).2, false)
  else if e.kind = kDest then ((applyDest e t s).1, (applyDest e t s).2, false)
  else if e.kind = kGrant then (applyGrant e.target e.op e.payload s, stOk, false)
  else if e.kind = kSafeload then ((applySafeload e t s).1, (applySafeload e t s).2, false)
  else if e.kind = kLayer then applyLayer e t s
  else (s, stOk, false)

/-- Applies the events of one target and instant in submission order (R90): the state, and each event with its status and
whether it was applied in part. DEDUCED (unsafe, log 128). -/
def applyAll (t : Nat) : List DrvEvent → State → State × List (DrvEvent × Nat × Bool)
  | [], s => (s, [])
  | e :: rest, s =>
    let a := applyEvent e t s
    let b := applyAll t rest a.1
    (b.1, (e, a.2) :: b.2)

/-- The outcome and status of an event, after the later ones of its instant (R89, R91).
DEDUCED (unsafe, log 39). DEDUCED (unsafe, log 130). -/
def outcomeOf (q : Quire) (x : DrvEvent × Nat × Bool) (later : List (DrvEvent × Nat × Bool)) : Nat × Nat :=
  if x.2.1 ≠ stOk then (2, x.2.1)
  else if x.1.kind = kSafeload ∨ x.1.kind = kMarker then (0, stOk)
  else
    let mine := eventFields q x.1
    let theirs := (later.filter fun y => decide (y.2.1 = stOk) && sharesTarget q x.1 y.1).flatMap fun y => eventFields q y.1
    if mine ≠ [] ∧ mine.all fun f => theirs.contains f then (2, stSuperseded)
    else if x.2.2 ∨ mine.any fun f => theirs.contains f then (1, stOk)
    else (0, stOk)

/-- Enters the results of events applied at `t` and takes them off the queue (R87, R89). -/
def reportAll (q : Quire) (t : Nat) : List (DrvEvent × Nat × Bool) → State → State
  | [], s => s
  | x :: rest, s =>
    let o := outcomeOf q x rest
    reportAll q t rest (addResult x.1 o.1 o.2 (if o.1 ≤ 1 then nsOf t else 0) (dequeue x.1.serial s))

/-- The place of an event's kind among the changes of one instant (R90). -/
def kindRank (k : Nat) : Nat := if k = kSafeload then 1 else if k = kLayer then 2 else if k = kMarker then 3 else 0

/-- The armed events whose application point is `t`, in the order of R90: by kind, then in submission order. -/
def dueEvents (t : Nat) (s : State) : List DrvEvent :=
  [0, 1, 2, 3].flatMap fun r =>
    s.drv.queue.filter fun x => decide (x.kind ≠ kSwap ∧ kindRank x.kind = r) && decide (appPoint s x = some t)

/-- The drover changes due at `t` are applied in the order of R90: a swap first, then the events; the commands that wait for
them are answered. DEDUCED (unsafe, log 128). -/
def applyDue (t : Nat) (s0 : State) : State :=
  let swapDue := (pendingSwap s0).any fun e => (appPoint s0 e).any fun p => decide (p ≤ t)
  let s := if swapDue then applySwap s0 else s0
  let batch := dueEvents t s
  let a := applyAll t batch s
  batch.foldl (fun u x => settle x.port x.seq u) (reportAll s.quire.active t a.2 a.1)

/-- DROVER_EVENT_APPLY (R84, R90, R592): the event of a submission serial reaches its application point, with every other
change due at that instant. DEDUCED (unsafe, log 128). -/
def execDroverEventApply (serial : Nat) (s : State) : Host.Outcome State Fault Refusal :=
  .next
    (match s.drv.queue.find? fun e => decide (e.serial.toNat = serial ∧ e.kind ≠ kSwap) with
     | none => s
     | some e =>
       (match appPoint s e with
        | none => s
        | some t => if ¬ reached s t then s else applyDue t s))

/-- SWITCH_POINT (R42, R592): destination `d` decides at the switch point of frame `k` of its format, after the drover changes
due there. DESIGN CHOICE (safe, log 6). DEDUCED (unsafe, log 41). -/
def execSwitchPoint (d k : Nat) (s : State) : Host.Outcome State Fault Refusal :=
  .next
    (if formatMoving s d then s
     else
       let t := switchTime s d k
       let s1 := if reached s t then applyDue t s else s
       if formatMoving s1 d then s1 else decideAt d t s1)

end Sys2Proof.Machine
end

