-- ==== Sys2Proof/Machine/Update.lean ====
section
/-! DEFINITION. Sign blocks, firmware slots and case images, and the commands of group 0x12 (chapter 18, R500, R501). -/

namespace Sys2Proof.Machine

/-- Changes start-up and update. -/
def setBoot (f : Boot → Boot) (s : State) : State := { s with boot := f s.boot }

/-- Changes a firmware slot. -/
def setSlot (n : Nat) (f : FwSlot → FwSlot) (s : State) : State :=
  setBoot (fun b => if n = 0 then { b with slotA := f b.slotA } else { b with slotB := f b.slotB }) s

/-! ### Sign blocks (R500, R501) -/

/-- The length of a sign block (Table 16.9). -/
abbrev signLen : Nat := 360

/-- Whether the root key of the present state verifies a signature over the SHA-384 of some bytes. -/
def rootVerifies (s : State) (bytes sig : Bytes) : Bool :=
  keyAllowed s (rootSlot s) 1 5 0xF001 &&
    Config.ecdsaVerify (keySlot s (rootSlot s)).pub (Config.sha384 bytes) sig

/-- Whether an image of a kind passes its sign block in the present state (R501). -/
def signPasses (s : State) (kind : Nat) (img sb : Bytes) : Bool :=
  decide (sb.length = signLen ∧ rd sb 0 4 = 0x4B4C4253 ∧ rd sb 4 1 = kind ∧ rd sb 0xC 4 = img.length ∧
      slice sb 0x10 48 = sha384 img) &&
    isZero sb 6 2 && isZero sb 0xA2 2 && decide (rd sb 8 4 ≤ 255) &&
    bit (rd sb 5 1) (lifeCycle s) && bit (rd sb 0xA1 1) (lifeCycle s) &&
    rootVerifies s (slice sb 0x40 0x68) (slice sb 0xA8 96) &&
    Config.ecdsaVerify (slice sb 0x40 97) (Config.sha384 (sb.take 0x108)) (slice sb 0x108 96) &&
    (decide (kind = 4) || decide (s.keys.securityCounter ≤ rd sb 8 4))

/-- Bytes that end in a sign block, taken apart. -/
def signed (b : Bytes) : Bytes × Bytes := (b.take (b.length - signLen), b.drop (b.length - signLen))

/-! ### Update packages (R534, Table 18.6) -/

/-- A package's component of a kind: 1 loader, 2 Vegen, 3 microcode, with its sign block. -/
def component (p : Bytes) (kind : Nat) : Bytes :=
  match (List.range 3).find? fun i => decide (rd p (0x20 + 16 * i) 1 = kind) with
  | some i => slice p (rd p (0x24 + 16 * i) 4) (rd p (0x28 + 16 * i) 4)
  | none => []

/-- A component's measurement: the image digest of its sign block (R501). -/
def measurement (p : Bytes) (kind : Nat) : Bytes := slice (signed (component p kind)).2 0x10 48

/-- The first byte of the header that breaks Table 18.6, if any. DEDUCED (unsafe, log 131). -/
def packageFault (p : Bytes) : Option Nat :=
  let entry (i : Nat) : List (Bool × Nat) :=
    let o := 0x20 + 16 * i
    [ (decide (1 ≤ rd p o 1 ∧ rd p o 1 ≤ 3) && (List.range i).all (fun j => decide (rd p (0x20 + 16 * j) 1 ≠ rd p o 1)), o),
      (isZero p (o + 1) 3, o + 1), (decide (0x50 ≤ rd p (o + 4) 4), o + 4),
      (decide (signLen ≤ rd p (o + 8) 4 ∧ rd p (o + 4) 4 + rd p (o + 8) 4 ≤ p.length - signLen), o + 8),
      (isZero p (o + 12) 4, o + 12) ]
  firstBad
    ([(decide (rd p 0 4 = 0x4B435055), 0), (decide (rd p 4 2 = 1), 4), (decide (rd p 6 1 = 3), 6), (isZero p 7 1, 7),
      (decide (rd p 0x10 4 ≤ 255), 0x10), (decide (rd p 0x14 4 = p.length ∧ p.length ≤ 41943040), 0x14)] ++
      (List.range 3).flatMap entry)

/-- Whether the sign blocks of a package pass R501: those of the components and its own. -/
def packageSigned (s : State) (p : Bytes) : Bool :=
  signPasses s 5 (signed p).1 (signed p).2 &&
    [1, 2, 3].all fun k => signPasses s k (signed (component p k)).1 (signed (component p k)).2

/-- Whether the sign blocks carry the header's security_version (R534). DEDUCED (unsafe, log 131). -/
def versionsAgree (p : Bytes) : Bool :=
  let v := rd p 0x10 4
  decide (rd (signed p).2 8 4 = v) && [1, 2, 3].all fun k => decide (rd (signed (component p k)).2 8 4 = v)

/-- The bytes written into a slot. -/
def slotBytes (x : FwSlot) : Bytes := x.data.map (·.2)

/-- The failure of a package at UPD_VERIFY or at start: status and detail (R534, R540). DEDUCED (unsafe, log 131). -/
def packageRefusal (s : State) (p : Bytes) : Option (Nat × Nat) :=
  match packageFault p with
  | some o => some (stBadParam, o)
  | none =>
    if ¬ packageSigned s p then some (stNotPermitted, 0)
    else if ¬ versionsAgree p then some (stBadParam, 0xFFFF)
    else none

/-- A slot's header fields once its package is checked, and its class: deep when the microcode differs from the one that
runs (R540). -/
def slotChecked (b : Boot) (p : Bytes) (x : FwSlot) : FwSlot :=
  { x with
    cls := some (if measurement p 3 = b.micro then 0 else 1), epoch := rd p 8 2, minPartner := rd p 0xA 2
    version := rd p 0xC 4, secVersion := rd p 0x10 4, digest := sha384 p }

/-! ### UPD commands (Table 18.8) -/

/-- The code of a slot state (Table 18.5). -/
def SlotState.code : SlotState → Nat
  | .empty => 0 | .writing => 1 | .written => 2 | .verified => 3 | .armed => 4 | .trial => 5 | .confirmed => 6 | .bad => 7

/-- Whether a slot is the one that runs; while a recovery package runs none is (R535). DEDUCED (unsafe, log 135). -/
def runsSlot (s : State) (n : Nat) : Bool := decide (s.boot.mailbox = []) && decide (s.boot.running = n)

/-- Whether the running slot is TRIAL. -/
def inTrial (s : State) : Bool :=
  decide ((slotOf s s.boot.running).state = .trial) && decide (s.boot.mailbox = [])

/-- Whether a slot's package is deep: its microcode is not the one that runs (R540). -/
def deepPackage (s : State) (n : Nat) : Bool := decide (measurement (slotBytes (slotOf s n)) 3 ≠ s.boot.micro)

/-- The slot that an activation leaves: the fallback if it ran, else as it is (R545). DEDUCED (unsafe, log 136). -/
def leaveSlot (n : Nat) (s : State) : State :=
  setSlot n (fun x => if x.state = .trial ∨ x.state = .confirmed then { x with state := .confirmed } else x) s

/-- UPD_BEGIN (R540). -/
def execUpdBegin (r : Req) (s : State) : Host.Outcome State Fault Refusal :=
  .next (command 0x1201
    (fun r s => needLen 8 r s fun _ =>
      let a := rd r.params 0 1
      let n := rd r.params 4 4
      needForm [(decide (a ≤ 1 ∨ a = 0xFF), 0), (isZero r.params 1 3, 1), (decide (1 ≤ n ∧ n ≤ 41943040), 4)] s fun _ =>
        let k := if a = 0xFF then 1 - s.boot.running else a
        if runsSlot s k ∨ inTrial s ∨ s.boot.openSlot.isSome ∨ s.boot.armed.isSome ∨ (slotOf s k).state = .armed then
          refuse s stBusy 0
        else
          let s1 := setBoot (fun b => { b with openSlot := some k })
            (setSlot k (fun _ => { state := .writing, total := n }) s)
          okay (if hasPartner s then { s1 with twin := { s1.twin with partnerSpareVerified := false } } else s1) (le 1 k)) r s)

/-- Puts bytes at an offset into a list of bytes by offset. -/
def layBytes : Nat → Bytes → List (Nat × Byte) → List (Nat × Byte)
  | _, [], l => l
  | o, b :: t, l => layBytes (o + 1) t (mput l o b)

/-- UPD_WRITE (R540): with the last byte the slot is WRITTEN, and closed. DEDUCED (unsafe, log 131). -/
def execUpdWrite (r : Req) (s : State) : Host.Outcome State Fault Refusal :=
  .next (command 0x1202
    (fun r s =>
      let p := r.params
      let o := rd p 0 4
      let n := rd p 4 4
      if p.length < 8 ∨ p.length ≠ 8 + n then refuse s stBadLength 0xFFFF
      else
        needForm [(decide (1 ≤ n ∧ n ≤ 65496), 4)] s fun _ =>
          match s.boot.openSlot with
          | none => refuse s stNotActive 0
          | some k =>
            if (slotOf s k).total < o + n then refuse s stBadParam 0
            else
              let d := layBytes o (p.drop 8) (slotOf s k).data
              let full := decide (d.length = (slotOf s k).total)
              let s1 := setSlot k (fun x => { x with data := d, state := if full then .written else x.state }) s
              okay (if full then setBoot (fun b => { b with openSlot := none }) s1 else s1) []) r s)

/-- UPD_VERIFY (R534, R540): VERIFIED, or BAD with the status of the first failure. -/
def execUpdVerify (r : Req) (s : State) : Host.Outcome State Fault Refusal :=
  .next (command 0x1203
    (fun r s => needLen 4 r s fun _ =>
      let k := rd r.params 0 1
      needForm [(decide (k ≤ 1), 0), (isZero r.params 1 3, 1)] s fun _ =>
        let x := slotOf s k
        let p := slotBytes x
        if x.state ≠ .written then refuse s stNotActive 0
        else
          match packageRefusal s p with
          | some (st, d) => refuse (setSlot k (fun y => { y with state := .bad }) s) st d
          | none =>
            let y := { slotChecked s.boot p x with state := .verified }
            let s1 := rerandomise (setSlot k (fun _ => y) s)
            let s2 := if hasPartner s then
                { s1 with twin := { s1.twin with partnerSpare := some y.digest, partnerSpareVerified := true } }
              else s1
            okay s2
              (le 1 (y.cls.getD 0xFF) ++ zeros 1 ++ le 2 y.epoch ++ le 4 y.version ++ le 4 y.secVersion ++
                fit 48 (measurement p 1) ++ fit 48 (measurement p 2) ++ fit 48 (measurement p 3))) r s)

/-- What refuses an activation of a slot, in the order of R541; `state` is the state the slot must be in.
DESIGN CHOICE (unsafe, log 132). -/
def activationRefusal (s : State) (k : Nat) (state : SlotState) (outage : Bool) : Option (Nat × Nat) :=
  let x := slotOf s k
  let deep := deepPackage s k
  if x.state ≠ state then some (stNotActive, 0)
  else if x.epoch < s.quire.active.minEpoch ∨
      ((s.quire.shadowState = .sealed ∨ s.quire.shadowState = .locked) ∧ x.epoch < s.quire.shadow.minEpoch) then
    some (stFenced, 2)
  else if stagingNow s ∨ inTrial s then some (stBusy, 0)
  else if deep ∧ ¬ hasPartner s ∧ ¬ outage then some (stNotPermitted, 0)
  else if isTwin s ∧ ¬ (deep ∧ ¬ hasPartner s) ∧
      ¬ (partnerFit s ∧ s.twin.partnerSpareVerified ∧ s.twin.partnerSpare = some x.digest) then some (stNotActive, 0)
  else if hasPartner s ∧ s.twin.partnerEpoch < x.minPartner then some (stFenced, 2)
  else none

/-- UPD_ACTIVATE (R541, R542). -/
def execUpdActivate (r : Req) (s : State) : Host.Outcome State Fault Refusal :=
  .next (command 0x1204
    (fun r s => needLen 16 r s fun _ =>
      let p := r.params
      let k := rd p 0 1
      let c := rd p 2 2
      let t := rd p 8 8
      let outage := bit (rd p 1 1) 0
      needForm
        [(decide (k ≤ 1), 0), (decide (rd p 1 1 ≤ 1), 1), (decide (c = 0 ∨ 60 ≤ c), 2), (isZero p 4 4, 4),
          (isScheduled r || decide (t = 0), 8)] s fun _ =>
        match timeCheck r s t 8 with
        | some (st, d) => refuse s st d
        | none =>
          match activationRefusal s k .verified outage with
          | some (st, d) => refuse s st d
          | none =>
            let a : Activation := ⟨k, outage, if c = 0 then 600 else c, if isScheduled r then t * ticksPerNs else 0, isScheduled r, false⟩
            let s1 := setBoot (fun b => { b with armed := some a }) (setSlot k (fun x => { x with state := .armed }) s)
            if isScheduled r then { st := s1, status := stAccepted } else { st := s1, later := some [] }) r s)

/-- UPD_CONFIRM (R545). -/
def execUpdConfirm (r : Req) (s : State) : Host.Outcome State Fault Refusal :=
  .next (command 0x1205
    (fun r s => needLen 8 r s fun _ =>
      let k := rd r.params 0 1
      needForm [(decide (k ≤ 1), 0), (isZero r.params 1 7, 1)] s fun _ =>
        if ¬ (runsSlot s k ∧ (slotOf s k).state = .trial) then refuse s stNotActive 0
        else
          let s1 := setSlot (1 - k) (fun x => { x with state := .verified }) (setSlot k (fun x => { x with state := .confirmed }) s)
          let v := max s.keys.securityCounter (slotOf s k).secVersion
          okay { setBoot (fun b => { b with confirmEnd := none }) s1 with
            keys := { s1.keys with securityCounter := v } } []) r s)

/-- The activation code of UPD_STATUS (Table 18.9). -/
def activationCode (s : State) : Nat :=
  if s.boot.deepPhase ≠ 0 then 3
  else if s.boot.restart.isSome ∨ s.boot.restartDue.isSome then 2
  else if s.boot.armed.isSome then 1
  else if inTrial s then 4 else 0

/-- A slot's record in UPD_STATUS (Table 18.9). -/
def slotStatus (s : State) (n : Nat) : Bytes :=
  let x := slotOf s n
  le 1 n ++ le 1 x.state.code ++ le 1 (if x.cls.isSome then b2n (deepPackage s n) else 0xFF) ++ le 1 x.trialStarts ++ le 2 x.epoch ++ le 2 x.minPartner ++
    le 4 x.version ++ le 4 x.secVersion ++ le 4 x.data.length ++ zeros 4 ++ fit 48 x.digest

/-- UPD_STATUS (Table 18.9). -/
def execUpdStatus (r : Req) (s : State) : Host.Outcome State Fault Refusal :=
  .next (command 0x1206
    (fun r s => needLen 0 r s fun _ =>
      let b := s.boot
      okay s
        (le 1 b.running ++ le 1 (b.openSlot.getD 0xFF) ++ le 1 (activationCode s) ++ zeros 1 ++
          le 4 (b.confirmEnd.elim 0xFFFFFFFF fun t => (t - now s) / ticksPerSec) ++
          le 8 (b.armed.elim 0 fun a => nsOf a.time) ++ le 4 s.keys.securityCounter ++ le 2 b.epoch ++ zeros 2 ++
          slotStatus s 0 ++ slotStatus s 1)) r s)

/-! ### Case images (R536, R537, R539, Table 18.7) -/

/-- A case in flash. -/
def caseOf (s : State) (n : Nat) : Bytes := if n = 0 then s.boot.factoryCase else s.boot.userCase

/-- Puts a case into flash. -/
def setCase (n : Nat) (b : Bytes) (s : State) : State :=
  setBoot (fun x => if n = 0 then { x with factoryCase := b } else { x with userCase := b }) s

/-- The first byte of a case image that breaks Table 18.7, if any. DESIGN CHOICE (unsafe, log 133). -/
def caseFault (n : Nat) (b : Bytes) : Option Nat :=
  firstBad
    [(decide (rd b 0 4 = 0x45534143), 0), (decide (rd b 4 2 = 1), 4), (decide (rd b 6 1 = n), 6), (isZero b 7 1, 7),
      (decide (0x20 + rd b 8 4 + signLen = b.length), 8), (isZero b 0xC 4, 0xC), (isZero b 0x18 8, 0x18)]

/-- The quire of a case image, if it has the form of R65 and R67; every folio this firmware knows is of version 1.
DESIGN CHOICE (unsafe, log 133). -/
def caseQuire (b : Bytes) : Option Quire :=
  let img := slice b 0x20 (rd b 8 4)
  let q := quireOfImage img
  let bodies := (List.range 21).all fun i =>
    let d := 32 + 16 * i
    decide (rd img d 2 = i + 1) && bodyForm (i + 1) (slice img (rd img (d + 4) 4) (rd img (d + 8) 4))
  if bodies && decide (quireImage q = img) then some q else none

/-- The failure of a case image, as status and detail (R124, R536). DESIGN CHOICE (unsafe, log 133). -/
def caseRefusal (s : State) (n : Nat) (b : Bytes) : Option (Nat × Nat) :=
  match caseFault n b with
  | some o => some (stBadParam, o)
  | none =>
    if ¬ signPasses s 4 (signed b).1 (signed b).2 then some (stNotPermitted, 0)
    else
      match caseQuire b with
      | none => some (stBadParam, 0xFFFF)
      | some q => (sealCheck s q).map fun f => (f.1, 2048 * f.2.1 + min f.2.2 0x7FF)

/-- CAS_WRITE (R536). DESIGN CHOICE (unsafe, log 133). -/
def execCasWrite (r : Req) (s : State) : Host.Outcome State Fault Refusal :=
  .next (command 0x1207
    (fun r s =>
      let p := r.params
      let c := rd p 0 1
      let op := rd p 1 1
      let o := rd p 4 4
      let n := rd p 8 4
      let data := if op = 2 then n else 0
      if p.length < 12 ∨ p.length ≠ 12 + data then refuse s stBadLength 0xFFFF
      else
        needForm
          [(decide (c ≤ 1), 0), (decide (1 ≤ op ∧ op ≤ 4), 1), (isZero p 2 2, 2), (decide (op = 2 ∨ o = 0), 4),
            (decide (if op ≤ 2 then 1 ≤ n else n = 0), 8)] s fun _ =>
          if c = 0 ∧ r.port ≠ portFactory then refuse s stNotPermitted r.port
          else
            let mine := s.boot.building.filter fun b => decide (b.which = c)
            match op with
            | 1 =>
              if 16777216 < n then refuse s stNoCapacity 0
              else okay (setBoot (fun b => { b with building := some ⟨c, n, []⟩ }) (setCase c [] s)) []
            | 2 =>
              match mine with
              | none => refuse s stNotActive 0
              | some b =>
                if b.length < o + n then refuse s stBadParam 4
                else okay (setBoot (fun x => { x with building := some { b with data := layBytes o (p.drop 12) b.data } }) s) []
            | 3 =>
              match mine with
              | none => refuse s stNotActive 0
              | some b =>
                let img := b.data.map (·.2)
                let s1 := setBoot (fun x => { x with building := none }) s
                if b.data.length ≠ b.length then refuse s1 stBadParam 0xFFFF
                else
                  match caseRefusal s c img with
                  | some (st, d) => refuse s1 st d
                  | none => okay (rerandomise (setCase c img s1)) []
            | _ =>
              okay (setBoot (fun x => { x with building := if mine.isSome then none else x.building }) (setCase c [] s)) []) r s)

/-- CAS_READ (R536). -/
def execCasRead (r : Req) (s : State) : Host.Outcome State Fault Refusal :=
  .next (command 0x1208
    (fun r s => needLen 12 r s fun _ =>
      let c := rd r.params 0 1
      let o := rd r.params 4 4
      let n := rd r.params 8 4
      needForm [(decide (c ≤ 1), 0), (isZero r.params 1 3, 1), (decide (1 ≤ n ∧ n ≤ 65504), 8)] s fun _ =>
        let b := caseOf s c
        if b = [] then refuse s stNotActive 0
        else if b.length < o + n then refuse s stBadParam 4
        else okay s (slice b o n)) r s)

end Sys2Proof.Machine
end

