-- ==== Sys2Proof/Machine/Boot.lean ====
section
/-! DEFINITION. Chip resets, start-up, the control-plane restart, activation and the deep choreography (chapter 18). -/

namespace Sys2Proof.Machine

/-! ### Chip reset (R528) -/

/-- The pending bits of the sources whose signal code is 5, which a chip reset keeps (R520). -/
def errnMask (s : State) : BitVec 1280 :=
  BitVec.ofNat 1280 (((List.range 1280).filter fun k => decide (reactionOf s k % 16 = 5)).map fun k => 2 ^ k).sum

/-- The event collector after a chip reset: the retained bits, the dumps and the last-gasp records (R520, R523, R524);
after power-up the flash ring alone. -/
def eventsKept (powerUp : Bool) (s : State) : Events :=
  let e := s.ev
  if powerUp then { flashRing := e.flashRing, flashCopied := e.flashCopied }
  else
    { pend := e.pend &&& errnMask s, errn := e.errn, half0 := e.half0, half1 := e.half1, dumps := e.dumps
      retention := e.retention, flashRing := e.flashRing, flashCopied := e.flashCopied, gaspSerial := e.gaspSerial
      gaspCopied := e.gaspCopied }

/-- A slot across a chip reset: an activation that the reset overtook is VERIFIED again, a slot being written no longer
open. DEDUCED (unsafe, log 136). -/
def slotKept (x : FwSlot) : FwSlot := if x.state = .armed then { x with state := .verified } else x

/-- The chip in reset (R528): flash and fuses stay; after a chip reset that is no power-up the colophon region and its key,
the last-gasp ring and the retained pending bits as well. `pin` is the level of RESET_N.
DEDUCED (unsafe, log 140). DESIGN CHOICE (unsafe, log 158). -/
def chipReset (powerUp pin : Bool) (s : State) : State :=
  let b := s.boot
  let k := s.keys
  { pending := s.pending, out := s.out, free := s.free
    ev := eventsKept powerUp s
    boot :=
      { straps := b.straps, bootSrc := b.bootSrc, side := b.side, foldAddr := b.foldAddr, inReset := true, resetN := pin, bootCount := if powerUp then 0 else b.bootCount, running := b.running, slotA := slotKept b.slotA
        slotB := slotKept b.slotB, deepPhase := b.deepPhase, deepSlot := b.deepSlot, confirmS := b.confirmS
        factoryCase := b.factoryCase, userCase := b.userCase }
    keys :=
      { k with
        slots := k.slots.filter fun p => decide (p.1 = 3 ∨ p.1 = 4 ∨ p.1 = 6)
        healthy := true, reseedTime := 0, requests := 0, shareTime := 0, dataKey := []
        colophonKey := if powerUp then [] else k.colophonKey, engine := [], serving := none, boundary := 0 }
    host := { perst := s.host.perst }
    power :=
      { s.power with
        requestedMv := if powerUp then 800 else s.power.requestedMv, lastRequest := none, slewUntil := none, attempts := 0, avsFailed := false, boosted := false
        waiting := [], admitted := [] }
    dram := { colophon := if powerUp then 0xFF else s.dram.colophon } }

/-- RESET_ASSERT (R528, R591): a low on RESET_N shorter than 1 µs is ignored. -/
def execResetAssert (lowNs : Nat) (s : State) : Host.Outcome State Fault Refusal :=
  .next (if lowNs < 1000 then s else chipReset false false s)

/-- A planned chip reset into a slot (R528, R548): EV1217, a last-gasp record, and the slot TRIAL; a slot that is CONFIRMED is
fallen back to, and the abandoned one BAD (R546). -/
def plannedReset (k : Nat) (s : State) : State :=
  let s1 := raise 1217 k 0 s
  let s2 := { s1 with ev := writeGasp (lastGasp s1 1217 k 0 (reactionOf s1 1217) false) s1.ev }
  if (slotOf s2 k).state = .confirmed then
    setBoot (fun b => { b with fallbackFlag := true }) (chipReset false true (setSlot (1 - k) (fun x => { x with state := .bad }) s2))
  else chipReset false true (setSlot k (fun x => { x with state := .trial, trialStarts := 0 }) (leaveSlot (1 - k) s2))

/-- CHIP_RESET (R528): a planned reset that is due, one that the holder's state copy brings to a standby at this instant
(`copied`, its slot; R547 phase 1), or the reset after a fatal error on a device with no colophon region. DESIGN CHOICE
(unsafe, log 139). -/
def execChipReset (copied : Option Nat) (s : State) : Host.Outcome State Fault Refusal :=
  .next
    (match copied, s.boot.plannedReset with
     | some k, none =>
       if s.twin.role = .standby ∧ ((slotOf s k).state = .verified ∨ (slotOf s k).state = .confirmed) then
         plannedReset k (setBoot (fun b => { b with deepPhase := 2, deepSlot := k }) s)
       else s
     | _, some k => plannedReset k s
     | none, none =>
       match s.ev.fatal with
       | some _ =>
         if s.dram.colophon = 0xFF ∨ ¬ inService s s.dram.colophon then
           chipReset false s.boot.resetN s
         else s
       | none => s)

/-- COLOPHON_WRITE_DONE (R522): the dump is in its half, whole or cut short in a section, and the chip resets; it stays in
reset after THERMAL_TRIP or BROWNOUT until the condition has cleared. -/
def execColophonWriteDone (cut : Option (Nat × Nat)) (s : State) : Host.Outcome State Fault Refusal :=
  .next
    (match s.ev.fatal with
     | some _ => chipReset false s.boot.resetN (writeColophon cut s)
     | none => s)

/-! ### Start-up (R527 to R538, Table 18.2) -/

/-- Start-up cannot continue (R530). DEDUCED (unsafe, log 135). -/
def bootHalt (code : Nat) (s : State) : State :=
  let ev := { s.ev with errn := true, errnSince := if s.ev.errn then s.ev.errnSince else now s }
  notifyStatus s { setBoot (fun b => { b with stage := 15, halt := code, ready := false }) s with ev := ev }

/-- The SYSREF frequencies in kHz (R374). -/
def sysrefKhz : List Nat :=
  [10000, 12800, 19200, 20000, 25000, 38400, 40000, 50000, 80000, 100000, 120000, 150000, 160000, 200000]

/-- Whether SYSREF is identified: within 1,000 ppm of a frequency of the list (R374). -/
def sysrefKnown (hz : Nat) : Bool :=
  sysrefKhz.any fun k => decide (k * 999000 ≤ hz * 1000 ∧ hz * 1000 ≤ k * 1001000)

/-- Step 1: the straps are sampled and the boot ROM runs (R527); starts are counted. -/
def sampleStraps (i : BootIn) (s : State) : State :=
  setBoot (fun b =>
    { b with
      straps := i.bootSrc % 4 + 4 * (i.side % 2) + 8 * (i.foldAddr % 64), bootSrc := i.bootSrc % 4, side := i.side % 2
      foldAddr := i.foldAddr % 64, inReset := false, resetN := true, stage := 1, halt := 0
      bootCount := if b.bootCount = 255 then 255 else b.bootCount + 1 }) s

/-- Step 4: an interrupted transition is completed; the random source has been tested (R486, R493). -/
def readFuses (entropy : Bool) (s : State) : State :=
  let s1 := match s.keys.transition with
    | some t => finishTransition t s
    | none => s
  setKeys (fun k => { k with healthy := entropy }) s1

/-- The fused digest of a root's public key, empty while unburnt. -/
def rootFuse (k : Keys) (n : Nat) : Bytes := if n = 0 then k.vendorFuse else if n = 1 then k.ownerFuse else k.returnFuse

/-- Step 5: a root public key whose digest is the fused one is loaded into its slot (R487).
DESIGN CHOICE (unsafe, log 106). DESIGN CHOICE (unsafe, log 109). -/
def loadRoots (s : State) : State :=
  (List.range 3).foldl (fun t n =>
    match Config.rootKey n with
    | some p =>
      if rootFuse t.keys n ≠ [] ∧ sha384 p = rootFuse t.keys n then
        setKey n
          { state := .fixed, alg := 5, world := 1, lcsMask := if n = 0 then 3 else if n = 1 then 12 else 16, master := 0xF001
            keyId := keyIdOf 5 p p, key := p, pub := p } t
      else t
    | none => t) s

/-- Whether a slot's package passes at start (R501, R533). -/
def slotGood (s : State) (n : Nat) : Bool :=
  let p := slotBytes (slotOf s n)
  (packageFault p).isNone && packageSigned s p

/-- The slot in a state, if there is one. -/
def slotIn (s : State) (st : SlotState) : Option Nat := [0, 1].find? fun n => decide ((slotOf s n).state = st)

/-- choose_slot (R533): the slot to start, none for a halt, and the state with what the choice marks. -/
def chooseSlot (s : State) : Option Nat × State :=
  let confirmed (t : State) : Option Nat × State :=
    ((slotIn t .confirmed).filter fun n => slotGood t n, t)
  match slotIn s .trial with
  | some n =>
    let x := slotOf s n
    if x.trialStarts < 3 ∧ slotGood s n then (some n, setSlot n (fun y => { y with trialStarts := y.trialStarts + 1 }) s)
    else
      confirmed (raise 1216 n (if x.trialStarts < 3 then 1 else 2)
        (setBoot (fun b => { b with fallbackFlag := true }) (setSlot n (fun y => { y with state := .bad }) s)))
  | none => confirmed s

/-- Step 6: the loader, microcode and Vegen of a package are in place (R501). -/
def loadImages (p : Bytes) (s : State) : State :=
  setBoot (fun b =>
    { b with
      stage := 2, epoch := rd p 8 2, vegenVersion := rd p 0xC 4, loader := measurement p 1, vegen := measurement p 2
      micro := measurement p 3 }) s

/-- Step 7: the groups are trained in turn; the colophon region is found again, or a dump in one that is lost goes (R234,
R243, R244). DESIGN CHOICE (unsafe, log 137). -/
def trainAll (fails : List (Nat × Nat)) (s : State) : State :=
  let s1 := (List.range 4).foldl (fun t g => trainGroup g fails t) (setBoot (fun b => { b with stage := 3 }) s)
  let c := if inService s1 3 then 3 else if inService s1 2 then 2 else 0xFF
  let s2 := { s1 with dram := { s1.dram with colophon := c } }
  let s3 := if s.dram.colophon = c then s2 else setEv (fun e => { e with half0 := {}, half1 := {} }) s2
  if c = 0xFF then raise 580 0 0 s3 else s3

/-- Last-gasp records not yet in flash are copied there (R524). -/
def copyGasps (s : State) : State :=
  let e := s.ev
  let new := e.retention.filter fun g => serialAfter g.serial e.gaspCopied
  setEv (fun x =>
    { x with
      flashRing := keepLast 256 (x.flashRing ++ new), flashCopied := x.flashCopied + new.length, gaspCopied := x.gaspSerial
      lastGaspFlag := x.lastGaspFlag || decide (new ≠ [])
      gaspAt := if new ≠ [] then some (now s) else x.gaspAt }) s

/-- KS005, derived afresh (R494). -/
def deriveWrap (s : State) : State :=
  let key := Config.hkdf [] Config.uniqueSecret (ascii "DXK wrap" ++ le 1 (rootGen (lifeCycle s))) 32
  setKey 5 { state := .fixed, alg := 2, world := 4, lcsMask := 31, master := 0xF002, keyId := keyIdOf 2 key [], key := key } s

/-- Persistent slots are restored from flash; one whose record fails its tag is DAMAGED (R492, EV1169).
DESIGN CHOICE (unsafe, log 137). -/
def restoreKeys (bad : List Nat) (s : State) : State :=
  s.keys.flash.foldl (fun t p =>
    if bad.contains p.1 then raise 1169 p.1 0 (setKey p.1 { p.2 with state := .damaged, key := [], pub := [] } t)
    else setKey p.1 p.2 t) s

/-- Steps 8 and 9: the DRAM keys are drawn, free values (R236, R507), Vegen starts, keys are restored, the synthesisers run
(R375). -/
def startVegen (bad : List Nat) (s : State) : State :=
  let s1 := copyGasps (setBoot (fun b => { b with stage := 4 }) s)
  let s2 := setKeys (fun k =>
    { k with
      wrapGen := rootGen k.lifeCycle, dataKey := fit 64 (Config.freeBytes s1.free)
      colophonKey := if k.colophonKey = [] then fit 64 (Config.freeBytes (s1.free + 1)) else k.colophonKey })
    { s1 with free := s1.free + 2 }
  [9, 10, 11, 12, 13].foldl (fun t d => gateEffects d true (setSynth d 2 t)) (restoreKeys bad (deriveWrap s2))

/-- The start quire, its source code of Table 18.4, and the state with EV1218 for each case that is not usable (R537).
DESIGN CHOICE (unsafe, log 134). -/
def chooseCase (s : State) : (Quire × Nat) × State :=
  let try_ (n : Nat) (t : State) : Option Quire × State :=
    let b := caseOf t n
    if b = [] then (none, t)
    else if (caseRefusal t n b).isSome then (none, raise 1218 0xFFFF (65536 + n) t)
    else (caseQuire b, t)
  let user := if s.boot.bootSrc = 1 then (none, s) else try_ 1 s
  match user.1 with
  | some q => ((q, 2), user.2)
  | none =>
    let fac := try_ 0 user.2
    match fac.1 with
    | some q => ((q, 1), fac.2)
    | none => (({}, 0), fac.2)

/-- The active quire as start-up leaves it (R538): every class N item still at its default, but the stitch lanes' entries,
which make the device a twin (R448). DESIGN CHOICE (unsafe, log 138). -/
def startActive (q : Quire) : Quire :=
  [64, 65, 66, 67].foldl (fun a l => takeEntry fFabric l q a) (mixQuires {} q)

/-- Step 10: the start quire becomes the active quire; its class N items are to be staged (R537, R538).
DESIGN CHOICE (unsafe, log 138). -/
def loadQuire (s : State) : State :=
  let c := chooseCase (setBoot (fun b => { b with stage := 5 }) s)
  let q := c.1.1
  let s1 := setQuires (fun _ =>
    { active := startActive q, baseDigest := sha384 (quireImage q), target := q, staging := stageList {} q }) c.2
  instantChange {} (now s1) (setBoot (fun b => { b with caseSource := c.1.2 }) s1)

/-- Command-ready (R529, R455, R474): READY, the twin role, where the flock's sequences start, and the confirm timer of a
TRIAL slot outside a choreography. DESIGN CHOICE (unsafe, log 63). DEDUCED (unsafe, log 136). -/
def commandReady (s : State) : State :=
  let s1 := setBoot (fun b =>
    { b with
      stage := 6, ready := true, startTime := now s
      confirmEnd := if inTrial s ∧ b.deepPhase = 0 then some (now s + b.confirmS * ticksPerSec) else none }) s
  let h := { s1.host with fold := { s1.host.fold with heardAt := now s1 } }
  let f := { s1.flock with nextSeq := nowNs s1 }
  let s2 := { s1 with host := h, flock := f }
  let s3 := if isTwin s2 then setTwin (fun x => { x with role := .starting, startedAt := now s2 }) s2
    else setTwin (fun x => { x with role := .single }) s2
  notifyStatus s s3

/-- Steps 6 to 10, once the images to run are known. -/
def finishStart (p : Bytes) (fails : List (Nat × Nat)) (bad : List Nat) (s : State) : State :=
  let s1 := trainAll fails (loadImages p s)
  if ¬ inService s1 0 ∧ ¬ inService s1 1 then bootHalt 6 s1
  else commandReady (loadQuire (startVegen bad s1))

/-- Steps 1 to 5, and from a slot's images the rest; with BOOT_SRC 0b10 the ROM waits for the host's package (R535).
DEDUCED (unsafe, log 12). DEDUCED (unsafe, log 135). -/
def startUp (i : BootIn) (s : State) : State :=
  let s1 := sampleStraps i s
  if i.bootSrc % 4 = 3 then bootHalt 8 s1
  else if ¬ sysrefKnown i.sysref then bootHalt 1 s1
  else if ¬ i.mdll then bootHalt 2 s1
  else
    let s2 := readFuses i.entropy s1
    if ¬ i.entropy then bootHalt 4 s2
    else if lifeCycle s2 = 5 then bootHalt 7 s2
    else if ¬ i.flash then bootHalt 9 s2
    else
      let s3 := loadRoots s2
      if (keySlot s3 (rootSlot s3)).state = .empty then bootHalt 3 s3
      else if i.bootSrc % 4 = 2 then setBoot (fun b => { b with stage := 2, recovery := true }) s3
      else
        let c := chooseSlot s3
        match c.1 with
        | none => bootHalt 5 c.2
        | some n =>
          finishStart (slotBytes (slotOf c.2 n)) i.fails i.badKeys
            (setBoot (fun b => { b with running := n }) (setSlot n (slotChecked c.2.boot (slotBytes (slotOf c.2 n))) c.2))

/-- RESET_RELEASE (R529): RESET_N is released, or the chip's own reset ends, and start-up runs.
DESIGN CHOICE (unsafe, log 5). DEDUCED (unsafe, log 12). DESIGN CHOICE (unsafe, log 137). -/
def execResetRelease (b : BootIn) (s : State) : Host.Outcome State Fault Refusal :=
  .next (if s.boot.inReset ∧ ¬ s.power.thermalHold ∧ ¬ s.power.brownHold then startUp b s else s)

/-- BOOT_STATUS_WRITE (R531): fallback is W1C. -/
def execBootStatusWrite (value : Nat) (s : State) : Host.Outcome State Fault Refusal :=
  .next (setBoot (fun b => { b with fallbackFlag := b.fallbackFlag && !bit value 14 }) s)

/-! ### Host recovery (R535, R550) -/

/-- MBOX_FETCH_DONE (R535, R550): the package as read by DMA, none after a DMA error; checked as a slot is, it starts, or
start-up halts with code 0x05. -/
def execMboxFetchDone (package : Option Bytes) (fails : List (Nat × Nat)) (badKeys : List Nat) (s : State) :
    Host.Outcome State Fault Refusal :=
  .next
    (let end_ (ok : Bool) (t : State) : State :=
       { t with host := { t.host with mbox := { t.host.mbox with busy := false, done := ok, error := !ok } } }
     if ¬ s.host.mbox.busy then s
     else
       match package with
       | some p =>
         if p.length = s.host.mbox.len ∧ (packageFault p).isNone ∧ packageSigned s p then
           finishStart p fails badKeys (setBoot (fun b => { b with mailbox := p }) (end_ true s))
         else bootHalt 5 (end_ false s)
       | none => bootHalt 5 (end_ false s))

/-! ### The hitless control-plane restart (R543, R544, Table 18.10) -/

/-- CONTROL_PLANE_RESTART (R514, R543): a restart decided on, or the restart a trap asks for, begins. -/
def execControlPlaneRestart (s : State) : Host.Outcome State Fault Refusal :=
  .next
    (let go (slot : Option Nat) (back : Bool) (t : State) : State :=
       freezeData (notifyStatus t (setBoot (fun b =>
         { b with restartDue := none, restart := some ⟨now t, slot, back⟩, stage := 7 }) t))
     if ¬ vegenUp s then s
     else
       match s.boot.restartDue with
       | some (k, back) => go (some k) back (if back then s else raise 1218 k 0x30000 s)
       | none => if s.ev.trap then go none false (setEv (fun e => { e with trap := false }) s) else s)

/-- A slot that the restart starts: its images run, its state and the other's follow (R545, R546).
DEDUCED (unsafe, log 135). -/
def runSlot (k : Nat) (back : Bool) (s : State) : State :=
  let p := slotBytes (slotOf s k)
  let s1 := if back then s
    else setSlot k (fun x => { x with state := .trial, trialStarts := 0 }) (leaveSlot (1 - k) s)
  setBoot (fun b =>
    { b with
      running := k, mailbox := [], epoch := rd p 8 2, vegenVersion := rd p 0xC 4, vegen := measurement p 2
      confirmEnd := if back then none else some (now s + b.confirmS * ticksPerSec) }) s1

/-- REPORTs held through the restart are sent, and AID records received in it are taken (Table 18.11).
DEDUCED (unsafe, log 140). -/
def sendDelayed (s : State) : State :=
  let s1 := s.flock.delayed.foldl (fun t b => flockSend true 2 1 b t)
    { s with flock := { s.flock with delayed := [], aids := [] } }
  s.flock.aids.foldl (fun t p => takeAid p t) s1

/-- VEGEN_REGISTER (R543): Vegen registers within 5 s; commands held can start, and what Table 18.11 holds goes on. -/
def execVegenRegister (s : State) : Host.Outcome State Fault Refusal :=
  .next
    (match s.boot.restart with
     | none => s
     | some r =>
       if s.ev.fatal.isSome ∨ r.since + 5 * ticksPerSec ≤ now s then s
       else
         let late := (now s - (r.since + 3 * ticksPerSec)) / ticksPerMs
         let s1 := setBoot (fun b => { b with restart := none, stage := 6 }) s
         let s2 := match r.forSlot with
           | some k => runSlot k r.fallback s1
           | none => s1
         let s3 := if r.since + 3 * ticksPerSec < now s then
             raise 1218 (r.forSlot.getD s.boot.running) (0x60000 + min late 0xFFFF) s2
           else s2
         let s4 := notifyStatus s (solvePaused (sendDelayed (startUnknown s3.cmds.waiting.length s3)))
         match r.forSlot with
         | some _ =>
           (s4.cmds.deferred.filter fun w => decide (w.opcode = 0x1204)).foldl
             (fun t w => answerDeferred 0x1204 w.req.port w.req.seq (fun _ u => okay u []) t) s4
         | none => s4)

/-! ### Activation (R541, R546, R547) -/

/-- Answers an unscheduled UPD_ACTIVATE. -/
def answerActivation (status detail : Nat) (s : State) : State :=
  (s.cmds.deferred.filter fun w => decide (w.opcode = 0x1204)).foldl
    (fun t w => answerDeferred 0x1204 w.req.port w.req.seq
      (fun _ u => { st := u, status := status, detail := detail }) t) s

/-- Starts the activation of a slot: a restart for a hitless package; for a deep one the choreography, or a planned reset on
a device with no partner. -/
def startActivation (a : Activation) (s : State) : State :=
  let s1 := copyItem (.activated false a.confirmS) (setBoot (fun b => { b with armed := none, confirmS := a.confirmS }) s)
  if ¬ deepPackage s a.slot then setBoot (fun b => { b with restartDue := some (a.slot, false) }) s1
  else if hasPartner s then answerActivation stOk 0 (setBoot (fun b => { b with deepPhase := 1, deepSlot := a.slot }) s1)
  else answerActivation stOk 0 (setBoot (fun b => { b with plannedReset := some a.slot }) s1)

/-- UPDATE_ACTIVATION_DUE (R541): the armed activation's time has come, and the checks are made again; it waits for staging
to end, and any other failure gives the slot back. -/
def execUpdateActivationDue (s : State) : Host.Outcome State Fault Refusal :=
  .next
    (match s.boot.armed with
     | none => s
     | some a =>
       if now s < a.time ∨ ¬ vegenUp s then s
       else if stagingNow s then
         if a.waits then s
         else raise 1218 a.slot 0x20000 (setBoot (fun b => { b with armed := some { a with waits := true } }) s)
       else
         match activationRefusal s a.slot .armed a.allowOutage with
         | some (st, d) =>
           answerActivation st d (raise 1218 a.slot (0x40000 + st)
             (setBoot (fun b => { b with armed := none }) (setSlot a.slot (fun x => { x with state := .verified }) s)))
         | none => startActivation a s)

/-- CONFIRM_TIMER_EXPIRY (R546): EV1219, and the fallback: EV1216, the trial slot BAD, and the other slot's images run, by a
restart, the choreography, or a chip reset. DEDUCED (unsafe, log 136). -/
def execConfirmTimerExpiry (s : State) : Host.Outcome State Fault Refusal :=
  .next
    (match s.boot.confirmEnd with
     | none => s
     | some t =>
       let k := s.boot.running
       if now s < t ∨ ¬ inTrial s ∨ ¬ vegenUp s ∨ (isTwin s ∧ ¬ holdsCrook s) then s
       else
         let deep := deepPackage s (1 - k)
         let s1 := raise 1216 k (Config.code 1216 0) (raise 1219 k 0 s)
         let s2 := setSlot k (fun x => { x with state := .bad }) (copyItem (.activated true 0) s1)
         setBoot (fun b =>
           { b with
             confirmEnd := none, fallbackFlag := true
             restartDue := if deep then b.restartDue else some (1 - k, true)
             deepPhase := if deep ∧ hasPartner s then 1 else b.deepPhase
             deepSlot := if deep ∧ hasPartner s then 1 - k else b.deepSlot
             plannedReset := if deep ∧ ¬ hasPartner s then some (1 - k) else b.plannedReset }) s2)

/-- Whether a phase of the choreography has completed, as this device sees it (R547): 1 the standby has reset, 2 it is STANDBY
again, 3 the crook has changed hands, 4 both are in place. DESIGN CHOICE (unsafe, log 139). -/
def phaseDone (s : State) (p : Nat) : Bool :=
  match p with
  | 1 => decide (s.twin.role = .solo)
  | 2 => decide (s.twin.partnerRole = some .standby) && s.fabric.stitch.active && s.twin.role.holds
  | 3 => true
  | _ => decide (s.twin.partnerRole = some .standby) && s.twin.role.holds

/-- What follows a phase (R547): after the second the holder yields; after the third the former holder makes its planned
reset and the new one waits; after the fourth the confirm timer runs on the holder. -/
def nextPhase (p : Nat) (s : State) : State :=
  match p with
  | 1 => setBoot (fun b => { b with deepPhase := 2 }) s
  | 2 => setTwin (fun x => { x with stopped := true }) (setBoot (fun b => { b with deepPhase := 3 }) s)
  | 3 =>
    if s.twin.role.holds then setBoot (fun b => { b with deepPhase := 4 }) s
    else setBoot (fun b => { b with deepPhase := 0, plannedReset := some b.deepSlot }) s
  | _ =>
    setBoot (fun b =>
      { b with
        deepPhase := 0
        confirmEnd := if inTrial s then some (now s + b.confirmS * ticksPerSec) else none }) s

/-- DEEP_UPDATE_PHASE (R547): phase `phase` of the choreography has completed, or with `good` false has failed, which stops
the choreography with EV1218. The twin that was updated first joins at the third phase, when it holds the crook. DESIGN
CHOICE (unsafe, log 139). -/
def execDeepUpdatePhase (phase : Nat) (good : Bool) (s : State) : Host.Outcome State Fault Refusal :=
  .next
    (let here := decide (s.boot.deepPhase = phase) || (decide (s.boot.deepPhase = 2 ∧ phase = 3) && s.twin.role.holds)
     if s.boot.deepPhase = 0 ∨ ¬ here ∨ phase = 0 then s
     else if ¬ good then raise 1218 s.boot.deepSlot (0x50000 + phase) (setBoot (fun b => { b with deepPhase := 0 }) s)
     else if phase = 3 ∧ s.twin.role.holds ∧ s.boot.deepPhase = 3 then s
     else if phaseDone s phase then nextPhase phase s else s)

end Sys2Proof.Machine
end

