-- ==== Sys2Proof/Machine/HostIf.lean ====
section
/-! DEFINITION. The PCIe function: queue pairs, interrupts, the packet ring, and the register window (R549 to R557). -/

namespace Sys2Proof.Machine

/-- Changes the host interface. -/
def setHost (f : Host19 → Host19) (s : State) : State := { s with host := f s.host }

/-! ### Queue pairs (R551 to R555) -/

/-- What an unlisted queue pair is: disabled, at its reset values. DESIGN CHOICE (unsafe, log 10). -/
def noQp : Nat → Qp := fun _ => {}

/-- A queue pair. -/
def qpAt (s : State) (q : Nat) : Qp := mget noQp s.host.qps q

/-- Changes a queue pair. -/
def setQp (q : Nat) (f : Qp → Qp) (s : State) : State := setHost (fun h => { h with qps := mmod noQp h.qps q f }) s

/-- A queue pair stops with a fault; what it has fetched gets no completion entry (R553). DESIGN CHOICE (unsafe, log 143). -/
def qpFault (q cause : Nat) (s : State) : State :=
  setQp q (fun x => { x with fault := true, cause := cause, entries := [] }) s

/-- Whether a queue pair is enabled and not faulted. -/
def qpRuns (x : Qp) : Bool := x.enable && !x.fault

/-- Whether the host reaches the window: the function is out of reset and PERST_N is high. DEDUCED (unsafe, log 18). -/
def hostReaches (s : State) : Bool := !s.boot.inReset && !s.host.perst

/-- An index a host writes to a ring of 2^n: one beyond the ring is a value the spec gives no meaning.
DESIGN CHOICE (safe, log 141). -/
def ringIndex (n v : Nat) (s : State) : Nat × State :=
  if v < 2 ^ n then (v, s) else (Config.freeNat (draw s).1 % 2 ^ n, (draw s).2)

/-- The new tail of a submission ring (R551, R553). -/
def doorbell (q value : Nat) (s : State) : State :=
  let x := qpAt s q
  let v := value % 65536
  if ¬ hostReaches s ∨ 64 ≤ q ∨ ¬ qpRuns x then s
  else if 2 ^ x.sqLog2 ≤ v then qpFault q 1 s
  else setQp q (fun y => { y with sqTail := v }) s

/-- HST_DOORBELL (R551, R553). -/
def execHstDoorbell (q value : Nat) (s : State) : Host.Outcome State Fault Refusal := .next (doorbell q value s)

/-- The new head of a completion ring. DESIGN CHOICE (safe, log 141). DEDUCED (unsafe, log 142). -/
def completionHead (q value : Nat) (s : State) : State :=
  let x := qpAt s q
  if ¬ hostReaches s ∨ 64 ≤ q ∨ ¬ qpRuns x then s
  else
    let r := ringIndex x.cqLog2 (value % 65536) s
    setQp q (fun y => { y with cqHead := r.1 }) r.2

/-- HST_CQ_HEAD (R551, R553). -/
def execHstCqHead (q value : Nat) (s : State) : Host.Outcome State Fault Refusal := .next (completionHead q value s)

/-- A write of HST_QP_CFG (R553, Table 19.10): enabling clears a fault and the indices; a size changed while enabled faults.
DEDUCED (unsafe, log 142). -/
def qpConfigure (v : Nat) (x : Qp) : Qp :=
  let y := { x with sqLog2 := bits v 7 4, cqLog2 := bits v 11 8 }
  let moved := decide (y.sqLog2 ≠ x.sqLog2 ∨ y.cqLog2 ≠ x.cqLog2)
  if ¬ bit v 0 then { y with enable := false, entries := [] }
  else if ¬ x.enable then
    { y with
      enable := true, fault := false, cause := 0, sqHead := 0, sqTail := 0, cqHead := 0, cqTail := 0, phase := true
      unsignalled := 0, firstUnsignalled := 0, entries := [] }
  else if moved ∧ ¬ x.fault then { y with fault := true, cause := 3, entries := [] }
  else y

/-- HST_QP_CFG_WRITE (R553). -/
def execHstQpCfgWrite (q value : Nat) (s : State) : Host.Outcome State Fault Refusal :=
  .next (if ¬ hostReaches s ∨ 64 ≤ q then s else setQp q (qpConfigure value) s)

/-- Whether a completion ring is full (Table 19.11). DEDUCED (unsafe, log 142). -/
def cqFull (x : Qp) : Bool := decide (ringNext x.cqLog2 x.cqTail = x.cqHead)

/-- Whether a queue pair fetches: running, with entries, room for completions and in the hold buffer (R553, R554), and the
device takes commands from it (Table 18.2, R530). DEDUCED (unsafe, log 18). DEDUCED (unsafe, log 135). -/
def mayFetch (s : State) (q : Nat) : Bool :=
  let x := qpAt s q
  hostReaches s && decide (q < 64) && qpRuns x && decide (x.sqHead ≠ x.sqTail) && !cqFull x && !holdFull s &&
    (s.boot.ready || (decide (s.boot.stage = 15 ∧ q = 0) && decide (s.boot.halt ∈ [3, 5, 6, 7, 9])))

/-- The answers that wait for a queue pair go to the oldest of its entries that each answers; an answer no entry waits for
goes nowhere (R553). DEDUCED (unsafe, log 144). -/
def settleReplies (q : Nat) (s : State) : State :=
  let mine := s.host.replies.filter fun r => decide (r.q = q)
  let answer (p : Option Bytes) : QpAnswer := match p with
    | some b => .reply b
    | none => .noReply
  let give (l : List QpEntry) (r : QpReply) : List QpEntry :=
    updFirst (fun e => decide (e.seq = r.seq ∧ e.answer = .waits)) (fun e => { e with answer := answer r.packet }) l
  setHost (fun h => { h with replies := h.replies.filter fun r => decide (r.q ≠ q) })
    (setQp q (fun x => { x with entries := mine.foldl give x.entries }) s)

/-- A consumed entry (Table 19.8): the head moves past it. -/
def consume (q : Nat) (e : Bytes) (seq : Nat) (a : QpAnswer) (s : State) : State :=
  setQp q (fun x =>
    let h := ringNext x.sqLog2 x.sqHead
    { x with
      sqHead := h
      entries := x.entries ++ [⟨rd e 0xC 2, rd e 0x10 8, rd e 0x18 4, now s, seq, a, h⟩] }) s

/-- The answer a command got while it was received belongs to the entry just consumed. DEDUCED (unsafe, log 144). -/
def settleNewest (q : Nat) (s : State) : State :=
  match (s.host.replies.filter fun r => decide (r.q = q)).getLast? with
  | none => s
  | some r =>
    let a : QpAnswer := match r.packet with
      | some b => .reply b
      | none => .noReply
    setHost (fun h => { h with replies := h.replies.filter fun x => decide (x.q ≠ q) })
      (setQp q (fun x => { x with entries := updLast (fun _ => true) (fun e => { e with answer := a }) x.entries }) s)

/-- SUBMISSION_FETCH (R551, R552, R554): the entry and the command packet as read by DMA, none where the read failed.
DESIGN CHOICE (unsafe, log 143). -/
def execSubmissionFetch (q : Nat) (entry packet : Option Bytes) (s : State) : Host.Outcome State Fault Refusal :=
  .next
    (if ¬ mayFetch s q then s
     else
       match entry with
       | none => qpFault q 2 s
       | some e =>
         let len := rd e 8 4
         let cap := rd e 0x18 4
         if len < 32 ∨ 65536 < len ∨ (cap ≠ 0 ∧ cap < 32) then consume q e 0 .refused s
         else
           match packet with
           | none => qpFault q 2 s
           | some p =>
             let pkt := fit len p
             settleNewest q (receivePacket (.qp q) pkt (consume q e (rd pkt 8 8) .waits (settleReplies q s))))

/-- The bytes of a completion entry (Table 19.9). -/
def completionEntry (e : QpEntry) (outcome len : Nat) (phase : Bool) : Bytes :=
  le 2 e.tag ++ le 1 outcome ++ le 1 (b2n phase) ++ le 4 len ++ le 4 (nsOf e.receipt % 2 ^ 32) ++ le 2 e.sqHead ++ zeros 2

/-- What an answer writes: the outcome, the reply's full length, the bytes written to the host (R552). -/
def answerParts (cap : Nat) (a : QpAnswer) : Nat × Nat × Bytes :=
  match a with
  | .reply p => (if p.length ≤ cap then 0 else 1, p.length, p.take cap)
  | .refused => (3, 0, [])
  | _ => (2, 0, [])

/-- The queue-pair vector is sent, and nothing is unsignalled (R555). -/
def signalQp (q : Nat) (s : State) : State := sendMsi q (setQp q (fun x => { x with unsignalled := 0 }) s)

/-- One more unsignalled entry: the vector goes at the count, or at once with no delay set (R555).
DEDUCED (unsafe, log 144). -/
def moderate (q : Nat) (s : State) : State :=
  let s1 := setQp q (fun x =>
    { x with
      unsignalled := x.unsignalled + 1
      firstUnsignalled := if x.unsignalled = 0 then now s else x.firstUnsignalled }) s
  let x := qpAt s1 q
  if max 1 x.modCount ≤ x.unsignalled ∨ x.modTime = 0 then signalQp q s1 else s1

/-- COMPLETION_WRITE (R551, R552, R565): the oldest answered entry's reply, its completion entry, then the interrupt. -/
def execCompletionWrite (q : Nat) (s : State) : Host.Outcome State Fault Refusal :=
  .next
    (let s1 := settleReplies q s
     let x := qpAt s1 q
     match x.entries.find? fun e => decide (e.answer ≠ .waits) with
     | none => s1
     | some e =>
       if ¬ hostReaches s1 ∨ ¬ qpRuns x ∨ cqFull x then s1
       else
         let a := answerParts e.capacity e.answer
         let t := ringNext x.cqLog2 x.cqTail
         let s2 := setQp q (fun y =>
           { y with
             cqTail := t, phase := if t = 0 then !y.phase else y.phase
             entries := y.entries.erase e }) s1
         moderate q (emit (.completion q (completionEntry e a.1 a.2.1 x.phase) e.replyAddr a.2.2) s2))

/-- INTERRUPT_MODERATION_TIMEOUT (R555). -/
def execInterruptModerationTimeout (q : Nat) (s : State) : Host.Outcome State Fault Refusal :=
  .next
    (let x := qpAt s q
     if 0 < x.unsignalled ∧ x.firstUnsignalled + x.modTime * ticksPerUs ≤ now s then signalQp q s else s)

/-- PERST_ASSERT (R587): while PERST_N is low the PCIe function is in reset, every queue pair disabled (R553), the packet ring
and the MSI-X table at their reset values. DESIGN CHOICE (unsafe, log 146). -/
def execPerstAssert (low : Bool) (s : State) : Host.Outcome State Fault Refusal :=
  .next (setHost (fun h =>
    if low then
      { h with
        perst := true, qps := [], replies := [], ringDesc := {}, ringRecv := {}, ringLaunch := {}
        msixMask := BitVec.allOnes 96, msixPend := 0, msixTable := [] }
    else { h with perst := false }) s)

/-! ### The packet ring (R556, R557) -/

/-- DESCRIPTOR_TAIL_WRITE (R557). -/
def execDescriptorTailWrite (value : Nat) (s : State) : Host.Outcome State Fault Refusal :=
  .next
    (if ¬ hostReaches s then s
     else
       let r := ringIndex s.host.ringDesc.log2 (value % 65536) s
       setHost (fun h => { h with ringDesc := { h.ringDesc with host := r.1 } }) r.2)

/-- RECEIVE_HEAD_WRITE (R557). -/
def execReceiveHeadWrite (value : Nat) (s : State) : Host.Outcome State Fault Refusal :=
  .next
    (if ¬ hostReaches s then s
     else
       let r := ringIndex s.host.ringRecv.log2 (value % 65536) s
       setHost (fun h => { h with ringRecv := { h.ringRecv with host := r.1 } }) r.2)

/-- LAUNCH_HEAD_WRITE (R557): records that wait for room follow. -/
def execLaunchHeadWrite (value : Nat) (s : State) : Host.Outcome State Fault Refusal :=
  .next
    (if ¬ hostReaches s then s
     else
       let r := ringIndex s.host.ringLaunch.log2 (value % 65536) s
       flushLaunch (r.2.host.launchWaiting.length + 1)
         (setHost (fun h => { h with ringLaunch := { h.ringLaunch with host := r.1 } }) r.2))

/-- The receive record of a frame (Table 19.15). DESIGN CHOICE (unsafe, log 49). -/
def receiveRecord (r : RxRec) (phase : Bool) (descriptor : Nat) : Bytes :=
  le 2 r.port ++ le 2 (if r.tagged then r.tci / 8192 % 8 * 8192 + 4096 + r.tci % 4096 else 0) ++ le 2 r.bytes.length ++
    le 2 r.original ++ le 4 (r.ingress / 4 % 2 ^ 32) ++
    le 1 (b2n r.truncated + 2 * b2n r.fcsBad + 128 * b2n phase) ++ le 1 (r.ingress % 4) ++ zeros 2 ++ le 4 descriptor ++
    zeros 12

/-- HOST_FRAME_DELIVER (R556): the next posted descriptor, of `len` bytes; one shorter than 9,216 is skipped and counted. -/
def execHostFrameDeliver (len : Nat) (s : State) : Host.Outcome State Fault Refusal :=
  .next
    (let d := s.host.ringDesc
     if ¬ hostReaches s ∨ ¬ d.enable ∨ d.dev = d.host then s
     else
       match classQueue s 5 with
       | [] => s
       | r :: rest =>
         if len < 9216 then
           setHost (fun h =>
             { h with ringDesc := ringStep h.ringDesc, shortDescriptors := satInc h.shortDescriptors }) s
         else if ¬ ringRoom s.host.ringRecv then s
         else
           let s1 := setHost (fun h =>
             { h with ringDesc := ringStep h.ringDesc, ringRecv := ringStep h.ringRecv }) (setClass 5 rest s)
           sendMsi 82 (emit (.received (receiveRecord r s.host.ringRecv.phase d.dev) r.bytes) s1))

/-! ### The register window (Tables 19.2 to 19.7, 19.10 to 19.12) -/

/-- The low or high word of a 64-bit register written. -/
def setWord (high : Bool) (v old : Nat) : Nat :=
  if high then v * 2 ^ 32 + old % 2 ^ 32 else old / 2 ^ 32 * 2 ^ 32 + v

/-- A write to a base or size of an enabled queue pair faults it (R553). DESIGN CHOICE (unsafe, log 143). -/
def baseWrite (q : Nat) (f : Qp → Qp) (s : State) : State :=
  let s1 := setQp q f s
  if (qpAt s q).enable ∧ ¬ (qpAt s q).fault then qpFault q 3 s1 else s1

/-- A write to a register of a queue pair. -/
def writeQp (q off v : Nat) (s : State) : State :=
  match off with
  | 0x00 => baseWrite q (fun x => { x with sqBase := setWord false v x.sqBase }) s
  | 0x04 => baseWrite q (fun x => { x with sqBase := setWord true v x.sqBase }) s
  | 0x08 => baseWrite q (fun x => { x with cqBase := setWord false v x.cqBase }) s
  | 0x0C => baseWrite q (fun x => { x with cqBase := setWord true v x.cqBase }) s
  | 0x10 => setQp q (qpConfigure v) s
  | 0x18 => setQp q (fun x => { x with modCount := bits v 7 0, modTime := bits v 25 16 }) s
  | _ => s

/-- A ring of HST_PKT written at an offset within its 16 bytes (R557): a ring being enabled starts at index 0, phase 1. -/
def writeRing (off v : Nat) (r : Ring) : Ring :=
  match off with
  | 0x0 => { r with base := setWord false v r.base }
  | 0x4 => { r with base := setWord true v r.base }
  | 0xC =>
    let y := { r with enable := bit v 0, log2 := bits v 11 8 }
    if bit v 0 ∧ ¬ r.enable then { y with dev := 0, host := 0, phase := true } else y
  | _ => r

/-- A write to HST_PKT. -/
def writePkt (off v : Nat) (s : State) : State :=
  if off < 0x10 then setHost (fun h => { h with ringDesc := writeRing off v h.ringDesc }) s
  else if off < 0x20 then setHost (fun h => { h with ringRecv := writeRing (off - 0x10) v h.ringRecv }) s
  else if off < 0x30 then
    let s1 := setHost (fun h => { h with ringLaunch := writeRing (off - 0x20) v h.ringLaunch }) s
    flushLaunch (s1.host.launchWaiting.length + 1) s1
  else s

/-- A write of go to HST_MBOX_CTRL (R550): taken only while the ROM waits and busy, done and error are clear. -/
def mboxGo (v : Nat) (s : State) : State :=
  let m := s.host.mbox
  if bit v 0 ∧ s.boot.recovery ∧ s.boot.stage = 2 ∧ ¬ (m.busy ∨ m.done ∨ m.error) then
    setHost (fun h => { h with mbox := { m with busy := true } }) s
  else s

/-- HST_MBOX_GO (R550). -/
def execHstMboxGo (value : Nat) (s : State) : Host.Outcome State Fault Refusal := .next (mboxGo value s)

/-- A 32-bit write to the register window; reserved and read-only registers ignore it (R7, R9). -/
def writeWindow (off v : Nat) (s : State) : State :=
  let m (f : Mbox → Mbox) : State := setHost (fun h => { h with mbox := f h.mbox }) s
  if off = 0x008 then setBoot (fun b => { b with fallbackFlag := b.fallbackFlag && !bit v 14 }) s
  else if off = 0x020 then m fun x => { x with addr := setWord false v x.addr }
  else if off = 0x024 then m fun x => { x with addr := setWord true v x.addr }
  else if off = 0x028 then m fun x => { x with len := v }
  else if off = 0x02C then mboxGo v s
  else if 0x1000 ≤ off ∧ off < 0x2000 then writeQp ((off - 0x1000) / 64) (off % 64) v s
  else if 0x2000 ≤ off ∧ off < 0x2030 then writePkt (off - 0x2000) v s
  else if off = 0x4000 then clearSummary v s
  else if 0x4040 ≤ off ∧ off < 0x40E0 ∧ off % 4 = 0 then clearPend (BitVec.ofNat 1280 (v * 2 ^ (8 * (off - 0x4040)))) s
  else if off = 0x5004 then clearRfc v s
  else s

/-- HST_QP_STATUS (Table 19.11). -/
def qpStatus (x : Qp) : Nat :=
  b2n (qpRuns x) + 2 * b2n x.fault + 4 * x.cause + 16 * b2n (x.enable && cqFull x) + 65536 * x.sqHead

/-- A register of a queue pair as read. -/
def readQp (x : Qp) (off : Nat) : Nat :=
  match off with
  | 0x00 => x.sqBase % 2 ^ 32
  | 0x04 => x.sqBase / 2 ^ 32
  | 0x08 => x.cqBase % 2 ^ 32
  | 0x0C => x.cqBase / 2 ^ 32
  | 0x10 => b2n x.enable + 16 * x.sqLog2 + 256 * x.cqLog2
  | 0x14 => qpStatus x
  | 0x18 => x.modCount + 65536 * x.modTime
  | _ => 0

/-- A ring of HST_PKT as read. -/
def readRing (r : Ring) (off : Nat) : Nat :=
  match off with
  | 0x0 => r.base % 2 ^ 32
  | 0x4 => r.base / 2 ^ 32
  | 0xC => b2n r.enable + 256 * r.log2
  | _ => 0

/-- The register window as read at an offset that has no effect of its own when read. -/
def windowValue (s : State) (off : Nat) : Nat :=
  let h := s.host
  if off = 0x000 then 0xA00 + 65536 * (Config.stepping % 256) + 2 ^ 24
  else if off = 0x004 then hstStatus s
  else if off = 0x008 then bootStatus s
  else if off = 0x010 then hstTimeNs s
  else if off = 0x014 then h.timeSecLatch % 2 ^ 32
  else if off = 0x018 then h.timeSecLatch / 2 ^ 32 % 65536 + 65536 * b2n h.timeAcqLatch
  else if off = 0x020 then h.mbox.addr % 2 ^ 32
  else if off = 0x024 then h.mbox.addr / 2 ^ 32
  else if off = 0x028 then h.mbox.len
  else if off = 0x02C then 2 * b2n h.mbox.busy + 4 * b2n h.mbox.done + 8 * b2n h.mbox.error
  else if 0x1000 ≤ off ∧ off < 0x2000 then readQp (qpAt s ((off - 0x1000) / 64)) (off % 64)
  else if 0x2000 ≤ off ∧ off < 0x2010 then readRing h.ringDesc (off - 0x2000)
  else if 0x2010 ≤ off ∧ off < 0x2020 then readRing h.ringRecv (off - 0x2010)
  else if 0x2020 ≤ off ∧ off < 0x2030 then readRing h.ringLaunch (off - 0x2020)
  else if off = 0x4000 then evtSummary s.ev
  else if 0x4040 ≤ off ∧ off < 0x40E0 ∧ off % 4 = 0 then evtPend s.ev ((off - 0x4040) / 4)
  else if 0x4100 ≤ off ∧ off < 0x4148 ∧ off % 4 = 0 then blkValue s ((off - 0x4100) / 4)
  else if off = 0x5000 then rfcDpllStatus s
  else if off = 0x5004 then rfcEvents s
  else 0

/-- What a read of the window does besides returning its value: HST_TIME_NS latches the seconds (R390), a block's occurrences
are cleared (RC). -/
def readEffect (off : Nat) (s : State) : State :=
  if off = 0x010 then setHost (fun h => { h with timeSecLatch := s.tb.sec.toNat, timeAcqLatch := s.tb.acquired }) s
  else if 0x4100 ≤ off ∧ off < 0x4148 ∧ off % 4 = 0 then
    blkClear ((off - 0x4100) / 4) s
  else s

/-- Whether a register of the window has an RC field. -/
def isClearedByRead (off : Nat) : Bool := decide (0x4100 ≤ off ∧ off < 0x4148)

/-- A write to the MSI-X table in BAR4 (R549, R555): a vector unmasked while pending is sent. PRESUMED (unsafe, log 145). -/
def writeMsix (off v : Nat) (s : State) : State :=
  let n := off / 16
  if 96 ≤ n then s
  else if off % 16 = 12 then
    let m := if bit v 0 then s.host.msixMask ||| (1#96 <<< n) else s.host.msixMask &&& ~~~(1#96 <<< n)
    let s1 := setHost (fun h => { h with msixMask := m }) s
    if s.host.msixPend.getLsbD n ∧ ¬ bit v 0 then
      emit (.msi n) (setHost (fun h => { h with msixPend := h.msixPend &&& ~~~(1#96 <<< n) }) s1)
    else s1
  else setHost (fun h => { h with msixTable := mset (fun _ => 0) h.msixTable (off / 4) v }) s

/-- REGISTER_WRITE (R9, R549): a 32-bit write by the host to a register of BAR0, or to the MSI-X table of BAR4. -/
def execRegisterWrite (bar off value : Nat) (s : State) : Host.Outcome State Fault Refusal :=
  .next
    (let v := value % 2 ^ 32
     if ¬ hostReaches s ∨ off % 4 ≠ 0 then s
     else if bar = 0 then writeWindow off v s
     else if bar = 4 then writeMsix off v s
     else s)

end Sys2Proof.Machine
end

