-- ==== Sys2Proof/Machine/FoldBus.lean ====
section
/-! DEFINITION. The fold bus (R559 to R562). -/

namespace Sys2Proof.Machine

/-- Changes the fold bus station. -/
def setFold (f : FoldBus → FoldBus) (s : State) : State := setHost (fun h => { h with fold := f h.fold }) s

/-- The time of a frame with its trailing idle (R559): 0.75 µs and 50 ns a body byte. -/
def foldTime (body : Nat) : Nat := (750 + 50 * body) * ticksPerNs

/-- The slot window of every stitch cycle. -/
abbrev slotWindow : Nat := 130 * ticksPerUs

/-- Whether this instant lies in the token phase. -/
def inTokenPhase (s : State) : Bool := decide (slotWindow ≤ now s % cycleTicks)

/-- The end of the present stitch cycle. -/
def nextCycleEnd (s : State) : Nat := (now s / cycleTicks + 1) * cycleTicks

/-- The ticks of token phase before an instant: silence timers and tenures count these alone (R561, R562). -/
def phaseTicks (t : Nat) : Nat := t / cycleTicks * (cycleTicks - slotWindow) + (t % cycleTicks - slotWindow)

/-- This device's station. -/
def ownStation (s : State) : Nat := s.boot.foldAddr % 64

/-- Whether the station is on the bus: the device is command-ready (Table 18.2). DEDUCED (unsafe, log 147). -/
def foldUp (s : State) : Bool := s.boot.ready && !s.boot.inReset

/-- A frame with header and CRC (R559). -/
def foldFrame (s : State) (dest kind seq : Nat) (body : Bytes) : Bytes :=
  let p := le 1 dest ++ le 1 (ownStation s) ++ le 1 kind ++ le 1 0 ++ le 2 body.length ++ le 2 seq ++ body
  p ++ le 4 (crc32c p).toNat

/-- A frame is sent after those already started. DESIGN CHOICE (unsafe, log 148). -/
def foldEmit (dest kind seq : Nat) (body : Bytes) (s : State) : State :=
  let t := max (now s) s.host.fold.busyUntil + foldTime body.length
  emit (.fold (foldFrame s dest kind seq body)) (setFold (fun f => { f with busyUntil := t, heardAt := t }) s)

/-- The stations present (R560), ascending: a SLOT frame heard in one of the last four cycles. -/
def present (s : State) : List Nat :=
  let c := cycleNow s
  ((s.host.fold.heardSlot.filter fun p => decide (c < p.2 + 4 ∨ (c = p.2 + 4 ∧ ¬ inTokenPhase s))).map (·.1)).filter
    fun n => decide (n ≠ ownStation s)

/-- The next present station above this one, wrapping to the lowest; one skipped in a poll round counts as absent (R561,
R562). -/
def tokenTarget (s : State) : Option Nat :=
  let l := (present s).filter fun n => !s.host.fold.skipped.contains n
  match l.find? fun n => decide (ownStation s < n) with
  | some n => some n
  | none => l.head?

/-- The next frame of this tenure: FLOCK frames first, then CMD (R561). -/
def nextUnsent (f : FoldBus) : Option FoldOut :=
  match f.queue.find? fun o => !o.sent && decide (o.kind = 6) with
  | some o => some o
  | none => f.queue.find? fun o => !o.sent

/-- A queued frame is sent at `t`: one to a single station waits for its ACK, one to all is done. -/
def sendQueued (o : FoldOut) (t : Nat) (s : State) : State :=
  let mark (x : FoldOut) : FoldOut := { x with sent := true, firstSent := some (x.firstSent.getD t) }
  let q := if o.dest = 0xFF then s.host.fold.queue.erase o
    else updFirst (fun x => decide (x = o)) mark s.host.fold.queue
  foldEmit o.dest o.kind o.seq o.body (setFold (fun f => { f with queue := q }) s)

/-- Whether the holder may start a frame of `n` body bytes: within 20 µs of tenure, ending by the cycle end (R561). -/
def mayStart (s : State) (n : Nat) : Bool :=
  let t := max (now s) s.host.fold.busyUntil
  decide (phaseTicks t - phaseTicks s.host.fold.tenureFrom < 20 * ticksPerUs ∧ t + foldTime n ≤ nextCycleEnd s)

/-- The holder's frames, `fuel` at most. DEDUCED (unsafe, log 149). -/
def sendTenure : Nat → State → State
  | 0, s => s
  | n + 1, s =>
    match nextUnsent s.host.fold with
    | some o =>
      if mayStart s o.body.length then sendTenure n (sendQueued o (max (now s) s.host.fold.busyUntil) s) else s
    | none => s

/-- A new tenure begins now: every queued frame may be sent in it. -/
def beginTenure (s : State) : State :=
  setFold (fun f =>
    { f with token := true, tenureFrom := now s, queue := f.queue.map fun o => { o with sent := false } }) s

/-- The holder passes the token on, unless TOKEN would end after the cycle end; with no other station present it holds it on
(R561). DEDUCED (unsafe, log 149). -/
def passToken (s : State) : State :=
  if nextCycleEnd s < max (now s) s.host.fold.busyUntil + foldTime 0 then s
  else
    match tokenTarget s with
    | some n => setFold (fun f => { f with token := false }) (foldEmit n 1 0 [] s)
    | none => beginTenure s

/-- The tenure runs: frames are sent, and a holder with nothing to send passes the token at once. -/
def runTenure (s : State) : State :=
  let s1 := sendTenure (s.host.fold.queue.length + 1) s
  if (nextUnsent s1.host.fold).isNone ∧ s1.host.fold.busyUntil ≤ now s ∧ (tokenTarget s1).isSome then passToken s1 else s1

/-- The station takes the token. -/
def holdToken (s : State) : State := runTenure (beginTenure s)

/-- FOLD_TENURE_END (R561): the frames started have ended; the tenure is over, or nothing is left to send, and the token is
passed. -/
def execFoldTenureEnd (s : State) : Host.Outcome State Fault Refusal :=
  .next
    (let f := s.host.fold
     let ended := decide (20 * ticksPerUs ≤ phaseTicks (now s) - phaseTicks f.tenureFrom)
     if ¬ foldUp s ∨ ¬ f.token ∨ ¬ inTokenPhase s ∨ now s < f.busyUntil then s
     else if ended ∨ (nextUnsent f).isNone then passToken s
     else sendTenure (f.queue.length + 1) s)

/-- FOLD_TOKEN_PHASE_START (R561, R562): the holder resumes the rest of its tenure; silence timers resume. -/
def execFoldTokenPhaseStart (s : State) : Host.Outcome State Fault Refusal :=
  .next (if foldUp s && inTokenPhase s && s.host.fold.token then runTenure s else s)

/-- FOLD_SLOT_SEND (R560): at cycle end + 2 µs × (s + 1), with the CROOK body when one is due (R451). -/
def execFoldSlotSend (s : State) : Host.Outcome State Fault Refusal :=
  .next
    (let t := now s % cycleTicks
     let n := cycleNow s
     if ¬ foldUp s ∨ t < 2 * ticksPerUs * (ownStation s + 1) ∨ slotWindow ≤ t ∨ s.host.fold.slotSent = some n then s
     else
       let p := foldFrame s 0xFF 4 0 s.twin.slotBody
       emit (.fold p) (setTwin (fun x => { x with slotBody := [] }) (setFold (fun f => { f with slotSent := some n }) s)))

/-- FOLD_FRAME_DROP (R561): frames not acknowledged 2 ms after they were first sent are dropped and counted. -/
def execFoldFrameDrop (s : State) : Host.Outcome State Fault Refusal :=
  .next
    (let old (o : FoldOut) : Bool := match o.firstSent with
       | some t => decide (t + 2 * ticksPerMs ≤ now s)
       | none => false
     let n := (s.host.fold.queue.filter old).length
     setFold (fun f => { f with queue := f.queue.filter fun o => !old o, dropped := satAdd f.dropped n }) s)

/-! ### Poll mode (R562) -/

/-- The next station of the round is polled; after the last the polling station takes the token. -/
def pollNext (left : List Nat) (s : State) : State :=
  match left with
  | [] => holdToken (setFold (fun f => { f with polls := [] }) s)
  | p :: _ =>
    let s1 := foldEmit p 2 0 [] s
    setFold (fun f => { f with polls := left, pollEnd := f.busyUntil }) s1

/-- FOLD_SILENCE_TIMEOUT (R562): 100 µs + 2 µs × s of token phase without a frame heard. -/
def execFoldSilenceTimeout (s : State) : Host.Outcome State Fault Refusal :=
  .next
    (let f := s.host.fold
     let quiet := phaseTicks (now s) - phaseTicks f.heardAt
     if ¬ foldUp s ∨ ¬ inTokenPhase s ∨ f.token ∨ f.polls ≠ [] ∨ quiet < (100 + 2 * ownStation s) * ticksPerUs then s
     else pollNext (present s) s)

/-- FOLD_POLL_RESPONSE_TIMEOUT (R562): the station polled has not started a frame 2 µs after the POLL's end, and is skipped.
-/
def execFoldPollResponseTimeout (s : State) : Host.Outcome State Fault Refusal :=
  .next
    (match s.host.fold.polls with
     | [] => s
     | p :: rest =>
       if now s < s.host.fold.pollEnd + 2 * ticksPerUs then s
       else pollNext rest (setFold (fun f => { f with skipped := if f.skipped.contains p then f.skipped else f.skipped ++ [p] }) s))

/-- A polled station starts one frame, or an ACK carrying sequence 0 (R562). -/
def answerPoll (src : Nat) (s : State) : State :=
  match nextUnsent { s.host.fold with queue := s.host.fold.queue.map fun o => { o with sent := false } } with
  | some o => sendQueued ((s.host.fold.queue.find? fun x => decide (x.seq = o.seq)).getD o) (now s) s
  | none => foldEmit src 3 0 (le 2 0) s

/-! ### Reception -/

/-- A fragment of a command or reply packet (R559): the last in order completes the packet. DEDUCED (unsafe, log 149). -/
def takeFragment (src : Nat) (b : Bytes) (s : State) : State :=
  let msg := rd b 0 2
  let n := rd b 2 1
  let mine (p : FoldPart) : Bool := decide (p.source = src)
  let before : Option Bytes :=
    if n = 0 then some []
    else (s.host.fold.parts.find? fun p => mine p && decide (p.message = msg ∧ p.next = n)).map (·.body)
  match before with
  | none => s
  | some x =>
    let whole := x ++ b.drop 4
    let rest := s.host.fold.parts.filter fun p => !mine p
    if bit (rd b 3 1) 0 then receivePacket (.fold src) whole (setFold (fun f => { f with parts := rest }) s)
    else setFold (fun f => { f with parts := rest ++ [⟨src, msg, n + 1, whole⟩] }) s

/-- The ACK of a frame (R561). -/
def foldAck (src seq : Nat) (s : State) : State := foldEmit src 3 0 (le 2 seq) s

/-- A good frame from another station, handled by its type. DEDUCED (unsafe, log 147). -/
def foldHandle (dest src kind seq : Nat) (b : Bytes) (s : State) : State :=
  let mine := decide (dest = ownStation s)
  match kind with
  | 1 => if mine && inTokenPhase s then holdToken s else s
  | 2 => if mine then answerPoll src s else s
  | 3 =>
    if mine then
      setFold (fun f => { f with queue := f.queue.filter fun o => !decide (o.dest = src ∧ o.seq = rd b 0 2 ∧ o.firstSent.isSome) }) s
    else s
  | 4 =>
    let s1 := setFold (fun f =>
      { f with heardSlot := mput f.heardSlot src (cycleNow s), skipped := f.skipped.filter fun n => decide (n ≠ src) }) s
    if b.length = 24 ∧ src = partnerStation s then crookReceive true b s1 else s1
  | 5 => if mine && !holdFull s then foldAck src seq (takeFragment src b s) else s
  | 6 =>
    let s1 := if mine ∨ dest = 0xFF then handleFlock 0xFFFF src [] b s else s
    if mine then foldAck src seq s1 else s1
  | _ => s

/-- FOLD_FRAME_RECEIVE (R559 to R562): a frame from its header to its CRC; one with a bad CRC is discarded and counted.
DESIGN CHOICE (unsafe, log 148). -/
def execFoldFrameReceive (frame : Bytes) (s : State) : Host.Outcome State Fault Refusal :=
  .next
    (let n := rd frame 4 2
     let src := rd frame 1 1
     if ¬ foldUp s then s
     else if frame.length ≠ 12 + n ∨ 1536 < n ∨ rd frame (8 + n) 4 ≠ (crc32c (frame.take (8 + n))).toNat then
       setFold (fun f => { f with crcErrors := satInc f.crcErrors }) s
     else if src = ownStation s ∨ 64 ≤ src then s
     else
       let s1 := if inTokenPhase s then setFold (fun f => { f with heardAt := now s }) s else s
       let s2 := foldHandle (rd frame 0 1) src (rd frame 2 1) (rd frame 6 2) (slice frame 8 n) s1
       match s2.host.fold.polls with
       | p :: rest => if p = src ∧ rd frame 2 1 ≠ 4 then pollNext rest s2 else s2
       | [] => s2)

end Sys2Proof.Machine
end

