-- ==== Sys2Proof/Machine/Management.lean ====
section
/-! DEFINITION. The management Ethernet ports and their sessions (R505, R506, R558, R568). -/

namespace Sys2Proof.Machine

/-- A field of a management port's entry (Table 19.19). -/
def mgtField (q : Quire) (m o k : Nat) : Nat := qRd q fMgmt (0x40 + 64 * m + o) k

/-- Changes a management port's counters. -/
def setMgt (m : Nat) (f : MgtPort → MgtPort) (s : State) : State :=
  setHost (fun h => { h with mgt := mmod (fun _ => ({} : MgtPort)) h.mgt m f }) s

/-- A frame dropped and counted (R558). -/
def mgtDrop (m : Nat) (s : State) : State := setMgt m (fun x => { x with dropped := satInc x.dropped }) s

/-! ### ARP, neighbour discovery and echo (R558) -/

/-- The answer to an ARP request for the port's address. PRESUMED (unsafe, log 150). -/
def arpAnswer (mac ip b : Bytes) : Option Bytes :=
  if rdB b 20 2 = 1 ∧ slice b 38 4 = ip then
    some (ethHeader (slice b 22 6) mac none 0x0806 ++ slice b 14 6 ++ be 2 2 ++ mac ++ ip ++ slice b 22 10)
  else none

/-- The answer to an ICMP echo request to the port's address. PRESUMED (unsafe, log 150). -/
def echoAnswer (mac ip b : Bytes) : Option Bytes :=
  let h := 4 * (rd b 14 1 % 16)
  let icmp := slice b (14 + h) (rdB b 16 2 - h)
  if slice b 30 4 = ip ∧ rd b 23 1 = 1 ∧ rd icmp 0 1 = 8 then
    let body (c : Nat) : Bytes := zeros 2 ++ be 2 c ++ icmp.drop 4
    let head (c : Nat) : Bytes :=
      [0x45#8, 0#8] ++ be 2 (20 + icmp.length) ++ zeros 2 ++ be 2 0x4000 ++ [64#8, 1#8] ++ be 2 c ++ ip ++ slice b 26 4
    some (ethHeader (slice b 6 6) mac none 0x0800 ++ head (inetChecksum (head 0)) ++ body (inetChecksum (body 0)))
  else none

/-- An ICMPv6 message in its packet and frame. -/
def icmp6 (mac src dmac dst : Bytes) (hops : Nat) (msg : Nat → Bytes) : Bytes :=
  let pseudo := src ++ dst ++ be 4 (msg 0).length ++ zeros 3 ++ [58#8]
  ethHeader dmac mac none 0x86DD ++ be 4 (6 * 2 ^ 28) ++ be 2 (msg 0).length ++ [58#8] ++ be 1 hops ++ src ++ dst ++
    msg (inetChecksum (pseudo ++ msg 0))

/-- The answer to a neighbour solicitation or an ICMPv6 echo request for the port's address. PRESUMED (unsafe, log 150). -/
def neighbourAnswer (mac ip b : Bytes) : Option Bytes :=
  let from_ := slice b 22 16
  let m := slice b 54 (rdB b 18 2)
  if rd b 20 1 ≠ 58 then none
  else if rd m 0 1 = 135 ∧ slice m 8 16 = ip then
    let named := decide (from_ ≠ zeros 16)
    let dst := if named then from_ else be 2 0xFF02 ++ zeros 13 ++ be 1 1
    some (icmp6 mac ip (slice b 6 6) dst 255 fun c =>
      [136#8, 0#8] ++ be 2 c ++ be 4 (if named then 0x60000000 else 0x20000000) ++ ip ++ [2#8, 1#8] ++ mac)
  else if rd m 0 1 = 128 ∧ slice b 38 16 = ip then
    some (icmp6 mac ip (slice b 6 6) from_ 64 fun c => [129#8, 0#8] ++ be 2 c ++ m.drop 4)
  else none

/-- A frame that carries no connection: answered, or dropped and counted (R558). -/
def mgtFrame (m : Nat) (b : Bytes) (s : State) : State :=
  let a := mgtAddress s.quire.active (sideB s) m
  let dst := slice b 0 6
  let here := decide (dst = a.1 ∨ dst = ffs 6 ∨ slice dst 0 2 = be 2 0x3333)
  let answer : Option Bytes :=
    if ¬ here then none
    else if rdB b 12 2 = 0x0806 ∧ a.2.1 ≠ zeros 4 then arpAnswer a.1 a.2.1 b
    else if rdB b 12 2 = 0x0800 ∧ a.2.1 ≠ zeros 4 then echoAnswer a.1 a.2.1 b
    else if rdB b 12 2 = 0x86DD ∧ a.2.2 ≠ zeros 16 then neighbourAnswer a.1 a.2.2 b
    else none
  match answer with
  | some f => emit (.mgt m f) s
  | none => mgtDrop m s

/-! ### Sessions (R505) -/

/-- A session by its port and index. -/
def isSession (m i : Nat) (x : Session) : Bool := decide (x.mgt = m ∧ x.idx = i)

/-- Changes the sessions. -/
def setSessions (f : List Session → List Session) (s : State) : State :=
  setHost (fun h => { h with sessions := f h.sessions }) s

/-- A session closes; what it has started completes (R498). -/
def closeSession (m i : Nat) (s : State) : State := setSessions (fun l => l.filter fun x => !isSession m i x) s

/-- The lowest-numbered usable SESSION_PEER slot whose key the client's certificate is or chains to. -/
def peerSlot (s : State) (keys : List Bytes) : Option Nat :=
  (s.keys.slots.find? fun p => keyAllowed s p.1 6 5 0xF005 && keys.contains p.2.pub).map (·.1)

/-- The lowest session index of a port not in use. DESIGN CHOICE (unsafe, log 151). -/
def freeSession (s : State) (m : Nat) : Nat :=
  ((List.range 128).find? fun i => !(s.host.sessions.any (isSession m i))).getD 128

/-- A connection and its handshake (R505, R558, R568): to another TCP port it is dropped; past 128 sessions it is reset; with
no usable SESSION_ID key it is closed before authentication. DESIGN CHOICE (unsafe, log 151). -/
def mgtConnect (m tcpPort : Nat) (good : Bool) (keys : List Bytes) (lo hi : Nat) (s : State) : State :=
  let q := s.quire.active
  if tcpPort ≠ mgtField q m 2 2 then mgtDrop m s
  else if 128 ≤ (s.host.sessions.filter fun x => decide (x.mgt = m)).length then
    emit (.mgtReset m) (setMgt m (fun x => { x with refusedConnections := satInc x.refusedConnections }) s)
  else
    let k := keyUse (mgtField q m 4 2) 5 4 0xF005 s
    if k.2.isNone then setMgt m (fun x => { x with unauthenticated := satInc x.unauthenticated }) k.1
    else if ¬ good ∨ (s.tb.acquired ∧ ¬ (lo ≤ nowNs s ∧ nowNs s ≤ hi)) then k.1
    else
      match peerSlot k.1 keys with
      | none => k.1
      | some n =>
        let x : Session := ⟨m, freeSession s m, (keySlot s n).master, n, !s.tb.acquired, now s, 0, now s, none, []⟩
        setSessions (fun l => l ++ [x]) k.1

/-- The commands that stand whole in a session's bytes, `fuel` at most (R558): while the hold buffer is full they wait (R554);
a length outside 32 to 65,536 closes the session. -/
def drainSession (m i : Nat) : Nat → State → State
  | 0, s => s
  | fuel + 1, s =>
    match s.host.sessions.find? (isSession m i) with
    | none => s
    | some x =>
      let n := rd x.buf 0 4
      if x.buf.length < 4 ∨ holdFull s then s
      else if n < 32 ∨ 65536 < n then closeSession m i s
      else if x.buf.length < 4 + n then s
      else
        let s1 := setSessions (updFirst (isSession m i) fun y => { y with buf := y.buf.drop (4 + n) }) s
        drainSession m i fuel (receivePacket (.session m i) (slice x.buf 4 n) s1)

/-- Records of a session: their plain text. -/
def mgtData (m i n : Nat) (b : Bytes) (s : State) : State :=
  let f (x : Session) : Session := { x with lastRecord := now s, records := x.records + n, buf := x.buf ++ b }
  let s1 := setSessions (updFirst (isSession m i) f) s
  match s1.host.sessions.find? (isSession m i) with
  | some x => drainSession m i (x.buf.length / 36 + 1) s1
  | none => s

/-- MGT_FRAME_RECEIVE (R558): on a port that is enabled. -/
def execMgtFrameReceive (port : Nat) (input : MgtIn) (s : State) : Host.Outcome State Fault Refusal :=
  .next
    (if 2 ≤ port ∨ mgtField s.quire.active port 0 1 = 0 ∨ ¬ s.boot.ready then s
     else
       match input with
       | .frame b => mgtFrame port b s
       | .connect t good keys lo hi => mgtConnect port t good keys lo hi s
       | .data i n b => mgtData port i n b s
       | .ack i => setSessions (updFirst (isSession port i) fun x => { x with unackedSince := none }) s
       | .close i => closeSession port i s)

/-- MGT_SESSION_ACK_TIMEOUT (R558): sessions whose sent data stays unacknowledged for 400 ms close. -/
def execMgtSessionAckTimeout (s : State) : Host.Outcome State Fault Refusal :=
  .next (setSessions (fun l => l.filter fun x =>
    match x.unackedSince with
    | some t => decide (now s < t + 400 * ticksPerMs)
    | none => true) s)

/-- SESSION_IDLE_TIMEOUT (R505): sessions that have carried no record for 600 s close. -/
def execSessionIdleTimeout (s : State) : Host.Outcome State Fault Refusal :=
  .next (setSessions (fun l => l.filter fun x => decide (now s < x.lastRecord + 600 * ticksPerSec)) s)

/-- Whether a session's next KeyUpdate is due (R505): 2^24 records or an hour. -/
def updateDue (t : Nat) (x : Session) : Bool := decide (2 ^ 24 ≤ x.records ∨ x.lastUpdate + 3600 * ticksPerSec ≤ t)

/-- SESSION_KEY_UPDATE (R505). -/
def execSessionKeyUpdate (s : State) : Host.Outcome State Fault Refusal :=
  .next
    (let due := s.host.sessions.filter (updateDue (now s))
     let f (x : Session) : Session :=
       if updateDue (now s) x then { x with records := 0, lastUpdate := now s, lastRecord := now s } else x
     due.foldl (fun t x => emit (.keyUpdate x.mgt x.idx) t) (setSessions (fun l => l.map f) s))

end Sys2Proof.Machine
end

