-- ==== Sys2Proof/Machine/Dia.lean ====
section
/-! DEFINITION. The bus matrix, the JTAG port and the DIA commands (R563 to R565, R569 to R572). -/

namespace Sys2Proof.Machine

/-! ### The bus matrix (R563, R564) -/

/-- ROM_REMAP_WRITE (R563): the loader writes the bit once. -/
def execRomRemapWrite (s : State) : Host.Outcome State Fault Refusal :=
  .next (if s.boot.inReset then s else setHost (fun h => { h with remap := true }) s)

/-- The priority of a bus master, 1 before 5 (Table 19.17). DEDUCED (unsafe, log 197). -/
def masterPriority (m : Nat) : Nat :=
  if m ≤ 15 then 1 else if m = 16 then 2 else if m ≤ 18 then 3 else if m = 19 then 4 else 5

/-- The master that a slave grants among those that wait (R564): the highest priority; among the control cores the next after
core `last`, which it granted last, and otherwise the lower number. -/
def busGrant (last : Nat) (waiting : List Nat) : Option Nat :=
  let turn (m : Nat) : Nat := if m ≤ 15 then (m + 15 - last % 16) % 16 else m
  let before (a b : Nat) : Bool :=
    decide (masterPriority a < masterPriority b ∨ (masterPriority a = masterPriority b ∧ turn a < turn b))
  waiting.foldl (fun best m => match best with
    | some b => if before m b then some m else some b
    | none => some m) none

/-- Lock requests to one slave in one cycle are granted in ascending master number (R564). -/
def lockOrder (requests : List Nat) : List Nat := requests.mergeSort fun a b => decide (a ≤ b)

/-- BUS_LOCK_TIMEOUT (R564): a lock still held 2 µs after its first grant is broken; one released in that cycle counts as
released. DESIGN CHOICE (unsafe, log 153). -/
def execBusLockTimeout (master addr : Nat) (released : Bool) (s : State) : Host.Outcome State Fault Refusal :=
  .next (if released then s else raise 1 master (addr % 2 ^ 32) s)

/-- What stands at a bus address that DIA_REG_READ and DIA_REG_WRITE reach. -/
inductive BusCell where
  /-- An offset of the register window. -/
  | window (off : Nat)
  /-- A register of another block. -/
  | register
  /-- An offset of the control SRAM. -/
  | sram (off : Nat)
  deriving DecidableEq, Repr

/-- The end of the register space and the place of the control SRAM in the map, which the manual does not give.
DESIGN CHOICE (unsafe, log 33). -/
def registerEnd : Nat := 0x20100000 + Config.code 19 0

/-- The bus address of the control SRAM. DESIGN CHOICE (unsafe, log 33). -/
def sramBase : Nat := Config.code 19 1

/-- The control SRAM's size (R563). -/
abbrev sramSize : Nat := 8388608

/-- The cell at a bus address: none outside the register space and the control SRAM; the low 256 KiB alias the control SRAM
once the remap bit is set (R563, R570). DESIGN CHOICE (unsafe, log 152). -/
def busCell (s : State) (a : Nat) : Option BusCell :=
  if 0x20000000 ≤ a ∧ a < 0x20100000 then some (.window (a - 0x20000000))
  else if 0x20100000 ≤ a ∧ a < registerEnd then some .register
  else if s.host.remap ∧ a < 0x40000 then some (.sram a)
  else if sramBase ≤ a ∧ a < sramBase + sramSize then some (.sram (a - sramBase))
  else none

/-- A byte of the control SRAM: as last written by a command, else a free value, since Vegen works in it.
DESIGN CHOICE (unsafe, log 152). -/
def sramByte (s : State) (o k : Nat) : Byte :=
  match s.host.sram.find? fun p => decide (p.1 = o) with
  | some p => p.2
  | none => BitVec.ofNat 8 (Config.freeNat (s.free + k))

/-- A word read over the bus, with the state after it. DESIGN CHOICE (unsafe, log 152). -/
def busRead (a : Nat) (s : State) : Nat × State :=
  match busCell s a with
  | some (.window o) => (windowValue s o, readEffect o s)
  | some .register => (Config.freeNat s.free % 2 ^ 32, (draw s).2)
  | some (.sram o) => (leNat ((List.range 4).map fun k => sramByte s (o + k) k), { s with free := s.free + 4 })
  | none => (0, s)

/-- A word written over the bus (R565). DESIGN CHOICE (unsafe, log 152). -/
def busWrite (a v : Nat) (s : State) : State :=
  match busCell s a with
  | some (.window o) => writeWindow o v s
  | some (.sram o) =>
    setHost (fun h => { h with sram := (List.range 4).foldl (fun m k => mput m (o + k) (BitVec.ofNat 8 (v / 256 ^ k))) h.sram }) s
  | _ => s

/-- Words read from `a` on, `n` of them. -/
def busReads : Nat → Nat → State → Bytes × State
  | 0, _, s => ([], s)
  | n + 1, a, s =>
    let x := busRead a s
    let r := busReads n (a + 4) x.2
    (le 4 x.1 ++ r.1, r.2)

/-- The words written from `a` on, in order. -/
def busWrites : Nat → Nat → Bytes → State → State
  | 0, _, _, s => s
  | n + 1, a, p, s => busWrites n (a + 4) (p.drop 4) (busWrite a (rd p 0 4) s)

/-- The form of the two register commands (R570). -/
def busForm (r : Req) (s : State) : List (Bool × Nat) :=
  let a := rd r.params 0 8
  let n := rd r.params 8 2
  [(decide (a % 4 = 0) && (List.range (min n 256)).all fun k => (busCell s (a + 4 * k)).isSome, 0),
    (decide (1 ≤ n ∧ n ≤ 256), 8), (isZero r.params 10 6, 10)]

/-- DIA_REG_READ (R570): a clearing read when it reads an RC field (R115). -/
def execDiaRegRead (r : Req) (s : State) : Host.Outcome State Fault Refusal :=
  .next (command 0x1303
    (fun r s => needLen 16 r s fun _ => needForm (busForm r s) s fun _ =>
      let a := rd r.params 0 8
      let n := rd r.params 8 2
      let x := busReads n a s
      { st := x.2, params := x.1
        clearing := (List.range n).any fun k => match busCell s (a + 4 * k) with
          | some (.window o) => isClearedByRead o
          | _ => false }) r s)

/-- DIA_REG_WRITE (R570). -/
def execDiaRegWrite (r : Req) (s : State) : Host.Outcome State Fault Refusal :=
  .next (command 0x1304
    (fun r s =>
      let n := rd r.params 8 2
      if r.params.length < 16 ∨ r.params.length ≠ 16 + 4 * n then refuse s stBadLength 0xFFFF
      else needForm (busForm r s) s fun _ => okay (busWrites n (rd r.params 0 8) (r.params.drop 16) s) []) r s)

/-! ### Loopback and patterns (R571) -/

/-- The number of lanes of a class: media, packet, fabric, stitch. -/
def classLanes (c : Nat) : Nat := ([256, 64, 64, 4] : List Nat).getD c 0

/-- Whether a lane can carry a pattern: PRBS7 to PRBS31 on NRZ lanes, the PAM4 patterns on PAM4 lanes; a packet lane that is
off carries either. -/
def carriesPattern (q : Quire) (c l pat : Nat) : Bool :=
  let nrz := decide (1 ≤ pat ∧ pat ≤ 5)
  let pam := decide (8 ≤ pat ∧ pat ≤ 10)
  let m := plMode q (plLeader q l)
  match c with
  | 1 => if m = 0 then nrz || pam else if m = 5 then nrz else pam
  | 2 => pam
  | _ => nrz

/-- The enables of R154 that an operation of DIA_LOOPBACK stands for. -/
def loopEnable (op : Nat) : Nat := if op = 1 then 3 else if op = 2 then 1 else if op = 3 then 2 else 0

/-- A packet lane goes into TEST, which takes its port down, or comes back (R571). -/
def packetTest (l op : Nat) (s : State) : State :=
  let p := plLeader s.quire.active l
  let st := (netPort s p).state
  if op = 0 then
    if portMode s.quire.active p = 0 then s else addLoad (portLoad s p) (portEnter p 4 s)
  else if st = 2 then portFall p 0 1 s
  else if st = 0 then s else portEnter p 1 s

/-- A fabric or stitch lane, 64 on, goes into TEST or comes back to DETECT (R207, R226). -/
def fabricTest (l op : Nat) (s : State) : State :=
  if op ≠ 0 then (if (fabLane s l).state = 6 then s else fabLeave l 6 s)
  else if (fabLane s l).state ≠ 6 then s
  else
    if fabMode s.quire.active l = 0 ∨ (fabLane s l).hold then fabLeave l 0 s else fabDetect l s

/-- What an operation does to a lane that is no media lane; what its checker has counted is free.
DESIGN CHOICE (unsafe, log 154). -/
def laneTest (c l op pat : Nat) (s : State) : State :=
  let k := 256 * c + l
  let old := (s.host.tests.find? fun p => decide (p.1 = k)).map (·.2)
  let s1 := match c with
    | 1 => packetTest l op s
    | 2 => fabricTest l op s
    | _ => fabricTest (64 + l) op s
  let x : LaneTest := old.getD ⟨0, 0, 0, 0⟩
  let ran := decide (x.op = 1 ∨ x.op = 3)
  let y : LaneTest :=
    ⟨op, pat, if ran then min (x.bits + Config.freeNat s.free) (2 ^ 64 - 1) else x.bits,
      if ran then min (x.errors + Config.freeNat (s.free + 1)) (2 ^ 64 - 1) else x.errors⟩
  setHost (fun h => { h with tests := if op = 0 then mdel h.tests k else mput h.tests k y }) { s1 with free := s1.free + 2 }

/-- The reply of DIA_LOOPBACK for a lane that is no media lane. DESIGN CHOICE (unsafe, log 154). -/
def testReply (s : State) (k op : Nat) : Bytes :=
  let x := ((s.host.tests.find? fun p => decide (p.1 = k)).map (·.2)).getD ⟨0, 0, 0, 0⟩
  le 1 (if op = 1 ∨ op = 3 then Config.freeNat s.free % 2 else 0) ++ zeros 7 ++ le 8 x.bits ++ le 8 x.errors

/-- DIA_LOOPBACK on a media lane: the generator and checker of R154 at the lane's rate. -/
def mediaLoop (l op pat : Nat) (clear : Bool) (s : State) : Ans :=
  let q := s.quire.active
  let d := draw s
  let s1 := setLane l (fun x => prbsTally (now s) (Config.freeNat d.1) x) d.2
  let en := loopEnable op
  let s2 := prbsApply l en pat (if en = 2 then lnRxRate q l else lnTxRate q l) 0 0 s1
  let reply := prbsReply (laneAt s2 l)
  let s3 := if clear then setLane l (fun x => { x with prbsBits := 0, prbsErrors := 0 }) s2 else s2
  { st := s3, params := reply, clearing := clear }

/-- DIA_LOOPBACK (R571, R154, R226). -/
def execDiaLoopback (r : Req) (s : State) : Host.Outcome State Fault Refusal :=
  .next (command 0x1301
    (fun r s => needLen 8 r s fun _ =>
      let c := rd r.params 0 1
      let l := rd r.params 1 1
      let op := rd r.params 2 1
      let pat := rd r.params 3 1
      let clear := bit (rd r.params 4 1) 0
      needForm
        [(decide (c ≤ 3), 0), (decide (l < classLanes c), 1), (decide (op ≤ 3), 2),
          (decide (op = 0) || carriesPattern s.quire.active c l pat, 3), (decide (rd r.params 4 1 ≤ 1), 4),
          (isZero r.params 5 3, 5)] s fun _ =>
        if c = 0 then mediaLoop l op pat clear s
        else
          let s1 := laneTest c l op pat s
          let k := 256 * c + l
          let done := { (draw s1).2 with
            host := { s1.host with
              tests := if clear then s1.host.tests.map fun p => if p.1 = k then (k, { p.2 with bits := 0, errors := 0 }) else p
                else s1.host.tests } }
          { st := done, params := testReply s1 k op, clearing := clear }) r s)

/-! ### Self-tests on command (R572) -/

/-- DIA_SELFTEST (R466, R572): what the test finds is free; the memory controller of a group with an enabled partition is
busy. DESIGN CHOICE (unsafe, log 154). -/
def execDiaSelftest (r : Req) (s : State) : Host.Outcome State Fault Refusal :=
  .next (command 0x1302
    (fun r s => needLen 8 r s fun _ =>
      let item := rd r.params 0 1
      let g := rd r.params 1 1
      needForm
        [(decide (item ≤ 8), 0), (decide (if item = 8 then g < 4 else g = 0), 1), (isZero r.params 2 6, 2)] s fun _ =>
        if item = 8 ∧ (partitions s.quire.active).any fun e => decide (rd e 1 1 = g) then refuse s stBusy 0
        else
          let d := draw s
          let found := Config.freeNat d.1 % 3
          let s1 := if item < 8 ∧ found < 2 then noteTest item (decide (found = 0)) d.2 else d.2
          okay s1 (le 1 found ++ zeros 7)) r s)

/-! ### JTAG and the debug mailbox (R569, Table 19.20) -/

/-- Whether a JTAG function is available in a life-cycle state. -/
def jtagAvailable (lcs : Nat) : JtagFn → Bool
  | .mailbox => decide (lcs ≤ 2 ∨ lcs = 4)
  | .halt _ | .singleStep _ | .registers _ | .resume _ => decide (lcs ≤ 1 ∨ lcs = 4)
  | _ => true

/-- JTAG_INSTRUCTION (R569): one that is not available loads BYPASS. DESIGN CHOICE (unsafe, log 155). -/
def execJtagInstruction (fn : JtagFn) (s : State) : Host.Outcome State Fault Refusal :=
  .next
    (if ¬ jtagAvailable (lifeCycle s) fn then setHost (fun h => { h with jtag := .bypass }) s
     else
       let s1 := setHost (fun h => { h with jtag := fn }) s
       match fn with
       | .extest => setHost (fun h => { h with extest := true }) s1
       | .halt c => setHost (fun h => { h with halted := if h.halted.contains c then h.halted else h.halted ++ [c] }) s1
       | .resume c => setHost (fun h => { h with halted := h.halted.filter fun x => decide (x ≠ c) }) s1
       | _ => s1)

/-- DEBUG_MAILBOX_WRITE (R569): a length word, then the packet word by word. DESIGN CHOICE (unsafe, log 155). -/
def execDebugMailboxWrite (word : Nat) (s : State) : Host.Outcome State Fault Refusal :=
  .next
    (if ¬ jtagAvailable (lifeCycle s) .mailbox then s
     else
       let b := s.host.dbgIn ++ le 4 word
       let n := rd b 0 4
       if b.length < 4 + 4 * cdiv n 4 then setHost (fun h => { h with dbgIn := b }) s
       else receivePacket .debug (slice b 4 n) (setHost (fun h => { h with dbgIn := [] }) s))

end Sys2Proof.Machine
end

