-- ==== Sys2Proof/Machine/PowerOps.lean ====
section
/-! DEFINITION. Supplies, the load-step governor and temperatures (chapter 20: R576 to R585). -/

namespace Sys2Proof.Machine

/-- Changes the supplies. -/
def setPower (f : Power → Power) (s : State) : State := { s with power := f s.power }

/-! ### Voltage requests (R577) -/

/-- The fused operating voltage of the die: 700 to 800 mV in steps of 5.
DESIGN CHOICE (unsafe, log 33). DESIGN CHOICE (unsafe, log 156). -/
def fusedMv : Nat := 700 + 5 * (Config.code 20 577 % 21)

/-- The hottest junction, if a sensor has been read. -/
def hottest (s : State) : Option Int :=
  match s.power.temps.map (·.2) with
  | [] => none
  | t :: r => some (r.foldl max t)

/-- Whether 10 mV are added: from below 25 °C until above 30 °C. -/
def boostNow (t : Int) (was : Bool) : Bool := if t < 25 then true else if 30 < t then false else was

/-- The voltage the device wants. -/
def wantedMv (s : State) : Nat := min 800 (fusedMv + if s.power.boosted then 10 else 0)

/-- The next request, at most 10 mV away from the present voltage. -/
def nextMv (s : State) : Nat :=
  let v := s.power.requestedMv
  let w := wantedMv s
  if v < w then min w (v + 10) else max w (v - 10)

/-- Whether any load ramps now (R582). -/
def ramping (s : State) : Bool := s.power.admitted.any fun a => decide (a.time ≤ now s ∧ now s < a.time + a.ramp)

/-- AVS_REQUEST (R577, R582): a request of the next voltage, acknowledged or not; `slewNs` is how long the regulator slews.
After three attempts without an acknowledgement EV1251, and no further request. DESIGN CHOICE (unsafe, log 156). -/
def execAvsRequest (ack : Bool) (slewNs : Nat) (s : State) : Host.Outcome State Fault Refusal :=
  .next
    (let p := s.power
     let early : Bool := match p.lastRequest with
       | some t => decide (now s < t + ticksPerMs)
       | none => false
     let v := nextMv s
     if p.avsFailed ∨ ¬ s.boot.ready ∨ early ∨ ramping s ∨ v = p.requestedMv then s
     else
       let s1 := emit (.avs v) (setPower (fun x => { x with lastRequest := some (now s) }) s)
       if ack then
         setPower (fun x =>
           { x with requestedMv := v, attempts := 0, slewUntil := some (now s + slewNs * ticksPerNs) }) s1
       else if p.attempts < 2 then setPower (fun x => { x with attempts := x.attempts + 1 }) s1
       else raise 1251 0 v (setPower (fun x => { x with attempts := 3, avsFailed := true }) s1))

/-! ### The load-step governor (R581, R582, Table 20.6) -/

/-- Rise in mA, ramp and spacing in ticks of one unit of a kind of load: 0 lane unit, 1 DRAM channel, 2 synthesiser, 3 spine
bank group, 4 DSP lane group, 5 control core, 6 layer engine, 7 self-test loopback. -/
def loadData (kind : Nat) : Nat × Nat × Nat :=
  let us := ticksPerUs
  match kind with
  | 1 => (1000, us / 10, us / 8)
  | 2 => (3000, 2 * us, 50 * us)
  | 3 => (6000, us, 10 * us)
  | 4 => (8000, us, 10 * us)
  | 5 => (1500, us, 2 * us)
  | 6 => (6000, 6 * us, 100 * us)
  | _ => (4000, us, 25 * us / 2)

/-- When the units of a load would start if it were admitted now: consecutive spacings after those of its kind; for the DRAM
after those of its group. DESIGN CHOICE (unsafe, log 157). -/
def unitTimes (s : State) (l : Load) : List Nat :=
  let gap := (loadData l.kind).2.2
  let same := s.power.admitted.filter fun a =>
    decide (a.kind = l.kind ∧ (l.kind ≠ 1 ∨ a.resource / 8 = l.resource / 8))
  let last := (same.map fun a => a.time + gap).foldl max 0
  (List.range (max 1 l.units)).map fun i => max (now s) last + i * gap

/-- Whether a load may start at this boundary: a DRAM channel follows its group within 1 µs. -/
def startsNow (s : State) (l : Load) : Bool :=
  match unitTimes s l with
  | t :: _ => if l.kind = 1 then decide (t < now s + ticksPerUs) else decide (t = now s)
  | [] => true

/-- The rise of an admitted load within the 1 µs from `w`, in µA, rounded up. -/
def riseIn (w : Nat) (a : Admitted) : Nat :=
  let lo := max w a.time
  let hi := min (w + ticksPerUs) (a.time + a.ramp)
  cdiv (a.rise * 1000 * (hi - lo)) a.ramp

/-- Whether in every 1 µs window the rises stay at or below 36 A (R581): the windows that begin or end with a ramp. -/
def risesFit (l : List Admitted) : Bool :=
  let starts := l.flatMap fun a => [a.time, a.time - ticksPerUs, a.time + a.ramp, a.time + a.ramp - ticksPerUs]
  starts.all fun w => decide ((l.map (riseIn w)).sum ≤ 36000000)

/-- A load as admitted now, unit by unit. -/
def admittedAs (s : State) (l : Load) : List Admitted :=
  let d := loadData l.kind
  (unitTimes s l).map fun t => ⟨l.kind, l.resource, t, d.1, d.2.1⟩

/-- The order of R582: class, then resource number. -/
def loadBefore (a b : Load) : Bool := decide (a.cls < b.cls ∨ (a.cls = b.cls ∧ a.resource ≤ b.resource))

/-- No load is admitted while VDD_CORE slews, nor for 100 µs after (R582). -/
def slewing (s : State) : Bool :=
  match s.power.slewUntil with
  | some t => decide (now s < t + 100 * ticksPerUs)
  | none => false

/-- The load admitted now, if any: the first in order that fits. DESIGN CHOICE (unsafe, log 157). -/
def nextLoad (s : State) : Option Load :=
  if slewing s then none
  else (s.power.waiting.mergeSort loadBefore).find? fun l =>
    startsNow s l && risesFit (s.power.admitted ++ admittedAs s l)

/-- A media lane is powered up: a receiver that is off starts, a transmitter that is off takes its setting (R150). -/
def mediaAdmitted (l : Nat) (s : State) : State :=
  let q := s.quire.active
  setLane l (fun x =>
    let y := if x.rx = 0 ∧ lnRxMode q l ≠ 0 then rxStart q l (now s) x else x
    if y.tx = 0 ∧ lnTxMode q l ≠ 0 then txStart q l y else y) s

/-- A fabric or stitch lane is powered up: one that is off, and not held so (R229), goes to DETECT (R207). -/
def fabricAdmitted (l : Nat) (s : State) : State :=
  if (fabLane s l).state = 0 ∧ ¬ (fabLane s l).hold ∧ fabMode s.quire.active l ≠ 0 then fabDetect l s else s

/-- Staged items of a folio in progress that contain a lane: their bounds count from the admission (R582). -/
def startBounds (ty l : Nat) (s : State) : State :=
  (s.quire.staging.filter fun x => decide (x.folio = ty ∧ x.index ≤ l ∧ l < x.index + 4)).foldl
    (fun t x => itemAdmitted ty x.index t) s

/-- What an admitted load switches on. -/
def switchOn (l : Load) (s : State) : State :=
  let r := l.resource
  if l.kind = 1 then chanSleep (r - 400) false s
  else if l.kind = 2 then s
  else if l.kind = 6 then itemAdmitted fLayers (r - 600) s
  else if r < 256 then startBounds fLanes r (mediaAdmitted r (watchBound (0x100 + r) s))
  else if r < 320 then startBounds fPacket (r - 256) (watchBound (r - 256) s)
  else if r < 384 then startBounds fFabric (r - 320) (fabricAdmitted (r - 320) s)
  else startBounds fFabric 64 (fabricAdmitted (64 + (r - 384)) s)

/-- GOVERNOR_ADMISSION (R581, R582): at a 1 µs boundary the first waiting load that fits is admitted.
DESIGN CHOICE (safe, log 6). DESIGN CHOICE (unsafe, log 157). -/
def execGovernorAdmission (s : State) : Host.Outcome State Fault Refusal :=
  .next
    (if s.boot.inReset ∨ 2 * ticksPerStep ≤ now s % ticksPerUs then s
     else
       match nextLoad s with
       | none => s
       | some l =>
         let live := s.power.admitted.filter fun a => decide (now s ≤ a.time + a.ramp + 100 * ticksPerUs)
         switchOn l (setPower (fun p =>
           { p with waiting := p.waiting.erase l, admitted := live ++ admittedAs s l }) s))

/-! ### Supplies (R578 to R580) -/

/-- The nominal voltage of a rail in mV (Table 20.4); VDD_CORE starts at 800. -/
def railNominal (r : Nat) : Nat := ([800, 850, 900, 1200, 1800, 1800, 1050, 900, 500, 800] : List Nat).getD r 0

/-- Whether a supply monitor trips at a reading held 1 µs (R580). -/
def monitorTrips (s : State) (rail mv : Nat) : Bool :=
  if rail = 0 then decide (mv + 45 < s.power.requestedMv)
  else decide (rail < 9 ∧ mv * 100 < railNominal rail * 92)

/-- The loss of VDD_AON (R580): the retention state goes, as at a power-up. DESIGN CHOICE (unsafe, log 158). -/
def aonLost (s : State) : State := chipReset true false s

/-- SUPPLY_UNDERVOLTAGE (R580): a rail has read `mv` for 1 µs; the monitor raises EV1250 and the device then holds itself in
reset. VDD_AON below 95 % of its nominal is lost. -/
def execSupplyUndervoltage (rail mv : Nat) (s : State) : Host.Outcome State Fault Refusal :=
  .next
    (let s1 := setPower (fun p =>
       { p with rails := mput p.rails rail { mget (fun _ => ({} : Rail)) p.rails rail with mv := mv, valid := false } }) s
     if rail = 9 then (if mv * 100 < 95 * railNominal 9 then aonLost s1 else s)
     else if monitorTrips s rail mv then
       let s2 := setPower (fun p => { p with brownHold := true }) s1
       if s.boot.inReset then s2 else raise 1250 rail mv s2
     else s)

/-- SUPPLY_RESTORED (R580): a rail reads `mv` and is valid at 95 % of its nominal; once every rail has been valid for 1 ms the
hold is released. DESIGN CHOICE (unsafe, log 156). -/
def execSupplyRestored (readings : List Nat) (s : State) : Host.Outcome State Fault Refusal :=
  .next
    (let nominal (r : Nat) : Nat := if r = 0 then s.power.requestedMv else railNominal r
     let good := (List.range 10).all fun r => decide (95 * nominal r ≤ 100 * readings.getD r 0)
     if ¬ good then s
     else
       setPower (fun p =>
         { p with
           brownHold := false
           rails := (List.range 10).map fun r => (r, ⟨readings.getD r 0, true, now s - ticksPerMs⟩) }) s)

/-- POWER_UP (R578, Table 20.5): the rails come up in sequence, RESET_N low; the retention state is lost. -/
def execPowerUp (s : State) : Host.Outcome State Fault Refusal :=
  .next
    (let s1 := chipReset true false s
     setPower (fun p =>
       { p with
         thermalHold := false, brownHold := false, temps := []
         rails := (List.range 10).map fun r => (r, ⟨railNominal r, true, now s⟩) })
       { s1 with boot := { s1.boot with resetN := false } })

/-! ### Temperatures (R585, Table 20.8) -/

/-- The upper junction limit of the ordering code in °C. -/
def upperLimit : Int := if Config.extended then 105 else 95

/-- The number of the first sensor that reads the hottest. -/
def hottestSensor (temps : List Int) : Nat :=
  let m := temps.foldl max (-128)
  (temps.findIdx? fun t => decide (t = m)).getD 0

/-- THERMAL_THRESHOLD (R585): the sixteen sensors as read. The hottest at 5 °C below the upper limit raises EV1248, at 10 °C
above it EV1249, once as it crosses; the reset hold ends when every sensor reads at or below the limit.
DESIGN CHOICE (unsafe, log 158). -/
def execThermalThreshold (temps : List Int) (s : State) : Host.Outcome State Fault Refusal :=
  .next
    (let old := (hottest s).getD (-128)
     let t := temps.foldl max (-128)
     let n := hottestSensor temps
     let d := (t % 4294967296).toNat
     let s1 := setPower (fun p =>
       { p with
         temps := temps.zipIdx.map fun x => (x.2, x.1)
         boosted := boostNow t p.boosted
         thermalHold := (p.thermalHold || decide (upperLimit + 10 ≤ t)) && decide (upperLimit < t) }) s
     if s.boot.inReset then s1
     else
       let s2 := if old < upperLimit - 5 ∧ upperLimit - 5 ≤ t then raise 1248 n d s1 else s1
       if old < upperLimit + 10 ∧ upperLimit + 10 ≤ t then raise 1249 n d s2 else s2)

end Sys2Proof.Machine
end

