-- ==== Sys2Proof/Machine/Resync.lean ====
section
/-! DEFINITION. What a twin takes from its partner (chapter 15): the state copy, the snapshot, and the frames of the stitch
link that carry them (R223, R225, R459 to R471). -/

namespace Sys2Proof.Machine

/-! ### The state copy (R459, R461, Table 15.2) -/

/-- The parts of a STATE body: kind, whether the next frame continues it, data; `fuel` at most. -/
def stateParts : Nat → Bytes → List (Nat × Bool × Bytes)
  | 0, _ => []
  | n + 1, b =>
    if b.length < 4 then []
    else
      let k := rd b 2 2
      (rd b 0 1, bit (rd b 1 1) 0, slice b 4 k) :: stateParts n (b.drop (4 + k))

/-- Joins continued parts into items, `got` being the data of the item begun. -/
def joinParts : List (Nat × Bool × Bytes) → Bytes → List CopyItem
  | [], _ => []
  | (k, more, d) :: t, got => if more then joinParts t (got ++ d) else Config.itemOf k (got ++ d) :: joinParts t []

/-- The items of a cycle's STATE bodies. -/
def copiedItems (bodies : List Bytes) : List CopyItem := joinParts (bodies.flatMap (stateParts 4096)) []

/-- Whether a cycle's STATE bodies are those its CYCLE_END describes (Table 15.3). -/
def copyWhole (bodies : List Bytes) (end_ : Bytes) : Bool :=
  decide (bodies.length = rd end_ 4 2 ∧ (bodies.map List.length).sum = rd end_ 8 4 ∧
    (crc32c bodies.flatten).toNat = rd end_ 12 4)

/-- Makes the change that a command made at the partner, at the instant it made it (R294, R343, R388). DESIGN CHOICE
(unsafe, log 163). -/
def makeChange (c : Change) (s : State) : State :=
  let t := { s with tb := { s.tb with sec := c.time.sec, inc := c.time.inc, acc := c.time.acc } }
  let r := c.req
  let back (o : Host.Outcome State Fault Refusal) : State :=
    match o with
    | .next u => { u with tb := s.tb }
    | _ => s
  match c.opcode with
  | 0x0104 => back (execDevBind r t)
  | 0x0201 => back (execQirOpen r t)
  | 0x0202 => back (execQirWrite r t)
  | 0x0203 => back (execQirSeal r t)
  | 0x0207 => back (execQirDiscard r t)
  | 0x0404 => back (execSpnGrant r t)
  | 0x0405 => back (execSpnFallback r t)
  | 0x0503 => back (execLanEq r t)
  | 0x0902 => back (execAudParamWrite r t)
  | 0x0903 => back (execAudGain r t)
  | 0x0905 => back (execAudShepherd r t)
  | 0x0B02 => back (execLaySet r t)
  | 0x0B03 => back (execLayShepherdWrite r t)
  | 0x0B04 => back (execLayShepherdShow r t)
  | 0x0D06 => back (execTimSet r t)
  | 0x1102 => back (execEvtConfig r t)
  | 0x1205 => back (execUpdConfirm r t)
  | _ => s

/-- A result entry is held as at the partner (R109, R113, R115). -/
def adoptEntry (e : HeldEntry) (p : PortState) : PortState :=
  if p.held.any fun h => decide (h.seq = e.seq) then
    { p with held := p.held.map fun h => if h.seq = e.seq then e else h }
  else if e.seq ≤ p.floor then p
  else heldStart e p

/-- An event entered at the partner is pending here, armed at the end of its cycle (R86); a swap's shadow is LOCKED. -/
def adoptEvent (e : DrvEvent) (s : State) : State :=
  if s.drv.queue.any fun x => decide (x.serial = e.serial) then s
  else
    let t := { s with drv := { s.drv with
      queue := s.drv.queue ++ [{ e with armed := some (e.armed.getD ((e.entered / cycleTicks + 1) * cycleTicks)) }]
      serial := e.serial } }
    if e.kind ≠ kSwap then t
    else setQuires (fun x => { x with shadowState := if x.shadowState = .sealed then .locked else .pendingOpen }) t

/-- A result recorded at the partner and not here is recorded here too (R89). -/
def adoptResult (r : DrvResult) (s : State) : State :=
  if s.drv.results.any fun x => decide (x.port = r.port ∧ x.seq = r.seq ∧ x.entry = r.entry) then s
  else { s with drv := { s.drv with results := keepLast 65536 (s.drv.results ++ [r]), resultSerial := r.serial } }

/-- A session of the partner's as it now stands (R401). -/
def adoptSession (x : PtpSession) (ended : Bool) (s : State) : State :=
  let same (y : PtpSession) : Bool := y.partner && decide (y.index = x.index ∧ y.inst = x.inst)
  setTime (fun t =>
    { t with sessions := t.sessions.filter (fun y => !same y) ++ if ended then [] else [{ x with partner := true }] }) s

/-- The partner activates its other slot, or falls back to it: this device's control plane restarts into its own at the same
cycle end, or the device makes a planned chip reset into a deep package's (R543, R546, R547).
DESIGN CHOICE (unsafe, log 139). -/
def adoptActivation (back : Bool) (confirmS : Nat) (s : State) : State :=
  let k := s.boot.running
  let s1 := setBoot (fun b =>
    if deepPackage s (1 - k) then { b with plannedReset := some (1 - k), deepPhase := 2, deepSlot := 1 - k }
    else { b with restartDue := some (1 - k, back) }) s
  if back then setBoot (fun b => { b with fallbackFlag := true }) (setSlot k (fun x => { x with state := .bad }) s1)
  else setBoot (fun b => { b with confirmS := confirmS }) s1

/-- Takes the holder's time item (R366): the references' qualification states, the force, and what the holdover bound and the
learnt offsets rest on; the DPLL's own state comes with its phase updates. DESIGN CHOICE (unsafe, log 196). -/
def adoptTime (c : DpllCopy) (m : DpllMore) (s : State) : State :=
  let s1 := m.quals.zipIdx.foldl (fun t p => setRef p.2 (refTake (now t) p.1) t) s
  setDpll (fun d =>
    { d with
      force := m.force, stateTime := m.stateTime, rungSince := m.rungSince, entry := m.entry, b0 := m.b0, lockedFor := m.locked
      lockedSince := if c.state = 2 ∨ c.state = 3 then some (now s) else none
      learnSys := List.replicate m.sysN c.learntSys, learnAtom := List.replicate m.atomN c.learntAtom }) s1

/-- Takes an item of the state copy (Table 15.2). The DPLL's state and the decisions of class 2 reach the engines they
concern as the copied operands of the rows that decide. DESIGN CHOICE (unsafe, log 163). -/
def adoptItem (s : State) (it : CopyItem) : State :=
  match it with
  | .result p e =>
    setPort p (adoptEntry e)
      { s with cmds := { s.cmds with waiting := s.cmds.waiting.filter fun w => !decide (w.req.port = p ∧ w.req.seq = e.seq) } }
  | .change c => makeChange c s
  | .audio c => makeChange c s
  | .safety c => makeChange c s
  | .entered e => adoptEvent e s
  | .cancelled n => dequeue n s
  | .recorded r => adoptResult r s
  | .time c m => adoptTime c m s
  | .bridges l => { s with audio := { s.audio with bridges := l } }
  | .flowCount i n => setFlow i (fun x => { x with txSeq := n }) s
  | .seriesCount i n => { s with fabric := { s.fabric with tx := mmod (fun _ => {}) s.fabric.tx i fun x => { x with ancSeq := n } } }
  | .session x e => adoptSession x e s
  | .suspect n => suspectOn n s
  | .cleared => if s.time.gnss.state = 6 then suspectOff s else s
  | .aid p => takeAid p s
  | .activated back c => adoptActivation back c s
  | .choice _ _ _ => s
  | .slip _ _ => s
  | .moved _ _ _ => s

/-- Takes the items of a copy; what they change is not copied back. -/
def adoptItems (items : List CopyItem) (s : State) : State :=
  setTwin (fun x => { x with copy := s.twin.copy }) (items.foldl adoptItem s)

/-- CYCLE_END (R461, R469): a STANDBY takes the cycle's items; a SYNCING twin, from the snapshot cycle on, keeps them until it
has the snapshot, and takes them in phase 5; a holder takes its standby's session changes, SUSPECT and aids (R401, R440). A
copy that is not whole is none. DESIGN CHOICE (unsafe, log 196). -/
def takeCopy (end_ : Bytes) (s : State) : State :=
  let c := fullCycle s (rd end_ 0 4)
  let bodies := s.twin.stored
  let s1 := setTwin (fun x => { x with stored := [] }) s
  let items := copiedItems bodies
  if ¬ copyWhole bodies end_ then s1
  else if s.twin.role.holds then adoptItems (items.filter fun i => decide (itemClass i.kind = 3)) s1
  else
    let s2 := setTwin (fun x => { x with lastCopy := some c }) s1
    if s.twin.role = .standby ∨ (s.twin.role = .syncing ∧ s.twin.syncPhase = 5) then adoptItems items s2
    else if s.twin.role = .syncing ∧ 3 ≤ s.twin.syncPhase ∧ fullCycle s s.twin.snapshotCycle ≤ c then
      setTwin (fun x => { x with buffered := x.buffered ++ [(c, items)] }) s2
    else s2

/-! ### The snapshot (R469, Table 15.7) -/

/-- SYNC data of the snapshot in order (Table 15.3). -/
def takeSyncFrame (b : Bytes) (s : State) : State :=
  if s.twin.role ≠ .syncing ∨ rd b 8 8 ≠ s.twin.syncData.length then s
  else
    setTwin (fun x => { x with syncBytes := x.syncBytes + (b.length - 16), syncData := x.syncData ++ b.drop 16 }) s

/-- Phase 4 (R469): the twin adopts the snapshot; its quire's items of class N that differ are staged (R79), all others are in
force at once; the sessions of the snapshot are seen from the other side (R401). DEDUCED (unsafe, log 165). -/
def adoptSnapshot (x : Snapshot) (s : State) : State :=
  let old := s.quire.active
  let s1 := setQuires (fun q =>
    { q with
      active := mixQuires old x.active, target := x.active, staging := stageList old x.active, swapping := none
      shadow := x.shadow, shadowState := x.shadowState, shadowDigest := x.shadowDigest, baseDigest := x.baseDigest
      changeCount := x.changeCount }) s
  let s2 := { s1 with
    drv := { s1.drv with queue := x.queue, serial := x.serial }
    cmds := { s1.cmds with ports := x.ports }
    layers := { s1.layers with cards := x.cards, table := x.layerTable, onMask := x.layerOn, fadeFrames := x.layerFade }
    audio := { s1.audio with table := x.audioTable, onMask := x.audioOn, fadeMs := x.audioFade, idle := x.idle } }
  let s3 := setTime (fun t =>
    { t with
      sessions := x.sessions.map fun y => { y with partner := !y.partner }
      dpll := { t.dpll with force := x.force }
      gnss := { t.gnss with timeAid := x.timeAid, posAid := x.posAid, nav := x.nav } }) s2
  instantChange old (now s) s3

/-- RESYNC_PHASE_END (R469): the phase of Table 15.7 ends: phase 1 only on an ACTIVE link, 3 once all snapshot bytes are here,
4 once nothing is staged, phase 5 only after 4,000 compared cycles without a difference. Phase 4 begins with the snapshot's
adoption and ends with the copies buffered since. A key difference keeps phase 2; any other failure returns
to phase 1 with an event, whose number among the twins' unnamed sources the manual does not give.
DESIGN CHOICE (unsafe, log 62). -/
def execResyncPhaseEnd (ok : Bool) (s : State) : Host.Outcome State Fault Refusal :=
  .next
    (let x := s.twin
     if x.role ≠ .syncing ∨ ¬ s.fabric.stitch.active then s
     else if ¬ ok then
       if x.syncPhase = 2 then s
       else
         raise (1109 + Config.code 15 469 % 59) 0 x.syncPhase
           (setTwin (fun x => { x with syncPhase := 1, syncBytes := 0, syncData := [], buffered := [] }) s)
     else if x.syncPhase = 3 then
       if x.syncData.length < x.snapshotBytes then s
       else startPhase 4 (adoptSnapshot (Config.snapshotOf x.syncData) s)
     else if x.syncPhase = 4 then
       if stagingNow s then s
       else
         startPhase 5 (x.buffered.foldl (fun t p => p.2.foldl adoptItem t) (setTwin (fun y => { y with buffered := [], syncData := [] }) s))
     else if x.syncPhase < 5 then startPhase (x.syncPhase + 1) s
     else if x.clean < 4000 then s
     else enterRole .standby (setTwin (fun x => { x with syncPhase := 0 }) s))

/-! ### Frames received on the stitch link (R222, R223, R225) -/

/-- Delivers a stitch frame in order (R225, Table 15.3). -/
def deliver (kind : Nat) (b : Bytes) (s : State) : State :=
  match kind with
  | 1 => setTwin (fun x => { x with stored := x.stored ++ [b] }) s
  | 2 => takeCopy b s
  | 3 => takeCommand b s
  | 4 => takeReply b s
  | 5 => crookReceive false b s
  | 6 => takeHealth b s
  | 7 => takeSyncFrame b s
  | _ => s

/-- Delivers the frame expected, and then held frames that follow in order, `fuel` at most (R223). -/
def deliverRun : Nat → Bytes → State → State
  | 0, _, s => s
  | n + 1, f, s =>
    let s1 := setStitch (fun x => { x with expected := (x.expected + 1) % 65536 }) s
    let s2 := deliver (rd f 4 1) (slice f 16 (rd f 6 2)) s1
    let e := s2.fabric.stitch.expected
    match s2.fabric.stitch.reorder.find? fun h => decide (h.seq = e) with
    | some h =>
      deliverRun n h.frame
        (setStitch (fun x =>
          let left := x.reorder.filter fun g => decide (g.seq ≠ e)
          { x with reorder := left, gapSince := gapOf left }) s2)
    | none => s2

/-- Whether a frame's length and CRC are right (R222, Table 07.7). -/
def stitchCrcGood (f : Bytes) : Bool :=
  decide (16 ≤ f.length ∧ f.length = 16 + rd f 6 2 ∧ rd f 6 2 ≤ 4032) &&
    decide ((crc32c (f.take 12 ++ zeros 4 ++ f.drop 16)).toNat = rd f 12 4)

/-- STITCH_FRAME_RECEIVE (R222, R223): a frame, header and body; its NAK flag asks for frames again whatever its type. -/
def execStitchFrameReceive (frame : Bytes) (s : State) : Host.Outcome State Fault Refusal :=
  .next
    (if ¬ s.fabric.stitch.active then s
     else if ¬ stitchCrcGood frame then setStitch (fun x => { x with counts := cAdd x.counts 4 1 }) s
     else
       let s0 := takeAck (rd frame 2 2)
         (setStitch (fun x => { x with counts := cAdd x.counts 1 1, ackDue := true }) s)
       let s1 := if bit (rd frame 5 1) 0 then resendFrom (rd frame 2 2) s0 else s0
       if rd frame 4 1 = 0 then s1
       else
         let seq := rd frame 0 2
         let d := (seq + 65536 - s1.fabric.stitch.expected) % 65536
         if d = 0 then deliverRun 257 frame s1
         else if 32768 ≤ d then sendAck false s1
         else if s1.fabric.stitch.reorder.any (fun h => decide (h.seq = seq)) then s1
         else if 256 ≤ s1.fabric.stitch.reorder.length then sendAck true s1
         else
           setStitch (fun x =>
             { x with
               reorder := x.reorder ++ [⟨seq, frame, now s⟩]
               gapSince := some (x.gapSince.getD (now s)) }) s1)

end Sys2Proof.Machine
end

