-- ==== Sys2Proof/Machine/Dispatch.lean ====
section
/-! DEFINITION. The dispatch of every command to its meaning. -/

namespace Sys2Proof.Machine

def exec (cmd : Instr) (s : State) : Host.Outcome State Fault Refusal :=
  match cmd with
  | .devInfo r => Sys2Proof.Machine.execDevInfo r s
  | .devPing r => Sys2Proof.Machine.execDevPing r s
  | .devPortState r => Sys2Proof.Machine.execDevPortState r s
  | .devBind r => Sys2Proof.Machine.execDevBind r s
  | .devBindRead r => Sys2Proof.Machine.execDevBindRead r s
  | .qirOpen r => Sys2Proof.Machine.execQirOpen r s
  | .qirWrite r => Sys2Proof.Machine.execQirWrite r s
  | .qirSeal r => Sys2Proof.Machine.execQirSeal r s
  | .qirSwap r => Sys2Proof.Machine.execQirSwap r s
  | .qirStatus r => Sys2Proof.Machine.execQirStatus r s
  | .qirRead r => Sys2Proof.Machine.execQirRead r s
  | .qirDiscard r => Sys2Proof.Machine.execQirDiscard r s
  | .qirStageRead r => Sys2Proof.Machine.execQirStageRead r s
  | .drvSubmit r => Sys2Proof.Machine.execDrvSubmit r s
  | .drvCancel r => Sys2Proof.Machine.execDrvCancel r s
  | .drvQueueRead r => Sys2Proof.Machine.execDrvQueueRead r s
  | .drvResults r => Sys2Proof.Machine.execDrvResults r s
  | .drvStatus r => Sys2Proof.Machine.execDrvStatus r s
  | .spnRoute r => Sys2Proof.Machine.execSpnRoute r s
  | .spnRouteRead r => Sys2Proof.Machine.execSpnRouteRead r s
  | .spnSourceStatus r => Sys2Proof.Machine.execSpnSourceStatus r s
  | .spnGrant r => Sys2Proof.Machine.execSpnGrant r s
  | .spnFallback r => Sys2Proof.Machine.execSpnFallback r s
  | .spnCounters r => Sys2Proof.Machine.execSpnCounters r s
  | .spnStore r => Sys2Proof.Machine.execSpnStore r s
  | .lanStatus r => Sys2Proof.Machine.execLanStatus r s
  | .lanCounters r => Sys2Proof.Machine.execLanCounters r s
  | .lanEq r => Sys2Proof.Machine.execLanEq r s
  | .lanPrbs r => Sys2Proof.Machine.execLanPrbs r s
  | .lanEye r => Sys2Proof.Machine.execLanEye r s
  | .pktStatus r => Sys2Proof.Machine.execPktStatus r s
  | .pktCounters r => Sys2Proof.Machine.execPktCounters r s
  | .flwStatus r => Sys2Proof.Machine.execFlwStatus r s
  | .pktLaunch r => Sys2Proof.Machine.execPktLaunch r s
  | .pktWatch r => Sys2Proof.Machine.execPktWatch r s
  | .fabStatus r => Sys2Proof.Machine.execFabStatus r s
  | .fabCounters r => Sys2Proof.Machine.execFabCounters r s
  | .fabRetrain r => Sys2Proof.Machine.execFabRetrain r s
  | .stiStatus r => Sys2Proof.Machine.execStiStatus r s
  | .memStatus r => Sys2Proof.Machine.execMemStatus r s
  | .memTraining r => Sys2Proof.Machine.execMemTraining r s
  | .fsyStatus r => Sys2Proof.Machine.execFsyStatus r s
  | .audStatus r => Sys2Proof.Machine.execAudStatus r s
  | .audParamWrite r => Sys2Proof.Machine.execAudParamWrite r s
  | .audGain r => Sys2Proof.Machine.execAudGain r s
  | .audMeter r => Sys2Proof.Machine.execAudMeter r s
  | .audShepherd r => Sys2Proof.Machine.execAudShepherd r s
  | .audShepherdRead r => Sys2Proof.Machine.execAudShepherdRead r s
  | .aptStatus r => Sys2Proof.Machine.execAptStatus r s
  | .aptChstat r => Sys2Proof.Machine.execAptChstat r s
  | .aptCounters r => Sys2Proof.Machine.execAptCounters r s
  | .layStatus r => Sys2Proof.Machine.execLayStatus r s
  | .laySet r => Sys2Proof.Machine.execLaySet r s
  | .layShepherdWrite r => Sys2Proof.Machine.execLayShepherdWrite r s
  | .layShepherdShow r => Sys2Proof.Machine.execLayShepherdShow r s
  | .layShepherdRead r => Sys2Proof.Machine.execLayShepherdRead r s
  | .refStatus r => Sys2Proof.Machine.execRefStatus r s
  | .refSelect r => Sys2Proof.Machine.execRefSelect r s
  | .refHoldover r => Sys2Proof.Machine.execRefHoldover r s
  | .clkStatus r => Sys2Proof.Machine.execClkStatus r s
  | .timRead r => Sys2Proof.Machine.execTimRead r s
  | .timBound r => Sys2Proof.Machine.execTimBound r s
  | .ptpStatus r => Sys2Proof.Machine.execPtpStatus r s
  | .ptpSessions r => Sys2Proof.Machine.execPtpSessions r s
  | .ntsStatus r => Sys2Proof.Machine.execNtsStatus r s
  | .timSet r => Sys2Proof.Machine.execTimSet r s
  | .gnsStatus r => Sys2Proof.Machine.execGnsStatus r s
  | .gnsChannels r => Sys2Proof.Machine.execGnsChannels r s
  | .gnsAid r => Sys2Proof.Machine.execGnsAid r s
  | .gnsMeas r => Sys2Proof.Machine.execGnsMeas r s
  | .twnStatus r => Sys2Proof.Machine.execTwnStatus r s
  | .twnHealth r => Sys2Proof.Machine.execTwnHealth r s
  | .twnYield r => Sys2Proof.Machine.execTwnYield r s
  | .twnSync r => Sys2Proof.Machine.execTwnSync r s
  | .flkStatus r => Sys2Proof.Machine.execFlkStatus r s
  | .flkReport r => Sys2Proof.Machine.execFlkReport r s
  | .flkMembers r => Sys2Proof.Machine.execFlkMembers r s
  | .keyStatus r => Sys2Proof.Machine.execKeyStatus r s
  | .keyLoad r => Sys2Proof.Machine.execKeyLoad r s
  | .keyGenerate r => Sys2Proof.Machine.execKeyGenerate r s
  | .keyErase r => Sys2Proof.Machine.execKeyErase r s
  | .impGet r => Sys2Proof.Machine.execImpGet r s
  | .lcsAdvance r => Sys2Proof.Machine.execLcsAdvance r s
  | .evtRead r => Sys2Proof.Machine.execEvtRead r s
  | .evtConfig r => Sys2Proof.Machine.execEvtConfig r s
  | .evtClear r => Sys2Proof.Machine.execEvtClear r s
  | .colRead r => Sys2Proof.Machine.execColRead r s
  | .colRelease r => Sys2Proof.Machine.execColRelease r s
  | .evtInject r => Sys2Proof.Machine.execEvtInject r s
  | .updBegin r => Sys2Proof.Machine.execUpdBegin r s
  | .updWrite r => Sys2Proof.Machine.execUpdWrite r s
  | .updVerify r => Sys2Proof.Machine.execUpdVerify r s
  | .updActivate r => Sys2Proof.Machine.execUpdActivate r s
  | .updConfirm r => Sys2Proof.Machine.execUpdConfirm r s
  | .updStatus r => Sys2Proof.Machine.execUpdStatus r s
  | .casWrite r => Sys2Proof.Machine.execCasWrite r s
  | .casRead r => Sys2Proof.Machine.execCasRead r s
  | .diaLoopback r => Sys2Proof.Machine.execDiaLoopback r s
  | .diaSelftest r => Sys2Proof.Machine.execDiaSelftest r s
  | .diaRegRead r => Sys2Proof.Machine.execDiaRegRead r s
  | .diaRegWrite r => Sys2Proof.Machine.execDiaRegWrite r s
  | .commandReceipt ep packet => Sys2Proof.Machine.execCommandReceipt ep packet s
  | .heldCommandTimeout port seq => Sys2Proof.Machine.execHeldCommandTimeout port seq s
  | .safetyUartFrame frame => Sys2Proof.Machine.execSafetyUartFrame frame s
  | .mgtFrameReceive port input => Sys2Proof.Machine.execMgtFrameReceive port input s
  | .mgtSessionAckTimeout => Sys2Proof.Machine.execMgtSessionAckTimeout s
  | .sessionIdleTimeout => Sys2Proof.Machine.execSessionIdleTimeout s
  | .sessionKeyUpdate => Sys2Proof.Machine.execSessionKeyUpdate s
  | .switchPoint d k => Sys2Proof.Machine.execSwitchPoint d k s
  | .lineWrite slot line fmt within data err => Sys2Proof.Machine.execLineWrite slot line fmt within data err s
  | .destinationLineRead d k line => Sys2Proof.Machine.execDestinationLineRead d k line s
  | .sourceStateEvaluation slot => Sys2Proof.Machine.execSourceStateEvaluation slot s
  | .sourceFrameLoss slot => Sys2Proof.Machine.execSourceFrameLoss slot s
  | .sourceEvaluationCycle slot => Sys2Proof.Machine.execSourceEvaluationCycle slot s
  | .spineScrubPass us corrected => Sys2Proof.Machine.execSpineScrubPass us corrected s
  | .hardwareFault f => Sys2Proof.Machine.execHardwareFault f s
  | .destFormatQuietPoint d => Sys2Proof.Machine.execDestFormatQuietPoint d s
  | .destFormatComplete d => Sys2Proof.Machine.execDestFormatComplete d s
  | .droverEventApply serial => Sys2Proof.Machine.execDroverEventApply serial s
  | .quireSwapApply => Sys2Proof.Machine.execQuireSwapApply s
  | .swapComplete => Sys2Proof.Machine.execSwapComplete s
  | .quireDigestDone => Sys2Proof.Machine.execQuireDigestDone s
  | .stagedItemStart i => Sys2Proof.Machine.execStagedItemStart i s
  | .stagedItemComplete i => Sys2Proof.Machine.execStagedItemComplete i s
  | .stagedItemTimeout i => Sys2Proof.Machine.execStagedItemTimeout i s
  | .rxLock lane => Sys2Proof.Machine.execRxLock lane s
  | .rxAlign lane fmt level => Sys2Proof.Machine.execRxAlign lane fmt level s
  | .rxLockLoss lane clock => Sys2Proof.Machine.execRxLockLoss lane clock s
  | .huntDwellExpiry lane => Sys2Proof.Machine.execHuntDwellExpiry lane s
  | .gangDeskew lane skewNs => Sys2Proof.Machine.execGangDeskew lane skewNs s
  | .ancPacketReceive lane pkt => Sys2Proof.Machine.execAncPacketReceive lane pkt s
  | .audioPacketDeembed lane group check samples => Sys2Proof.Machine.execAudioPacketDeembed lane group check samples s
  | .audioGroupAbsent lane group => Sys2Proof.Machine.execAudioGroupAbsent lane group s
  | .txLineStart lane k line dropped => Sys2Proof.Machine.execTxLineStart lane k line dropped s
  | .txRelockEnd lane => Sys2Proof.Machine.execTxRelockEnd lane s
  | .prbsCheckerLock lane => Sys2Proof.Machine.execPrbsCheckerLock lane s
  | .prbsCheckerUnlock lane errors => Sys2Proof.Machine.execPrbsCheckerUnlock lane errors s
  | .portUp port skewNs => Sys2Proof.Machine.execPortUp port skewNs s
  | .portDown port faults => Sys2Proof.Machine.execPortDown port faults s
  | .frameReceive port frame => Sys2Proof.Machine.execFrameReceive port frame s
  | .pauseExpiry port => Sys2Proof.Machine.execPauseExpiry port s
  | .membershipReportSend i => Sys2Proof.Machine.execMembershipReportSend i s
  | .flowAgeingCycle => Sys2Proof.Machine.execFlowAgeingCycle s
  | .mergeRecordAgeing => Sys2Proof.Machine.execMergeRecordAgeing s
  | .mediaPacketLaunch flow k i => Sys2Proof.Machine.execMediaPacketLaunch flow k i s
  | .mediaPacketLateDrop port => Sys2Proof.Machine.execMediaPacketLateDrop port s
  | .frameTransmit port => Sys2Proof.Machine.execFrameTransmit port s
  | .hostFrameLaunch port => Sys2Proof.Machine.execHostFrameLaunch port s
  | .tcEntryAgeing => Sys2Proof.Machine.execTcEntryAgeing s
  | .portWake port frame => Sys2Proof.Machine.execPortWake port frame s
  | .fabricSignalDetect lane => Sys2Proof.Machine.execFabricSignalDetect lane s
  | .trainingFrameReceive lane inverted control status => Sys2Proof.Machine.execTrainingFrameReceive lane inverted control status s
  | .blockLock lane logical skewNs => Sys2Proof.Machine.execBlockLock lane logical skewNs s
  | .blockLockLoss lane => Sys2Proof.Machine.execBlockLockLoss lane s
  | .capsReceive lane caps => Sys2Proof.Machine.execCapsReceive lane caps s
  | .laneStateTimeout lane => Sys2Proof.Machine.execLaneStateTimeout lane s
  | .cellReceive lane cell flagged => Sys2Proof.Machine.execCellReceive lane cell flagged s
  | .fabricMergeAgeing => Sys2Proof.Machine.execFabricMergeAgeing s
  | .pictureCellSend stream k line j => Sys2Proof.Machine.execPictureCellSend stream k line j s
  | .frameStatusSend stream k line => Sys2Proof.Machine.execFrameStatusSend stream k line s
  | .audioCellSend stream n0 => Sys2Proof.Machine.execAudioCellSend stream n0 s
  | .stitchFrameReceive frame => Sys2Proof.Machine.execStitchFrameReceive frame s
  | .stitchReorderTimeout => Sys2Proof.Machine.execStitchReorderTimeout s
  | .stitchAckSend => Sys2Proof.Machine.execStitchAckSend s
  | .stitchResendTimeout => Sys2Proof.Machine.execStitchResendTimeout s
  | .stitchLinkDown => Sys2Proof.Machine.execStitchLinkDown s
  | .dramTempPoll group temps => Sys2Proof.Machine.execDramTempPoll group temps s
  | .dramWckRetrain chan ps => Sys2Proof.Machine.execDramWckRetrain chan ps s
  | .dramUncorrectableRead chan extent user => Sys2Proof.Machine.execDramUncorrectableRead chan extent user s
  | .dramGroupOut group cause => Sys2Proof.Machine.execDramGroupOut group cause s
  | .dramAccessRefused group pen port => Sys2Proof.Machine.execDramAccessRefused group pen port s
  | .dramPatrolScrub chan corrected => Sys2Proof.Machine.execDramPatrolScrub chan corrected s
  | .dramAutoSelfRefresh chan => Sys2Proof.Machine.execDramAutoSelfRefresh chan s
  | .dramSelfRefreshExit chan => Sys2Proof.Machine.execDramSelfRefreshExit chan s
  | .fsyChoose i j copied => Sys2Proof.Machine.execFsyChoose i j copied s
  | .fsyOwnDecision i j => Sys2Proof.Machine.execFsyOwnDecision i j s
  | .fsyOutputLine i j line => Sys2Proof.Machine.execFsyOutputLine i j line s
  | .fsyMoveRestart i => Sys2Proof.Machine.execFsyMoveRestart i s
  | .audioSamplePeriod sec n copied => Sys2Proof.Machine.execAudioSamplePeriod sec n copied s
  | .programBankExchange => Sys2Proof.Machine.execProgramBankExchange s
  | .audioChangeApply sec => Sys2Proof.Machine.execAudioChangeApply sec s
  | .gainNativeTimeout sec key => Sys2Proof.Machine.execGainNativeTimeout sec key s
  | .gainRampEnd sec key => Sys2Proof.Machine.execGainRampEnd sec key s
  | .domfreeClockChange st milliHz => Sys2Proof.Machine.execDomfreeClockChange st milliHz s
  | .bridgeLock b locked => Sys2Proof.Machine.execBridgeLock b locked s
  | .shepherdInsertFadeEnd channel => Sys2Proof.Machine.execShepherdInsertFadeEnd channel s
  | .aes3FrameReceive port rate frame copied => Sys2Proof.Machine.execAes3FrameReceive port rate frame copied s
  | .audioPortNoSignal port => Sys2Proof.Machine.execAudioPortNoSignal port s
  | .aes3FrameSend port n => Sys2Proof.Machine.execAes3FrameSend port n s
  | .tdmFrame port n rate good slots copied => Sys2Proof.Machine.execTdmFrame port n rate good slots copied s
  | .layerOutputLine e k line => Sys2Proof.Machine.execLayerOutputLine e k line s
  | .layerFormatChangeStart e => Sys2Proof.Machine.execLayerFormatChangeStart e s
  | .layerFormatChangeEnd e => Sys2Proof.Machine.execLayerFormatChangeEnd e s
  | .shepherdChangeApply e => Sys2Proof.Machine.execShepherdChangeApply e s
  | .taiSecondEvaluation meas => Sys2Proof.Machine.execTaiSecondEvaluation meas s
  | .referencePulse r stamp => Sys2Proof.Machine.execReferencePulse r stamp s
  | .atomCountCycle ppt => Sys2Proof.Machine.execAtomCountCycle ppt s
  | .referenceActivityFault r => Sys2Proof.Machine.execReferenceActivityFault r s
  | .referenceHoldExpiry r => Sys2Proof.Machine.execReferenceHoldExpiry r s
  | .dpllPhaseUpdate err copied => Sys2Proof.Machine.execDpllPhaseUpdate err copied s
  | .ladderAdvance => Sys2Proof.Machine.execLadderAdvance s
  | .synthLockLoss domain => Sys2Proof.Machine.execSynthLockLoss domain s
  | .synthRelock domain => Sys2Proof.Machine.execSynthRelock domain s
  | .sysrefLoss root => Sys2Proof.Machine.execSysrefLoss root s
  | .pulseOutputEdge o k => Sys2Proof.Machine.execPulseOutputEdge o k s
  | .acquisitionStep copied => Sys2Proof.Machine.execAcquisitionStep copied s
  | .timSetApply => Sys2Proof.Machine.execTimSetApply s
  | .hstTimeNsRead => Sys2Proof.Machine.execHstTimeNsRead s
  | .ptpMessageReceive p addr msg => Sys2Proof.Machine.execPtpMessageReceive p addr msg s
  | .ptpMessageSend p kind session => Sys2Proof.Machine.execPtpMessageSend p kind session s
  | .announceReceiptTimeout p => Sys2Proof.Machine.execAnnounceReceiptTimeout p s
  | .unicastGrantAgeing => Sys2Proof.Machine.execUnicastGrantAgeing s
  | .leapSecond => Sys2Proof.Machine.execLeapSecond s
  | .keyRollover inst => Sys2Proof.Machine.execKeyRollover inst s
  | .ntpRequest port addr msg => Sys2Proof.Machine.execNtpRequest port addr msg s
  | .ntsKeHandshake port conn opened good keys => Sys2Proof.Machine.execNtsKeHandshake port conn opened good keys s
  | .ntsKeTimeout conn => Sys2Proof.Machine.execNtsKeTimeout conn s
  | .rateLimiterAgeing => Sys2Proof.Machine.execRateLimiterAgeing s
  | .gnssClockStamp stamp => Sys2Proof.Machine.execGnssClockStamp stamp s
  | .gnssNoClock => Sys2Proof.Machine.execGnssNoClock s
  | .gnssStreamCheck stream extreme total equal => Sys2Proof.Machine.execGnssStreamCheck stream extreme total equal s
  | .channelAllocation sats => Sys2Proof.Machine.execChannelAllocation sats s
  | .searchDwell channel detected => Sys2Proof.Machine.execSearchDwell channel detected s
  | .channelPullinDone channel => Sys2Proof.Machine.execChannelPullinDone channel s
  | .channelLockLoss channel => Sys2Proof.Machine.execChannelLockLoss channel s
  | .reacqTimeout channel => Sys2Proof.Machine.execReacqTimeout channel s
  | .navMessageDecode channel message bits => Sys2Proof.Machine.execNavMessageDecode channel message bits s
  | .measurementEpoch e => Sys2Proof.Machine.execMeasurementEpoch e s
  | .gnssHoldTimeout => Sys2Proof.Machine.execGnssHoldTimeout s
  | .stitchCycleEnd => Sys2Proof.Machine.execStitchCycleEnd s
  | .crookClaim => Sys2Proof.Machine.execCrookClaim s
  | .startingWaitExpiry => Sys2Proof.Machine.execStartingWaitExpiry s
  | .restartOverrun => Sys2Proof.Machine.execRestartOverrun s
  | .selftestRun item pass => Sys2Proof.Machine.execSelftestRun item pass s
  | .resyncPhaseEnd ok => Sys2Proof.Machine.execResyncPhaseEnd ok s
  | .flockHelloSend => Sys2Proof.Machine.execFlockHelloSend s
  | .flockMessageReceive port station addr msg => Sys2Proof.Machine.execFlockMessageReceive port station addr msg s
  | .memberAgeing => Sys2Proof.Machine.execMemberAgeing s
  | .keyUseRequest slot world alg requester => Sys2Proof.Machine.execKeyUseRequest slot world alg requester s
  | .drbgReseed => Sys2Proof.Machine.execDrbgReseed s
  | .entropyHealthFail test => Sys2Proof.Machine.execEntropyHealthFail test s
  | .cryptoChunkBoundary arrived => Sys2Proof.Machine.execCryptoChunkBoundary arrived s
  | .blockResetRecovered block inst => Sys2Proof.Machine.execBlockResetRecovered block inst s
  | .coreWatchdog core task => Sys2Proof.Machine.execCoreWatchdog core task s
  | .colophonWriteDone cut => Sys2Proof.Machine.execColophonWriteDone cut s
  | .evtPendWrite n value => Sys2Proof.Machine.execEvtPendWrite n value s
  | .evtSummaryWrite value => Sys2Proof.Machine.execEvtSummaryWrite value s
  | .evtBlkStatusRead b => Sys2Proof.Machine.execEvtBlkStatusRead b s
  | .rfcEventsWrite value => Sys2Proof.Machine.execRfcEventsWrite value s
  | .bootStatusWrite value => Sys2Proof.Machine.execBootStatusWrite value s
  | .resetAssert lowNs => Sys2Proof.Machine.execResetAssert lowNs s
  | .resetRelease b => Sys2Proof.Machine.execResetRelease b s
  | .chipReset copied => Sys2Proof.Machine.execChipReset copied s
  | .controlPlaneRestart => Sys2Proof.Machine.execControlPlaneRestart s
  | .vegenRegister => Sys2Proof.Machine.execVegenRegister s
  | .updateActivationDue => Sys2Proof.Machine.execUpdateActivationDue s
  | .confirmTimerExpiry => Sys2Proof.Machine.execConfirmTimerExpiry s
  | .deepUpdatePhase phase good => Sys2Proof.Machine.execDeepUpdatePhase phase good s
  | .hstDoorbell q value => Sys2Proof.Machine.execHstDoorbell q value s
  | .hstCqHead q value => Sys2Proof.Machine.execHstCqHead q value s
  | .submissionFetch q entry packet => Sys2Proof.Machine.execSubmissionFetch q entry packet s
  | .completionWrite q => Sys2Proof.Machine.execCompletionWrite q s
  | .hstQpCfgWrite q value => Sys2Proof.Machine.execHstQpCfgWrite q value s
  | .interruptModerationTimeout q => Sys2Proof.Machine.execInterruptModerationTimeout q s
  | .descriptorTailWrite value => Sys2Proof.Machine.execDescriptorTailWrite value s
  | .receiveHeadWrite value => Sys2Proof.Machine.execReceiveHeadWrite value s
  | .launchHeadWrite value => Sys2Proof.Machine.execLaunchHeadWrite value s
  | .hostFrameDeliver len => Sys2Proof.Machine.execHostFrameDeliver len s
  | .hstMboxGo value => Sys2Proof.Machine.execHstMboxGo value s
  | .mboxFetchDone package fails badKeys => Sys2Proof.Machine.execMboxFetchDone package fails badKeys s
  | .registerWrite bar off value => Sys2Proof.Machine.execRegisterWrite bar off value s
  | .perstAssert low => Sys2Proof.Machine.execPerstAssert low s
  | .foldSlotSend => Sys2Proof.Machine.execFoldSlotSend s
  | .foldFrameReceive frame => Sys2Proof.Machine.execFoldFrameReceive frame s
  | .foldTenureEnd => Sys2Proof.Machine.execFoldTenureEnd s
  | .foldFrameDrop => Sys2Proof.Machine.execFoldFrameDrop s
  | .foldSilenceTimeout => Sys2Proof.Machine.execFoldSilenceTimeout s
  | .busLockTimeout master addr released => Sys2Proof.Machine.execBusLockTimeout master addr released s
  | .romRemapWrite => Sys2Proof.Machine.execRomRemapWrite s
  | .debugMailboxWrite word => Sys2Proof.Machine.execDebugMailboxWrite word s
  | .jtagInstruction fn => Sys2Proof.Machine.execJtagInstruction fn s
  | .avsRequest ack slewNs => Sys2Proof.Machine.execAvsRequest ack slewNs s
  | .governorAdmission => Sys2Proof.Machine.execGovernorAdmission s
  | .supplyUndervoltage rail mv => Sys2Proof.Machine.execSupplyUndervoltage rail mv s
  | .supplyRestored readings => Sys2Proof.Machine.execSupplyRestored readings s
  | .powerUp => Sys2Proof.Machine.execPowerUp s
  | .thermalThreshold temps => Sys2Proof.Machine.execThermalThreshold temps s
  | .clockReferenceActivityRestored r => Sys2Proof.Machine.execClockReferenceActivityRestored r s
  | .gnssClockReturn => Sys2Proof.Machine.execGnssClockReturn s
  | .foldTokenPhaseStart => Sys2Proof.Machine.execFoldTokenPhaseStart s
  | .foldPollResponseTimeout => Sys2Proof.Machine.execFoldPollResponseTimeout s
  | .errNMinimumHoldEnd => Sys2Proof.Machine.execErrNMinimumHoldEnd s
  | .keyShareRerandomisation => Sys2Proof.Machine.execKeyShareRerandomisation s
  | .portBringUpComplete port => Sys2Proof.Machine.execPortBringUpComplete port s

end Sys2Proof.Machine
end

