-- ==== Sys2Proof/Safety.lean ====
section
/-! DEFINITION. What counts as a sound state, and the terms in which statements speak of a run: a command that starts, what
it finds, how it ends; the order of simultaneous activities. -/

namespace Sys2Proof.Safety

open Sys2Proof.Machine

/-- A command of an opcode starts and passes steps 7 to 11 of Table 04.3: it may start now, none of those checks refuses
it, and it is no repetition of a held one. -/
abbrev Starts (op : Nat) (r : Req) (s : State) : Prop :=
  canStart (rowOf op) r s = true ∧ precheck (rowOf op) r s = none ∧ r.dup = false

/-- The state in which a command that starts executes: it no longer waits, and its sequence is recorded as in progress
(R102 step 7, R113). Nothing but the command front end differs from the state before. -/
def begun (op : Nat) (r : Req) (s : State) : State :=
  setPort r.port (heldStart ⟨r.seq, op, r.crc, false, false, 0, 0, []⟩) (unwait op r s)

/-- The opcode and request of a command of Table 04.11; none for an event. -/
def requestOf (c : Instr) : Option (Nat × Req) :=
  match c with
  | .devInfo r => some (0x0101, r)
  | .devPing r => some (0x0102, r)
  | .devPortState r => some (0x0103, r)
  | .devBind r => some (0x0104, r)
  | .devBindRead r => some (0x0105, r)
  | .qirOpen r => some (0x0201, r)
  | .qirWrite r => some (0x0202, r)
  | .qirSeal r => some (0x0203, r)
  | .qirSwap r => some (0x0204, r)
  | .qirStatus r => some (0x0205, r)
  | .qirRead r => some (0x0206, r)
  | .qirDiscard r => some (0x0207, r)
  | .qirStageRead r => some (0x0208, r)
  | .drvSubmit r => some (0x0301, r)
  | .drvCancel r => some (0x0302, r)
  | .drvQueueRead r => some (0x0303, r)
  | .drvResults r => some (0x0304, r)
  | .drvStatus r => some (0x0305, r)
  | .spnRoute r => some (0x0401, r)
  | .spnRouteRead r => some (0x0402, r)
  | .spnSourceStatus r => some (0x0403, r)
  | .spnGrant r => some (0x0404, r)
  | .spnFallback r => some (0x0405, r)
  | .spnCounters r => some (0x0406, r)
  | .spnStore r => some (0x0407, r)
  | .lanStatus r => some (0x0501, r)
  | .lanCounters r => some (0x0502, r)
  | .lanEq r => some (0x0503, r)
  | .lanPrbs r => some (0x0504, r)
  | .lanEye r => some (0x0505, r)
  | .pktStatus r => some (0x0601, r)
  | .pktCounters r => some (0x0602, r)
  | .flwStatus r => some (0x0603, r)
  | .pktLaunch r => some (0x0604, r)
  | .pktWatch r => some (0x0605, r)
  | .fabStatus r => some (0x0701, r)
  | .fabCounters r => some (0x0702, r)
  | .fabRetrain r => some (0x0703, r)
  | .stiStatus r => some (0x0704, r)
  | .memStatus r => some (0x0801, r)
  | .memTraining r => some (0x0802, r)
  | .fsyStatus r => some (0x0803, r)
  | .audStatus r => some (0x0901, r)
  | .audParamWrite r => some (0x0902, r)
  | .audGain r => some (0x0903, r)
  | .audMeter r => some (0x0904, r)
  | .audShepherd r => some (0x0905, r)
  | .audShepherdRead r => some (0x0906, r)
  | .aptStatus r => some (0x0A01, r)
  | .aptChstat r => some (0x0A02, r)
  | .aptCounters r => some (0x0A03, r)
  | .layStatus r => some (0x0B01, r)
  | .laySet r => some (0x0B02, r)
  | .layShepherdWrite r => some (0x0B03, r)
  | .layShepherdShow r => some (0x0B04, r)
  | .layShepherdRead r => some (0x0B05, r)
  | .refStatus r => some (0x0C01, r)
  | .refSelect r => some (0x0C02, r)
  | .refHoldover r => some (0x0C03, r)
  | .clkStatus r => some (0x0C04, r)
  | .timRead r => some (0x0D01, r)
  | .timBound r => some (0x0D02, r)
  | .ptpStatus r => some (0x0D03, r)
  | .ptpSessions r => some (0x0D04, r)
  | .ntsStatus r => some (0x0D05, r)
  | .timSet r => some (0x0D06, r)
  | .gnsStatus r => some (0x0E01, r)
  | .gnsChannels r => some (0x0E02, r)
  | .gnsAid r => some (0x0E03, r)
  | .gnsMeas r => some (0x0E04, r)
  | .twnStatus r => some (0x0F01, r)
  | .twnHealth r => some (0x0F02, r)
  | .twnYield r => some (0x0F03, r)
  | .twnSync r => some (0x0F04, r)
  | .flkStatus r => some (0x0F05, r)
  | .flkReport r => some (0x0F06, r)
  | .flkMembers r => some (0x0F07, r)
  | .keyStatus r => some (0x1001, r)
  | .keyLoad r => some (0x1002, r)
  | .keyGenerate r => some (0x1003, r)
  | .keyErase r => some (0x1004, r)
  | .impGet r => some (0x1005, r)
  | .lcsAdvance r => some (0x1006, r)
  | .evtRead r => some (0x1101, r)
  | .evtConfig r => some (0x1102, r)
  | .evtClear r => some (0x1103, r)
  | .colRead r => some (0x1104, r)
  | .colRelease r => some (0x1105, r)
  | .evtInject r => some (0x1106, r)
  | .updBegin r => some (0x1201, r)
  | .updWrite r => some (0x1202, r)
  | .updVerify r => some (0x1203, r)
  | .updActivate r => some (0x1204, r)
  | .updConfirm r => some (0x1205, r)
  | .updStatus r => some (0x1206, r)
  | .casWrite r => some (0x1207, r)
  | .casRead r => some (0x1208, r)
  | .diaLoopback r => some (0x1301, r)
  | .diaSelftest r => some (0x1302, r)
  | .diaRegRead r => some (0x1303, r)
  | .diaRegWrite r => some (0x1304, r)
  | _ => none

/-- The state after a command whose execution gave an answer: its reply formed, recorded, and sent or held (R101, R113,
R115, R120). -/
def answered (op : Nat) (r : Req) (a : Ans) : State := conclude (rowOf op) r a

/-- The state after a command that has executed and is answered later (R53, R82). -/
def deferredBy (op : Nat) (r : Req) (info : List Nat) (t : State) : State :=
  { t with cmds := { t.cmds with deferred := t.cmds.deferred ++ [⟨op, r, info, []⟩] } }

/-- The time base is sound: less than a second of increments beside its seconds (R381), a rate word within 20 ppm (R382). -/
def timeSound (s : State) : Prop :=
  s.tb.inc < incsPerSec ∧ -rhoLimit ≤ s.tb.rho ∧ s.tb.rho ≤ rhoLimit

/-- Every table of the spine keeps its canonical form. -/
def spineSound (s : State) : Prop := mwf noSrc s.spine.src = true ∧ mwf noDst s.spine.dst = true

/-- The place of an activity among those of one instant (R592); 0 for one that R592 does not name. -/
def rank : Instr → Nat
  | .taiSecondEvaluation _ => 1
  | .stitchCycleEnd => 2
  | .crookClaim => 2
  | .droverEventApply _ => 3
  | .quireSwapApply => 3
  | .switchPoint _ _ => 4
  | .sourceStateEvaluation _ => 5
  | .sourceEvaluationCycle _ => 5
  | .commandReceipt _ _ => 6
  | _ => 0

end Sys2Proof.Safety
end

