-- ==== Sys2Proof/Certificates/Slice0/Obligations.lean ====
section
/-! DEFINITION. The statements about the device. The meanings are stated through the operations of the manual that the
machine names; `Starts`, `begun`, `answered` and `deferredBy` are of Sys2Proof/Safety.lean. -/

open Sys2Proof Sys2Proof.Machine Sys2Proof.Safety

/-! ### The spine (chapter 02) -/

/-- The SPN commands complete (R53 to R59): with parameters of good form that the caller may name, each gives the reply and
the change that its table states, on the state in which it began; a route of passing entries enters one ROUTE event per entry
and is answered ACCEPTED, or later. -/
def Obligations.SpineCommands : Prop :=
  ∀ (r : Req) (s : State),
    (Starts 0x0401 r s → r.params.length = 16 + 8 * rd r.params 8 2 → 1 ≤ rd r.params 8 2 → rd r.params 8 2 ≤ 256 →
      rd r.params 0xA 2 ≤ 1 → isZero r.params 0xC 4 = true → isScheduled r = true →
      timeCheck r (begun 0x0401 r s) (rd r.params 0 8) 0 = none →
      (∀ x ∈ (routeEntries r (rd r.params 0 8) (routeList r) 0 (begun 0x0401 r s)).1, x = (stOk, 8)) →
      queueFull (begun 0x0401 r s) (rd r.params 8 2) = false →
      exec (.spnRoute r) s = .next (answered 0x0401 r
        { st := (routeEntries r (rd r.params 0 8) (routeList r) 0 (begun 0x0401 r s)).2, status := stAccepted })) ∧
    (Starts 0x0401 r s → r.params.length = 16 + 8 * rd r.params 8 2 → 1 ≤ rd r.params 8 2 → rd r.params 8 2 ≤ 256 →
      rd r.params 0xA 2 ≤ 1 → isZero r.params 0xC 4 = true → isScheduled r = false → rd r.params 0 8 = 0 →
      (∀ x ∈ (routeEntries r 0 (routeList r) 0 (begun 0x0401 r s)).1, x = (stOk, 8)) →
      queueFull (begun 0x0401 r s) (rd r.params 8 2) = false →
      exec (.spnRoute r) s = .next (deferredBy 0x0401 r (List.replicate (rd r.params 8 2) stOk)
        (routeEntries r 0 (routeList r) 0 (begun 0x0401 r s)).2)) ∧
    (Starts 0x0402 r s → r.params.length = 4 → rd r.params 0 2 < 1536 → 1 ≤ rd r.params 2 2 →
      rd r.params 0 2 + rd r.params 2 2 ≤ 1536 →
      exec (.spnRouteRead r) s = .next (answered 0x0402 r (okay (begun 0x0402 r s)
        (rangeRecords (rd r.params 0 2) (rd r.params 2 2) (fun d => owns r (dstPen (inForce s d) d))
          (destRecord (begun 0x0402 r s)))))) ∧
    (Starts 0x0403 r s → r.params.length = 4 → rd r.params 0 2 < 1536 → 1 ≤ rd r.params 2 2 →
      rd r.params 0 2 + rd r.params 2 2 ≤ 1536 →
      exec (.spnSourceStatus r) s = .next (answered 0x0403 r (okay (begun 0x0403 r s)
        (rangeRecords (rd r.params 0 2) (rd r.params 2 2)
          (fun i => owns r (srcPen s.quire.active i) || granted s.quire.active i r.port)
          (sourceRecord (begun 0x0403 r s)))))) ∧
    (Starts 0x0404 r s → r.params.length = 48 → rd r.params 0 2 < 1536 → 1 ≤ rd r.params 2 1 → rd r.params 2 1 ≤ 3 →
      isZero r.params 3 1 = true → isZero r.params 4 4 = true →
      owns r (srcPen s.quire.active (rd r.params 0 2)) = true →
      (isScheduled r = false → rd r.params 8 8 = 0 →
        exec (.spnGrant r) s = .next (answered 0x0404 r (okay
          (countChange (applyGrant (rd r.params 0 2) (rd r.params 2 1) (slice r.params 16 32) (begun 0x0404 r s))) []))) ∧
      (isScheduled r = true → timeCheck r (begun 0x0404 r s) (rd r.params 8 8) 8 = none →
        queueFull (begun 0x0404 r s) 1 = false →
        exec (.spnGrant r) s = .next (answered 0x0404 r
          { st := enqueue
              { mkEvent r (begun 0x0404 r s) kGrant (rd r.params 0 2) (rd r.params 8 8) 0 0 (slice r.params 16 32) with
                op := rd r.params 2 1 } (begun 0x0404 r s)
            status := stAccepted }))) ∧
    (Starts 0x0405 r s → r.params.length = 8 → rd r.params 1 1 < 8 → isZero r.params 6 2 = true →
      owns r (rd r.params 0 1) = true → s.quire.swapping = none →
      (rd r.params 4 2 = 0xFFFF ∨ rasterFormat (rd r.params 2 2) = true ∧ rd r.params 4 2 < 1536 ∧
        srcPen s.quire.active (rd r.params 4 2) = rd r.params 0 1 ∧
        ∀ m < 8, m ≠ rd r.params 1 1 →
          qRd s.quire.active fPens (40 * rd r.params 0 1 + 8 + 4 * m) 2 = rd r.params 2 2 →
          qRd s.quire.active fPens (40 * rd r.params 0 1 + 8 + 4 * m + 2) 2 = 0xFFFF) →
      exec (.spnFallback r) s = .next (answered 0x0405 r (okay (countChange
        { begun 0x0405 r s with
          quire := { s.quire with
            active := qWrite s.quire.active fPens (40 * rd r.params 0 1 + 8 + 4 * rd r.params 1 1)
              (le 2 (if rd r.params 4 2 = 0xFFFF then 0 else rd r.params 2 2) ++ le 2 (rd r.params 4 2)) }
          spine := { s.spine with
            fallbackBad := mset (fun _ => false) s.spine.fallbackBad (8 * rd r.params 0 1 + rd r.params 1 1) false } })
        []))) ∧
    (∀ may : Nat → Bool,
      (may = fun i => if rd r.params 0 1 = 0 then owns r (srcPen s.quire.active i) else owns r (dstPen (inForce s i) i)) →
      Starts 0x0406 r s → r.params.length = 8 → rd r.params 0 1 ≤ 1 → rd r.params 1 1 ≤ 1 → rd r.params 2 2 < 1536 →
      1 ≤ rd r.params 4 2 → rd r.params 4 2 ≤ 256 → rd r.params 2 2 + rd r.params 4 2 ≤ 1536 →
      isZero r.params 6 2 = true →
      exec (.spnCounters r) s = .next (answered 0x0406 r
        { st := if rd r.params 1 1 = 1 then
            (List.range (rd r.params 4 2)).foldl (fun t j =>
              if may (rd r.params 2 2 + j) = false then t
              else if rd r.params 0 1 = 0 then setSrc (rd r.params 2 2 + j) clearSrc t
              else setDst (rd r.params 2 2 + j) clearDst t) (begun 0x0406 r s)
            else begun 0x0406 r s
          params := rangeRecords (rd r.params 2 2) (rd r.params 4 2) may (spnCounters (begun 0x0406 r s) (rd r.params 0 1))
          clearing := decide (rd r.params 1 1 = 1) })) ∧
    (Starts 0x0407 r s → r.params = [] →
      exec (.spnStore r) s = .next (answered 0x0407 r
        { st := { begun 0x0407 r s with
            spine := { s.spine with voteCorrections := 0, codeCorrections := 0, codeUncorrectable := 0 } }
          params := le 4 32512 ++ le 4 (granulesUsed s.quire.active) ++ le 8 (writeReserved s.quire.active / 2002) ++
            le 8 (readReserved s.quire.active / 2002) ++ le 4 s.spine.scrubUs ++ le 4 s.spine.voteCorrections.toNat ++
            le 4 s.spine.codeCorrections.toNat ++ le 4 s.spine.codeUncorrectable.toNat
          clearing := true }))

/-- R43 and the decision of R42: at its switch point a destination that is not between two formats takes the drover changes due
there and decides. With none due, what it then shows is a source its pen may show, VALID in its format, or that pen's fallback
source, VALID in its format, or black; nothing else of the device changes. A source of a disabled pen is not shown (the model's
reading of R69, log 42). -/
def Obligations.SwitchPointDecision : Prop :=
  ∀ (d k : Nat) (s : State), formatMoving s d = false →
    (∀ u, u = (if reached s (switchTime s d k) then applyDue (switchTime s d k) s else s) → formatMoving u d = false →
      exec (.switchPoint d k) s = .next (decideAt d (switchTime s d k) u)) ∧
    (s.quire.swapping = none → pendingSwap s = none → dueEvents (switchTime s d k) s = [] →
      ∃ t, exec (.switchPoint d k) s = .next t ∧
        t = { s with spine := { s.spine with dst := t.spine.dst } } ∧
        (∀ e, e ≠ d → dstSlot t e = dstSlot s e) ∧
        (dstSlot t d).transit = false ∧
        (let q := s.quire.active
         let x := dstSlot t d
         let src := dstRoute q d
         let fb := fallbackNow s q (dstPen q d) (dstFormat q d)
         let off := dstEnabled q d = false ∨ penEnabled q (dstPen q d) = false ∨ 1536 ≤ src
         let may := permitted s q (dstPen q d) src = true
         let good (i : Nat) : Prop :=
           penEnabled q (srcPen q i) = true ∧ (srcSlot s i).state = .valid ∧ formatNow s i = dstFormat q d
         (off → x.display = 1 ∧ x.shown = 0xFFFF) ∧
         (¬ off → ¬ may → (∀ f, fb = some f → good f → x.display = 4 ∧ x.shown = f) ∧
           ((∀ f, fb = some f → ¬ good f) → x.display = 5 ∧ x.shown = 0xFFFF)) ∧
         (¬ off → may → good src → x.display = 0 ∧ x.shown = src) ∧
         (¬ off → may → ¬ good src → dstLoss q d = 1 →
           (∀ f, fb = some f → good f → x.display = 3 ∧ x.shown = f) ∧
           ((∀ f, fb = some f → ¬ good f) → x.display = 2 ∧ x.shown = 0xFFFF)) ∧
         (¬ off → may → ¬ good src → dstLoss q d ≠ 1 → x.display = 2 ∧ x.shown = 0xFFFF)))

/-- A line read between switch points (R45): an enabled destination outside a format change that shows a source outputs the ring
entry that carries the expected frame count and line number; where there is none, or its entry holds an uncorrectable word, it
outputs black and counts a line miss, the word reported by EV0066. The consumer's capture aside (and, after the last line, a
new output delay), nothing else changes. A disabled destination only hands black to a layer that captures it. -/
def Obligations.DestinationLines : Prop :=
  ∀ (d k line : Nat) (s : State) (f : Nat), f = dstFormat (inForce s d) d → isActive (rasterOf f) line = true →
    (dstEnabled (inForce s d) d = false →
      exec (.destinationLineRead d k line) s = .next (captureLayer d k line ⟨true, false, false, blackLine f⟩ s)) ∧
    (∀ (src : Nat) (r : LineRead) (t u : State) (last : Bool),
      dstEnabled (inForce s d) d = true → bound (inForce s d) (0x8000 + d) = true → src = (dstSlot s d).shown →
      src ≠ 0xFFFF → (dstSlot s d).transit = false → last = decide (line = lastActive (rasterOf f)) →
      (∀ e, ringEntry (ringFor s d src) k line = some e → e.bad = false → r = ⟨false, false, false, e.data⟩) →
      (∀ e, ringEntry (ringFor s d src) k line = some e → e.bad = true → r = ⟨true, true, true, blackLine f⟩) →
      (ringEntry (ringFor s d src) k line = none → r = ⟨true, true, false, blackLine f⟩) →
      t = setDst d (countRead r.miss r.bad last) s →
      (r.bad = false → u = t) →
      (r.bad = true →
        u = raise 66 src line
          { setSrc src (fun y => { y with uncorrectable := satInc y.uncorrectable }) t with
            spine := { (setSrc src (fun y => { y with uncorrectable := satInc y.uncorrectable }) t).spine with
              codeUncorrectable := satInc s.spine.codeUncorrectable } }) →
      exec (.destinationLineRead d k line) s =
        .next (emit (.line d k line r.black r.data) (captureLayer d k line r (if last then moveDelay d k u else u))))

/-- Sources (R31, R39, R41, R68): a line, complete within the present TIME cycle, of a bound slot without a serial receiver enters its ring, tagged with
the frame count of R31; a serial receiver writes one only in state STREAM; a slot without a binding takes none; a frame end
closes the frame and gives the state of Table 02.9; a slot without a line for its loss period is LOST; an opaque slot that took
packets in two consecutive cycles is VALID. No destination shows a source of a disabled pen (the model's reading of R69,
log 42). -/
def Obligations.SourceSlots : Prop :=
  ∀ (i : Nat) (s : State),
    (∀ line fmt n data err, n < ticksPerStep → laneOf s.quire.active i = none → bound s.quire.active i = true →
      exec (.lineWrite i line fmt n data err) s = .next (writeLine i line fmt (now s + n) data s)) ∧
    (∀ line fmt n data err, bound s.quire.active i = false → exec (.lineWrite i line fmt n data err) s = .next s) ∧
    (∀ l line fmt n data err, n < ticksPerStep → laneOf s.quire.active i = some l → l < 256 →
      ((laneAt s l).rx = 4 → exec (.lineWrite i line fmt n data err) s = .next (laneWrite l i line fmt (now s + n) data err s)) ∧
      ((laneAt s l).rx ≠ 4 → exec (.lineWrite i line fmt n data err) s = .next s)) ∧
    (∀ line fmt done data, srcEnabled s.quire.active i = true → isOpaque (srcFormat s.quire.active i) = false →
      isActive (rasterOf fmt) line = true → (srcSlot s i).moving = false →
      (srcSlot (writeSlot i line fmt done data s) i).ring.getLast? =
        some ⟨if (srcSlot s i).frameOpen = false ∨ line = firstActive (rasterOf fmt) then frameCount fmt line done
          else (srcSlot s i).frameK, line, data, false⟩) ∧
    (srcEnabled s.quire.active i = true → isOpaque (srcFormat s.quire.active i) = false →
      (isAuto (srcFormat s.quire.active i) = false ∨ (srcSlot s i).stable ≠ 0 →
        exec (.sourceStateEvaluation i) s =
          .next (evaluateSource i (setSrc i (closeFrame (srcWindow s.quire.active i)) s))) ∧
      (isAuto (srcFormat s.quire.active i) = true → (srcSlot s i).stable = 0 →
        exec (.sourceStateEvaluation i) s = .next (setSrc i (closeFrame (srcWindow s.quire.active i)) s) ∧
        (isLost s i = false → exec (.sourceEvaluationCycle i) s = .next (evaluateSource i s)))) ∧
    (isLost s i = true → exec (.sourceFrameLoss i) s = .next (srcLost i s)) ∧
    (srcEnabled s.quire.active i = true → isLost s i = false → isOpaque (srcFormat s.quire.active i) = true →
      (srcSlot s i).state = .acquiring → (srcSlot s i).cycleWritten = true → 1 ≤ (srcSlot s i).cycles →
      exec (.sourceEvaluationCycle i) s = .next (srcEnter i .valid
        (setSrc i (fun x => { x with cycles := (srcSlot s i).cycles + 1, cycleWritten := false }) s))) ∧
    (∀ d k, i < 1536 → penEnabled s.quire.active (srcPen s.quire.active i) = false → formatMoving s d = false →
      pendingSwap s = none → dueEvents (switchTime s d k) s = [] →
      ∃ t, exec (.switchPoint d k) s = .next t ∧ (dstSlot t d).shown ≠ i)

/-- Protection (R51, Table 02.11): a scrub pass counts its time and its corrections, each reported by EV0069; a fault of a
voted element and a word corrected are counted and reported; a lost vote is reported, and stops the renewals of a twin that
holds the crook; an uncorrectable grant mask bars its source, an uncorrectable fallback entry its fallback. -/
def Obligations.SpineProtection : Prop :=
  ∀ (s : State),
    (∀ us, exec (.spineScrubPass us 0) s = .next { s with spine := { s.spine with scrubUs := us } }) ∧
    (∀ us, exec (.spineScrubPass us 1) s = .next (raise 69 0xFFFF 0xFFFFFFFF
      { s with spine := { s.spine with scrubUs := us, codeCorrections := satAdd s.spine.codeCorrections 1 } })) ∧
    (∀ us n, ∃ t, exec (.spineScrubPass us n) s = .next t ∧
      t.spine = { s.spine with scrubUs := us, codeCorrections := satAdd s.spine.codeCorrections n }) ∧
    (∀ cls copy, exec (.hardwareFault (.voted cls copy)) s = .next (raise 64 cls copy
      { s with spine := { s.spine with voteCorrections := satInc s.spine.voteCorrections } })) ∧
    (∀ cls, exec (.hardwareFault (.voteLost cls)) s = .next (raise 65 cls 0
      (if s.twin.role.holds = true then setTwin (fun x => { x with stopped := true }) s else s))) ∧
    (∀ i line, exec (.hardwareFault (.rest i line)) s = .next (raise 69 i line
      { s with spine := { s.spine with codeCorrections := satAdd s.spine.codeCorrections 1 } })) ∧
    (∀ i q p, srcPen q i ≠ p →
      ∃ t, exec (.hardwareFault (.grantBad i)) s = .next t ∧ permitted t q p i = false) ∧
    (∀ p j q f, j < 8 → qRd q fPens (40 * p + 8 + 4 * j) 2 = f → qRd q fPens (40 * p + 8 + 4 * j + 2) 2 < 1536 →
      ∃ t, exec (.hardwareFault (.fallbackBad p j)) s = .next t ∧ fallbackNow t q p f = none) ∧
    (∀ i f k line, ringEntry (srcSlot s i).ring k line ≠ none →
      ∃ t, exec (.hardwareFault (.essenceBad i f k line)) s = .next t ∧
        ∃ e, ringEntry (srcSlot t i).ring k line = some e ∧ e.bad = true)

/-! ### Quires and the drover (chapter 03) -/

/-- The quire commands complete (R60 to R75): QIR_OPEN gives an OPEN shadow; QIR_WRITE fills an assembly buffer, replaces a
folio by it, and puts or deletes entries; QIR_SEAL of a good shadow gives its digest and seals it; QIR_SWAP of a sealed shadow
enters one event and locks it; the reads reply with what they name; QIR_DISCARD empties the shadow. -/
def Obligations.QuireCommands : Prop :=
  ∀ (r : Req) (s : State),
    (Starts 0x0201 r s → r.params.length = 8 → rd r.params 0 1 ≤ 1 → isZero r.params 1 7 = true →
      s.quire.shadowState ∈ [.empty, .opened, .sealed] →
      exec (.qirOpen r) s = .next (answered 0x0201 r (okay { begun 0x0201 r s with
        quire := { s.quire with
          shadow := if rd r.params 0 1 = 0 then {} else s.quire.active
          shadowState := .opened, shadowDigest := none, assembly := [] } } []))) ∧
    (Starts 0x0202 r s → 16 ≤ r.params.length → 1 ≤ rd r.params 0 1 → rd r.params 0 1 ≤ 21 → rd r.params 1 1 = 1 →
      rd r.params 2 2 = 0 → rd r.params 4 4 + (r.params.length - 16) ≤ 134217728 → rd r.params 8 4 = 0 →
      isZero r.params 12 4 = true → s.quire.shadowState ∈ [.opened, .pendingOpen] →
      exec (.qirWrite r) s = .next (answered 0x0202 r (okay { begun 0x0202 r s with
        quire := { s.quire with
          assembly := assemble (rd r.params 0 1) (rd r.params 4 4) (r.params.drop 16) s.quire.assembly } } []))) ∧
    (Starts 0x0202 r s → r.params.length = 16 → 1 ≤ rd r.params 0 1 → rd r.params 0 1 ≤ 21 → rd r.params 1 1 = 2 →
      rd r.params 2 2 = 0 → rd r.params 4 4 = 0 → rd r.params 8 4 ≤ 134217728 → isZero r.params 12 4 = true →
      s.quire.shadowState ∈ [.opened, .pendingOpen] →
      ∀ b, assembled s (rd r.params 0 1) (rd r.params 8 4) = some b → bodyForm (rd r.params 0 1) b = true →
      exec (.qirWrite r) s = .next (answered 0x0202 r (okay { begun 0x0202 r s with
        quire := { s.quire with
          shadow := qReplace s.quire.shadow (rd r.params 0 1) b
          assembly := s.quire.assembly.filter fun c => decide (c.1 / 2 ^ 27 ≠ rd r.params 0 1) } } []))) ∧
    (Starts 0x0203 r s → r.params = [] → s.quire.shadowState = .opened →
      sealCheck (begun 0x0203 r s) s.quire.shadow = none →
      exec (.qirSeal r) s = .next (answered 0x0203 r (okay { begun 0x0203 r s with
          quire := { s.quire with
            shadowDigest := some (sha384 (quireImage s.quire.shadow)), shadowState := .sealed } }
        (sha384 (quireImage s.quire.shadow) ++ le 4 (imageLength s.quire.shadow) ++ le 2 s.quire.shadow.minEpoch ++ zeros 2 ++
          le 4 ((quireDiffs s.quire.active s.quire.shadow).filter fun x => !x.2.2).length ++
          le 4 ((quireDiffs s.quire.active s.quire.shadow).filter fun x => x.2.2).length)))) ∧
    (Starts 0x0204 r s → r.params.length = 72 → isZero r.params 16 8 = true → isScheduled r = true →
      timeCheck r (begun 0x0204 r s) (rd r.params 0 8) 0 = none → s.quire.shadowState = .sealed →
      swapRefusal r (begun 0x0204 r s) = none → queueFull (begun 0x0204 r s) 1 = false →
      ∃ t, exec (.qirSwap r) s = .next (answered 0x0204 r { st := t, status := stAccepted }) ∧
        t.quire = { s.quire with shadowState := .locked } ∧
        t.drv.queue = s.drv.queue ++ [{ mkEvent r s kSwap 0 (rd r.params 0 8) (rd r.params 8 8) 0 (zeros 32) with
          staged := isStaged r, digest := slice r.params 24 48, serial := s.drv.serial + 1, entered := now s
          armed := if hasPartner s then none else some (now s) }]) ∧
    (Starts 0x0205 r s → r.params = [] →
      exec (.qirStatus r) s = .next (answered 0x0205 r (okay (begun 0x0205 r s)
        ((s.quire.baseDigest ++ zeros 48).take 48 ++ le 4 s.quire.changeCount.toNat ++ le 1 (activeState s) ++
          le 1 (shadowCode s.quire.shadowState) ++ le 2 s.quire.staging.length ++ reportedDigest s ++
          le 8 ((pendingSwap s).elim 0 fun e => nsOf e.time) ++ le 8 ((pendingSwap s).elim 0 fun e => e.changeId) ++
          le 2 (s.quire.staging.filter fun i => decide (i.state = .done)).length ++
          le 2 (s.quire.staging.filter fun i => decide (i.state = .failed)).length ++ zeros 4)))) ∧
    (Starts 0x0206 r s → r.params.length = 12 → rd r.params 0 1 = 0 → 1 ≤ rd r.params 1 1 → rd r.params 1 1 ≤ 21 →
      isZero r.params 2 2 = true → rd r.params 8 4 ≤ 65504 → rd r.params 4 4 < qLen s.quire.active (rd r.params 1 1) →
      exec (.qirRead r) s = .next (answered 0x0206 r (okay (begun 0x0206 r s)
        (qBytes s.quire.active (rd r.params 1 1) (rd r.params 4 4)
          (min (rd r.params 8 4) (qLen s.quire.active (rd r.params 1 1) - rd r.params 4 4)))))) ∧
    (Starts 0x0207 r s → r.params = [] → s.quire.shadowState ∈ [.opened, .sealed] →
      exec (.qirDiscard r) s = .next (answered 0x0207 r (okay { begun 0x0207 r s with
        quire := { s.quire with shadow := {}, shadowState := .empty, shadowDigest := none, assembly := [] } } []))) ∧
    (Starts 0x0208 r s → r.params.length = 4 → 1 ≤ rd r.params 2 2 → rd r.params 2 2 ≤ 512 →
      exec (.qirStageRead r) s = .next (answered 0x0208 r (okay (begun 0x0208 r s)
        (((s.quire.staging.zipIdx.drop (rd r.params 0 2)).take (rd r.params 2 2)).flatMap
          fun p => stageRecord p.2 p.1))))

/-- A quire swap at its time (R76, R78, R62): the swap whose point has come either passes every check, and then its quire is
in force with its digest as base digest and no change counted, or fails, and then the active quire is wholly unchanged; at its
completion the old active quire is the shadow, LOCKED until its digest is computed, and the items of a staged swap wait. -/
def Obligations.QuireSwap : Prop :=
  ∀ (s : State),
    (∀ e t, pendingSwap s = some e → appPoint s e = some t → reached s t = true →
      (s.quire.shadowState ≠ .pendingOpen → s.quire.shadowDigest = some e.digest →
        (e.staged = true ∨ needsStaging s.quire.active s.quire.shadow = false) →
        (e.scheduled = true → s.drv.fenced = false) → protectedFault s s.quire.shadow = none →
        ∃ u, exec .quireSwapApply s = .next u ∧ u = takeQuire e t s ∧
          u.quire = { s.quire with
            active := if needsStaging s.quire.active s.quire.shadow then mixQuires s.quire.active s.quire.shadow
              else s.quire.shadow
            baseDigest := e.digest, changeCount := 0, target := s.quire.shadow
            swapping := some ⟨e, s.quire.active, t, []⟩ }) ∧
      (s.quire.shadowState = .pendingOpen ∨ s.quire.shadowDigest ≠ some e.digest ∨
          (e.staged = false ∧ needsStaging s.quire.active s.quire.shadow = true) ∨
          (e.scheduled = true ∧ s.drv.fenced = true) ∨ protectedFault s s.quire.shadow ≠ none →
        ∃ u, exec .quireSwapApply s = .next u ∧ u.quire.active = s.quire.active ∧
          u.quire.baseDigest = s.quire.baseDigest ∧ u.quire.changeCount = s.quire.changeCount ∧
          u.quire.shadow = s.quire.shadow ∧ u.quire.swapping = s.quire.swapping ∧
          (s.quire.shadowState = .locked → u.quire.shadowState = .sealed) ∧
          (s.quire.shadowState = .pendingOpen → u.quire.shadowState = .opened))) ∧
    (∀ w u, s.quire.swapping = some w → swapDone s w = true →
      u = (List.range 64).foldl (fun t e => engineTake e t) s →
      exec .swapComplete s = .next (answerDeferred 0x0204 w.event.port w.event.seq (fun _ t => okay t [])
        (addResult w.event 0 stOk (nsOf w.time) { u with
          quire := { u.quire with
            swapping := none, shadow := (u.quire.swapping.map (·.old)).getD w.old, shadowState := .locked
            shadowDigest := none, assembly := []
            staging := if w.event.staged then stageList u.quire.active u.quire.target else u.quire.staging } }))) ∧
    (s.quire.shadowState = .locked → s.quire.shadowDigest = none → s.quire.swapping = none →
      exec .quireDigestDone s = .next { s with
        quire := { s.quire with
          shadowDigest := some (sha384 (quireImage s.quire.shadow)), shadowState := .sealed } })

/-- Staging (R79, R80, R595): the first waiting item begins once none is in progress; an item that is at its new setting is
done; one that is not within its bound is failed and reported by EV0161, and the staging goes on; a bound destination's format
moves to the new one at its quiet point, an unbound one's at the first frame start of the new format, at which both complete. -/
def Obligations.StagedItems : Prop :=
  ∀ (i : Nat) (x : StageItem) (s : State), s.quire.staging[i]? = some x → vegenUp s = true →
    (s.quire.staging.findIdx (fun y => decide (y.state = .waiting)) = i →
      (∀ y ∈ s.quire.staging, y.state ≠ .inProgress) → ∀ u,
      u = setItem i (fun y => { y with state := .inProgress, started := now s }) s →
      (∀ w, beginItem x.folio x.index u = some w →
        exec (.stagedItemStart i) s = .next (wakeUsed (setItem i (fun y => { y with bound := w.2 }) w.1))) ∧
      (beginItem x.folio x.index u = none →
        exec (.stagedItemStart i) s = .next (failItem i stNoCapacity x u))) ∧
    (∀ u, u = (if x.folio = fDram ∧ 0x2000 ≤ x.index then syDue (x.index - 0x2000) s else s) →
      vegenUp u = true → x.state = .inProgress → itemReady u x = true →
      exec (.stagedItemComplete i) s = .next (finishItem x.folio x.index stOk (endItem x.folio x.index u))) ∧
    (x.state = .inProgress → itemWaits s x.folio x.index = false →
      ∀ t, boundFrom s x = some t → t + x.bound < now s →
      ∃ u, exec (.stagedItemTimeout i) s = .next (raise 161 i (0xFF00 + x.folio)
          (finishItem x.folio x.index (0xFF00 + x.folio) u)) ∧
        (x.folio ≠ fDests → u = s) ∧ (x.folio = fDests → u = lanesSettle x.index s)) ∧
    (∀ d, formatItem s d = some x → (dstSlot s d).transit = false →
      (bound s.quire.active (0x8000 + d) = true →
        exec (.destFormatQuietPoint d) s = .next (itemAdmitted fDests d
          (setDst d (fun y => { y with transit := true }) (stageActive (fun t a => takeEntry fDests d t a) s)))) ∧
      (bound s.quire.active (0x8000 + d) = false →
        exec (.destFormatQuietPoint d) s = .next (itemAdmitted fDests d
          (setDst d (fun y => { y with transit := true }) s)))) ∧
    (∀ d f, formatItem s d = some x → (dstSlot s d).transit = true → f = dstFormat s.quire.target d →
      rasterFormat f = true → reached s (cdiv x.started (framePeriod f) * framePeriod f) = true →
      exec (.destFormatComplete d) s = .next (finishItem fDests d stOk
        (lanesSettle d (stageActive (fun t a => takeEntry fDests d t a) s))))

/-- The drover's commands complete (R82, R88, R89): a good event of a free target is entered, and answered ACCEPTED if it is
scheduled; a cancel by ROOT or by the origin removes every event of it that is still 2 ms away, and says how many are not; the
reads reply with the events and records the caller sees, and DRV_STATUS clears its counters. -/
def Obligations.DroverCommands : Prop :=
  ∀ (r : Req) (s : State),
    (∀ kind target p t, kind = rd r.params 8 1 → target = rd r.params 10 2 → p = slice r.params 32 32 →
      Starts 0x0301 r s → r.params.length = 64 → isScheduled r = decide (rd r.params 0 8 ≠ 0) →
      kind ∈ [kRoute, kDest, kSafeload, kLayer, kMarker] → isZero r.params 9 1 = true → isZero r.params 14 2 = true →
      isZero r.params 24 8 = true → (∀ c ∈ eventForm s.quire.active kind target p, c.1 = true) →
      mayTarget r (begun 0x0301 r s) kind target p = true → rd r.params 12 2 ≤ s.boot.epoch →
      timeCheck r (begun 0x0301 r s) (rd r.params 0 8) 0 = none →
      breaksRule (begun 0x0301 r s) r kind target p = false → queueFull (begun 0x0301 r s) 1 = false →
      targetFull (begun 0x0301 r s) kind target = false →
      t = enqueue { mkEvent r (begun 0x0301 r s) kind target (rd r.params 0 8) (rd r.params 16 8) 0 p with
        minEpoch := rd r.params 12 2 } (begun 0x0301 r s) →
      exec (.drvSubmit r) s = .next
        (if isScheduled r then answered 0x0301 r { st := t, status := stAccepted } else deferredBy 0x0301 r [] t)) ∧
    (∀ (named free late : List DrvEvent) (t : State),
      Starts 0x0302 r s → r.params.length = 16 → isZero r.params 4 4 = true →
      (r.port = portRoot ∨ r.port = rd r.params 0 2) →
      named = s.drv.queue.filter (fun e => decide (e.port = rd r.params 0 2 ∧ e.seq = rd r.params 8 8 ∧
        (rd r.params 2 2 = 0xFFFF ∨ e.entry = rd r.params 2 2))) → named ≠ [] →
      free = named.filter (fun e => decide (r.receipt + 2 * ticksPerMs ≤ pointOf (begun 0x0302 r s) e)) →
      late = named.filter (fun e => decide (pointOf (begun 0x0302 r s) e < r.receipt + 2 * ticksPerMs)) →
      t = settle (rd r.params 0 2) (rd r.params 8 8) (free.foldl cancelEvent (begun 0x0302 r s)) →
      exec (.drvCancel r) s = .next (answered 0x0302 r
        (if late = [] then okay t (le 4 free.length ++ le 4 0)
         else { st := t, status := stTooLate, detail := (late.map (·.entry)).foldl min 0xFFFF
                params := le 4 free.length ++ le 4 late.length }))) ∧
    (Starts 0x0303 r s → r.params.length = 12 →
      rd r.params 2 1 ∈ [0, kRoute, kDest, kGrant, kSwap, kSafeload, kLayer, kMarker] → isZero r.params 3 1 = true →
      1 ≤ rd r.params 8 4 → rd r.params 8 4 ≤ 512 →
      exec (.drvQueueRead r) s = .next (answered 0x0303 r (okay (begun 0x0303 r s)
        ((((s.drv.queue.filter fun e => sees (begun 0x0303 r s) r.port e.port e.kind e.target e.payload &&
          decide (rd r.params 0 2 = 0xFFFF ∨ e.target = rd r.params 0 2) &&
          decide (rd r.params 2 1 = 0 ∨ e.kind = rd r.params 2 1)).drop (rd r.params 4 4)).take
          (rd r.params 8 4)).flatMap queueBytes)))) ∧
    (Starts 0x0304 r s → r.params.length = 8 → 1 ≤ rd r.params 4 2 → rd r.params 4 2 ≤ 1024 →
      isZero r.params 6 2 = true →
      exec (.drvResults r) s = .next (answered 0x0304 r (okay (begun 0x0304 r s)
        (((s.drv.results.filter fun x => serialAfter x.serial (BitVec.ofNat 32 (rd r.params 0 4)) &&
          sees (begun 0x0304 r s) r.port x.port x.kind x.target x.payload).take (rd r.params 4 2)).flatMap
          resultBytes)))) ∧
    (Starts 0x0305 r s → r.params = [] →
      exec (.drvStatus r) s = .next (answered 0x0305 r
        { st := { begun 0x0305 r s with drv := { s.drv with tooLate := 0, superseded := 0, fencedCount := 0 } }
          params := le 4 s.drv.queue.length ++ le 4 s.drv.resultSerial.toNat ++ le 1 (b2n s.drv.fenced) ++ zeros 1 ++
            le 2 s.boot.epoch ++ le 4 (fenceBound s) ++ le 4 (boundWord s) ++ le 4 s.drv.tooLate.toNat ++
            le 4 s.drv.superseded.toNat ++ le 4 s.drv.fencedCount.toNat
          clearing := true }))

/-- Events at their application point (R84, R89, R90, R93): an event whose point has come is applied with every other change of
that instant; one alone there leaves the queue with one result; a scheduled one on a fenced device is not applied and is
reported FENCED, and the active quire is then unchanged; a ROUTE that R26 and R48 allow writes the destination's route. -/
def Obligations.EventApplied : Prop :=
  ∀ (e : DrvEvent) (t : Nat) (s : State), e ∈ s.drv.queue → (∀ x ∈ s.drv.queue, x.serial = e.serial → x = e) →
    e.kind ≠ kSwap → appPoint s e = some t → reached s t = true →
    exec (.droverEventApply e.serial.toNat) s = .next (applyDue t s) ∧
    (pendingSwap s = none → dueEvents t s = [e] →
      exec (.droverEventApply e.serial.toNat) s = .next
        (settle e.port e.seq (reportAll s.quire.active t [(e, (applyEvent e t s).2)] (applyEvent e t s).1))) ∧
    (e.scheduled = true → s.drv.fenced = true → applyEvent e t s = (s, stFenced, false)) ∧
    (e.kind = kRoute → (e.scheduled = true → s.drv.fenced = false) → s.quire.swapping = none →
      (e.scheduled = true → isPen e.port = true → rd e.payload 0 2 ≠ 0xFFFF →
        dstPen s.quire.active e.target = e.port ∧ permitted s s.quire.active e.port (rd e.payload 0 2) = true) →
      (rd e.payload 0 2 ≠ 0xFFFF → routeValid s.quire.active (rd e.payload 0 2) e.target = true) →
      applyEvent e t s = ({ s with
        quire := { s.quire with
          active := qWrite s.quire.active fDests (16 * e.target + 2) (le 2 (rd e.payload 0 2)) } }, stOk, false))

/-! ### Commands, ports and transports (chapter 04) -/

/-- Every opcode of Table 04.11 in a state in which it may not start leaves the state as it is but for waiting, if the device
takes commands at all; and one that may start but fails at a step of 7 to 11 is answered with that refusal, its sequence
recorded, and does nothing else (R102, R105, R112, R122). -/
def Obligations.CommandAdmission : Prop :=
  ∀ (c : Instr) (op : Nat) (r : Req) (s : State), requestOf c = some (op, r) →
    (canStart (rowOf op) r s = false →
      exec c s = .next (if s.boot.ready = true ∨ s.boot.stage = 15 then await op r s else s)) ∧
    (canStart (rowOf op) r s = true → r.dup = false → ∀ st d, precheck (rowOf op) r s = some (st, d) →
      exec c s = .next (answered op r (refuse (begun op r s) st d)))

/-- How a command ends (R101, R113, R115, R120): the reply carries the request's opcode, sequence and flags and the answer's
status, detail and parameters, and is sent at once unless the opcode is marked c and a partner must acknowledge it; the held
entry of its sequence is complete, with a cached reply for a change, a failure and a clearing read; nothing but the command front
end, what carries replies, the state copy and what has been sent differs from what its execution left. -/
def Obligations.CommandEnds : Prop :=
  ∀ (op : Nat) (r : Req) (a : Ans), (catalogue op).isSome = true → r.dup = false →
    (let t := answered op r a
     t = { a.st with cmds := t.cmds, out := t.out, host := t.host, fabric := t.fabric, twin := t.twin }) ∧
    (∀ e ∈ (portOf (answered op r a) r.port).held, e.seq = r.seq → e.complete = true ∧ e.status = a.status ∧
      e.detail = a.detailOn r ∧ e.cached = ((rowOf op).c || decide (0x100 ≤ a.status) || a.clearing)) ∧
    (((rowOf op).c = false ∨ holdsReplies a.st = false) → noReply r.flags = false →
      Out.reply (mkReply a.st op r a.status (a.detailOn r) a.params) ∈ (answered op r a).out) ∧
    ((rowOf op).c = true → holdsReplies a.st = true →
      (answered op r a).out = a.st.out ∧ (answered op r a).cmds.heldReplies =
        a.st.cmds.heldReplies ++ [⟨cycleNow a.st, mkReply a.st op r a.status (a.detailOn r) a.params⟩])

/-- Receipt of a packet (R99, R100, R102 steps 1 to 6, R113): dropped and counted without its magic or with the reply bit or a
wrong CRC; refused on an unbound endpoint; a held sequence is answered BUSY while in progress and OK_DUPLICATE with the cached
reply when complete; a sequence at or below the floor is STALE; a new one waits to start. -/
def Obligations.CommandReceived : Prop :=
  ∀ (ep : Endpoint) (pkt : Bytes) (s : State), s.boot.ready = true → (∀ n, ep ≠ .qp n) →
    ((rd pkt 0 2 ≠ 0x5E7A ∨ bit (rd pkt 3 1) 0 = true ∨ pkt.length < 32) →
      exec (.commandReceipt ep pkt) s = .next
        (setTransport (transportOf ep) (fun t => { t with dropped := satInc t.dropped }) s)) ∧
    (32 ≤ pkt.length → rd pkt 0 2 = 0x5E7A → bit (rd pkt 3 1) 0 = false →
      (∀ p, boundPort s ep = some p → rd pkt 0x1C 4 ≠ packetCrc pkt →
        exec (.commandReceipt ep pkt) s = .next (setPort p (fun x => { x with crcErrors := satInc x.crcErrors }) s)) ∧
      (rd pkt 0x1C 4 = packetCrc pkt → ∀ r : Req,
        r = { ep := ep, port := (boundPort s ep).getD 0xFFFF, receipt := now s, flags := rd pkt 3 1, seq := rd pkt 8 8,
              notAfter := rd pkt 0x10 8, crc := rd pkt 0x1C 4, dup := false, params := pkt.drop 0x20 } →
        (boundPort s ep = none → exec (.commandReceipt ep pkt) s = .next
          (sendReply (mkReply s (rd pkt 4 2) r stNotPermitted 0xFFFF []) s)) ∧
        (∀ p, boundPort s ep = some p → rd pkt 2 1 = 3 → rd pkt 3 1 < 32 → rd pkt 6 2 = pkt.length - 32 →
          pkt.length ≤ 65536 → rd pkt 0x18 4 = 0xFFFF → r.seq ≠ 0 →
          (∀ e, (portOf s p).held.find? (fun e => decide (e.seq = r.seq)) = some e → e.opcode = rd pkt 4 2 → e.crc = r.crc →
            (e.complete = false → exec (.commandReceipt ep pkt) s = .next (earlyBusy r (rd pkt 4 2) s)) ∧
            (e.complete = true → e.cached = true → exec (.commandReceipt ep pkt) s = .next
              (earlyCounted r (rd pkt 4 2) stDuplicate e.status e.params s))) ∧
          ((portOf s p).held.find? (fun e => decide (e.seq = r.seq)) = none →
            s.cmds.waiting.find? (fun w => decide (w.req.port = p ∧ w.req.seq = r.seq)) = none →
            (r.seq ≤ (portOf s p).floor → exec (.commandReceipt ep pkt) s = .next
              (earlyCounted r (rd pkt 4 2) stStale 0 (le 8 (highSeq (portOf s p))) s)) ∧
            ((portOf s p).floor < r.seq → (portOf s p).held.length < 64 → (catalogue (rd pkt 4 2)).isSome = true →
              holdsCrook s = true → exec (.commandReceipt ep pkt) s = .next (await (rd pkt 4 2) r s))))))

/-- R113: recording a new sequence never drops a command in progress, and holds at most 64 sequences unless all of them are in
progress; a complete one dropped raises the floor to it. -/
def Obligations.HeldSet : Prop :=
  ∀ (e : HeldEntry) (p : PortState), p.held.length ≤ 64 → e.complete = false →
    (∀ x ∈ p.held, x.complete = false → x ∈ (heldStart e p).held) ∧ e ∈ (heldStart e p).held ∧
    ((∃ x ∈ p.held, x.complete = true) → (heldStart e p).held.length ≤ 64) ∧
    (∀ x ∈ p.held, x ∉ (heldStart e p).held → x.complete = true ∧ x.seq ≤ (heldStart e p).floor) ∧
    p.floor ≤ (heldStart e p).floor

/-- The DEV commands complete (R107, R125 to R127), and a frame of the safety UART and a command held too long have their
effect (R108, R463). -/
def Obligations.DeviceCommands : Prop :=
  ∀ (r : Req) (s : State),
    (Starts 0x0101 r s → r.params = [] →
      exec (.devInfo r) s = .next (answered 0x0101 r (okay (begun 0x0101 r s) (devInfo r (begun 0x0101 r s))))) ∧
    (Starts 0x0102 r s → r.params.length ≤ 256 →
      exec (.devPing r) s = .next (answered 0x0102 r (okay (begun 0x0102 r s) r.params))) ∧
    (Starts 0x0103 r s → r.params = [] →
      exec (.devPortState r) s = .next (answered 0x0103 r
        { st := setPort r.port (fun p => { p with crcErrors := 0, stale := 0, duplicates := 0, expired := 0, refused := 0 })
            (begun 0x0103 r s)
          params := portStateBytes r.port (portOf (begun 0x0103 r s) r.port), clearing := true })) ∧
    (Starts 0x0104 r s → r.params.length = 8 → 1 ≤ rd r.params 0 1 → rd r.params 0 1 ≤ 63 → rd r.params 1 1 ≤ 1 →
      bindable (rd r.params 2 2) = true → isZero r.params 4 4 = true →
      exec (.devBind r) s = .next (answered 0x0104 r (okay (countChange { begun 0x0104 r s with
        quire := { s.quire with
          active := qWrite s.quire.active fMgmt (0xC0 + 8 * (rd r.params 0 1 - 1)) r.params } }) []))) ∧
    (Starts 0x0105 r s → r.params = [] →
      exec (.devBindRead r) s = .next (answered 0x0105 r (okay (begun 0x0105 r s)
        (qBytes s.quire.active fMgmt 0xC0 504)))) ∧
    (∀ frame, (∀ pkt, cobsDecode (frame.length + 1) frame = some pkt → pkt.length < 32) →
      exec (.safetyUartFrame frame) s = .next
        (setTransport 3 (fun t => { t with framing := satInc t.framing }) s)) ∧
    (∀ frame pkt, cobsDecode (frame.length + 1) frame = some pkt → 32 ≤ pkt.length →
      exec (.safetyUartFrame frame) s = .next (receivePacket .safety pkt s)) ∧
    (∀ w, s.cmds.waiting.find? (fun w => decide (w.req.port = r.port ∧ w.req.seq = r.seq)) = some w →
      holdsCrook s = false → s.fabric.stitch.active = false → 2 * w.req.receipt + 3 * ticksPerMs ≤ 2 * now s →
      exec (.heldCommandTimeout r.port r.seq) s = .next
        (earlyCounted w.req w.opcode stNotActive 0 [] (unwait w.opcode w.req s)))

/-! ### Media lanes (chapter 05) -/

/-- The LAN commands complete (R153 to R157): status and counter records of lanes by number; the equaliser settings read, or
written into the active quire and counted as a change; a checker switched on puts the receiver in TEST and its source in
LOST; an eye is measured on a lane that is neither OFF nor in TEST. -/
def Obligations.LaneCommands : Prop :=
  ∀ (r : Req) (s : State),
    (Starts 0x0501 r s → r.params.length = 4 → rd r.params 0 2 < 256 → 1 ≤ rd r.params 2 2 →
      rd r.params 0 2 + rd r.params 2 2 ≤ 256 →
      exec (.lanStatus r) s = .next (answered 0x0501 r (okay (begun 0x0501 r s)
        (rangeRecords (rd r.params 0 2) (rd r.params 2 2) (laneVisible r (begun 0x0501 r s))
          (laneRecord (begun 0x0501 r s)))))) ∧
    (Starts 0x0502 r s → r.params.length = 6 → rd r.params 0 1 ≤ 1 → isZero r.params 1 1 = true → rd r.params 2 2 < 256 →
      1 ≤ rd r.params 4 2 → rd r.params 2 2 + rd r.params 4 2 ≤ 256 →
      exec (.lanCounters r) s = .next (answered 0x0502 r
        { st := if rd r.params 0 1 = 1 then
            (List.range (rd r.params 4 2)).foldl (fun t j =>
              if laneVisible r t (rd r.params 2 2 + j) then
                setLane (rd r.params 2 2 + j) (fun x => { x with counts := [] }) t
              else t) (begun 0x0502 r s)
            else begun 0x0502 r s
          params := rangeRecords (rd r.params 2 2) (rd r.params 4 2) (laneVisible r (begun 0x0502 r s))
            (fun l => le 2 l ++ zeros 2 ++ cBytes (laneAt s l).counts 9)
          clearing := decide (rd r.params 0 1 = 1) })) ∧
    (Starts 0x0503 r s → r.params.length = 16 → rd r.params 0 2 < 256 → isZero r.params 3 1 = true →
      isZero r.params 9 7 = true → ∀ x o, x = begun 0x0503 r s → o = 32 * rd r.params 0 2 + 16 →
      (rd r.params 2 1 = 0 → ∃ p, exec (.lanEq r) s = .next (answered 0x0503 r (okay { x with free := s.free + 1 }
        (qBytes s.quire.active fLanes o 5 ++ p)))) ∧
      (rd r.params 2 1 = 1 → (∀ c ∈ eqForm (slice r.params 4 5), c.1 = true) → ∃ t,
        (∃ p, exec (.lanEq r) s = .next (answered 0x0503 r (okay t p))) ∧
        t.quire = { s.quire with
          active := qWrite s.quire.active fLanes o (slice r.params 4 5), changeCount := satInc s.quire.changeCount } ∧
        t = { x with quire := t.quire, lanes := t.lanes, free := s.free + 1 } ∧
        (∀ l, l ≠ rd r.params 0 2 → laneAt t l = laneAt s l))) ∧
    (∀ l en d u, l = rd r.params 0 2 → en = rd r.params 2 1 → d = draw (begun 0x0504 r s) →
      u = prbsApply l en (rd r.params 3 1) (rd r.params 4 1) (rd r.params 5 1) (rd r.params 6 1)
        (setLane l (fun x => prbsTally (now s) (Config.freeNat d.1) x) d.2) →
      Starts 0x0504 r s → r.params.length = 8 → l < 256 → en < 4 →
      (en = 0 ∨ 1 ≤ rd r.params 3 1 ∧ rd r.params 3 1 ≤ 6 ∧ ¬ (rd r.params 3 1 = 6 ∧ bit en 1 = true) ∧
        (sdiCode (rd r.params 4 1) = true ∨ ethCode (rd r.params 4 1) = true ∧ rd r.params 3 1 ≠ 6)) →
      rd r.params 5 1 ≤ 2 → (rd r.params 5 1 = 2 → 3 ≤ rd r.params 6 1 ∧ rd r.params 6 1 ≤ 12) → rd r.params 7 1 < 2 →
      exec (.lanPrbs r) s = .next (answered 0x0504 r
        { st := if rd r.params 7 1 = 1 then setLane l (fun x => { x with prbsBits := 0, prbsErrors := 0 }) u else u
          params := prbsReply (laneAt u l)
          clearing := decide (rd r.params 7 1 = 1) })) ∧
    (∀ l pat rate, gangLanes s.quire.active l = [l] → (laneAt s l).gen = false →
      ∃ t, prbsApply l 2 pat rate 0 0 s = t ∧ (laneAt t l).rx = 5 ∧ (laneAt t l).chk = true ∧
        (laneAt t l).tx = (laneAt s l).tx ∧ (∀ m, m ≠ l → laneAt t m = laneAt s m) ∧
        (∀ i, laneSource s l = some i → srcEnabled s.quire.active i = true → (srcSlot t i).state = .lost)) ∧
    (Starts 0x0505 r s → r.params.length = 4 → rd r.params 0 2 < 256 → 6 ≤ rd r.params 2 1 → rd r.params 2 1 ≤ 12 →
      isZero r.params 3 1 = true → (laneAt s (rd r.params 0 2)).rx ≠ 0 → (laneAt s (rd r.params 0 2)).rx ≠ 5 →
      ∃ a b, exec (.lanEye r) s = .next (answered 0x0505 r (okay { begun 0x0505 r s with free := s.free + 2 }
        (le 2 a ++ le 2 b ++ zeros 4))))

/-- Receivers, transmitters and patterns (R132, R133, R136 to R138, R141, R143 to R146, R151, R154): lock at the code tried; STREAM with a stable format; loss of lock puts the
receiver in HUNT and its slot in LOST; an SDI_AUTO receiver tries the next code after 2 ms; a gang's deskew is fixed at the
greatest skew rounded up to 100 ns; a packet that fails its checks is dropped and counted; samples of a sound audio packet enter
the elastic buffer; a group without packets for 2 ms is absent. A transmitter that emits sends each raster line with what its
destination reads, the packets that are re-inserted and its audio; it runs again when its serialiser has relocked, the audio
held back lost and counted; a checker locks, and unlocks with its bits and errors added. -/
def Obligations.LaneEvents : Prop :=
  ∀ (l : Nat) (s : State),
    ((laneAt s l).rx = 1 → exec (.rxLock l) s = .next
      (setLane l (fun x => { x with rx := 2, rxRate := x.hunt, lastLocked := x.hunt }) s)) ∧
    (∀ fmt, (laneAt s l).rx = 2 ∨ (laneAt s l).rx = 3 → fmt ≠ 0 →
      gangSize s.quire.active (laneLeader s.quire.active l) = 1 →
      exec (.rxAlign l fmt 0) s = .next
        (setLane l (fun x => { x with rx := 4, measured := fmt, levelB := false }) s)) ∧
    (∀ clock, 2 ≤ (laneAt s l).rx → (laneAt s l).rx ≤ 4 → ((laneAt s l).rx = 2 → clock = true) →
      lnRxMode s.quire.active l ≠ 3 →
      exec (.rxLockLoss l clock) s = .next
        (laneLost l (gangDrop l (rxDrop (if clock then 1 else 2) (now s) s.quire.active l s)))) ∧
    ((laneAt s l).rx = 1 → lnRxMode s.quire.active l = 2 → (laneAt s l).huntSince + 2 * ticksPerMs ≤ now s →
      exec (.huntDwellExpiry l) s = .next
        (setLane l (fun x => { x with hunt := huntNext x.hunt, huntSince := now s }) s)) ∧
    (∀ ns, laneLeader s.quire.active l = l → gangSize s.quire.active l ≠ 1 →
      (∀ m ∈ gangLanes s.quire.active l, 3 ≤ (laneAt s m).rx ∧ (laneAt s m).rx ≤ 4) → ns ≤ 8000 →
      (laneAt s l).deskew = none →
      exec (.gangDeskew l ns) s = .next (setLane l (fun x => { x with deskew := some (cdiv ns 100 * 100) }) s)) ∧
    (∀ p, (laneAt s l).rx = 4 →
      (ancGood p = false → exec (.ancPacketReceive l p) s = .next
        (setLane (laneLeader s.quire.active l) (fun y => { y with counts := cAdd y.counts 4 1 }) s)) ∧
      (ancGood p = true → ancLeftOut (chainQuire s l) l (laneAt s l).rxRate p = true →
        exec (.ancPacketReceive l p) s = .next (setLane l (laneNotes p) s)) ∧
      (∀ i, ancGood p = true → ancLeftOut (chainQuire s l) l (laneAt s l).rxRate p = false → laneSource s l = some i →
        srcEnabled s.quire.active i = true → 0 < srcAnc s.quire.active i →
        exec (.ancPacketReceive l p) s = .next
          (setSrc i (storeAnc (srcAnc s.quire.active i) (ancFrame (srcSlot s i) (laneAt s l).measured p.line) p)
            (setLane l (laneNotes p) s)))) ∧
    (∀ g samples, (laneAt s l).rx = 4 → (laneAt s l).rxRate ≠ 1 → laneLeader s.quire.active l = l → 1 ≤ g →
      4 * g ≤ lnDeembCount (chainQuire s l) l →
      exec (.audioPacketDeembed l g 0 samples) s = .next (setLane l (fifoTake (now s) g samples) s) ∧
      exec (.audioPacketDeembed l g 1 samples) s = .next (setLane l (fun y =>
        { fifoTake (now s) g samples y with counts := cAdd y.counts 5 1 }) s) ∧
      exec (.audioPacketDeembed l g 2 samples) s = .next (setLane l (fun y =>
        { fifoTake (now s) g (repeatLast y g samples.length) y with counts := cAdd y.counts 6 1 }) s) ∧
      exec (.audioPacketDeembed l g 3 samples) s = .next (setLane l (fun y => { y with counts := cAdd y.counts 9 1 }) s)) ∧
    (∀ g, 1 ≤ g → 4 * g ≤ lnDeembCount (chainQuire s l) l → (laneAt s l).absent.contains g = false →
      mget (fun _ => 0) (laneAt s l).groupSeen g + 2 * ticksPerMs ≤ now s →
      exec (.audioGroupAbsent l g) s = .next (setLane l (fun y =>
        { y with
          absent := y.absent ++ [g], fifo := y.fifo.filter fun p => decide (p.1 ≠ g)
          primed := y.primed && !(y.fifo.filter fun p => decide (p.1 ≠ g)).isEmpty }) s)) ∧
    (∀ d k line dropped q g f anc n pid, laneDest s l = some d → txEmits s l = true → q = txQuire s l →
      g = laneLeader q l → txFormat s l d = (f, false) → 1 ≤ line → line ≤ rasterLines (rasterOf f) → anc = txAnc s l d k line →
      n = (if lnEmbCount q l = 0 then 0 else lineSamples f k line) →
      ((payloadLines (rasterOf f)).contains line = false → pid = none) →
      ((payloadLines (rasterOf f)).contains line = true → pid = some
        (Config.payloadId f (lnTxRate q l) (gangSize q g) (lnByte q g 5) (l - g) (txColour s l d k))) →
      exec (.txLineStart l k line dropped) s = .next
        (setLane g (fun y => { y with counts := cAdd y.counts 4 (min dropped anc.length) })
          (emit
            (.laneOut l k line (lineRead s d k line).black (if isActive (rasterOf f) line then (lineRead s d k line).data else [])
              (ownAnc q l f k line ++ anc.take (anc.length - dropped)) pid ((laneAt s l).txAudio.take n))
            (setLane l (fun y => { y with txAudio := y.txAudio.drop n }) s)))) ∧
    ((laneAt s l).tx = 1 → ∃ t, exec (.txRelockEnd l) s = .next t ∧ t = { s with lanes := t.lanes } ∧
      (∀ m, m ≠ l → m ≠ laneLeader s.quire.active l → laneAt t m = laneAt s m) ∧ (laneAt t l).tx = 2 ∧
      (laneAt t l).txRate = lnTxRate s.quire.active l ∧ (laneAt t l).txAudio = [] ∧
      (laneAt t l).relocked = (laneDest s l).any (formatPending s)) ∧
    ((laneAt s l).chk = true → (laneAt s l).locked = false →
      exec (.prbsCheckerLock l) s = .next
        (setLane l (fun x => { x with locked := true, lockSince := now s, rxRate := x.prbsRate }) s)) ∧
    (∀ n, (laneAt s l).chk = true → (laneAt s l).locked = true →
      exec (.prbsCheckerUnlock l n) s = .next (setLane l (fun x =>
        { x with
          locked := false, lockSince := now s, rxRate := 0
          prbsBits := min (x.prbsBits + bitsIn x.prbsRate (now s - x.lockSince)) (2 ^ 64 - 1)
          prbsErrors := min (x.prbsErrors + n) (2 ^ 64 - 1) }) s))

/-! ### Network ports and flows (chapter 06) -/

/-- The PKT and FLW commands complete (R189, R193 to R197): status records by port number; counters read and cleared; flow
records, a clear emptying only the counters of flows that the caller may read; a frame queued for a port that is up, with its
handle and the depth; an idle port put into watch state, a port that is up marked to enter it, and a watching port woken. -/
def Obligations.PacketCommands : Prop :=
  ∀ (r : Req) (s : State),
    (Starts 0x0601 r s → r.params.length = 6 → (∀ c ∈ pktForm 256 r.params, c.1 = true) →
      exec (.pktStatus r) s = .next (answered 0x0601 r (okay (begun 0x0601 r s)
        ((List.range (rd r.params 4 2)).flatMap fun j =>
          portRecord (begun 0x0601 r s) (setPortNo (rd r.params 0 1) (rd r.params 2 2 + j)))))) ∧
    (Starts 0x0602 r s → r.params.length = 6 → (∀ c ∈ pktForm 64 r.params, c.1 = true) →
      ∃ t p, exec (.pktCounters r) s = .next (answered 0x0602 r { st := t, params := p, clearing := true }) ∧
        p.length = 136 * rd r.params 4 2 ∧ t = { begun 0x0602 r s with free := t.free, net := { s.net with ports := t.net.ports } } ∧
        (∀ j, j < rd r.params 4 2 → (netPort t (setPortNo (rd r.params 0 1) (rd r.params 2 2 + j))).counts = []) ∧
        (∀ i, netPort t i = { netPort s i with counts := (netPort t i).counts })) ∧
    (Starts 0x0603 r s → r.params.length = 8 → rd r.params 0 2 < 16384 → 1 ≤ rd r.params 2 2 → rd r.params 2 2 ≤ 256 →
      rd r.params 0 2 + rd r.params 2 2 ≤ 16384 → isZero r.params 5 3 = true →
      (rd r.params 4 1 = 0 → exec (.flwStatus r) s = .next (answered 0x0603 r (okay (begun 0x0603 r s)
        (rangeRecords (rd r.params 0 2) (rd r.params 2 2) (flowVisible r (begun 0x0603 r s))
          (flowRecord (begun 0x0603 r s)))))) ∧
      (rd r.params 4 1 = 1 → ∃ t p,
        exec (.flwStatus r) s = .next (answered 0x0603 r { st := t, params := p, clearing := true }) ∧
        t = { begun 0x0603 r s with net := { s.net with flows := t.net.flows } } ∧
        (∀ i, flowAt t i = { flowAt s i with counts := (flowAt t i).counts }) ∧
        (∀ i, (flowVisible r (begun 0x0603 r s) i = false ∨ i < rd r.params 0 2) → flowAt t i = flowAt s i) ∧
        (∀ j, j < rd r.params 2 2 → flowVisible r (begun 0x0603 r s) (rd r.params 0 2 + j) = true →
          (flowAt t (rd r.params 0 2 + j)).counts = []))) ∧
    (Starts 0x0604 r s → ∀ p n at_, p = rd r.params 0 2 → n = rd r.params 0x10 2 → at_ = rd r.params 8 8 * ticksPerNs →
      r.params.length = 24 + n → isNetPort p = true → rd r.params 2 1 ≤ 3 → isZero r.params 3 1 = true → 60 ≤ n →
      n + 4 ≤ portMaxFrame s.quire.active p → isZero r.params 0x12 6 = true →
      (at_ = 0 ∨ r.receipt + 50 * ticksPerUs ≤ at_) → at_ ≤ r.receipt + ticksPerSec →
      rdB (r.params.drop 24) 12 2 ≠ 0x8808 → (netPort s p).hostQ.length < 1024 → portUp s p = true →
      ∃ t, exec (.pktLaunch r) s = .next (answered 0x0604 r (okay t
          (le 4 s.net.nextHandle ++ le 2 ((netPort s p).hostQ.length + 1) ++ zeros 2))) ∧
        t = { begun 0x0604 r s with net := t.net } ∧ t.net.nextHandle = (s.net.nextHandle + 1) % 2 ^ 32 ∧
        (∀ o, o ≠ p → netPort t o = netPort s o) ∧
        (netPort t p).hostQ = hostInsert (netPort s p).hostQ
          ⟨s.net.nextHandle, at_, bit (rd r.params 2 1) 0,
            (if rd r.params 4 4 = 0 then 1000000 else rd r.params 4 4) * ticksPerNs, bit (rd r.params 2 1) 1,
            r.params.drop 24⟩) ∧
    (Starts 0x0605 r s → r.params.length = 296 → ∀ p, p = rd r.params 0 2 → isNetPort p = true → rd r.params 3 1 ≤ 1 →
      rd r.params 4 1 < 16 → isZero r.params 5 3 = true →
      (rd r.params 2 1 = 1 → portInUse s.quire.active p = false → (netPort s p).entering = false →
        ((netPort s p).state = 1 → ∃ t, exec (.pktWatch r) s = .next (answered 0x0605 r (okay t [])) ∧
          t = { begun 0x0605 r s with net := { s.net with ports := t.net.ports } } ∧ (netPort t p).state = 3 ∧
          (∀ o, o ≠ p → netPort t o = netPort s o)) ∧
        ((netPort s p).state = 2 → ∃ t, exec (.pktWatch r) s = .next (deferredBy 0x0605 r [p, 1] t) ∧
          t = { begun 0x0605 r s with net := { s.net with ports := t.net.ports } } ∧ (netPort t p).state = 2 ∧
          (netPort t p).entering = true ∧ (∀ o, o ≠ p → netPort t o = netPort s o))) ∧
      (rd r.params 2 1 = 0 → (netPort s p).state = 3 →
        exec (.pktWatch r) s = .next (deferredBy 0x0605 r [p, 0] (wakePort p 6 (begun 0x0605 r s)))) ∧
      (rd r.params 2 1 ≤ 1 → (netPort s p).state = 0 →
        exec (.pktWatch r) s = .next (answered 0x0605 r (refuse (begun 0x0605 r s) stNotActive 0))))

/-- Ports and what they receive (R159, R163, R167, R172, R180, R193): a port comes up and queues its membership reports; one
that goes down drops what it holds; a frame short or with a bad FCS is dropped and counted; a good one for the port enters the
queue of the class that takes it (Table 06.5); a PAUSE of some quanta stops the
transmitter for that time, and its end counts the time paused; a wake frame wakes a watching port, others are counted there; a
bring-up ends DOWN; the ageing of flows and of merge records walks the receive entries. -/
def Obligations.PortEvents : Prop :=
  ∀ (p : Nat) (s : State),
    (∀ ns, portMode s.quire.active p ≠ 0 → (netPort s p).state = 1 ∨ (netPort s p).state = 4 → portTested s p = false →
      ∃ t, exec (.portUp p ns) s = .next t ∧ t = { s with net := t.net, lanes := t.lanes } ∧
        (netPort t p).state = 2 ∧ (netPort t p).skew = ns ∧ (netPort t p).faults = 0 ∧
        (∀ o, o ≠ p → netPort t o = netPort s o) ∧
        t.net.reports = s.net.reports ++ (joinFlows s.quire.active p).flatMap (joinReports (now s))) ∧
    (∀ faults, (netPort s p).state = 2 → (netPort s p).entering = false →
      exec (.portDown p faults) s = .next (portFall p faults 1 s)) ∧
    (∀ f, (netPort s p).state = 2 → f.bytes.length + 4 < 64 ∨ (f.fcsGood = false ∧ f.bytes.length + 4 ≤ portMaxFrame s.quire.active p) →
      exec (.frameReceive p f) s = .next
        (netCount p 2 1 (netCount p 1 (f.bytes.length + 4) (netCount p 0 1 s)))) ∧
    (∀ f, (netPort s p).state = 2 → f.fcsGood = true → 60 ≤ f.bytes.length → rdB f.bytes 12 2 = 0x8808 → rdB f.bytes 14 2 = 1 →
      exec (.frameReceive p f) s = .next
        (pauseReceive p (rdB f.bytes 16 2) (netCount p 1 (f.bytes.length + 4) (netCount p 0 1 s)))) ∧
    (∀ f c t, (netPort s p).state = 2 → f.fcsGood = true → 60 ≤ f.bytes.length →
      f.bytes.length + 4 ≤ portMaxFrame s.quire.active p → rdB f.bytes 12 2 ∉ [0x8808, 0x88A8] → (frameTag f.bytes).1 = false →
      bit (portFlags s.quire.active p) 2 = true → f.bytes.take 6 = (portAddr s p).1 →
      classify s.quire.active p f.bytes = .toQueue c →
      t = tcReceive p f.bytes (netCount p 1 (f.bytes.length + 4) (netCount p 0 1 s)) →
      exec (.frameReceive p f) s = .next (toClass c 0
        ⟨p, ingressStamp s p, (frameTag f.bytes).2.1, false, f.bytes, f.bytes.length + 4, false, false⟩ t)) ∧
    (∀ c k r t, r.truncated = false → ((classQueue t c).map fun x => x.bytes.length).sum + r.bytes.length ≤ classSize c → c < 5 →
      toClass c k r t = setClass c (classQueue t c ++ [r]) t) ∧
    (∀ n, bit (portFlags s.quire.active p) 0 = false → 0 < portGbps s.quire.active p → 0 < n →
      (netPort (pauseReceive p n s) p).pauseEnd = now s + n * 512 * 5292 / portGbps s.quire.active p) ∧
    (∀ a, (netPort s p).pausedFrom = some a → a ≤ (netPort s p).pauseEnd → (netPort s p).pauseEnd ≤ now s →
      exec (.pauseExpiry p) s = .next (setNet p (fun x => { x with
        pauseEnd := 0, pausedFrom := none, counts := nAdd x.counts 11 (nsOf ((netPort s p).pauseEnd - a)) }) s)) ∧
    (∀ f j, (netPort s p).state = 3 → f.fcsGood = true → 60 ≤ f.bytes.length → wakePattern (netPort s p) f.bytes = some j →
      exec (.portWake p (some f)) s = .next (wakePort p (j + 1) s)) ∧
    (∀ f, (netPort s p).state = 3 → f.fcsGood = false →
      exec (.portWake p (some f)) s = .next (setNet p (fun y => { y with watchDropped := y.watchDropped + 1 }) s)) ∧
    ((netPort s p).state = 4 → loadWaits s (portLoad s p).resource 0 = false →
      (∀ w ∈ s.cmds.deferred, w.opcode = 0x0605 → w.info ≠ [p, 0]) →
      exec (.portBringUpComplete p) s = .next (portEnter p 1 s)) ∧
    (receiveEntries s.quire.active = [] →
      exec .flowAgeingCycle s = .next s ∧ exec .mergeRecordAgeing s = .next s) ∧
    (∀ e, receiveEntries s.quire.active = [e] → (flowAt s (rd e 0 2)).hit = false → (flowAt s (rd e 0 2)).active = true →
      (flowAt s (rd e 0 2)).lastHit + flowAge s.quire.active e ≤ now s →
      exec .flowAgeingCycle s = .next (entryIdle e s)) ∧
    (∀ e, receiveEntries s.quire.active = [e] → (flowAt s (rd e 0 2)).hit = true →
      exec .flowAgeingCycle s = .next (setFlow (rd e 0 2) (fun y => { y with hit := false }) s)) ∧
    (∀ e u, receiveEntries s.quire.active = [e] → fePair e ≠ 0xFFFF → rd e 0 2 ≤ fePair e →
      u = setFlow (rd e 0 2) (ageRecs (rd e 0x3C 2 * 10 * ticksPerUs) (now s)) s →
      (feEssence e ≠ 1 → feEssence e ≠ 6 → exec .mergeRecordAgeing s = .next u) ∧
      (flowSource s.quire.active (rd e 0 2) = none → exec .mergeRecordAgeing s = .next u) ∧
      (∀ slot, flowSource s.quire.active (rd e 0 2) = some slot →
        (feEssence e = 1 → exec .mergeRecordAgeing s = .next (flushLines (rd e 0 2) slot u)) ∧
        (feEssence e = 6 → exec .mergeRecordAgeing s = .next (sdiLines (rd e 0 2) slot 4096 u))))

/-- The merge (R180, R181): a packet above the highest accepted is accepted and becomes the highest; one at or below the lower
bound is late; one with a record is a duplicate and changes neither bound; one without a record between them is accepted and
leaves the highest as it is; the lower bound never falls but at a reset, which the sixteenth late packet in a row makes. -/
def Obligations.SeamlessMerge : Prop :=
  ∀ (b n t h : Nat) (x : Flow), x.high = some h → x.recs.length ≤ 16384 →
    (let q := extendSeq b n h
     let y := (mergeStep true 16384 b n t x).1
     let m := (mergeStep true 16384 b n t x).2
     (h < q → m = .accept q ∧ y.high = some q) ∧
     (q ≤ h → q ≤ x.low → m = .late ∧
       (15 ≤ x.lateRun → y.high = none ∧ y.recs = []) ∧
       (x.lateRun < 15 → y.high = some h ∧ y.low = x.low ∧ y.recs = x.recs ∧ y.lateRun = x.lateRun + 1)) ∧
     (q ≤ h → x.low < q → (∃ r ∈ x.recs, r.1 = q) → m = .duplicate ∧ y.high = some h ∧ y.low = x.low ∧ (q, t) ∈ y.recs) ∧
     (q ≤ h → x.low < q → (∀ r ∈ x.recs, r.1 ≠ q) → m = .accept q ∧ y.high = some h) ∧
     (m ≠ .late → x.low ≤ y.low ∧ y.recs.length ≤ 16384 ∧ y.lateRun = 0))

/-- What ports send (R168, R182, R184, R187 to R189, R191, R192): a launched packet of a -20 flow on a port that is up waits at
its launch time of R185, with the sequence and timestamp of Table 06.11; media packets 250 µs late go and are counted; the
frame of least rank, then launch time, leaves, a forwarded event message with its residence added; a host frame leaves or is
dropped late, with its completion record; a report due leaves; addresses learnt and not hit for 300 s go. -/
def Obligations.PortTransmission : Prop :=
  ∀ (p : Nat) (s : State),
    (∀ fl k i e a d f m row seq ts, 8192 ≤ fl → txEntry s fl k = some e → a = (txEntry s (legA e) k).getD e →
      (flowAt s fl).staging = false → roleWithholds s = false → feEssence e = 1 → sendingDest s fl = some d →
      portUp s (fePort e) = true → f = dstFormat (inForce s d) d → m = maxPayload a → 0 < packetsPerLine f m →
      i < packetsPerFrame f m → row = activeRow (rasterOf f) (i / packetsPerLine f m) →
      seq = (k * packetsPerFrame f m + i) % 2 ^ 32 →
      ts = (alignInstant f k + if isInterlaced (rasterOf f) ∧ row.2.1 = 1 then framePeriod f / 2 else 0) * 90000 / ticksPerSec →
      ∃ marker body, exec (.mediaPacketLaunch fl k i) s = .next
        (egress (fePort e) ⟨2, launch20 (dstDelay s d f) f m k i (bit (feFlags a) 3),
          flowFrame s e (rtpHeader marker (rd a 0x0A 1) seq ts (rd a 0x40 4) ++ be 2 (seq / 65536) ++ body),
          some fl, none, none⟩ s)) ∧
    (∀ fl k i, fl < 8192 → exec (.mediaPacketLaunch fl k i) s = .next s) ∧
    ((∀ f ∈ (netPort s p).egress, f.rank = 2 → egressTicks s p < f.launch + 250 * ticksPerUs) →
      ∃ t, exec (.mediaPacketLateDrop p) s = .next t ∧ (netPort t p).egress = (netPort s p).egress ∧
        t = { s with net := { s.net with ports := t.net.ports } }) ∧
    (∃ t, exec (.mediaPacketLateDrop p) s = .next t ∧ t = { s with net := t.net } ∧
      (netPort t p).egress = (netPort s p).egress.filter fun f =>
        !decide (f.rank = 2 ∧ f.launch + 250 * ticksPerUs ≤ egressTicks s p)) ∧
    (∀ f, portUp s p = true → (netPort s p).pausedFrom = none → nextFrame (egressTicks s p) (netPort s p).egress = some f →
      f.ingress = none → f.tag = none → f.flow = none →
      exec (.frameTransmit p) s = .next (emit (.frame p (now s) f.bytes)
        (netCount p 9 (f.bytes.length + 4) (netCount p 8 1
          (setNet p (fun y => { y with egress := y.egress.erase f }) s))))) ∧
    (∀ f i, portUp s p = true → (netPort s p).pausedFrom = none → nextFrame (egressTicks s p) (netPort s p).egress = some f →
      f.ingress = some i → ∃ t, exec (.frameTransmit p) s = .next t ∧
        t.out = s.out ++ [.frame p (now s) (correctResidence f.bytes i (egressStamp s p))]) ∧
    (∀ f i, portUp s p = true → (netPort s p).pausedFrom = none → nextFrame (egressTicks s p) (netPort s p).egress = some f →
      f.ingress = none → f.tag = none → f.flow = some i →
      exec (.frameTransmit p) s = .next (emit (.frame p (now s) f.bytes) (noteSent i f.bytes
        (netCount p 9 (f.bytes.length + 4) (netCount p 8 1
          (setNet p (fun y => { y with egress := y.egress.erase f }) s)))))) ∧
    (∀ h rest, (netPort s p).hostQ = h :: rest → h.dropLate = true → h.launch ≠ 0 → h.launch + h.limit < egressTicks s p →
      exec (.hostFrameLaunch p) s = .next (postLaunch ⟨h.handle, 1, false, p, 0⟩
        (setNet p (fun y => { y with hostQ := rest }) s))) ∧
    (∀ h rest, (netPort s p).hostQ = h :: rest → h.dropLate = false → h.stamp = false → h.launch ≤ egressTicks s p →
      portUp s p = true → (netPort s p).pausedFrom = none → nextFrame (egressTicks s p) (netPort s p).egress = none →
      exec (.hostFrameLaunch p) s = .next (postLaunch ⟨h.handle, 0, false, p, 0⟩ (emit (.frame p (now s) h.bytes)
        (netCount p 9 (h.bytes.length + 4) (netCount p 8 1 (setNet p (fun y => { y with hostQ := rest }) s)))))) ∧
    (∀ i r e, s.net.reports[i]? = some r → r.due ≤ now s → flowEntry s.quire.active r.flow = some e →
      exec (.membershipReportSend i) s = .next (sendReport e r.kind
        { s with net := { s.net with reports := s.net.reports.eraseIdx i } })) ∧
    (∃ t, exec .tcEntryAgeing s = .next t ∧ t = { s with net := { s.net with tc := t.net.tc } } ∧
      (∀ e ∈ s.net.tc, now s < e.hit + 300 * ticksPerSec → e ∈ t.net.tc) ∧
      (∀ e ∈ t.net.tc, e ∈ s.net.tc) ∧
      (∀ e ∈ s.net.tc, e.hit + 301 * ticksPerSec ≤ now s → e ∉ t.net.tc))

/-! ### Fabric lanes (chapter 07) -/

/-- The FAB and STI commands complete (R227 to R230): lane records and counters; a lane's five counters of what its receiver
reads from the symbols grow by free values (model's choice, log 31), the others and all of another lane's stay; a cleared read
empties the counters it named; a lane is held OFF, retrained or released with its whole bond; the stitch link's status, its
counters cleared. -/
def Obligations.FabricCommands : Prop :=
  ∀ (r : Req) (s : State),
    (Starts 0x0701 r s → r.params.length = 4 → rd r.params 0 2 < 68 → 1 ≤ rd r.params 2 2 → rd r.params 2 2 ≤ 64 →
      rd r.params 0 2 + rd r.params 2 2 ≤ 68 →
      exec (.fabStatus r) s = .next (answered 0x0701 r (okay (drawMany 136 (begun 0x0701 r s))
        ((List.range (rd r.params 2 2)).flatMap fun j => fabRecord (begun 0x0701 r s) (rd r.params 0 2 + j))))) ∧
    (Starts 0x0702 r s → r.params.length = 8 → rd r.params 0 1 ≤ 1 → rd r.params 1 1 ≤ 1 → 1 ≤ rd r.params 4 2 →
      rd r.params 4 2 ≤ 64 → rd r.params 2 2 + rd r.params 4 2 ≤ (if rd r.params 0 1 = 0 then 68 else 4096) →
      isZero r.params 6 2 = true →
      ∃ t p, exec (.fabCounters r) s = .next (answered 0x0702 r
          { st := t, params := p, clearing := decide (rd r.params 1 1 = 1) }) ∧
        t = { begun 0x0702 r s with
          fabric := { s.fabric with lanes := t.fabric.lanes, rx := t.fabric.rx }
          free := s.free + (if rd r.params 0 1 = 0 then 5 * rd r.params 4 2 else 0) } ∧
        (rd r.params 0 1 = 0 → t.fabric.rx = s.fabric.rx ∧
          (∀ l, fabLane t l = { fabLane s l with counts := (fabLane t l).counts }) ∧
          (∀ l, l < rd r.params 2 2 ∨ rd r.params 2 2 + rd r.params 4 2 ≤ l → fabLane t l = fabLane s l) ∧
          (rd r.params 1 1 = 0 → ∀ l k, k ≠ 0 → k ≠ 1 → k ≠ 2 → k ≠ 7 → k ≠ 11 →
            mget (fun _ => 0) (fabLane t l).counts k = mget (fun _ => 0) (fabLane s l).counts k) ∧
          (rd r.params 1 1 = 0 → ∀ j i k, j < rd r.params 4 2 → (i, k) ∈ [(0, 0), (1, 1), (2, 2), (3, 7), (4, 11)] →
            mget (fun _ => 0) (fabLane t (rd r.params 2 2 + j)).counts k =
              min (mget (fun _ => 0) (fabLane s (rd r.params 2 2 + j)).counts k + Config.freeNat (s.free + 5 * j + i))
                (2 ^ 64 - 1)) ∧
          (rd r.params 1 1 = 1 → ∀ j, j < rd r.params 4 2 → (fabLane t (rd r.params 2 2 + j)).counts = [])) ∧
        (rd r.params 0 1 = 1 → t.fabric.lanes = s.fabric.lanes ∧
          (rd r.params 1 1 = 0 → t.fabric.rx = s.fabric.rx) ∧
          (rd r.params 1 1 = 1 → ∀ n, rxStream t n =
            if rd r.params 2 2 ≤ n ∧ n < rd r.params 2 2 + rd r.params 4 2 then clearStream (rxStream s n) else rxStream s n))) ∧
    (Starts 0x0703 r s → r.params.length = 8 → ∀ l ls, l = rd r.params 0 2 → ls = bondLanes s.quire.active l → l < 68 →
      isZero r.params 3 1 = true → isZero r.params 4 4 = true →
      (rd r.params 2 1 = 1 → exec (.fabRetrain r) s = .next (answered 0x0703 r
        (okay (ls.foldl (fun t i => fabHold i t) (begun 0x0703 r s)) []))) ∧
      (rd r.params 2 1 = 0 → fabMode s.quire.active l ≠ 0 → (fabLane s l).hold = false → (fabLane s l).state ≠ 0 →
        exec (.fabRetrain r) s = .next (answered 0x0703 r
          (okay (ls.foldl (fun t i => fabWait i (fabDetect i t)) (begun 0x0703 r s)) []))) ∧
      (rd r.params 2 1 = 2 → fabMode s.quire.active l ≠ 0 → (fabLane s l).hold = true →
        exec (.fabRetrain r) s = .next (deferredBy 0x0703 r [l]
          (ls.foldl (fun t i => fabWait i (setFab i (fun y => { y with hold := false }) t)) (begun 0x0703 r s))))) ∧
    (Starts 0x0704 r s → r.params = [] →
      ∃ p, exec (.stiStatus r) s = .next (answered 0x0704 r
        { st := setStitch (fun y => { y with counts := [] }) (begun 0x0704 r s), params := p, clearing := true }) ∧
        p.length = 44 ∧ p.take 1 = le 1 (stitchState s) ∧ slice p 2 2 = le 2 s.fabric.stitch.nextSeq ∧
        slice p 4 2 = le 2 s.fabric.stitch.expected ∧ slice p 20 24 = cBytes s.fabric.stitch.counts 6)

/-- Lane bring-up (R204, R205, R207 to R209, Tables 07.2 and 07.3): each state is left for the next one on its condition and
for DETECT at its timeout; an ACTIVE lane whose peer's CAPS change goes to DETECT, one that loses block lock to BLOCK. A lane
that trains answers each frame with one of its own, one in CAPS or ACTIVE each CAPS block with its own (the moments are the
model's choice, log 192). -/
def Obligations.FabricBringUp : Prop :=
  ∀ (l : Nat) (s : State),
    ((fabLane s l).state = 1 → loadWaits s (fabLoad s l).resource 0 = false →
      exec (.fabricSignalDetect l) s = .next (sendTraining l
        (setFab l (fun x => { x with state := 2, since := now s, frames := 0, ready := 0, extra := 0 }) s))) ∧
    (∀ inv c st, (fabLane s l).state = 2 → inv ≠ (fabLane s l).inverted →
      exec (.trainingFrameReceive l inv c st) s = .next (sendTraining l
        (setFab l (fun y => { y with inverted := inv, frames := 1, ready := 0, extra := 0, ask := 0 }) s))) ∧
    (∀ inv c st, (fabLane s l).state = 2 → inv = (fabLane s l).inverted →
      ∃ t, exec (.trainingFrameReceive l inv c st) s = .next t ∧
        t = { s with fabric := { s.fabric with lanes := t.fabric.lanes }, out := t.out, free := t.free } ∧
        (∀ m, m ≠ l → fabLane t m = { fabLane s m with code := (fabLane t m).code, counts := (fabLane t m).counts }) ∧
        (fabLane t l).frames = (fabLane s l).frames + 1 ∧
        ((fabLane t l).state = 3 ↔ 3 ≤ (fabLane s l).ready ∧ 15 ≤ (fabLane s l).extra)) ∧
    (∀ n ns, (fabLane s l).state = 3 → (bondLanes s.quire.active l).length ≤ 1 →
      exec (.blockLock l n ns) s = .next (sendCaps l (setFab l (fun x => { x with
          state := 4, since := now s, ackRun := 0, ownAck := false, lastCaps := now s })
        (setFab l (fun x => { x with locked := true, logical := 0, skew := 0, deskewed := false }) s)))) ∧
    (∀ n ns, (fabLane s l).state = 3 → 1 < (bondLanes s.quire.active l).length →
      (ns ≤ 4000 → exec (.blockLock l n ns) s = .next (sendCaps l (setFab l (fun x => { x with
          state := 4, since := now s, ackRun := 0, ownAck := false, lastCaps := now s })
        (setFab l (fun x => { x with locked := true, logical := n, skew := ns, deskewed := true }) s)))) ∧
      (4000 < ns → exec (.blockLock l n ns) s = .next
        (setFab l (fun x => { x with locked := true, logical := n, skew := ns, deskewed := false }) s))) ∧
    ((fabLane s l).state = 5 → exec (.blockLockLoss l) s = .next (fabCount l 8 1 (fabLeave l 3 s))) ∧
    ((fabLane s l).state = 3 → (fabLane s l).locked = true → exec (.blockLockLoss l) s = .next
      (fabCount l 8 1 (setFab l (fun y => { y with locked := false, deskewed := false }) s))) ∧
    (∀ c, (fabLane s l).state = 4 → capsPass s l c = false →
      exec (.capsReceive l c) s = .next (sendCaps l (fabCount l 10 1
        (setFab l (fun y => { y with caps := c, ownAck := false, ackRun := 0, lastCaps := now s }) s)))) ∧
    (∀ c, (fabLane s l).state = 4 → l < 64 → capsPass s l c = true → rd c 0x0D 1 = 1 → (fabLane s l).ownAck = true →
      2 ≤ (fabLane s l).ackRun →
      exec (.capsReceive l c) s = .next (setFab l (fun y => { y with
          state := 5, since := now s, fromActive := false, agreed := slice c 1 12 })
        (sendCaps l (setFab l (fun y => { y with
          caps := c, ownAck := true, ackRun := (fabLane s l).ackRun + 1, lastCaps := now s }) s)))) ∧
    (∀ c, (fabLane s l).state = 5 → slice c 1 12 = (fabLane s l).agreed →
      exec (.capsReceive l c) s = .next (sendCaps l (setFab l (fun y => { y with caps := c, lastCaps := now s }) s))) ∧
    (∀ c, (fabLane s l).state = 5 → slice c 1 12 ≠ (fabLane s l).agreed →
      exec (.capsReceive l c) s = .next (fabDetect l (setFab l (fun y => { y with caps := c }) s))) ∧
    (((fabLane s l).state = 2 ∧ (fabLane s l).since + 500 * ticksPerMs ≤ now s) ∨
      ((fabLane s l).state = 3 ∧ (fabLane s l).since + (if (fabLane s l).fromActive then 2 else 20) * ticksPerMs ≤ now s) ∨
      ((fabLane s l).state = 4 ∧ (fabLane s l).since + 20 * ticksPerMs ≤ now s) ∨
      ((fabLane s l).state = 5 ∧ (fabLane s l).lastCaps + 5 * ticksPerMs ≤ now s) →
      exec (.laneStateTimeout l) s = .next (fabWait l (fabDetect l s)))

/-- Cells (R210, R212, R213, R215 to R217): a cell that is not valid is discarded and counted on its lane; a valid one is
merged in its series; ageing walks the receive streams; a picture cell sent carries its sequence, offset, marks and the bytes
of its destination's line; an audio cell its first sample; a stream whose destination is absent or withheld sends nothing. -/
def Obligations.FabricCells : Prop :=
  ∀ (s : State),
    (∀ l c flagged, (fabLane s l).state = 5 → l < 64 →
      flagged = true ∨ c.length ≠ 256 ∨ cellCrc c ≠ rd c 14 2 ∨ rd c 0 1 = 0 ∨ 4 < rd c 0 1 ∨
        (rd c 0 1 ≠ 3 ∧ streamSource s.quire.active (rd c 2 2) = none) →
      exec (.cellReceive l c flagged) s = .next (fabCount l 4 1 (fabCount l 3 1 s))) ∧
    (∀ l c slot, (fabLane s l).state = 5 → l < 64 → c.length = 256 → cellCrc c = rd c 14 2 → rd c 0 1 = 1 →
      streamSource s.quire.active (rd c 2 2) = some slot →
      exec (.cellReceive l c false) s = .next (cellTake (rd c 2 2) 1 c
        (setFab l (fun x => { x with streams := mput x.streams (rd c 2 2) (now s) }) (fabCount l 3 1 s)))) ∧
    (s.fabric.rx = [] → exec .fabricMergeAgeing s = .next s) ∧
    (∀ n x, s.fabric.rx = [(n, x)] → exec .fabricMergeAgeing s = .next (flushCells n (setRx n (fun y => { y with
        pic := ageRecs (16 * ticksPerUs) (now s) y.pic, anc := ageRecs (16 * ticksPerUs) (now s) y.anc
        aud := ageRecs (16 * ticksPerUs) (now s) y.aud }) s))) ∧
    (∀ stream k line j d f, sendingStream s stream = some d → f = dstFormat (inForce s d) d →
      isActive (rasterOf f) line = true → j < lineCells f → (lineRead s d k line).black = false →
      exec (.pictureCellSend stream k line j) s = .next (sendCell (txLanes (inForce s d) 1 stream)
        (mkCell 1 (cellSide s + 4 * b2n (decide (j = 0)) + 8 * b2n (decide (j + 1 = lineCells f))) stream line (240 * j)
          ((k * (lineCells f * rasterActive (rasterOf f)) + activeIndex (rasterOf f) line * lineCells f + j) % 2 ^ 32)
          (k % 256) (slice (packLine f (lineRead s d k line).data) (240 * j) 240)) s)) ∧
    (∀ stream k line j, sendingStream s stream = none →
      exec (.pictureCellSend stream k line j) s = .next s ∧ exec (.frameStatusSend stream k line) s = .next s) ∧
    (∀ stream k d f, sendingStream s stream = some d → f = dstFormat (inForce s d) d →
      exec (.frameStatusSend stream k 0) s = .next (sendCell (txLanes (inForce s d) 1 stream)
        (mkCell 4 (cellSide s + 12) stream 0 0 (txStream s stream).ancSeq (k % 256)
          (le 2 f ++ zeros 2 ++ le 4 (k % 2 ^ 32) ++ le 2 (lineCells f * rasterActive (rasterOf f)) ++
            le 1 (dstSlot s d).display))
        (setTx stream (fun x => { x with ancSeq := (x.ancSeq + 1) % 2 ^ 32 }) s))) ∧
    (∀ stream n0 e n, txAudioItem s.quire.active stream = some e → n = cellSamples (rd e 3 1) → 0 < n → n0 % n = 0 →
      roleWithholds s = false → (n0 + n) * ticksPerSec / 48000 + 5 * ticksPerUs ≤ now s →
      ∃ bs, exec (.audioCellSend stream n0) s = .next (sendCell (txLanes s.quire.active 2 stream)
        (mkCell 3 (cellSide s) stream (n0 % 65536) (n0 / 65536 % 65536) (n0 / n % 2 ^ 32) 0 bs)
        (setTx stream (fun y => { y with audio := y.audio.filter fun p => decide (n0 + n ≤ p.1) }) s)) ∧
        bs.length = n * rd e 3 1 * 3)

/-! ### In-package memory and frame synchronisers (chapter 08) -/

/-- The MEM and FSY commands complete (R260 to R262): group records, channel records of a group that has been trained, and
synchroniser records by R110; a clear empties the counters of what was read and nothing else. -/
def Obligations.MemoryCommands : Prop :=
  ∀ (r : Req) (s : State),
    (Starts 0x0801 r s → r.params.length = 4 → rd r.params 0 1 ≤ 1 → isZero r.params 1 3 = true →
      ∃ t p, exec (.memStatus r) s = .next (answered 0x0801 r
          { st := t, params := p, clearing := decide (rd r.params 0 1 = 1) }) ∧
        t = { begun 0x0801 r s with dram := { s.dram with groups := t.dram.groups }, free := s.free + 8 } ∧ p.length = 200 ∧
        (∀ g, dramGroup t g = { dramGroup s g with counts := (dramGroup t g).counts }) ∧
        (rd r.params 0 1 = 0 → t.dram = s.dram) ∧ (rd r.params 0 1 = 1 → ∀ g, g < 4 → (dramGroup t g).counts = [])) ∧
    (Starts 0x0802 r s → r.params.length = 4 → rd r.params 0 1 < 4 → isZero r.params 1 3 = true →
      (dramGroup s (rd r.params 0 1)).state ≠ 0 →
      exec (.memTraining r) s = .next (answered 0x0802 r (okay (begun 0x0802 r s)
        ((List.range 8).flatMap fun c => chanRecord (begun 0x0802 r s) (8 * rd r.params 0 1 + c))))) ∧
    (Starts 0x0803 r s → r.params.length = 8 → 1 ≤ rd r.params 2 2 → rd r.params 0 2 + rd r.params 2 2 ≤ 96 →
      rd r.params 4 1 ≤ 1 → isZero r.params 5 3 = true →
      ∃ t, exec (.fsyStatus r) s = .next (answered 0x0803 r
          { st := t, clearing := decide (rd r.params 4 1 = 1)
            params := rangeRecords (rd r.params 0 2) (rd r.params 2 2) (fun i => owns r (syPen s.quire.active i))
              (syncRecord (begun 0x0803 r s)) }) ∧
        t = { begun 0x0803 r s with dram := { s.dram with syncs := t.dram.syncs } } ∧
        (∀ i, syncAt t i = { syncAt s i with counts := (syncAt t i).counts }) ∧
        (∀ i, rd r.params 4 1 = 0 ∨ owns r (syPen s.quire.active i) = false ∨ i < rd r.params 0 2 → syncAt t i = syncAt s i) ∧
        (rd r.params 4 1 = 1 → ∀ j, j < rd r.params 2 2 → owns r (syPen s.quire.active (rd r.params 0 2 + j)) = true →
          (syncAt t (rd r.params 0 2 + j)).counts = []))

/-- The choice of R254. With λ the latency of an input frame at the output frame that starts at `a`, and lo and hi its limits:
without a realignment the next frame is taken while its λ keeps the limits, the last is repeated when it is below, one is
skipped when it is above, and after a drop or a repeat λ lies at least T_F/8 inside the limit that was broken; a realignment
takes the newest frame whose λ is at least lo. -/
def Obligations.SynchroniserChoice : Prop :=
  ∀ (f d a last : Nat) (y : Sync) (n : FrameBuf), 0 < framePeriod f →
    (let lo : Int := 2 * linePeriod f + d * framePeriod f
     let hi : Int := lo + framePeriod f + framePeriod f / 8
     let lat (k : Nat) : Int := (a : Int) - predictedStart f n k
     let c := chooseFrame f d a y n
     (y.realign = false → y.last = some last →
       (lo ≤ lat (last + 1) ∧ lat (last + 1) ≤ hi → c = (last + 1, 0)) ∧
       (lat (last + 1) < lo → c = (last, 2) ∧ lat c.1 < hi - framePeriod f / 8) ∧
       (hi < lat (last + 1) → c = (last + 2, 3) ∧ lo + framePeriod f / 8 < lat c.1)) ∧
     (y.realign = true ∨ y.last = none → (n.start : Int) + lo ≤ a →
       c.2 = 1 ∧ n.k ≤ c.1 ∧ lo ≤ lat c.1 ∧ lat (c.1 + 1) < lo))

/-- Synchronisers (R252 to R257): a changed entry takes effect once the output frame that was being written has ended; then an
open choice is made at its instant, by the holder's choice at a standby; a standby left without one makes it and counts it; a frame
that is not chosen yet or already chosen changes nothing; an active line of the chosen frame is written at A(j) + (n − 1) T_L, black
where it is missing, its ANC packets after it; a moved synchroniser restarts FILLING. -/
def Obligations.Synchronisers : Prop :=
  ∀ (i j : Nat) (s u : State), u = syDue i s →
    ((syncAt s i).restartAt = none → u = s) ∧
    (∀ t, (syncAt s i).restartAt = some t → (now s < t → u = s) ∧ (t ≤ now s → (syncAt u i).restartAt = none ∧
      (syncAt u i).frames = [] ∧ (syncAt u i).choices = [] ∧
      u.quire.active = takeSyncEntry i s.quire.target s.quire.active ∧
      (syncAt u i).state = (if syEnabled (takeSyncEntry i s.quire.target s.quire.active) i then 1 else 0))) ∧
    (∀ c, syOpen u i j ticksPerMs = false → exec (.fsyChoose i j c) s = .next u) ∧
    (∀ c, syOpen u i j ticksPerMs = true → u.twin.role ≠ .standby →
      exec (.fsyChoose i j c) s = .next (syDecide i j none u)) ∧
    (∀ k, syOpen u i j ticksPerMs = true → u.twin.role = .standby →
      exec (.fsyChoose i j (some k)) s = .next (syDecide i j (some k) u) ∧ exec (.fsyChoose i j none) s = .next u) ∧
    (s.twin.role = .standby → syOpen s i j (250 * ticksPerUs) = true →
      exec (.fsyOwnDecision i j) s = .next (ownDecision 5 (syCount i 5 1 (syDecide i j none s)))) ∧
    (s.twin.role ≠ .standby → exec (.fsyOwnDecision i j) s = .next s) ∧
    (∀ o c b line f l, f = syFormat u.quire.active i → syOutput u.quire.active i = some o →
      (syncAt u i).choices.find? (fun c => decide (c.j = j)) = some c → c.mode = 0 → (syncAt u i).state ≠ 5 →
      (syncAt u i).frames.find? (fun b => decide (b.k = c.k)) = some b → 1 ≤ line → line ≤ rasterLines (rasterOf f) →
      isActive (rasterOf f) line = true → b.lines.find? (fun l => decide (l.1 = line)) = some l →
      exec (.fsyOutputLine i j line) s = .next ((b.anc.filter fun p => decide (p.line = line)).foldl
        (fun t p => setSrc o (storeAnc (srcAnc u.quire.active o) j p) t)
        (writeLine o line f (alignInstant f j + (line - 1) * linePeriod f)
          (if b.bad.contains line then blackRow f else l.2) (if b.bad.contains line then syCount i 4 1 u else u)))) ∧
    (∀ o c line f, f = syFormat u.quire.active i → syOutput u.quire.active i = some o →
      (syncAt u i).choices.find? (fun c => decide (c.j = j)) = some c → c.mode = 1 → (syncAt u i).state ≠ 5 →
      1 ≤ line → line ≤ rasterLines (rasterOf f) → isActive (rasterOf f) line = true →
      exec (.fsyOutputLine i j line) s = .next
        (writeLine o line f (alignInstant f j + (line - 1) * linePeriod f) (blackRow f) u)) ∧
    ((syncAt s i).state = 4 →
      exec (.fsyMoveRestart i) s = .next (syEnter i 1
        (setSync i (fun y => { y with realign := true, last := none, frames := [] }) s)))

/-- The memory's own events (R235, R237, R240, R242, R245 to R247): temperatures kept by group, with each die's refresh interval;
an adjustment within ±50 ps, when it is due or a die has moved by 5 °C, made and counted, one beyond it taking the group out of
service; an uncorrectable burst harming its user, one of the mirror read from the other copy while that serves, and the seventeenth
on a channel within 1 s taking the group out; a refused access counted; every extent scrubbed once a period, the corrected bursts
counted; a channel put into self-refresh only in a group that nothing uses, and woken under the governor. -/
def Obligations.MemoryEvents : Prop :=
  ∀ (g c : Nat) (s : State),
    (∀ temps, g < 4 → exec (.dramTempPoll g temps) s = .next
      (setGroup g (fun x => { x with temps := temps, refresh := temps.map Config.refreshInterval }) s)) ∧
    (∀ ps, inService s (c / 8) = true → (dramChan s c).lastRetrain + qRd s.quire.active fDram 7 1 * 100 * ticksPerMs ≤ now s ∨ tempMoved (dramGroup s (c / 8)).temps (dramChan s c).measured = true →
      -50 ≤ ps → ps ≤ 50 →
      exec (.dramWckRetrain c ps) s = .next
        (setGroup (c / 8) (fun x => { x with counts := cAdd x.counts 3 1 })
          (setChan c (fun x => { x with drift := ps, lastRetrain := now s, measured := (dramGroup s (c / 8)).temps }) s))) ∧
    (∀ ps, inService s (c / 8) = true → (dramChan s c).lastRetrain + qRd s.quire.active fDram 7 1 * 100 * ticksPerMs ≤ now s ∨ tempMoved (dramGroup s (c / 8)).temps (dramChan s c).measured = true →
      ps < -50 ∨ 50 < ps →
      exec (.dramWckRetrain c ps) s = .next (groupOut (c / 8) 2 s)) ∧
    (∀ e u, inService s (c / 8) = true → (dramChan s c).uncorrected.length < 16 →
      exec (.dramUncorrectableRead c e u) s = .next (raiseIn 6 576 c e (groupOut (c / 8) 3) (burstLost c e u
        (setGroup (c / 8) (fun x => { x with counts := cAdd x.counts 1 1 })
          (setChan c (fun x => { x with uncorrected := (dramChan s c).uncorrected ++ [now s] }) s))))) ∧
    (∀ e u a rest, inService s (c / 8) = true → (dramChan s c).uncorrected = a :: rest → rest.length = 15 →
      now s ≤ a + ticksPerSec →
      ∃ t, exec (.dramUncorrectableRead c e u) s = .next (groupOut (c / 8) 3 t)) ∧
    (∀ cause, exec (.dramGroupOut g cause) s = .next (groupOut g cause s)) ∧
    (∀ cause, inService s g = false → groupOut g cause s = s) ∧
    (∀ pen port, exec (.dramAccessRefused g pen port) s = .next (raiseIn 6 578 pen port (groupOut g 0)
      (setGroup g (fun x => { x with counts := cAdd x.counts 2 1 }) s))) ∧
    (∀ e v, burstLost c e .mirror v = if inService v (1 - c / 8) then v
      else { v with dram := { v.dram with mirrorBad := v.dram.mirrorBad ++ [(c / 8, e)] } }) ∧
    (∀ n, now s < s.dram.scrubFrom + qRd s.quire.active fDram 8 2 * 60 * ticksPerSec →
      ((∀ e, e < 248 → scrubs s (c / 8) e = false ∨ e ∈ (dramChan s c).scrubbed) →
        exec (.dramPatrolScrub c n) s = .next s) ∧
      (∀ e, e < 248 → scrubs s (c / 8) e = true → e ∉ (dramChan s c).scrubbed → ∃ t, exec (.dramPatrolScrub c n) s = .next t ∧
        t = { s with dram := { s.dram with chans := t.dram.chans, groups := t.dram.groups } } ∧
        (dramGroup t (c / 8)).counts = cAdd (dramGroup s (c / 8)).counts 0 n ∧ e ∈ (dramChan t c).scrubbed)) ∧
    (∀ e n, s.dram.scrubFrom + qRd s.quire.active fDram 8 2 * 60 * ticksPerSec ≤ now s → e < 248 → scrubs s (c / 8) e = true →
      ∃ t, exec (.dramPatrolScrub c n) s = .next t ∧ t.dram.scrubFrom = now s ∧
        ∀ x, x ∈ (dramChan t c).scrubbed ↔ x < 248 ∧ scrubs s (c / 8) x = true) ∧
    (inService s (c / 8) = true → qRd s.quire.active fDram 5 1 ≠ 0 → groupBusy s (c / 8) = false →
      exec (.dramAutoSelfRefresh c) s = .next (chanSleep c true s)) ∧
    (groupBusy s (c / 8) = true → exec (.dramAutoSelfRefresh c) s = .next s) ∧
    ((dramChan s c).selfRefresh = true → (∀ l ∈ s.power.waiting, l.resource ≠ 400 + c) →
      exec (.dramSelfRefreshExit c) s = .next
        { s with power := { s.power with waiting := s.power.waiting ++ [chanLoad s c] } })

/-! ### Audio engine and audio ports (chapters 09 and 10) -/

/-- The AUD commands complete (R285, R294 to R300): status, its counters cleared on request; idle entries written, at once on a
device with no partner and else as a change of the boundary of R294; gain levels put into the active quire, each posted for its
change sample, the reply deferred; meters by R110; the shepherd table and zones taken and posted for every section, and read. -/
def Obligations.AudioCommands : Prop :=
  ∀ (r : Req) (s : State),
    (Starts 0x0901 r s → r.params.length = 4 → rd r.params 0 1 ≤ 1 → isZero r.params 1 3 = true →
      ∃ t p, exec (.audStatus r) s = .next (answered 0x0901 r
          { st := t, params := p, clearing := decide (rd r.params 0 1 = 1) }) ∧ p.length = 48 ∧
        t = { begun 0x0901 r s with audio := { s.audio with
          saturations := t.audio.saturations, refusedReads := t.audio.refusedReads, ownDecisions := t.audio.ownDecisions
          safeloads := t.audio.safeloads } } ∧
        (rd r.params 0 1 = 0 → t.audio = s.audio) ∧
        (rd r.params 0 1 = 1 → t.audio.saturations = 0 ∧ t.audio.refusedReads = 0 ∧ t.audio.ownDecisions = 0 ∧
          t.audio.safeloads = 0)) ∧
    (Starts 0x0902 r s → ∀ k first n e w, k = rd r.params 0 2 → first = rd r.params 4 4 → n = rd r.params 8 4 →
      e = setEntries s.audio.prog k → w = AudioWhat.idle k first (r.params.drop 16) (bit (rd r.params 2 1) 0) →
      r.params.length = 16 + 24 * n → k < progSets s.audio.prog → rd r.params 2 1 ≤ 1 → isZero r.params 3 1 = true →
      first + n ≤ e.2 → n ≤ 2728 → isZero r.params 0xC 4 = true →
      (∀ i, i < n → paramOk (slice r.params (16 + 24 * i) 24) = true ∧
        rd (slice r.params (16 + 24 * i) 24) 0 1 = rd (paramEntry s.audio.params (e.1 + first + i)) 0 1) →
      isPen r.port = false ∨ setPen s.audio.prog k = r.port → safeloadPending s k = false →
      (hasPartner s = false → exec (.audParamWrite r) s = .next (answered 0x0902 r
        (okay (applyChange (setSectionOf s.audio.prog k) ⟨setSectionOf s.audio.prog k, now s, r.port, r.seq, w⟩
          (copyItem (.audio (changeOf 0x0902 r (begun 0x0902 r s))) (begun 0x0902 r s))) []))) ∧
      (hasPartner s = true → exec (.audParamWrite r) s = .next (answered 0x0902 r
        (okay (postChange r (changeInstant s) [setSectionOf s.audio.prog k] w
          (copyItem (.audio (changeOf 0x0902 r (begun 0x0902 r s))) (begun 0x0902 r s))) [])))) ∧
    (Starts 0x0903 r s → ∀ n, n = rd r.params 0 2 → r.params.length = 8 + 8 * n → 1 ≤ n → n ≤ 256 →
      isZero r.params 2 6 = true → ∀ en le_, en = (fun i => rd r.params (8 + 8 * i) 4) → le_ = (fun i => rdI r.params (12 + 8 * i) 2) →
      (∀ i, i < n → isZero r.params (14 + 8 * i) 2 = true ∧ (le_ i = -32768 ∨ (-14400 ≤ le_ i ∧ le_ i ≤ 2400)) ∧
        (∃ k, setOf s.audio.prog (en i) = some k ∧ (isPen r.port = false ∨ setPen s.audio.prog k = r.port)) ∧
        rd (paramEntry s.audio.params (en i)) 0 1 = 1) →
      ∃ t, exec (.audGain r) s = .next (deferredBy 0x0903 r [n] t) ∧
        t = { begun 0x0903 r s with quire := t.quire, audio := { s.audio with changes := t.audio.changes }, twin := t.twin } ∧
        t.quire = { s.quire with
          active := (List.range n).foldl (fun q i => putParam (en i) 2 (leI 2 (le_ i)) q) s.quire.active
          changeCount := satInc s.quire.changeCount } ∧
        t.audio.changes = s.audio.changes ++ (List.range n).map fun i =>
          ⟨((setOf s.audio.prog (en i)).map (setSectionOf s.audio.prog)).getD 0, changeInstant s, r.port, r.seq,
            .gain (en i) (le_ i)⟩) ∧
    (Starts 0x0904 r s → r.params.length = 8 → rd r.params 0 1 ≤ 1 → rd r.params 1 1 ≤ 1 → isZero r.params 2 2 = true →
      1 ≤ rd r.params 6 2 → rd r.params 6 2 ≤ 4096 → rd r.params 4 2 + rd r.params 6 2 ≤ 32768 →
      ∃ t, exec (.audMeter r) s = .next (answered 0x0904 r
          { st := t, clearing := decide (rd r.params 1 1 = 1)
            params := rangeRecords (rd r.params 4 2) (rd r.params 6 2)
              (fun ch => owns r (blockPen s.audio.prog (decide (rd r.params 0 1 = 1)) ch))
              (meterRecord (begun 0x0904 r s) (decide (rd r.params 0 1 = 1))) }) ∧
        t = { begun 0x0904 r s with
          free := s.free + 65536, audio := { s.audio with metersIn := t.audio.metersIn, metersOut := t.audio.metersOut } } ∧
        (rd r.params 1 1 = 0 → t.audio = s.audio) ∧
        (rd r.params 0 1 = 0 → t.audio.metersOut = s.audio.metersOut) ∧
        (rd r.params 0 1 = 1 → t.audio.metersIn = s.audio.metersIn) ∧
        (rd r.params 1 1 = 1 → ∀ m ch,
          m = mget (fun _ => ({} : Meter)) (if rd r.params 0 1 = 1 then t.audio.metersOut else t.audio.metersIn) ch →
          rd r.params 4 2 ≤ ch → ch < rd r.params 4 2 + rd r.params 6 2 →
          owns r (blockPen s.audio.prog (decide (rd r.params 0 1 = 1)) ch) = true → m.peak = 0 ∧ m.clipped = false)) ∧
    (Starts 0x0905 r s → ∀ n es, n = rd r.params 6 2 → r.params.length = 8 + 8 * n → rd r.params 0 1 ≤ 1 →
      isZero r.params 1 1 = true → rd r.params 4 2 ≤ 100 → n ≤ 4096 → rd r.params 0 1 = 1 ∨ n = 0 →
      (∀ i, i < n → ∀ c ∈ insertForm s.audio.prog r.params i, c.1 = true) →
      es = (if rd r.params 0 1 = 1 then (List.range n).map fun i => slice r.params (8 + 8 * i) 8 else s.audio.table) →
      ∃ t, exec (.audShepherd r) s = .next (answered 0x0905 r (okay t [])) ∧
        t = { begun 0x0905 r s with audio := t.audio, twin := t.twin } ∧
        t.audio = { s.audio with
          table := es, onMask := rd r.params 2 2, fadeMs := rd r.params 4 2
          changes := s.audio.changes ++ (List.range 7).map fun k => ⟨k, changeInstant s, r.port, r.seq,
            .insert es (decide (rd r.params 0 1 = 1)) (rd r.params 2 2) (rd r.params 4 2)⟩ }) ∧
    (Starts 0x0906 r s → r.params = [] →
      exec (.audShepherdRead r) s = .next (answered 0x0906 r (okay (begun 0x0906 r s)
        (le 2 s.audio.onMask ++ le 2 s.audio.fadeMs ++ le 2 s.audio.table.length ++
          le 2 (s.audio.table.filter fun e => !(s.audio.inputs.any fun p => decide (p.1 = rd e 2 2))).length ++
          le 8 (nsOf s.audio.insertTime) ++ s.audio.table.flatten))))

/-- A ramp (R283) and a native step (R282). A ramp of N = ⌈time × r / 1,000⌉ samples from the level in force uses, at its i-th
sample, L0 + trunc((Lt − L0) × i / N), off counting as −14,400, and the target from sample n0 + N, an off target giving the
coefficient 0; a native step from rest holds the level until the first zero crossing, or the timeout, and the target from it. An
element uses the coefficient of that level, and a changed target of its entry starts the behaviour from the level in force. -/
def Obligations.GainBehaviour : Prop :=
  ∀ (u : GainUse) (x : Nat → Int) (n0 rate time : Nat) (target : Int), target ≠ u.level →
    (let at_ (beh m : Nat) : GainUse :=
       (List.range m).foldl (fun v i => gainStep (n0 + i) (x i) v) (gainStart n0 rate target beh time u)
     let n := cdiv (time * rate) 1000
     let limit := cdiv ((if time = 0 then 100 else time) * rate) 10000
     (1 ≤ n →
       (∀ i, 1 ≤ i → i ≤ n → (at_ 1 i).level =
         rampLevel u.level + truncDiv ((rampLevel target - rampLevel u.level) * i) n) ∧
       (∀ i, n < i → (at_ 1 i).level = target)) ∧
     (u.run = .still → ∀ m,
       ((∃ i, i ≤ m ∧ (crosses (x i) (if i = 0 then u.prev else x (i - 1)) = true ∨ limit ≤ i)) →
         (at_ 0 (m + 1)).level = target) ∧
       ((∀ i, i ≤ m → crosses (x i) (if i = 0 then u.prev else x (i - 1)) = false ∧ i < limit) →
         (at_ 0 (m + 1)).level = u.level))) ∧
    gainCoef (-32768) = 0 ∧
    ∀ (v : ElemEnv) (key entry : Nat) (w : Int) (r : ElemRun) (e : Bytes), e = paramEntry v.params entry →
      (r.sec.gains.find? fun p => decide (p.1 = key)).map (·.2) = some u →
      (u.target = rdI e 2 2 → u.behaviour = rd e 1 1 → u.time = rd e 4 2 →
        (gainCoefNow v key entry w r).1 = gainCoef (gainStep v.n w u).level) ∧
      (u.target ≠ rdI e 2 2 →
        (gainCoefNow v key entry w r).1 =
          gainCoef (gainStep v.n w (gainStart v.n v.rate (rdI e 2 2) (rd e 1 1) (rd e 4 2) u)).level)

/-- The engine's own events (R269, R270, R280, R281, R287, R290): a section that executes takes its next sample from every
producer, computes, and delivers output sample n + 2, with its edge stamped and the word clock sent; the banks are exchanged at the boundary, both copies of the parameters
then equal; a section takes the changes that are due in order; a gain settles at its end; a domain that leaves RUNNING is
silenced; a bridge's lock is kept; an insert that has faded out is dropped. -/
def Obligations.AudioEvents : Prop :=
  ∀ (sec n : Nat) (s : State),
    (∀ c, sec < 7 → secRuns s sec = true → (sectionAt s sec).next ≤ n →
      ∀ u, u = takeProgram sec (stampEdge sec n s) → exec (.audioSamplePeriod sec n c) s = .next (wordClockOut sec
        (deliverSamples sec (n + 2) (runSection sec n (sectionFeed sec n c u).2 (sectionFeed sec n c u).1)))) ∧
    (sec = 6 → s.audio.edgesFree.getLast? ≠ some (now s) →
      (stampEdge sec n s).audio.edgesFree = keepLast 64 (s.audio.edgesFree ++ [now s])) ∧
    (∀ off : Int, bit (apField s.quire.active 72 0 1) 1 = true → apSection s.quire.active 72 = sec →
      off = qRdI s.quire.active fAudioPorts (128 * 72 + 4) 4 →
      wordClockOut sec s = emit (.wordClock ((now s : Int) + off * ticksPerUs / 1000)) s) ∧
    (∀ c, secRuns s sec = false → exec (.audioSamplePeriod sec n c) s = .next s) ∧
    (∀ t, s.audio.exchangeDue = some t → reached s (gridAfter (ticksPerSec / 48000) t) = true →
      ∃ u, exec .programBankExchange s = .next u ∧ u.audio.bank = 1 - s.audio.bank ∧
        u.audio.prog = s.quire.active ∧ u.audio.progOld = s.audio.prog ∧ u.audio.params = u.audio.idle ∧
        u.audio.exchangeDue = none ∧ u.audio.exchangeTime = gridAfter (ticksPerSec / 48000) t) ∧
    (sec < 7 → secRuns s sec = true → sec ∉ s.audio.paramsDue → (∀ c ∈ s.audio.changes, c.section_ ≠ sec) →
      exec (.audioChangeApply sec) s = .next (gainReplies s)) ∧
    (∀ c rest, sec < 7 → secRuns s sec = true → sec ∉ s.audio.paramsDue → s.audio.changes = c :: rest →
      c.section_ = sec → boundaryNow s sec c.time = true → (∀ d ∈ rest, d.section_ ≠ sec) →
      exec (.audioChangeApply sec) s = .next
        (gainReplies (setAudio (fun a => { a with changes := rest }) (applyChange sec c s)))) ∧
    (∀ key, exec (.gainNativeTimeout sec key) s = .next (settleUse sec key s) ∧
      exec (.gainRampEnd sec key) s = .next (settleUse sec key s)) ∧
    (∀ st mhz, st ≤ 2 → freeRate s.audio.prog ≠ 0 → apField s.quire.active 72 1 1 ≠ 0xFF → apField s.quire.active 72 1 1 ≠ 0 →
      exec (.domfreeClockChange st mhz) s = .next (domainEnter 2 st (setAudio (fun a => { a with freeMilliHz := mhz }) s))) ∧
    (∀ b locked, b < 256 → bridgeOn s.audio.prog b = true →
      exec (.bridgeLock b locked) s = .next
        (setAudio (fun a => { a with bridges := mset (fun _ => false) a.bridges b locked }) s)) ∧
    (∀ ch, exec (.shepherdInsertFadeEnd ch) s = .next (setAudio (fun a => { a with
      inserts := a.inserts.filter fun x =>
        !(decide (rd x.entry 0 2 = ch) && x.removed && decide (insertWeight x = 0)) }) s))

/-- The APT commands complete (R316 to R318), and ports take and send frames (R304, R307, R310, R313): an AES3 input whose rate
is wrong enters WRONG_RATE; a port without a signal for 4 periods enters NO_SIGNAL; a frame arriving at a full elastic buffer is
a drop, another, or any at a port that never slips, enters it; an output sends one frame per sample, once its instant has come;
a TDM master moves a frame both ways. -/
def Obligations.AudioPortCommands : Prop :=
  ∀ (r : Req) (p : Nat) (s : State),
    (Starts 0x0A01 r s → r.params.length = 4 → 1 ≤ rd r.params 1 1 → rd r.params 0 1 + rd r.params 1 1 ≤ 73 →
      isZero r.params 2 2 = true →
      exec (.aptStatus r) s = .next (answered 0x0A01 r (okay (begun 0x0A01 r s)
        ((List.range (rd r.params 1 1)).flatMap fun j => aptRecord (begun 0x0A01 r s) (rd r.params 0 1 + j))))) ∧
    (Starts 0x0A02 r s → r.params.length = 4 → rd r.params 0 1 < 64 → isZero r.params 1 3 = true →
      (isPen r.port = false ∨ aesPen s (rd r.params 0 1) r.port = true →
        ∃ b, exec (.aptChstat r) s = .next (answered 0x0A02 r (okay (begun 0x0A02 r s) b)) ∧ b.length = 112 ∧
          b.take 1 = le 1 (rd r.params 0 1) ∧ slice b 8 8 = le 8 (nsOf (portAt s (rd r.params 0 1)).doneTime)) ∧
      (isPen r.port = true → aesPen s (rd r.params 0 1) r.port = false →
        exec (.aptChstat r) s = .next (answered 0x0A02 r (refuse (begun 0x0A02 r s) stNotOwner 0)))) ∧
    (Starts 0x0A03 r s → r.params.length = 4 → rd r.params 0 1 ≤ 1 → 1 ≤ rd r.params 2 1 →
      rd r.params 1 1 + rd r.params 2 1 ≤ 73 → isZero r.params 3 1 = true →
      ∃ t, exec (.aptCounters r) s = .next (answered 0x0A03 r
          { st := t, clearing := decide (rd r.params 0 1 = 1)
            params := (List.range (rd r.params 2 1)).flatMap fun j =>
              le 1 (rd r.params 1 1 + j) ++ zeros 3 ++ cBytes (portAt s (rd r.params 1 1 + j)).counts 8 }) ∧
        t = { begun 0x0A03 r s with apt := t.apt } ∧
        (∀ i, portAt t i = { portAt s i with counts := (portAt t i).counts }) ∧
        (rd r.params 0 1 = 0 → t.apt = s.apt) ∧
        (rd r.params 0 1 = 1 → ∀ j, j < rd r.params 2 1 → (portAt t (rd r.params 1 1 + j)).counts = [])) ∧
    (∀ rate f c, p < 32 → apEnabled s.quire.active p = true → (portAt s p).state ≠ 0 → rateNear (apRate s p) rate = false →
      exec (.aes3FrameReceive p rate f c) s = .next
        (apEnter p 4 (setApt p (fun x => { x with rate := rate, lastFrame := now s }) s))) ∧
    (p < 72 → apEnabled s.quire.active p = true → apSlave s.quire.active p = true → 0 < apRate s p → (portAt s p).state ≠ 0 →
      (portAt s p).lastFrame * apRate s p + 4 * ticksPerSec ≤ now s * apRate s p →
      exec (.audioPortNoSignal p) s = .next (apEnter p 1 s)) ∧
    (∀ f c, s.twin.role ≠ .standby →
      ((portAt s p).buf.length < 14 → (portAt (bufIn p f c s) p).buf = (portAt s p).buf ++ [f]) ∧
      (14 ≤ (portAt s p).buf.length → neverSlips s.quire.active p = false → bufIn p f c s = slipped p 2 false s) ∧
      (neverSlips s.quire.active p = true → (portAt (bufIn p f c s) p).buf = (portAt s p).buf ++ [f])) ∧
    (∀ n, 32 ≤ p → p < 64 → apEnabled s.quire.active p = true → (portAt s p).state = 5 →
      secRuns s (apSection s.quire.active p) = true → sampleAgo s (apSection s.quire.active p) n (3 * ticksPerUs) = true →
      ∃ t a b, exec (.aes3FrameSend p n) s = .next t ∧ t = { s with apt := t.apt, out := t.out } ∧
        t.out = s.out ++ [.aes p (decide ((portAt s p).pos = 0)) [a, b]] ∧
        a.1 = ((mget (fun _ => []) (portAt s p).outBuf n).getD 0 (0, 0)).1 ∧
        b.1 = ((mget (fun _ => []) (portAt s p).outBuf n).getD 1 (0, 0)).1 ∧
        (portAt t p).pos = ((portAt s p).pos + 1) % 192) ∧
    (∀ n rate good slots c, 64 ≤ p → p < 72 → apEnabled s.quire.active p = true → tdmMaster s.quire.active p = true →
      (portAt s p).state = 5 → secRuns s (apSection s.quire.active p) = true →
      sampleAgo s (apSection s.quire.active p) n ticksPerUs = true →
      ∃ t, exec (.tdmFrame p n rate good slots c) s = .next t ∧ t = { s with apt := t.apt, out := t.out } ∧
        t.out = s.out ++ [.tdm p (tdmSlots (apField s.quire.active p 6 1) (mget (fun _ => []) (portAt s p).outBuf n))])

/-! ### Layer engines (chapter 11) -/

/-- The LAY commands complete (R347 to R351): status by R110, the unavailable counts cleared on request; a preset written into
the active quire and counted as a change, a recall entering one event of its target; a card begun, written, committed when it
has no fault and refused at its first fault otherwise, and erased; the shepherd table and zones taken for every engine; all of it
read back. -/
def Obligations.LayerCommands : Prop :=
  ∀ (r : Req) (s : State),
    (Starts 0x0B01 r s → r.params.length = 4 → 1 ≤ rd r.params 1 1 → rd r.params 0 1 + rd r.params 1 1 ≤ 64 →
      rd r.params 2 1 ≤ 1 → isZero r.params 3 1 = true →
      ∃ t, exec (.layStatus r) s = .next (answered 0x0B01 r
          { st := t, clearing := decide (rd r.params 2 1 = 1)
            params := byteRecords (rd r.params 0 1) (rd r.params 1 1) (fun e => owns r (leField s.quire.active e 1 1))
              (engineRecord (begun 0x0B01 r s)) }) ∧
        t = { begun 0x0B01 r s with layers := { s.layers with engines := t.layers.engines } } ∧
        (∀ e, engineAt t e = { engineAt s e with unavailable := (engineAt t e).unavailable }) ∧
        (rd r.params 2 1 = 0 → t.layers = s.layers) ∧
        (rd r.params 2 1 = 1 → ∀ j, j < rd r.params 1 1 → owns r (leField s.quire.active (rd r.params 0 1 + j) 1 1) = true →
          (engineAt t (rd r.params 0 1 + j)).unavailable = 0)) ∧
    (Starts 0x0B02 r s → ∀ p e q, p = r.params → e = rd p 0 1 → q = s.quire.active → p.length = 136 → e < 64 →
      leField q e 4 1 ≠ 0xFF → rd p 2 1 < (gangOf q e).length → isZero p 6 2 = true → owns r (leField q e 1 1) = true →
      rd p 4 1 ≤ 7 → rd p 5 1 = 0 →
      (rd p 1 1 = 1 → rd p 3 1 = 0 → (∀ l, l < 4 → isZero p (8 + 32 * l) 32 = true) → pendingFor s kLayer e < 16 →
        queueFull s 1 = false →
        exec (.laySet r) s = .next (deferredBy 0x0B02 r [1]
          (enterAll r e [layPayload 2 (rd p 2 1) 0 0 (rd p 4 1) (zeros 16)] 0 (begun 0x0B02 r s)))) ∧
      (rd p 1 1 = 2 → rd p 3 1 = 1 → (∀ l, l < 4 → ∀ c ∈ laySetForm 2 0 p l, c.1 = true) →
        recordOk (layerFormatNow s (e + rd p 2 1) 0) (slice p 8 32) = true → s.quire.swapping = none →
        exec (.laySet r) s = .next (answered 0x0B02 r (okay (countChange
          (copyItem (.change (changeOf 0x0B02 r (begun 0x0B02 r s))) { begun 0x0B02 r s with
            quire := { s.quire with
              active := qWrite q fLayers (1184 * (e + rd p 2 1) + 0xA0 + 128 * rd p 4 1) (slice p 8 32) } })) [])))) ∧
    (Starts 0x0B03 r s → ∀ n len, n = rd r.params 0 1 → len = rd r.params 8 4 → n < 64 → isZero r.params 2 2 = true →
      isZero r.params 0xC 4 = true →
      (r.params.length = 16 → rd r.params 1 1 = 1 → rd r.params 4 4 = 0 → cardDrawn s n = false →
        storeUsed s n + len ≤ 8388608 →
        exec (.layShepherdWrite r) s = .next (answered 0x0B03 r
          (okay (setCard n (fun _ => ⟨len, [], false⟩) (copyItem (.safety (changeOf 0x0B03 r (begun 0x0B03 r s))) (begun 0x0B03 r s))) []))) ∧
      (r.params.length = 16 + len → rd r.params 1 1 = 2 → (cardAt s n).committed = false →
        rd r.params 4 4 + len ≤ (cardAt s n).length →
        exec (.layShepherdWrite r) s = .next (answered 0x0B03 r
          (okay (setCard n (fun x => { x with data := putBytes x.data (rd r.params 4 4) (r.params.drop 16) })
            (copyItem (.safety (changeOf 0x0B03 r (begun 0x0B03 r s))) (begun 0x0B03 r s))) []))) ∧
      (r.params.length = 16 → rd r.params 1 1 = 3 → rd r.params 4 4 = 0 → len = 0 →
        (cardFault (cardAt s n) = none → exec (.layShepherdWrite r) s = .next (answered 0x0B03 r
          (okay (setCard n (fun x => { x with committed := true }) (copyItem (.safety (changeOf 0x0B03 r (begun 0x0B03 r s))) (begun 0x0B03 r s))) []))) ∧
        (∀ b, cardFault (cardAt s n) = some b → exec (.layShepherdWrite r) s = .next (answered 0x0B03 r
          (refuse (begun 0x0B03 r s) stBadParam b)))) ∧
      (r.params.length = 16 → rd r.params 1 1 = 4 → rd r.params 4 4 = 0 → len = 0 → cardDrawn s n = false →
        exec (.layShepherdWrite r) s = .next (answered 0x0B03 r
          (okay (setCard n (fun _ => {}) (copyItem (.safety (changeOf 0x0B03 r (begun 0x0B03 r s))) (begun 0x0B03 r s))) [])))) ∧
    (Starts 0x0B04 r s → ∀ n, n = rd r.params 4 2 → r.params.length = 8 + 16 * n → rd r.params 0 1 ≤ 1 →
      rd r.params 1 1 ≤ 30 → n ≤ 64 → rd r.params 0 1 = 1 ∨ n = 0 → isZero r.params 6 2 = true →
      (∀ i, i < n → ∀ c ∈ showForm r.params i, c.1 = true) →
      ∃ t tab, tab = (if rd r.params 0 1 = 1 then showEntries r.params else s.layers.table) ∧
        exec (.layShepherdShow r) s = .next (answered 0x0B04 r (okay t [])) ∧
        t = { begun 0x0B04 r s with layers := t.layers, twin := t.twin } ∧
        t.layers = { s.layers with
          table := tab, onMask := rd r.params 2 2, fadeFrames := rd r.params 1 1
          changes := s.layers.changes ++ [⟨changeInstant s, tab, rd r.params 2 2, rd r.params 1 1, List.range 64⟩] }) ∧
    (Starts 0x0B05 r s → r.params = [] →
      ∃ b, exec (.layShepherdRead r) s = .next (answered 0x0B05 r (okay (begun 0x0B05 r s) b)) ∧
        b.take 20 = le 2 s.layers.onMask ++ le 1 s.layers.fadeFrames ++ zeros 1 ++ le 2 s.layers.table.length ++
          le 2 (s.layers.table.filter (entryWaits s)).length ++ le 4 (storeUsed s 64) ++ le 8 (nsOf s.layers.changeTime))

/-- The dither of R332 is exact on still, flat areas: over four consecutive frames and the four pixels of a 2 × 2 group aligned
on even coordinates, the thresholds of an 8-bit panel are 0 to 15 once each, and the quantised values of a flat component v sum
to v; those of a 10-bit panel are 0 to 3 four times each, and the values sum to 4 v. -/
def Obligations.DitherExact : Prop :=
  ∀ (k x y v : Nat), x % 2 = 0 → y % 2 = 0 →
    (let cells := [(0, 0), (1, 0), (0, 1), (1, 1)].flatMap fun p => (List.range 4).map fun i => (i, p)
     let t (sh : Nat) (c : Nat × Nat × Nat) : Nat := ditherT (k + c.1) sh (x + c.2.1) (y + c.2.2)
     (∀ n, n < 16 → (cells.filter fun c => decide (t 4 c = n)).length = 1) ∧
     (cells.map fun c => (v + t 4 c) / 16).sum = v ∧
     (∀ n, n < 4 → (cells.filter fun c => decide (t 2 c = n)).length = 4) ∧
     (cells.map fun c => (v + t 2 c) / 4).sum = 4 * v)

/-- The engines (R326, R343 to R345): a running engine, once it has taken a swap that is due to it, writes an active line of its
output frame, complete at A(k) + (line − 1) T_L, with what is composed, settled at the first active line; in a change black but for
the shepherd layer, and nothing before t_e; a waiting engine takes its item, with its gang, at the end of the output frame that was
being written, once the governor has admitted them; the change ends, and its item completes, at A_new(j0); with no shepherd change
due nothing changes. -/
def Obligations.LayerEngines : Prop :=
  ∀ (e k line : Nat) (s u : State), u = engineTake e s →
    (∀ o f v, f = leField u.quire.active e 2 2 → engineOutput u.quire.active e = some o →
      (engineAt u e).running = true → (engineAt u e).mode = none → isActive (rasterOf f) line = true →
      v = (if line ≤ firstActive (rasterOf f) then settleFrame e k u else u) →
      exec (.layerOutputLine e k line) s = .next (writeLine o line f (alignInstant f k + (line - 1) * linePeriod f)
        (composeLine v e k (line - firstActive (rasterOf f)) false) v)) ∧
    (∀ o f te, f = leField u.quire.active e 2 2 → engineOutput u.quire.active e = some o →
      (engineAt u e).running = true → (engineAt u e).mode = some te → isActive (rasterOf f) line = true →
      alignInstant f k < te →
      (te ≤ alignInstant f k + (line - 1) * linePeriod f →
        exec (.layerOutputLine e k line) s = .next (writeLine o line f (alignInstant f k + (line - 1) * linePeriod f)
          (composeLine u e k (line - firstActive (rasterOf f)) true) u)) ∧
      (alignInstant f k + (line - 1) * linePeriod f < te → exec (.layerOutputLine e k line) s = .next u)) ∧
    ((engineAt u e).running = false → exec (.layerOutputLine e k line) s = .next u) ∧
    (∀ te, te = changeFrom s e → (engineAt s e).waiting = true → (engineAt s e).mode = none → reached s te = true →
      (∀ i ∈ itemEngines s e, loadWaits s (600 + i) 6 = false) →
      exec (.layerFormatChangeStart e) s = .next ((itemEngines s e).foldl (fun t i =>
        setEngine i (fun x => shepRebase (te / framePeriod (leField t.quire.active i 2 2))
          (te / framePeriod (leField (layerRestart i (copyEngine i t)).quire.active i 2 2)) { x with mode := some te })
          (layerRestart i (copyEngine i t))) s)) ∧
    ((engineAt s e).waiting = false ∨ (engineAt s e).mode.isSome = true ∨ reached s (changeFrom s e) = false →
      exec (.layerFormatChangeStart e) s = .next s) ∧
    (∀ te f, f = leField s.quire.active e 2 2 → e < 64 → (engineAt s e).mode = some te →
      (∀ i, i ≠ e → (engineAt s i).mode ≠ some te) →
      reached s (cdiv te (framePeriod f) * framePeriod f) = true →
      exec (.layerFormatChangeEnd e) s = .next
        (finishItem fLayers e stOk (setEngine e (fun x => { x with mode := none, waiting := false }) s))) ∧
    ((∀ c ∈ s.layers.changes, e ∉ c.engines) → exec (.shepherdChangeApply e) s = .next s) ∧
    (∀ c f, f = leField s.quire.active e 2 2 → s.layers.changes = [c] → gangOf s.quire.active (gangFirst s.quire.active e) = [e] →
      c.engines = [e] → reached s (switchAfter s.quire.active f c.time) = true →
      ∃ t, exec (.shepherdChangeApply e) s = .next t ∧ t.layers.changes = [] ∧
        t.layers.engines = (takeShep c e (switchFrame s.quire.active f c.time) s).layers.engines)

/-! ### References, holdover and clocks (chapter 12) -/

/-- The REF commands and CLK_STATUS complete (R377 to R380): the reference records, whose counters a clear empties; a REF_SELECT
kept for the next evaluation, refused for a reference that is not QUALIFIED and for HOLDOVER while unacquired; the holdover record;
the clock records, whose losses a clear empties. -/
def Obligations.ReferenceCommands : Prop :=
  ∀ (r : Req) (s : State),
    (Starts 0x0C01 r s → r.params.length = 4 → rd r.params 0 1 ≤ 1 → isZero r.params 1 3 = true →
      ∃ t, exec (.refStatus r) s = .next (answered 0x0C01 r
          { st := t, params := refStatus (begun 0x0C01 r s), clearing := decide (rd r.params 0 1 = 1) }) ∧
        t = { begun 0x0C01 r s with time := { s.time with refs := t.time.refs } } ∧
        ∀ k, refAt t k =
          if rd r.params 0 1 = 1 ∧ k < 15 then { refAt s k with faults := 0, rejections := 0 } else refAt s k) ∧
    (Starts 0x0C02 r s → ∀ op k, op = rd r.params 0 1 → k = rd r.params 1 1 → r.params.length = 8 → op ≤ 2 →
      isZero r.params 2 6 = true → (if op = 1 then k < 15 else k = 0) →
      ((op = 1 → (refAt s k).q = 4) → (op = 2 → s.tb.acquired = true) →
        exec (.refSelect r) s = .next (deferredBy 0x0C02 r [op, k] { begun 0x0C02 r s with
          time := { s.time with
            dpll := { s.time.dpll with pendingSel := s.time.dpll.pendingSel ++ [⟨op, k, r⟩] } } })) ∧
      ((op = 1 ∧ (refAt s k).q ≠ 4) ∨ (op = 2 ∧ s.tb.acquired = false) →
        exec (.refSelect r) s = .next (answered 0x0C02 r (refuse (begun 0x0C02 r s) stNotActive 0)))) ∧
    (Starts 0x0C03 r s → r.params = [] →
      exec (.refHoldover r) s = .next (answered 0x0C03 r (okay (begun 0x0C03 r s) (refHoldover (begun 0x0C03 r s))))) ∧
    (Starts 0x0C04 r s → r.params.length = 4 → rd r.params 0 1 ≤ 1 → isZero r.params 1 3 = true →
      exec (.clkStatus r) s = .next (answered 0x0C04 r
        { st := { begun 0x0C04 r s with
                  free := s.free + 18
                  time := { s.time with losses := if rd r.params 0 1 = 1 then [] else s.time.losses } }
          params := (List.range 18).flatMap (clkRecord (begun 0x0C04 r s))
          clearing := decide (rd r.params 0 1 = 1) }))

/-- What drives the references and the fence (R353, R354, R359, R365, R92): the evaluation is made once in each TAI second, by the
device that decides, and a standby composes its bound; HOLD_EXPIRE is asserted while the bound passes its limit and released at the
second evaluation in a row at or below nine-tenths of it; a pulse within its window is kept, one outside fails the activity; an ATOM count joins
the window; edges restore a CLOCK input; a fault or the end of hold_ms changes the qualification and selects again. The device is fenced (R92) while the composed bound is
unlimited or above the fence bound, and stops being fenced at an evaluation that finds the bound at or below nine-tenths of the
fence bound since 1 s ago; a bound in between leaves it as it is. -/
def Obligations.ReferenceEvents : Prop :=
  ∀ (r : Nat) (s : State),
    (∀ meas, s.boot.inReset = false → s.time.dpll.evalSec ≠ some s.tb.sec.toNat → decidesRefs s = true →
      exec (.taiSecondEvaluation meas) s = .next
        (evaluateRefs meas (setDpll (fun d => { d with evalSec := some s.tb.sec.toNat }) s))) ∧
    (∀ meas, s.boot.inReset = false → s.time.dpll.evalSec ≠ some s.tb.sec.toNat → decidesRefs s = false →
      exec (.taiSecondEvaluation meas) s = .next (fenceEvaluation (setTime (fun t => { t with bound := servedBound s })
        (holdExpiry (setDpll (fun d => { d with
          evalSec := some s.tb.sec.toNat, evalTime := now s
          lockedEval := if s.time.dpll.state = 2 then some (now s) else s.time.dpll.lockedEval }) s))))) ∧
    (∀ spec, spec = qRd s.quire.active fRef 8 4 * asPerNs →
      ((s.time.dpll.bound = none ∨ ∃ b, s.time.dpll.bound = some b ∧ spec < b) →
        (holdExpiry s).time.dpll.holdExpire = true) ∧
      (∀ b, s.time.dpll.bound = some b → b ≤ spec → s.time.dpll.holdExpire = false →
        (holdExpiry s).time.dpll.holdExpire = false) ∧
      (∀ b, s.time.dpll.bound = some b → 10 * b ≤ 9 * spec → s.time.dpll.holdExpire = true →
        ((holdExpiry s).time.dpll.holdExpire = false ↔ 1 ≤ s.time.dpll.lowEvals))) ∧
    (∀ meas, s.time.dpll.evalSec = some s.tb.sec.toNat → exec (.taiSecondEvaluation meas) s = .next s) ∧
    (∀ stamp p, r < 13 → refEnabled s.quire.active r = true → 3 ≤ refKind s.quire.active r → (refAt s r).active = true →
      p = ((5292 * stamp : Nat) : Int) - 100 * ticksPerNs * qRdI s.quire.active fRef (0x40 + 32 * r + 0x18) 4 →
      (pulseGood s.quire.active r p (refAt s r).pulses = true →
        exec (.referencePulse r stamp) s = .next (setRef r (fun y => { y with
          pulses := keepLast 16 ((refAt s r).pulses ++ [p])
          phase := -(nearZero (-p) (100 * refPeriod s.quire.active r)) * 10 / 5292 }) s)) ∧
      (pulseGood s.quire.active r p (refAt s r).pulses = false →
        exec (.referencePulse r stamp) s = .next (activityFault r s))) ∧
    (∀ ppt, refEnabled s.quire.active 12 = true → exec (.atomCountCycle ppt) s = .next
      (setDpll (fun d => { d with atomSum := d.atomSum + ppt, atomN := d.atomN + 1 }) s)) ∧
    (r < 15 → r ≠ 12 → refEnabled s.quire.active r = true → refKind s.quire.active r = 1 →
      exec (.clockReferenceActivityRestored r) s = .next (activityRestored r s)) ∧
    (r < 12 → exec (.referenceActivityFault r) s = .next (activityFault r s)) ∧
    ((refAt s r).active = true → r ≠ 15 → decidesRefs s = true → (refAt s r).q ≠ 0 →
      activityFault r s = reselect (refEnter r (if s.time.dpll.selected = some r then 5 else 1)
        (setRef r (fun y => { y with active := false, faults := satInc y.faults, pulses := [] }) s))) ∧
    (r < 15 → decidesRefs s = true → (refAt s r).q = 5 →
      (refAt s r).bridgeSince + holdMs s.quire.active r * ticksPerMs ≤ now s →
      exec (.referenceHoldExpiry r) s = .next (reselect (refEnter r 1 s))) ∧
    ((refAt s r).q ≠ 5 → exec (.referenceHoldExpiry r) s = .next s) ∧
    (∀ fb, fb = fenceBound s * asPerNs →
      ((composed s = none ∨ ∃ e, composed s = some e ∧ fb < e) →
        fenceEvaluation s = (if s.drv.fenced then id else raise 162 0 1)
          { s with drv := { s.drv with fenced := true, belowSince := none } }) ∧
      (∀ e, composed s = some e → e ≤ fb → 9 * fb < 10 * e →
        fenceEvaluation s = { s with drv := { s.drv with belowSince := none } }) ∧
      (∀ e t, composed s = some e → 10 * e ≤ 9 * fb → s.drv.belowSince = some t → s.drv.fenced = true →
        (t + ticksPerSec ≤ now s → fenceEvaluation s = raise 162 0 0 { s with drv := { s.drv with fenced := false } }) ∧
        (now s < t + ticksPerSec → fenceEvaluation s = s)) ∧
      (∀ e, composed s = some e → 10 * e ≤ 9 * fb → s.drv.belowSince = none →
        fenceEvaluation s = { s with drv := { s.drv with belowSince := some (now s) } }))

/-- The loop, the synthesisers and the pulse outputs (R360, R361, R366 to R369, R374, R375): the loop takes the error, the
rate is frozen while bridging and moves to the flywheel's in holdover; a standby takes the holder's copy within the limits and
counts a missing one; the ladder advances after its dwell; a synthesiser that loses lock is gated until it relocks under
the governor; a lost SYSREF
is raised; a pulse output's edge is emitted at its grid instant with its offset. -/
def Obligations.ClockEvents : Prop :=
  ∀ (err : Int) (d : Nat) (s : State),
    (∀ c, s.boot.inReset = false → decidesRefs s = true →
      (1 ≤ s.time.dpll.state → s.time.dpll.state ≤ 3 → exec (.dpllPhaseUpdate err c) s = .next (loopUpdate err s)) ∧
      (s.time.dpll.state = 4 → exec (.dpllPhaseUpdate err c) s = .next s) ∧
      (s.time.dpll.state = 5 → exec (.dpllPhaseUpdate err c) s = .next (setRate (flywheelRate s) s)) ∧
      (s.time.dpll.state = 0 → exec (.dpllPhaseUpdate err c) s = .next
        (setRate (if s.time.dpll.fly = 1 then s.time.dpll.atomRate else 0) s))) ∧
    (s.boot.inReset = false → decidesRefs s = false →
      exec (.dpllPhaseUpdate err none) s = .next
        { s with twin := { s.twin with ownDecisions := satInc s.twin.ownDecisions } }) ∧
    (∀ c, s.boot.inReset = false → decidesRefs s = false →
      ∃ t, exec (.dpllPhaseUpdate err (some c)) s = .next t ∧ -rhoLimit ≤ t.tb.rho ∧ t.tb.rho ≤ rhoLimit ∧
        t = { s with
          free := s.free + 2, tb := { s.tb with rho := t.tb.rho }, time := { s.time with dpll := t.time.dpll }
          twin := { s.twin with trimPs := t.twin.trimPs } } ∧
        -2000 ≤ t.twin.trimPs ∧ t.twin.trimPs ≤ 2000 ∧
        t.time.dpll.state = c.state ∧ t.time.dpll.selected = c.selected ∧ t.time.dpll.bound = c.bound) ∧
    (∀ r w, s.time.dpll.selected = some r → s.time.dpll.within = some w → 1 ≤ s.time.dpll.state → s.time.dpll.state ≤ 3 →
      decidesRefs s = true →
      s.time.dpll.rungSince + rungField s.quire.active s.time.dpll.rung 4 * ticksPerSec ≤ now s →
      w + rungField s.quire.active s.time.dpll.rung 4 * ticksPerSec ≤ now s →
      (s.time.dpll.rung < finalRung s.quire.active r → s.time.dpll.state ≠ 1 →
        exec .ladderAdvance s = .next
          (setDpll (fun x => { x with rung := x.rung + 1, rungSince := now s, within := none }) s)) ∧
      (s.time.dpll.rung < finalRung s.quire.active r → s.time.dpll.state = 1 →
        exec .ladderAdvance s = .next (dpllEnter 2
          (setDpll (fun x => { x with rung := x.rung + 1, rungSince := now s, within := none }) s))) ∧
      (finalRung s.quire.active r ≤ s.time.dpll.rung → s.time.dpll.state = 1 →
        exec .ladderAdvance s = .next (dpllEnter 2 s))) ∧
    (s.time.dpll.within = none → exec .ladderAdvance s = .next s) ∧
    (9 ≤ d → d ≤ 13 → synthState s d = 2 →
      exec (.synthLockLoss d) s = .next (addLoad ⟨2, 500 + d, 2, 1, now s⟩ (gateEffects d false (rfcEvent 4 d 3
        (setTime (fun t => { t with losses := cAdd t.losses d 1 }) (setSynth d 3 s)))))) ∧
    (9 ≤ d → d ≤ 13 → synthState s d = 3 → loadWaits s (500 + d) 2 = false →
      exec (.synthRelock d) s = .next (gateEffects d true (setSynth d 2 s))) ∧
    (∀ root, s.boot.inReset = false → exec (.sysrefLoss root) s = .next
      (raise (if root then 903 else 902) 0 0 (setTime (fun t =>
        { t with losses := cAdd t.losses (if root then 0 else 7) 1 }) s))) ∧
    (∀ o k fl, fl = pulseField s.quire.active o 0 1 → o < 4 → bit fl 0 = true → bit fl 3 = false →
      (mget (fun _ => ({} : PulseOut)) s.time.pulses o).lastEdge ≠ some k → k % pulseField s.quire.active o 4 1 = 0 →
      pulseField s.quire.active o 1 1 = 0 →
      exec (.pulseOutputEdge o k) s = .next (emit
        (.pulse o (edgeStep (((alignInstant (pulseField s.quire.active o 2 2) k : Nat) : Int) +
          qRdI s.quire.active fRef (0x2C0 + 32 * o + 8) 4 * ticksPerNs).toNat) (pulseField s.quire.active o 0xC 4) (bit fl 1))
        (setTime (fun y => { y with pulses := mset (fun _ => ({} : PulseOut)) y.pulses o ⟨0, some k⟩ }) s))) ∧
    (∀ o k, bit (pulseField s.quire.active o 0 1) 0 = false → exec (.pulseOutputEdge o k) s = .next s)

/-- The rate word keeps its limits (R360, R382): it never leaves ±20 ppm, and while the rates of the last second lie within
max_slew of each other and within the limit, the new rate lies within max_slew of each of them. -/
def Obligations.RateWithinLimits : Prop :=
  ∀ (want : Int) (s : State),
    -rhoLimit ≤ (setRate want s).tb.rho ∧ (setRate want s).tb.rho ≤ rhoLimit ∧
    ∀ (slew : Int) (rates : List Int), slew = ((qRd s.quire.active fRef 6 2 * 2 ^ 48 / 1000000000 : Nat) : Int) →
      rates = s.tb.rho :: ((s.time.dpll.rates.filter fun e => decide (now s ≤ e.1 + ticksPerSec)).map (·.2)) →
      (∀ a ∈ rates, -rhoLimit ≤ a ∧ a ≤ rhoLimit) → (∀ a ∈ rates, ∀ b ∈ rates, a - b ≤ slew) →
      ∀ a ∈ rates, (setRate want s).tb.rho - a ≤ slew ∧ a - (setRate want s).tb.rho ≤ slew

/-! ### Time service (chapter 13) -/

/-- The time commands complete (R388, R419 to R423): the time, the terms of the bound, the PTP records whose counters a clear
empties, the sessions from an index on in order, the NTS counters; TIM_SET kept for the end of the cycle, refused once the time
base is acquired. -/
def Obligations.TimeCommands : Prop :=
  ∀ (r : Req) (s : State),
    (Starts 0x0D01 r s → r.params = [] →
      exec (.timRead r) s = .next (answered 0x0D01 r (okay (begun 0x0D01 r s) (timRead (begun 0x0D01 r s))))) ∧
    (Starts 0x0D02 r s → r.params = [] →
      exec (.timBound r) s = .next (answered 0x0D02 r (okay (begun 0x0D02 r s) (timBound (begun 0x0D02 r s))))) ∧
    (Starts 0x0D03 r s → r.params.length = 4 → rd r.params 0 1 ≤ 1 → isZero r.params 1 3 = true →
      ∃ t b, exec (.ptpStatus r) s = .next (answered 0x0D03 r
          { st := t, params := b, clearing := decide (rd r.params 0 1 = 1) }) ∧
        b = (List.range 8).flatMap (instRecord (begun 0x0D03 r s)) ++ (List.range 64).flatMap (ppRecord (begun 0x0D03 r s)) ∧
        t = { begun 0x0D03 r s with time := { s.time with insts := t.time.insts, ports := t.time.ports } } ∧
        (∀ i, instAt t i =
          if rd r.params 0 1 = 1 ∧ i < 8 then { instAt s i with authFailures := 0 } else instAt s i) ∧
        ∀ p, ppAt t p =
          if rd r.params 0 1 = 1 ∧ p < 64 then { ppAt s p with timeouts := 0, faults := 0 } else ppAt s p) ∧
    (Starts 0x0D04 r s → ∀ n i mine next_, n = rd r.params 4 2 → i = rd r.params 6 1 → r.params.length = 8 →
      1 ≤ n → n ≤ 1000 → i < 8 ∨ i = 0xFF → isZero r.params 7 1 = true →
      mine = s.time.sessions.filter (fun x => decide (i = 0xFF ∨ x.inst = i)) →
      next_ = (mine.filter fun x => decide (rd r.params 0 4 ≤ x.index)).mergeSort
        (fun a b => decide (a.index ≤ b.index)) →
      exec (.ptpSessions r) s = .next (answered 0x0D04 r (okay (begun 0x0D04 r s)
        (le 4 mine.length ++ le 4 (match next_[n]? with
          | some x => x.index
          | none => 0xFFFFFFFF) ++ (next_.take n).flatMap (ptpSessionBytes (begun 0x0D04 r s)))))) ∧
    (Starts 0x0D05 r s → r.params.length = 4 → rd r.params 0 1 ≤ 1 → isZero r.params 1 3 = true →
      exec (.ntsStatus r) s = .next (answered 0x0D05 r
        { st := { begun 0x0D05 r s with time := { s.time with
            ntp := { s.time.ntp with counts := if rd r.params 0 1 = 1 then [] else s.time.ntp.counts } } }
          params := le 4 (cookiePeriod s) ++ le 4 s.time.ntp.limits.length ++
            (List.range 9).flatMap fun k => le 8 (mget (fun _ => 0) s.time.ntp.counts k)
          clearing := decide (rd r.params 0 1 = 1) })) ∧
    (Starts 0x0D06 r s → r.params.length = 16 →
      (2 ^ 48 ≤ rd r.params 0 8 → exec (.timSet r) s = .next (answered 0x0D06 r (refuse (begun 0x0D06 r s) stBadParam 0))) ∧
      (rd r.params 0 8 < 2 ^ 48 → rd r.params 8 4 < 1000000000 → isZero r.params 12 4 = true →
        (s.tb.acquired = true →
          exec (.timSet r) s = .next (answered 0x0D06 r (refuse (begun 0x0D06 r s) stBadParam 0xFFFF))) ∧
        (s.tb.acquired = false →
          exec (.timSet r) s = .next (deferredBy 0x0D06 r [] (setTime (fun t => { t with pendingSet := t.pendingSet ++
              [⟨rd r.params 0 8, rd r.params 8 4, cycleEndAfter (now s), r⟩] })
            (copyItem (.change (changeOf 0x0D06 r (begun 0x0D06 r s))) (begun 0x0D06 r s)))))))

/-- The time base is set (R381, R385, R388): the acquisition step moves it by the phase of the selected reference in whole
increments, once; a standby steps by the increments of its partner; TIM_SET gives it the increment at or below its value without
acquiring it. A read of HST_TIME_NS gives the nanoseconds and latches the seconds (R390); a leap changes TAI − UTC at its instant
(R392); an instance rolls its key at key_next_time (R403). -/
def Obligations.TimeBaseEvents : Prop :=
  ∀ (s : State) (total : TimeBase → Nat), total = (fun b => b.sec.toNat * incsPerSec + b.inc) →
    (∀ copied, s.tb.acquired = true → exec (.acquisitionStep copied) s = .next s) ∧
    (∀ copied t0 k, s.tb.acquired = false → s.boot.inReset = false → decidesRefs s = true →
      s.time.stepDue = some t0 → t0 ≤ now s → s.time.dpll.selected = some k →
      0 ≤ (total s.tb : Int) + -(refAt s k).phase / 1250 → (total s.tb : Int) + -(refAt s k).phase / 1250 < 2 ^ 48 * incsPerSec →
      ∃ t, exec (.acquisitionStep copied) s = .next t ∧ t.tb.acquired = true ∧ t.tb.rho = s.tb.rho ∧ t.tb.acc = s.tb.acc ∧
        (total t.tb : Int) = total s.tb + -(refAt s k).phase / 1250 ∧ t.tb.inc < incsPerSec ∧ t.time.stepDue = none) ∧
    (∀ d, s.tb.acquired = false → s.boot.inReset = false → decidesRefs s = false → 0 ≤ (total s.tb : Int) + d →
      (total s.tb : Int) + d < 2 ^ 48 * incsPerSec →
      ∃ t, exec (.acquisitionStep (some d)) s = .next t ∧ t.tb.acquired = true ∧ (total t.tb : Int) = total s.tb + d) ∧
    (∀ p, s.time.pendingSet = [p] → p.due ≤ now s → now s < p.due + ticksPerStep → s.tb.acquired = false → p.sec < 2 ^ 48 → p.ns < 1000000000 →
      ∃ t, exec .timSetApply s = .next t ∧ t.tb.acquired = false ∧ t.tb.sec.toNat = p.sec ∧ 5 * t.tb.inc ≤ 4 * p.ns ∧
        4 * p.ns < 5 * (t.tb.inc + 1)) ∧
    (s.time.pendingSet = [] → exec .timSetApply s = .next s) ∧
    exec .hstTimeNsRead s = .next { s with
      host := { s.host with timeSecLatch := s.tb.sec.toNat, timeAcqLatch := s.tb.acquired }
      out := s.out ++ [.regRead 0x010 (s.tb.inc * 5 / 4 + 2 ^ 30 * (s.tb.inc * 5 % 4))] } ∧
    (∀ t d, pendingLeap s = some (t, d) → t ≤ now s → s.time.leapDone ≠ t →
      exec .leapSecond s = .next { s with time := { s.time with
        utc := if (utcSource s).1 = 3 then utcNow s else utcNow s + d, utcSrc := (utcSource s).1, leapDone := t, leapAt := 0
        leapBy := 0 } }) ∧
    (pendingLeap s = none → exec .leapSecond s = .next s) ∧
    (∀ i, i < 8 → bit (piField s.quire.active i 0 1) 0 = true →
      exec (.keyRollover i) s = .next (setInst i (fun x => { x with onNext := rollDue s i }) s) ∧
      rollDue s i = (decide (piField s.quire.active i 0x10 2 ≠ 0xFFFF) &&
        decide (piField s.quire.active i 0x20 8 * ticksPerNs ≤ now s)))

/-- The time base's own advance (R382): on a TIME cycle the accumulator takes 2^48 + ρ, the increments advance by what carries
out of it, 0, 1 or 2, and carry into the seconds at 800,000,000; the accumulator is zero at reset; ρ is limited to
±5,629,499,534, whatever rate is asked for. -/
def Obligations.TimeBaseAdvance : Prop :=
  (∀ (b : TimeBase) (a : Int), -rhoLimit ≤ b.rho → b.rho ≤ rhoLimit → b.inc < incsPerSec → b.sec.toNat < 2 ^ 48 - 1 →
    a = b.acc.toNat + 2 ^ 48 + b.rho →
      0 ≤ a / 2 ^ 48 ∧ a / 2 ^ 48 ≤ 2 ∧ ((tickBase b).acc.toNat : Int) = a % 2 ^ 48 ∧
      (((tickBase b).sec.toNat * incsPerSec + (tickBase b).inc : Nat) : Int) =
        (b.sec.toNat * incsPerSec + b.inc : Nat) + a / 2 ^ 48 ∧
      (tickBase b).inc < incsPerSec ∧ (tickBase b).rho = b.rho ∧ (tickBase b).acquired = b.acquired) ∧
    State.reset.tb.acc = 0 ∧ rhoLimit = 5629499534 ∧
    ∀ (want : Int) (s : State), -rhoLimit ≤ (setRate want s).tb.rho ∧ (setRate want s).tb.rho ≤ rhoLimit

/-- PTP messages and grants (R393 to R399, R403): a message of the instance's domain is authenticated, then handled, or dropped
and counted; a master port sends on its interval, multicast or under a running grant, a slave its Delay_Req and requests; a
master silent for its timeout is given up; grants past their time expire and a session without a grant ends. -/
def Obligations.PtpEvents : Prop :=
  ∀ (p i : Nat) (s : State),
    (∀ addr msg a v, portInst s.quire.active p = some i → (instAt s i).restarting = false → 1 < (ppAt s p).state →
      portUp s (ppField s.quire.active p 0 2) = true → 44 ≤ msg.length → rdB msg 1 1 % 16 = 2 →
      rdB msg 4 1 = piField s.quire.active i 2 1 → authCheck i msg s = (a, v) →
      (v = some false ∨ (v = none ∧ bit (piField s.quire.active i 0 1) 6 = true) →
        exec (.ptpMessageReceive p addr msg) s = .next
          (setInst i (fun x => { x with authFailures := satInc x.authFailures }) a)) ∧
      (v = some true ∨ (v = none ∧ bit (piField s.quire.active i 0 1) 6 = false) →
        exec (.ptpMessageReceive p addr msg) s = .next (handlePtp i p addr msg (decide (v = some true)) a))) ∧
    (∀ addr msg, portInst s.quire.active p = none → exec (.ptpMessageReceive p addr msg) s = .next s) ∧
    (∀ addr msg auth, rdB msg 0 1 % 16 = 13 →
      handlePtp i p addr msg auth s = setInst i (fun x => { x with managed := satInc x.managed }) s) ∧
    (portInst s.quire.active p = some i → (instAt s i).restarting = false →
      ((ppAt s p).state = 6 → bit (piField s.quire.active i 0 1) 4 = true →
        exec (.ptpMessageSend p 11 none) s = .next (masterSend i p 11 [] false (piLog s.quire.active i 6) s) ∧
        exec (.ptpMessageSend p 0 none) s = .next (masterSend i p 0 [] false (piLog s.quire.active i 7) s)) ∧
      (∀ n x, (ppAt s p).state = 6 →
        s.time.sessions.find? (fun x => decide (x.index = n ∧ x.inst = i ∧ ¬ x.partner)) = some x →
        (∀ g, x.sync = some g → exec (.ptpMessageSend p 0 (some n)) s = .next (masterSend i p 0 x.addr true g.log s)) ∧
        (∀ g, x.announce = some g → exec (.ptpMessageSend p 11 (some n)) s = .next (masterSend i p 11 x.addr true g.log s)) ∧
        (x.sync = none → exec (.ptpMessageSend p 0 (some n)) s = .next s)) ∧
      (∀ session, (ppAt s p).state = 8 ∨ (ppAt s p).state = 9 →
        exec (.ptpMessageSend p 1 session) s = .next (slaveSend i p s)) ∧
      (∀ session, bit (ppField s.quire.active p 3 1) 0 = true → ppField s.quire.active p 2 1 ≠ 1 →
        exec (.ptpMessageSend p 12 session) s = .next (requestGrants i p s))) ∧
    (∀ f, portInst s.quire.active p = some i → (ppAt s p).state = 9 → vegenUp s = true → (instAt s i).master = some f →
      (instAt s i).slavePort = some p → f.heard.foldl max 0 + announceTimeout s.quire.active i ≤ now s →
      exec (.announceReceiptTimeout p) s = .next (bestMaster i (setPp p (fun z => { z with
        timeouts := satInc z.timeouts
        masters := z.masters.filter fun f => decide (now s < f.heard.foldl max 0 + announceTimeout s.quire.active i) }) s))) ∧
    ((ppAt s p).state = 6 → exec (.announceReceiptTimeout p) s = .next s) ∧
    (∃ l, exec .unicastGrantAgeing s = .next (setPtpSessions l s) ∧ (setPtpSessions l s).time.sessions = l ∧
      (∀ x ∈ l, grantsOf x ≠ [] ∧ ∀ g ∈ grantsOf x, now s < g.ends) ∧
      (∀ x ∈ s.time.sessions, grantsOf x ≠ [] → (∀ g ∈ grantsOf x, now s < g.ends) → x ∈ l))

/-- NTP and NTS (R407, R408, R410, R411): a request of a served port that is malformed, beyond the capacity or without a token is
dropped and counted, and any other answered, plain or under its cookie; a connection opens while there is room, is given eight
cookies after a good handshake, and closed after 5 s; a limiter entry silent for 64 s goes. -/
def Obligations.NtpEvents : Prop :=
  ∀ (port : Nat) (addr msg : Bytes) (s : State),
    (bit (portServices s.quire.active port) 0 = true → portUp s port = true →
      (msg.length < 48 ∨ rdB msg 0 1 % 8 ≠ 3 → exec (.ntpRequest port addr msg) s = .next (ntpCount 5 s)) ∧
      (∀ nts, nts = ((extFields 32 msg 48).any fun x => decide (x.1 = 0x0204 ∨ x.1 = 0x0404)) → 48 ≤ msg.length →
        rdB msg 0 1 % 8 = 3 → rdB msg 0 1 / 8 % 8 = 3 ∨ rdB msg 0 1 / 8 % 8 = 4 →
        bit (qRd s.quire.active fTime 6 1) (if nts then 1 else 0) = true →
        (nts = true → ntsFormed msg = false → exec (.ntpRequest port addr msg) s = .next (ntpCount 5 s)) ∧
        (nts = false ∨ ntsFormed msg = true →
          (8388608 ≤ servedNow s → exec (.ntpRequest port addr msg) s = .next (ntpCount 4 s)) ∧
          (∀ t u kiss, servedNow s < 8388608 → u = noteServed t →
            (takeToken addr s = (true, kiss, t) → nts = false →
              exec (.ntpRequest port addr msg) s = .next (ntpCount 1 (emit (.ntp port addr
                (ntpHeader u port msg none ++ boundAsked u (extFields 32 msg 48))) u))) ∧
            (takeToken addr s = (true, kiss, t) → nts = true →
              exec (.ntpRequest port addr msg) s = .next (ntsAnswer port addr msg u)) ∧
            (takeToken addr s = (false, true, t) → exec (.ntpRequest port addr msg) s = .next
              (ntpCount 3 (emit (.ntp port addr (ntpHeader t port msg (some "RATE"))) t))) ∧
            (takeToken addr s = (false, false, t) → exec (.ntpRequest port addr msg) s = .next (ntpCount 3 t)))))) ∧
    (bit (portServices s.quire.active port) 0 = false → exec (.ntpRequest port addr msg) s = .next s) ∧
    (∀ conn good keys, (s.time.ntp.conns.any fun c => decide (c.1 = conn)) = false →
      bit (portServices s.quire.active port) 1 = true → portUp s port = true → vegenUp s = true →
      s.time.ntp.conns.length < 4096 →
      exec (.ntsKeHandshake port conn true good keys) s = .next
        (setNtp (fun x => { x with conns := x.conns ++ [(conn, now s)] }) s)) ∧
    (∀ conn keys s1 u k c cs key slot, (s.time.ntp.conns.any fun c => decide (c.1 = conn)) = true →
      s.time.ntp.second ≠ now s / ticksPerSec →
      s1 = setNtp (fun x => { x with conns := x.conns.filter fun c => decide (c.1 ≠ conn) }) s →
      keyUse (qRd s.quire.active fTime 0x1C 2) 8 4 0xF005 s1 = (u, some slot) → cookieKey (cookiePeriod u) u = (k, some key) →
      newCookies key (fit 64 keys) 8 k = (c, cs) →
      exec (.ntsKeHandshake port conn false true keys) s = .next (ntpCount 6 (emit (.ntsKe conn cs) (setNtp (fun x =>
        { x with second := now s / ticksPerSec, handshakes := 1, served := 0 }) c))) ∧ cs.length = 8) ∧
    (∀ conn, (s.time.ntp.conns.any fun c => decide (c.1 = conn ∧ c.2 + 5 * ticksPerSec ≤ now s)) = true →
      exec (.ntsKeTimeout conn) s = .next
        (ntpCount 7 (setNtp (fun x => { x with conns := x.conns.filter fun c => decide (c.1 ≠ conn) }) s))) ∧
    (∀ conn, (s.time.ntp.conns.any fun c => decide (c.1 = conn ∧ c.2 + 5 * ticksPerSec ≤ now s)) = false →
      exec (.ntsKeTimeout conn) s = .next s) ∧
    exec .rateLimiterAgeing s = .next { s with time := { s.time with
      ntp := { s.time.ntp with limits := s.time.ntp.limits.filter fun x => decide (now s < x.hit + 64 * ticksPerSec) } } }

/-! ### Satellite receiver (chapter 14) -/

/-- The GNS commands complete (R444 to R447): the status, whose counters a clear empties; channel records; an aid taken unless a
rule forbids it, a time aid kept and CLEAR SUSPECT from ROOT ending the state; the records of a buffered epoch in the range. -/
def Obligations.GnssCommands : Prop :=
  ∀ (r : Req) (s : State),
    (Starts 0x0E01 r s → r.params.length = 4 → rd r.params 0 1 ≤ 1 → isZero r.params 1 3 = true →
      exec (.gnsStatus r) s = .next (answered 0x0E01 r
        { st := { begun 0x0E01 r s with time := { s.time with
            gnss := { s.time.gnss with counts := if rd r.params 0 1 = 1 then [] else s.time.gnss.counts } } }
          params := gnsStatus (begun 0x0E01 r s), clearing := decide (rd r.params 0 1 = 1) })) ∧
    (Starts 0x0E02 r s → r.params.length = 4 → rd r.params 0 1 < 96 → 1 ≤ rd r.params 1 1 →
      rd r.params 0 1 + rd r.params 1 1 ≤ 96 → isZero r.params 2 2 = true →
      exec (.gnsChannels r) s = .next (answered 0x0E02 r (okay (begun 0x0E02 r s)
        ((List.range (rd r.params 1 1)).flatMap fun j => channelRecord (begun 0x0E02 r s) (rd r.params 0 1 + j))))) ∧
    (Starts 0x0E03 r s → 8 ≤ r.params.length →
      (∀ st d, aidRefused r.port r.params (begun 0x0E03 r s) = some (st, d) →
        exec (.gnsAid r) s = .next (answered 0x0E03 r (refuse (begun 0x0E03 r s) st d))) ∧
      (aidRefused r.port r.params (begun 0x0E03 r s) = none →
        exec (.gnsAid r) s = .next (answered 0x0E03 r (okay (takeAid r.params (begun 0x0E03 r s)) [])))) ∧
    (Starts 0x0E03 r s → r.params.length = 20 → rd r.params 0 1 = 1 → rd r.params 1 1 = 0 → isZero r.params 4 4 = true →
      (s.tb.acquired = true →
        exec (.gnsAid r) s = .next (answered 0x0E03 r (refuse (begun 0x0E03 r s) stNotActive 0))) ∧
      (s.tb.acquired = false → exec (.gnsAid r) s = .next (answered 0x0E03 r (okay (copyItem (.aid r.params)
        { begun 0x0E03 r s with time := { s.time with
            gnss := { s.time.gnss with timeAid := some (rd r.params 8 8, rd r.params 16 4) } } }) [])))) ∧
    (Starts 0x0E03 r s → r.params.length = 8 → rd r.params 0 1 = 6 → rd r.params 1 1 = 0 → isZero r.params 4 4 = true →
      (r.port = portRoot → s.time.gnss.state = 6 → exec (.gnsAid r) s = .next (answered 0x0E03 r (okay (copyItem (.aid r.params)
        (copyItem .cleared { begun 0x0E03 r s with time := { s.time with
            gnss := { s.time.gnss with state := 2, clean := 0, skip8 := true, lastValid := none } } })) []))) ∧
      (r.port ≠ portRoot →
        exec (.gnsAid r) s = .next (answered 0x0E03 r (refuse (begun 0x0E03 r s) stNotPermitted r.port)))) ∧
    (Starts 0x0E04 r s → r.params.length = 16 → rd r.params 8 1 < 96 → 1 ≤ rd r.params 9 1 →
      rd r.params 8 1 + rd r.params 9 1 ≤ 96 → isZero r.params 10 6 = true →
      (∀ e recs, (if rd r.params 0 8 = 0 then s.time.gnss.epochs.getLast?
          else s.time.gnss.epochs.find? fun p => decide (p.1 = rd r.params 0 8)) = some e →
        recs = e.2.filter (fun b => decide (rd r.params 8 1 ≤ b.1 ∧ b.1 < rd r.params 8 1 + rd r.params 9 1)) →
        exec (.gnsMeas r) s = .next (answered 0x0E04 r (okay (begun 0x0E04 r s)
          (le 8 e.1 ++ le 2 recs.length ++ zeros 6 ++ recs.flatMap (·.2))))) ∧
      (s.time.gnss.epochs = [] →
        exec (.gnsMeas r) s = .next (answered 0x0E04 r (refuse (begun 0x0E04 r s) stNotActive 0))))

/-- The sample interface and the channels (R426, R429 to R432): a stamp is kept; a lost clock makes every channel IDLE and is
raised; its return lets the receiver search; a stream is good, overloaded above 20 % extreme codes, or dead; channels are freed and
given by priority; a detection is confirmed before PULLIN, PULLIN passes to TRACK after 100 ms, lost lock to REACQ, and 10 s without
it back to SEARCH. -/
def Obligations.GnssChannels : Prop :=
  ∀ (c : Nat) (s : State),
    (∀ stamp, exec (.gnssClockStamp stamp) s = .next { s with time := { s.time with
      gnss := { s.time.gnss with stamp := stamp } } }) ∧
    (s.time.gnss.goodClock = true → gnssOn s.quire.active = true →
      exec .gnssNoClock s = .next (raiseIn 12 1056 0 0 gnssReset (gnssInvalid (idleAll
        { s with time := { s.time with gnss := { s.time.gnss with goodClock := false, state := 1 } } })))) ∧
    (s.time.gnss.goodClock = false → exec .gnssNoClock s = .next s) ∧
    (exec .gnssClockReturn s = .next { s with time := { s.time with
      gnss := { s.time.gnss with
        goodClock := true
        state := if gnssOn s.quire.active then max 2 s.time.gnss.state else 0 } } }) ∧
    (∀ i x n, i < 4 → exec (.gnssStreamCheck i x n false) s = .next { s with time := { s.time with
      gnss := { s.time.gnss with
        streams := mset (fun _ => 1) s.time.gnss.streams i (if 20 * n < 100 * x then 2 else 1) } } }) ∧
    (∀ i x n, i < 4 → ∃ t, exec (.gnssStreamCheck i x n true) s = .next t ∧
      mget (fun _ => 1) t.time.gnss.streams i = 3 ∧ ∀ k, k < 96 → (chanAt s k).stream = i → (chanAt t k).state = 0) ∧
    (∀ sats, gnssOn s.quire.active = true → s.time.gnss.goodClock = true →
      exec (.channelAllocation sats) s = .next ((wanted s sats).foldl giveChannel ((List.range 96).foldl (fun t k =>
        if (wanted s sats).any (holdsWant (chanAt t k)) then t
        else setSatChan k (fun x => { x with signal := 0, svid := 0, used := false, cause := 0 }) (chanEnter k 0 t)) s))) ∧
    (∀ sats, (wanted s sats).length ≤ 96) ∧
    (c < 96 → (chanAt s c).state = 1 ∨ (chanAt s c).state = 4 →
      ((chanAt s c).detected = false → exec (.searchDwell c true) s = .next
        (setSatChan c (fun y => { y with detected := true }) s)) ∧
      ((chanAt s c).detected = true → exec (.searchDwell c true) s = .next (setSatChan c (fun x => { x with
        state := 2, stateTime := now s, detected := false, dwells := 0 }) s)) ∧
      exec (.searchDwell c false) s = .next (setSatChan c (fun y => { y with
        detected := false
        dwells := if y.detected then y.dwells else if cdiv (searchCells s c) 16384 ≤ y.dwells + 1 then 0 else y.dwells + 1 }) s)) ∧
    ((chanAt s c).state = 2 → (chanAt s c).stateTime + 100 * ticksPerMs ≤ now s →
      exec (.channelPullinDone c) s = .next (setSatChan c (fun x => { x with
        state := 3, stateTime := now s, detected := false, dwells := 0 }) s)) ∧
    ((chanAt s c).state = 3 → exec (.channelLockLoss c) s = .next (setSatChan c (fun x => { x with
      state := 4, stateTime := now s, detected := false, dwells := 0 }) s)) ∧
    ((chanAt s c).state = 4 → (chanAt s c).stateTime + 10 * ticksPerSec ≤ now s →
      exec (.reacqTimeout c) s = .next (setSatChan c (fun x => { x with
        state := 1, stateTime := now s, detected := false, dwells := 0 }) s))

/-- Navigation data, measurements and holdover (R431, R433, R438, R439): a good message of a tracking channel is taken and
offered to the flock; an epoch of a receiver with a clock keeps the records of the channels in TRACK, at most 64 epochs; at a TAI
second it is solved, after those of a pause; HOLDOVER ends after hold_s with the time aid discarded. A
spoofing-class failure puts the receiver in SUSPECT, or restarts its count there; in SUSPECT no epoch is valid, each epoch without
such a failure counts, and the one that completes suspect_s ends the state. -/
def Obligations.GnssSolutions : Prop :=
  ∀ (s : State),
    (∀ c m bits con, con = signalCon (chanAt s c).signal → (chanAt s c).state = 3 → vegenUp s = true →
      Config.navGood con m (fit 40 bits) = true →
      exec (.navMessageDecode c m bits) s = .next (shareAid con (chanAt s c).svid m (fit 40 bits)
        (!(((navOf s con (chanAt s c).svid).map (·.records)).getD []).contains (m, fit 40 bits))
        (takeNav con (chanAt s c).svid m (fit 40 bits) false (setSatChan c (fun y => { y with nav := true }) s)))) ∧
    (∀ c m bits, (chanAt s c).state ≠ 3 → exec (.navMessageDecode c m bits) s = .next s) ∧
    (∀ e, s.time.gnss.state = 0 → exec (.measurementEpoch e) s = .next s) ∧
    (∀ e, s.time.gnss.state = 1 → gnField s.quire.active 7 1 = 1 → exec (.measurementEpoch e) s = .next (invalidEpoch s)) ∧
    (∀ e t, 2 ≤ s.time.gnss.state → gnField s.quire.active 7 1 = 10 → t = nowNs s / 100000000 * 100000000 →
      t % 1000000000 ≠ 0 → ∃ u, exec (.measurementEpoch e) s = .next u ∧
        (∃ recs, u.time.gnss.epochs = keepLast 64 (s.time.gnss.epochs ++ [(t, recs)]) ∧
          ∀ x ∈ recs, (chanAt s x.1).state = 3 ∧ x.1 < 96) ∧
        u = { s with time := { s.time with
          gnss := { s.time.gnss with epochs := u.time.gnss.epochs, channels := u.time.gnss.channels } } }) ∧
    (∀ e, 2 ≤ s.time.gnss.state → vegenUp s = true → gnField s.quire.active 7 1 = 1 →
      ∃ u, exec (.measurementEpoch e) s = .next (solveEpoch (nowNs s / 1000000000 * 1000000000)
        { e with recs := e.recs.filter fun r => decide ((chanAt s r.channel).state = 3) } (solvePaused u)) ∧
        u.tb = s.tb ∧ u.quire = s.quire ∧ u.time.gnss.nav = s.time.gnss.nav ∧ u.time.dpll = s.time.dpll) ∧
    (s.time.gnss.state = 5 → s.time.gnss.holdSince + gnField s.quire.active 0x74 4 * ticksPerSec ≤ now s →
      exec .gnssHoldTimeout s = .next { s with time := { s.time with
        gnss := { s.time.gnss with state := 2, everValid := false, lastValid := none, timeAid := none } } }) ∧
    (s.time.gnss.state ≠ 5 → exec .gnssHoldTimeout s = .next s) ∧
    (∀ (t : Nat) (e : GnssEpoch) (k : Checked) (enough fits : Bool),
      (∀ n, k.spoof = some n → concludeEpoch t e k enough fits s = invalidEpoch (suspectOn n s)) ∧
      (∀ n, s.time.gnss.state = 6 → (suspectOn n s).time.gnss = { s.time.gnss with clean := 0 }) ∧
      (k.spoof = none → s.time.gnss.state = 6 →
        (∀ u, u = { s with time := { s.time with gnss := { s.time.gnss with clean := s.time.gnss.clean + 1 } } } →
          concludeEpoch t e k enough fits s = invalidEpoch
            (if gnField s.quire.active 0x70 2 ≤ s.time.gnss.clean + 1 then suspectOff u else u))))

/-! ### Twins, the crook and the flock (chapter 15) -/

/-- The twin and flock commands complete (R458, R468, R471, R480 to R483): the twin's status and health, whose counters a clear
empties; a yield that stops the renewals while the partner is STANDBY; the partner's next phase; the flock's status, its reports
after a serial and their release from the own log only, and its members from an index on. At phase 3 the snapshot is taken, whose bytes wait to be
sent. -/
def Obligations.TwinCommands : Prop :=
  ∀ (r : Req) (s : State),
    (Starts 0x0F01 r s → r.params = [] →
      ∃ b, exec (.twnStatus r) s = .next (answered 0x0F01 r (okay (begun 0x0F01 r s) b)) ∧ b.length = 32 ∧
        rd b 0 1 = s.twin.role.code ∧ rd b 2 1 = s.boot.side % 256 ∧ rd b 4 4 = cycleNow s % 2 ^ 32 ∧
        bit (rd b 3 1) 0 = holdsCrook s ∧ bit (rd b 3 1) 1 = s.fabric.stitch.active ∧ rd b 0x10 4 = s.twin.takeovers.toNat) ∧
    (Starts 0x0F02 r s → r.params.length = 4 → rd r.params 0 1 ≤ 1 → isZero r.params 1 3 = true →
      exec (.twnHealth r) s = .next (answered 0x0F02 r
        { st := if rd r.params 0 1 = 1 then { begun 0x0F02 r s with twin := { s.twin with
                  mismatches := [], overruns := 0, ownDecisions := 0, missing := 0, unsynced := 0, sideConflicts := 0 } }
                else begun 0x0F02 r s
          params := healthBytes (begun 0x0F02 r s), clearing := decide (rd r.params 0 1 = 1) })) ∧
    (Starts 0x0F03 r s → r.params = [] →
      (isTwin s = true → s.twin.conflict = false → s.twin.partnerRole = some .standby →
        exec (.twnYield r) s = .next (deferredBy 0x0F03 r []
          { begun 0x0F03 r s with twin := { s.twin with stopped := true } })) ∧
      (isTwin s = false ∨ s.twin.conflict = true ∨ s.twin.partnerRole ≠ some .standby →
        exec (.twnYield r) s = .next (answered 0x0F03 r (refuse (begun 0x0F03 r s) stNotActive 0)))) ∧
    (Starts 0x0F04 r s → r.params.length = 8 → 1 ≤ rd r.params 0 1 → rd r.params 0 1 ≤ 2 → 1 ≤ rd r.params 1 1 →
      rd r.params 1 1 ≤ 5 → isZero r.params 2 2 = true → isZero r.params 4 4 = true →
      (s.twin.partnerRole = some .syncing → stagingNow s = false →
        (rd r.params 1 1 = 3 → rd r.params 0 1 = 1 → ∀ d,
          d = (Config.snapshotBytes (snapshotNow (begun 0x0F04 r s))).take (2 ^ 30) →
          ∃ b, exec (.twnSync r) s = .next (answered 0x0F04 r (okay { begun 0x0F04 r s with twin := { s.twin with
              sendLeft := d, sendAt := 0, snapshotCycle := cycleNow s % 2 ^ 32 } } b)) ∧
            rd b 0 1 = 3 ∧ rd b 4 4 = cycleNow s % 2 ^ 32 ∧ rd b 8 8 = d.length) ∧
        (rd r.params 1 1 ≠ 3 →
          ∃ b, exec (.twnSync r) s = .next (answered 0x0F04 r (okay { begun 0x0F04 r s with twin := { s.twin with
              sendLeft := if rd r.params 0 1 = 2 then [] else s.twin.sendLeft } } b)) ∧
            rd b 0 1 = rd r.params 1 1 ∧ rd b 4 4 = cycleNow s % 2 ^ 32 ∧ rd b 8 8 = 0)) ∧
      (s.twin.partnerRole = some .syncing → stagingNow s = true →
        exec (.twnSync r) s = .next (answered 0x0F04 r (refuse (begun 0x0F04 r s) stBusy 0))) ∧
      (s.twin.partnerRole ≠ some .syncing →
        exec (.twnSync r) s = .next (answered 0x0F04 r (refuse (begun 0x0F04 r s) stNotActive 0)))) ∧
    (Starts 0x0F05 r s → r.params = [] →
      exec (.flkStatus r) s = .next (answered 0x0F05 r (okay (begun 0x0F05 r s) (flkStatus (begun 0x0F05 r s))))) ∧
    (Starts 0x0F06 r s → ∀ log op n, log = rd r.params 0 1 → op = rd r.params 1 1 → n = rd r.params 2 2 →
      r.params.length = 16 → log ≤ 1 → op ≤ 1 → 1 ≤ n → n ≤ 64 → isZero r.params 12 4 = true →
      exec (.flkReport r) s = .next (answered 0x0F06 r
        { st := { begun 0x0F06 r s with flock := { s.flock with
            own := if op = 1 ∧ log = 0 then
                s.flock.own.filter fun x => serialAfter x.serial (BitVec.ofNat 32 (rd r.params 8 4))
              else s.flock.own } }
          params := (((if log = 0 then s.flock.own else s.flock.heard).filter fun x =>
            serialAfter x.serial (BitVec.ofNat 32 (rd r.params 4 4))).take n).flatMap fun x =>
              le 4 x.serial.toNat ++ le 4 x.reporter ++ x.body
          clearing := decide (op = 1) })) ∧
    (Starts 0x0F07 r s → ∀ n l, n = rd r.params 4 2 → r.params.length = 8 → 1 ≤ n → n ≤ 512 → isZero r.params 6 2 = true →
      l = s.flock.members.filter (fun p => decide (rd r.params 0 4 ≤ p.1)) →
      exec (.flkMembers r) s = .next (answered 0x0F07 r (okay (begun 0x0F07 r s)
        (le 4 s.flock.members.length ++ le 4 (match l[n]? with
          | some p => p.1
          | none => 0xFFFFFFFF) ++ (l.take n).flatMap fun p => memberRecord (begun 0x0F07 r s) p.2))))

/-- The crook and the stitch link (R222 to R224, R451 to R457, R466, R469): a twin claims a free crook at its side's cycle
end, and not before; a cycle end is handled once, and a holder then renews for 1 ms more; a STARTING twin's wait ends; a restart
overrun stops the renewals; a frame in order is delivered, one ahead is kept, a repeated one acknowledged, a bad one counted; a gap
of 10 µs is reported and what waited behind it that long dropped, frames without progress for 20 µs sent again, and one unreleased for 200 µs takes the link down; a failing
self-test item sets its bit; the phases follow each other to STANDBY, the snapshot adopted at the
end of the third and the copies buffered since at that of the fourth. -/
def Obligations.TwinEvents : Prop :=
  ∀ (s : State),
    (mayClaim s = false → exec .crookClaim s = .next s) ∧
    (mayClaim s = true → (∀ t, claimPoint s = some t → t ≤ now s) ∧ isTwin s = true ∧ holdsCrook s = false ∧
      (s.twin.role ≠ .syncing → ∀ s1 s2,
        s1 = { s with twin := { s.twin with
          stopped := false, takeovers := satInc s.twin.takeovers, freeAt := none, syncPhase := 0
          partnerRole := some .syncing } } →
        s2 = enterRole (if s.fabric.stitch.active then .holder else .solo) s1 →
        ∀ s3, s3 = raise 1104 0 (cycleNow s % 2 ^ 32) (renewLease (armAll (now s2) s2)) →
        exec .crookClaim s = .next (startUnknown s3.cmds.waiting.length s3))) ∧
    (∀ t, claimPoint s = some t → ∃ f, (s.twin.lastHeard = some f ∨ s.twin.freeAt = some f) ∧ f < t ∧
      t ≤ f + (if s.boot.side = 1 then 2 else 1) * cycleTicks ∧ t % cycleTicks = 0) ∧
    (cycleNow s ≤ s.twin.doneCycle → exec .stitchCycleEnd s = .next s) ∧
    (s.twin.doneCycle < cycleNow s → isTwin s = false → s.cmds.waiting = [] → ∃ t, exec .stitchCycleEnd s = .next t ∧
      t.twin = { s.twin with doneCycle := cycleNow s } ∧
      t.drv.queue = s.drv.queue.map (armEvent (now s) (now s)) ∧ t.out = s.out) ∧
    (s.twin.doneCycle < cycleNow s → isTwin s = true → s.twin.role = .solo → renews s = true → s.cmds.waiting = [] →
      ∃ t, exec .stitchCycleEnd s = .next t ∧ t.twin.ownLease = some (now s + ticksPerMs) ∧ t.twin.role = .solo) ∧
    (∀ w, w = qRd s.quire.active fFlock 0x20 2 * ticksPerMs → s.twin.role = .starting → s.twin.freeAt = none →
      s.twin.startedAt + w ≤ now s →
      exec .startingWaitExpiry s = .next { s with twin := { s.twin with freeAt := some (now s) } }) ∧
    (s.twin.role ≠ .starting → exec .startingWaitExpiry s = .next s) ∧
    (∀ x, s.boot.restart = some x → x.since + 5 * ticksPerSec ≤ now s → s.ev.fatal = none →
      exec .restartOverrun s = .next (raise 3 0 0 { s with twin := { s.twin with stopped := true } })) ∧
    (s.boot.restart = none → exec .restartOverrun s = .next s) ∧
    (∀ f, s.fabric.stitch.active = true → stitchCrcGood f = false →
      exec (.stitchFrameReceive f) s = .next (setStitch (fun x => { x with counts := cAdd x.counts 4 1 }) s)) ∧
    (∀ f s0 s1, s.fabric.stitch.active = true → stitchCrcGood f = true →
      s0 = takeAck (rd f 2 2) (setStitch (fun x => { x with counts := cAdd x.counts 1 1, ackDue := true }) s) →
      s1 = (if bit (rd f 5 1) 0 = true then resendFrom (rd f 2 2) s0 else s0) →
      rd f 4 1 = 0 → exec (.stitchFrameReceive f) s = .next s1) ∧
    (∀ f s0 s1 d, s.fabric.stitch.active = true → stitchCrcGood f = true → rd f 4 1 ≠ 0 →
      s0 = takeAck (rd f 2 2) (setStitch (fun x => { x with counts := cAdd x.counts 1 1, ackDue := true }) s) →
      s1 = (if bit (rd f 5 1) 0 = true then resendFrom (rd f 2 2) s0 else s0) →
      d = (rd f 0 2 + 65536 - s1.fabric.stitch.expected) % 65536 →
      (d = 0 → exec (.stitchFrameReceive f) s = .next (deliverRun 257 f s1)) ∧
      (32768 ≤ d → exec (.stitchFrameReceive f) s = .next (sendAck false s1)) ∧
      (1 ≤ d → d < 32768 → s1.fabric.stitch.reorder.any (fun h => decide (h.seq = rd f 0 2)) = true →
        exec (.stitchFrameReceive f) s = .next s1) ∧
      (1 ≤ d → d < 32768 → s1.fabric.stitch.reorder.any (fun h => decide (h.seq = rd f 0 2)) = false →
        (s1.fabric.stitch.reorder.length < 256 →
          exec (.stitchFrameReceive f) s = .next (setStitch (fun x => { x with
            reorder := x.reorder ++ [⟨rd f 0 2, f, now s⟩], gapSince := some (x.gapSince.getD (now s)) }) s1)) ∧
        (256 ≤ s1.fabric.stitch.reorder.length → exec (.stitchFrameReceive f) s = .next (sendAck true s1)))) ∧
    (∀ t, s.fabric.stitch.gapSince = some t → t + 10 * ticksPerUs ≤ now s → ∀ l,
      l = s.fabric.stitch.reorder.filter (fun h => decide (now s < h.time + 10 * ticksPerUs)) →
      exec .stitchReorderTimeout s = .next (sendAck true (setStitch (fun x => { x with
        reorder := l, gapSince := (l.map (·.time)).min? }) s))) ∧
    (s.fabric.stitch.gapSince = none → exec .stitchReorderTimeout s = .next s) ∧
    (s.fabric.stitch.active = true → s.fabric.stitch.ackDue = true → exec .stitchAckSend s = .next (sendAck false s)) ∧
    (∀ o l, s.fabric.stitch.replay = o :: l →
      (s.fabric.stitch.progress + 20 * ticksPerUs ≤ now s → exec .stitchResendTimeout s = .next (resendFrom o.seq s)) ∧
      (o.firstSent + 200 * ticksPerUs ≤ now s → exec .stitchLinkDown s = .next
        ([64, 65, 66, 67].foldl (fun t l => fabWait l (fabDetect l t)) (twinLinkDown
          (raise 482 0 o.seq (setStitch (fun x => { x with counts := cAdd x.counts 5 1 }) s))))) ∧
      (now s < o.firstSent + 200 * ticksPerUs → exec .stitchLinkDown s = .next s)) ∧
    (∀ item, (selftestItems s).contains item = false → ∀ p, exec (.selftestRun item p) s = .next s) ∧
    (∀ item, (selftestItems s).contains item = true → s.twin.selftest = 0 →
      (∃ t, exec (.selftestRun item false) s = .next (raise 1108 item 0 t) ∧ t = { s with twin := t.twin } ∧
        t.twin.selftest = 2 ^ item) ∧
      ∃ t, exec (.selftestRun item true) s = .next t ∧ t = { s with twin := t.twin } ∧ t.twin.selftest = 0) ∧
    (s.twin.role = .syncing → s.fabric.stitch.active = true →
      (s.twin.syncPhase < 3 → exec (.resyncPhaseEnd true) s = .next (startPhase (s.twin.syncPhase + 1) s)) ∧
      (s.twin.syncPhase = 3 →
        (s.twin.syncData.length < s.twin.snapshotBytes → exec (.resyncPhaseEnd true) s = .next s) ∧
        (s.twin.snapshotBytes ≤ s.twin.syncData.length → exec (.resyncPhaseEnd true) s = .next
          (startPhase 4 (adoptSnapshot (Config.snapshotOf s.twin.syncData) s)))) ∧
      (s.twin.syncPhase = 4 → (stagingNow s = true → exec (.resyncPhaseEnd true) s = .next s) ∧
        (stagingNow s = false → exec (.resyncPhaseEnd true) s = .next (startPhase 5
          (s.twin.buffered.foldl (fun t p => p.2.foldl adoptItem t)
            { s with twin := { s.twin with buffered := [], syncData := [] } })))) ∧
      (s.twin.syncPhase = 2 → exec (.resyncPhaseEnd false) s = .next s) ∧
      (s.twin.syncPhase = 5 → 4000 ≤ s.twin.clean → exec (.resyncPhaseEnd true) s = .next
        (enterRole .standby { s with twin := { s.twin with syncPhase := 0 } })) ∧
      (s.twin.syncPhase = 5 → s.twin.clean < 4000 → exec (.resyncPhaseEnd true) s = .next s))

/-- The flock (R474 to R477): a member sends its HELLO and lists itself; senders not heard for 3 × hello_s go; a message whose ICV
fails is dropped and counted, and a good one accepted once: one at or below the highest sequence of its sender, or of a newer
epoch, is counted and dropped, and a REPORT enters the heard log. -/
def Obligations.FlockEvents : Prop :=
  ∀ (s : State),
    (flockMember s = true →
      exec .flockHelloSend s = .next (flockSend false 1 1 (helloBody s) (listMember (selfMember s) s))) ∧
    (flockMember s = false → exec .flockHelloSend s = .next s ∧
      ∀ port station addr m, exec (.flockMessageReceive port station addr m) s = .next s) ∧
    (exec .memberAgeing s = .next { s with flock := { s.flock with
      members := s.flock.members.filter fun p =>
        decide (nowNs s ≤ p.2.heard + 3 * fkField s.quire.active 3 1 * 1000000000) } }) ∧
    (∀ port station addr m n k slot, flockMember s = true → n = rd m 4 2 → m.length = 48 + n → n ≤ 1400 →
      rd m 0 2 = 0xF10C → rd m 2 1 = 1 → keyUse (fkField s.quire.active 0xE 2) 9 1 0xF004 s = (k, some slot) →
      (fit 16 (Config.hmac256 slot.key (m.take (32 + n))) = m.drop (32 + n) →
        exec (.flockMessageReceive port station addr m) s = .next (acceptFlock port station addr m k)) ∧
      (fit 16 (Config.hmac256 slot.key (m.take (32 + n))) ≠ m.drop (32 + n) →
        exec (.flockMessageReceive port station addr m) s = .next
          { k with flock := { k.flock with icvFailures := satInc k.flock.icvFailures } })) ∧
    (∀ port station addr m ser, ser = senderSerial s addr m →
      (∀ x, s.flock.accepted.find? (fun x => decide (x.1 = rd m 8 4 ∧ x.2.1 = ser)) = some x → rd m 0x10 8 ≤ x.2.2 →
        acceptFlock port station addr m s = { s with flock := { s.flock with replays := satInc s.flock.replays } }) ∧
      (s.flock.accepted.find? (fun x => decide (x.1 = rd m 8 4 ∧ x.2.1 = ser)) = none →
        (s.boot.epoch < rd m 6 2 →
          acceptFlock port station addr m s = { s with flock := { s.flock with unknown := satInc s.flock.unknown } }) ∧
        (rd m 6 2 ≤ s.boot.epoch → rd m 3 1 = 2 → ∃ t, acceptFlock port station addr m s = t ∧ t = { s with flock := t.flock } ∧
          t.flock.heard = keepLast 4096 (s.flock.heard ++
            [⟨s.flock.heardSerial + 1, rd (slice m 32 (rd m 4 2)) 8 4, slice m 32 (rd m 4 2)⟩]) ∧
          t.flock.heardCount = satInc s.flock.heardCount ∧ t.flock.acceptedCount = satInc s.flock.acceptedCount)))

/-! ### Key store, life cycle and imprint (chapter 16) -/

/-- The key commands and events complete (R484 to R503, R509): status, which clears the refused uses; a load of a slot that is
empty, refused with BUSY otherwise, a plain public key put there with its identity; a generated key; an erased slot, its sessions
closing; the signed imprint; a token of a listed transition, signed by the present root, making it, never backward. A key use is
granted only for the slot's world, algorithm, master and state, and a refused one counted and raised; the generator reseeds, a
failed source stops it, and the shared engine turns to its next user at a boundary. -/
def Obligations.KeyStore : Prop :=
  ∀ (r : Req) (s : State),
    (Starts 0x1001 r s → r.params.length = 8 → rd r.params 0 2 < 512 → 1 ≤ rd r.params 2 2 →
      rd r.params 0 2 + rd r.params 2 2 ≤ 512 → isZero r.params 4 4 = true →
      exec (.keyStatus r) s = .next (answered 0x1001 r
        { st := { begun 0x1001 r s with keys := { s.keys with refused := 0 } }
          params := le 1 (lifeCycle s) ++ le 1 (rootGen (lifeCycle s)) ++ zeros 2 ++ le 4 s.keys.refused.toNat ++
            attributeDigest s ++ (List.range (rd r.params 2 2)).flatMap fun j => slotRecord s (rd r.params 0 2 + j)
          clearing := true })) ∧
    (Starts 0x1002 r s → 0x88 ≤ r.params.length →
      r.params.length = 0x88 + rd r.params 0x10 2 + rd r.params 0x12 2 + (if bit (rd r.params 3 1) 1 then 96 else 0) →
      (∀ c ∈ keyLoadForm r.params, c.1 = true) →
      rd r.params 0x10 2 = keyBytes (rd r.params 4 1) + (if rd r.params 2 1 = 0 then 0 else 16) →
      exec (.keyLoad r) s = .next (answered 0x1002 r (keyLoad r.params (begun 0x1002 r s)))) ∧
    (∀ p, rd p 2 1 = 0 → bit (rd p 3 1) 1 = false →
      ((keySlot s (rd p 0 2)).state ≠ .empty → keyLoad p s = refuse s stBusy 0) ∧
      (∀ k, (keySlot s (rd p 0 2)).state = .empty → rd p 4 1 = 5 → needsAuth s (rd p 5 1) (rd p 8 2) (rd p 6 1) = false →
        k = slice p 0x88 (rd p 0x10 2) →
        keyLoad p s = okay (putKey (rd p 0 2)
          { state := .loaded, alg := 5, world := rd p 5 1, lcsMask := rd p 6 1, master := rd p 8 2
            flags := rd p 3 1 % 2 + 4 * b2n (decide (rd p 0x12 2 ≠ 0)), version := rd p 0xC 4, keyId := keyIdOf 5 k k
            key := k, pub := k, cert := slice p (0x88 + rd p 0x10 2) (rd p 0x12 2) } s) [])) ∧
    (Starts 0x1003 r s → ∀ p slot alg, p = r.params → slot = rd p 0 2 → alg = rd p 3 1 → p.length = 16 → 16 ≤ slot →
      slot < 512 → rd p 2 1 < 2 → alg = 4 ∨ alg = 6 ∨ alg = 7 → 4 ≤ rd p 4 1 → rd p 4 1 ≤ 9 → rd p 5 1 < 64 →
      isZero p 12 4 = true → permits alg (rd p 4 1) (rd p 6 2) = true →
      (s.keys.healthy = false → exec (.keyGenerate r) s = .next (answered 0x1003 r (refuse (begun 0x1003 r s) stNotActive 0))) ∧
      (s.keys.healthy = true → (keySlot s slot).state = .empty → needsAuth s (rd p 4 1) (rd p 6 2) (rd p 5 1) = false →
        ∀ g kid, g = generate alg (begun 0x1003 r s) → kid = keyIdOf alg g.1.1 g.1.2 →
        exec (.keyGenerate r) s = .next (answered 0x1003 r (okay (putKey slot
          { state := .generated, alg := alg, world := rd p 4 1, lcsMask := rd p 5 1, master := rd p 6 2, flags := rd p 2 1
            version := rd p 8 4, keyId := kid, key := g.1.1, pub := g.1.2, cert := [] } g.2)
          (kid ++ fit (if alg = 6 then 1952 else 97) g.1.2))))) ∧
    (Starts 0x1004 r s → r.params.length = 8 → 16 ≤ rd r.params 0 2 → rd r.params 0 2 < 512 → isZero r.params 2 6 = true →
      (namedKeys s.quire.active).contains (rd r.params 0 2) = false → s.quire.shadowState = .empty →
      exec (.keyErase r) s = .next (sweepSessions (answered 0x1004 r (okay { begun 0x1004 r s with
        keys := { s.keys with slots := mdel s.keys.slots (rd r.params 0 2), flash := mdel s.keys.flash (rd r.params 0 2) } } [])))) ∧
    (Starts 0x1005 r s → ∀ k x, r.params.length = 40 → rd r.params 0 1 = 0 → isZero r.params 1 7 = true →
      keyUse 3 2 4 0xF002 (begun 0x1005 r s) = (k, some x) →
      ∃ body, exec (.impGet r) s = .next (answered 0x1005 r (okay k
          (body ++ fit 96 (Config.ecdsaSign x.key (Config.sha384 body))))) ∧
        body = imprintBody (begun 0x1005 r s) 0 (slice r.params 8 32)) ∧
    (Starts 0x1006 r s → ∀ p v, p = r.params → p.length = 0x100 → rd p 0 4 = 0x4E4B544C → isZero p 6 2 = true →
      isZero p 0x99 7 = true → transitionPort (lifeCycle s) (rd p 5 1) r.port = some true → rd p 4 1 = lifeCycle s →
      slice p 8 16 = (if rd p 5 1 = 1 then zeros 16 else fit 16 s.keys.serial) → rd p 0x18 8 = 0 →
      (∀ c ∈ tokenForm p, c.1 = true) → v = rootSigned (p.take 0xA0) (slice p 0xA0 96) (begun 0x1006 r s) →
      (v.2 = true → exec (.lcsAdvance r) s = .next
        (sweepSessions (refuseWaiting (answered 0x1006 r (okay (transition p v.1) []))))) ∧
      (v.2 = false → exec (.lcsAdvance r) s = .next
        (sweepSessions (refuseWaiting (answered 0x1006 r (refuse v.1 stNotPermitted 0)))))) ∧
    (∀ p, (transition p s).keys.lifeCycle = rd p 5 1 ∧ (transition p s).keys.transition = none) ∧
    (∀ a b port x, transitionPort a b port = some x → a < b ∧ b ≤ 5) ∧
    (∀ slot world alg req,
      exec (.keyUseRequest slot world alg req) s = .next (keyUse slot world alg req s).1 ∧
      (keyAllowed s slot world alg req = false → keyUse slot world alg req s =
        (raise 1168 slot req { s with keys := { s.keys with refused := satInc s.keys.refused } }, none)) ∧
      (∀ x, (keyUse slot world alg req s).2 = some x → x = keySlot s slot ∧ x.world = world ∧ x.alg = alg ∧
        bit x.lcsMask (lifeCycle s) = true ∧ keyIdOf x.alg x.key x.pub = x.keyId)) ∧
    (s.keys.reseedTime + ticksPerSec ≤ now s ∨ 65536 ≤ s.keys.requests → exec .drbgReseed s = .next
      { s with keys := { s.keys with reseedTime := now s, requests := 0, reseeds := s.keys.reseeds + 1 } }) ∧
    (now s < s.keys.reseedTime + ticksPerSec → s.keys.requests < 65536 → exec .drbgReseed s = .next s) ∧
    (∀ test, exec (.entropyHealthFail test) s = .next (raise 1170 0 test { s with keys := { s.keys with healthy := false } })) ∧
    exec .keyShareRerandomisation s = .next
      { s with keys := { s.keys with shareTime := now s, shareRounds := s.keys.shareRounds + 1 } } ∧
    (∀ a cls req left, a = (cls, req, left) → s.keys.serving = none → s.keys.engine = [] →
      exec (.cryptoChunkBoundary [a]) s = .next { s with keys := { s.keys with
        boundary := s.keys.boundary + 1, engine := [], serving := some ⟨cls, req, s.keys.boundary + 1, left⟩ } }) ∧
    (∀ u, s.keys.serving = some u → 1 < u.left → s.keys.engine = [] →
      exec (.cryptoChunkBoundary []) s = .next { s with keys := { s.keys with
        boundary := s.keys.boundary + 1, engine := [], serving := some { u with left := u.left - 1 } } })

/-! ### Faults, events and the colophon (chapter 17) -/

/-- The event collector (R510 to R526): log records after a serial are read, and the loss count cleared; a permitted reaction is
written into the active quire and counted as a change; pending bits and occurrence counters are cleared; dumps are read, refused
where a half holds none, and released; an injection answers with the serial of its record. A recovered block leaves block reset, and
one that has not stays; a silent task is raised; a write of 1 clears a pending bit, ERR_N releasing outside a boot halt when no bit of signal code 5 is
left and 10 µs have passed; a status read clears its count; what the hardware
sets or counts at the instant of a clear stays (R10); the colophon written, the chip resets. -/
def Obligations.EventCollector : Prop :=
  ∀ (r : Req) (s : State),
    (Starts 0x1101 r s → ∀ n b l, n = rd r.params 4 2 → b = rd r.params 6 2 → r.params.length = 8 → 1 ≤ n → n ≤ 1024 →
      b < 18 ∨ b = 0xFFFF →
      l = (s.ev.log.filter (fun x => serialAfter x.serial (BitVec.ofNat 32 (rd r.params 0 4)) &&
        decide (b = 0xFFFF ∨ blockOf x.source = b))).take n →
      ∃ unread, exec (.evtRead r) s = .next (answered 0x1101 r
        { st := { begun 0x1101 r s with ev := { s.ev with lost := 0, unread := unread } }
          params := le 4 s.ev.serial.toNat ++ le 4 s.ev.lost.toNat ++ l.flatMap evBytes, clearing := true })) ∧
    (Starts 0x1102 r s → r.params.length = 8 → rd r.params 0 2 < 1280 → reactionOk (rd r.params 2 1) = true →
      rd r.params 3 1 < 2 → isZero r.params 4 4 = true →
      (entryAllowed (rd r.params 0 2) (rd r.params 2 1) (rd r.params 3 1) = true →
        exec (.evtConfig r) s = .next (answered 0x1102 r (okay (countChange { begun 0x1102 r s with
          quire := { s.quire with
            active := qWrite s.quire.active fEvents (8 * rd r.params 0 2)
              (le 1 (rd r.params 2 1) ++ le 1 (rd r.params 3 1)) } }) []))) ∧
      (entryAllowed (rd r.params 0 2) (rd r.params 2 1) (rd r.params 3 1) = false →
        exec (.evtConfig r) s = .next (answered 0x1102 r (refuse (begun 0x1102 r s) stBadParam 0xFFFF)))) ∧
    (∀ src rx only, fixedSource src = true → (rx ≠ defaultReaction src ∨ only ≠ 0) → entryAllowed src rx only = false) ∧
    (Starts 0x1103 r s → ∀ first n, first = rd r.params 0 2 → n = rd r.params 2 2 → r.params.length = 8 → first < 1280 →
      1 ≤ n → first + n ≤ 1280 → isZero r.params 5 3 = true → rd r.params 4 1 ≤ 1 →
      ∃ t, exec (.evtClear r) s = .next (answered 0x1103 r (okay t [])) ∧ t = { begun 0x1103 r s with ev := t.ev } ∧
        (∀ k, t.ev.pend.getLsbD k = (s.ev.pend.getLsbD k && (!decide (first ≤ k ∧ k < first + n) ||
          decide (s.ev.sameAt = some (now s)) && s.ev.sameSet.getLsbD k))) ∧
        t.ev.log = s.ev.log ∧
        t.ev.occ = if rd r.params 4 1 = 1 then s.ev.occ.filter (fun p => !decide (first ≤ p.1 ∧ p.1 < first + n))
          else s.ev.occ) ∧
    (Starts 0x1104 r s → ∀ kind o n half, kind = rd r.params 0 1 → o = rd r.params 4 4 → n = rd r.params 8 4 →
      r.params.length = 12 → kind ≤ 1 → isZero r.params 1 3 = true → 1 ≤ n → n ≤ 65504 →
      half = (if kind = 0 then s.ev.half0 else s.ev.half1) →
      (half.held = true → o + n ≤ half.bytes.length →
        exec (.colRead r) s = .next (answered 0x1104 r (okay (begun 0x1104 r s) (slice half.bytes o n)))) ∧
      (half.held = false ∨ half.bytes.length < o + n →
        exec (.colRead r) s = .next (answered 0x1104 r (refuse (begun 0x1104 r s) stNotActive 0)))) ∧
    (Starts 0x1105 r s → r.params.length = 8 → rd r.params 0 1 ≤ 1 → isZero r.params 1 7 = true →
      exec (.colRelease r) s = .next (answered 0x1105 r (okay { begun 0x1105 r s with
        ev := if rd r.params 0 1 = 0 then { s.ev with half0 := {} } else { s.ev with half1 := {} } } []))) ∧
    (Starts 0x1106 r s → ∀ t, r.params.length = 16 → (∀ c ∈ injectForm r.params, c.1 = true) →
      t = (List.range (rd r.params 1 1)).foldl
        (fun t _ => injectOne (rd r.params 0 1) (rd r.params 2 2) (rd r.params 4 2) (rd r.params 8 4) t) (begun 0x1106 r s) →
      exec (.evtInject r) s = .next (answered 0x1106 r (okay t (le 4 (((t.ev.log.filter fun x =>
        x.injected && serialAfter x.serial s.ev.serial).getLast?.map fun x => x.serial.toNat).getD 0))))) ∧
    (∀ b i x, s.ev.resetting.find? (fun r => decide (r.block = b ∧ r.inst = i)) = some x →
      (hasRecovered x s = true → exec (.blockResetRecovered b i) s = .next (recover x
        { s with ev := { s.ev with resetting := s.ev.resetting.filter fun y => decide (y ≠ x) } })) ∧
      (hasRecovered x s = false → exec (.blockResetRecovered b i) s = .next s)) ∧
    (∀ core task, vegenUp s = true → s.host.halted.contains core = false →
      exec (.coreWatchdog core task) s = .next (raise 0 core task s)) ∧
    (∀ n v, n < 40 → ∃ t, exec (.evtPendWrite n v) s = .next t ∧
      t = { s with ev := { s.ev with pend := t.ev.pend, errn := t.ev.errn } } ∧
      (∀ k, k < 1280 → t.ev.pend.getLsbD k = (s.ev.pend.getLsbD k && (!(decide (k / 32 = n) && v.testBit (k % 32)) ||
        decide (s.ev.sameAt = some (now s)) && s.ev.sameSet.getLsbD k))) ∧
      (s.ev.errn = true → s.ev.romMode = false → s.boot.stage ≠ 15 → s.ev.errnSince + 10 * ticksPerUs ≤ now s →
        (t.ev.errn = false ↔ ∀ k, k < 1280 → t.ev.pend.getLsbD k = true → reactionOf s k % 16 ≠ 5))) ∧
    (∀ v, exec (.evtSummaryWrite v) s = .next { s with ev := { s.ev with
      overflow := s.ev.overflow && (!bit v 19 || decide (s.ev.overflowAt = some (now s)))
      lastGaspFlag := s.ev.lastGaspFlag && (!bit v 21 || decide (s.ev.gaspAt = some (now s))) } }) ∧
    (∀ b, b < 18 →
      (s.ev.sameAt ≠ some (now s) → exec (.evtBlkStatusRead b) s = .next { s with
        ev := { s.ev with blkOcc := mdel s.ev.blkOcc b }
        out := s.out ++ [.regRead (0x4100 + 4 * b) (evtBlkStatus s.ev b)] }) ∧
      (∀ before n, s.ev.sameAt = some (now s) → s.ev.sameOcc.find? (fun p => decide (p.1 = b)) = some (b, before, n) →
        ∃ v t, exec (.evtBlkStatusRead b) s = .next t ∧ t = { s with ev := t.ev, out := s.out ++ [.regRead (0x4100 + 4 * b) v] } ∧
          v = evtBlkStatus (putOcc b before s.ev) b ∧ mget (fun _ => 0#16) t.ev.blkOcc b = BitVec.ofNat 16 (min n 65535))) ∧
    (∀ v, (s.time.dpll.rfcAt ≠ some (now s) → exec (.rfcEventsWrite v) s = .next { s with time := { s.time with
        dpll := { s.time.dpll with rfc := s.time.dpll.rfc &&& ~~~BitVec.ofNat 6 v } } }) ∧
      (s.time.dpll.rfcAt = some (now s) → exec (.rfcEventsWrite v) s = .next { s with time := { s.time with
        dpll := { s.time.dpll with rfc := s.time.dpll.rfc &&& ~~~(BitVec.ofNat 6 v &&& ~~~s.time.dpll.rfcSet) } } })) ∧
    exec .errNMinimumHoldEnd s = .next (releaseErrN s) ∧
    (∀ f cut, s.ev.fatal = some f →
      exec (.colophonWriteDone cut) s = .next (chipReset false s.boot.resetN (writeColophon cut s))) ∧
    (∀ cut, s.ev.fatal = none → exec (.colophonWriteDone cut) s = .next s)

/-! ### Start-up, case images and update (chapter 18) -/

/-- The UPD and CAS commands complete (R534, R536, R540, R541, R545): a slot that is not running is opened, written, WRITTEN with its
last byte, and checked; BUSY and NOT_ACTIVE as R540 gives them; an activation arms its slot unless R541 refuses it; a confirmed slot
makes the other VERIFIED and never lowers the security counter; a case is begun, written, committed when it has no fault, erased
and read. -/
def Obligations.UpdateCommands : Prop :=
  ∀ (r : Req) (s : State),
    (Starts 0x1201 r s → ∀ k, r.params.length = 8 → rd r.params 0 1 ≤ 1 → k = rd r.params 0 1 → isZero r.params 1 3 = true →
      1 ≤ rd r.params 4 4 → rd r.params 4 4 ≤ 41943040 →
      (runsSlot s k = false → inTrial s = false → s.boot.openSlot = none → s.boot.armed = none → (slotOf s k).state ≠ .armed →
        hasPartner s = false →
        exec (.updBegin r) s = .next (answered 0x1201 r (okay (setBoot (fun b => { b with openSlot := some k })
          (setSlot k (fun _ => { state := .writing, total := rd r.params 4 4 }) (begun 0x1201 r s))) (le 1 k)))) ∧
      (runsSlot s k = true ∨ s.boot.openSlot ≠ none →
        exec (.updBegin r) s = .next (answered 0x1201 r (refuse (begun 0x1201 r s) stBusy 0)))) ∧
    (Starts 0x1202 r s → ∀ o n k d, o = rd r.params 0 4 → n = rd r.params 4 4 → r.params.length = 8 + n → 1 ≤ n → n ≤ 65496 →
      s.boot.openSlot = some k → d = layBytes o (r.params.drop 8) (slotOf s k).data →
      (o + n ≤ (slotOf s k).total → d.length < (slotOf s k).total →
        exec (.updWrite r) s = .next (answered 0x1202 r (okay
          (setSlot k (fun x => { x with data := d }) (begun 0x1202 r s)) []))) ∧
      (o + n ≤ (slotOf s k).total → d.length = (slotOf s k).total →
        exec (.updWrite r) s = .next (answered 0x1202 r (okay (setBoot (fun b => { b with openSlot := none })
          (setSlot k (fun x => { x with data := d, state := .written }) (begun 0x1202 r s))) []))) ∧
      ((slotOf s k).total < o + n →
        exec (.updWrite r) s = .next (answered 0x1202 r (refuse (begun 0x1202 r s) stBadParam 0)))) ∧
    (Starts 0x1203 r s → ∀ k, r.params.length = 4 → k = rd r.params 0 1 → k ≤ 1 → isZero r.params 1 3 = true →
      ((slotOf s k).state ≠ .written →
        exec (.updVerify r) s = .next (answered 0x1203 r (refuse (begun 0x1203 r s) stNotActive 0))) ∧
      ((slotOf s k).state = .written → ∀ st d, packageRefusal s (slotBytes (slotOf s k)) = some (st, d) →
        exec (.updVerify r) s = .next (answered 0x1203 r
          (refuse (setSlot k (fun y => { y with state := .bad }) (begun 0x1203 r s)) st d))) ∧
      ((slotOf s k).state = .written → packageRefusal s (slotBytes (slotOf s k)) = none → hasPartner s = false →
        ∃ b, exec (.updVerify r) s = .next (answered 0x1203 r (okay (rerandomise (setSlot k (fun x =>
          { slotChecked s.boot (slotBytes (slotOf s k)) x with state := .verified }) (begun 0x1203 r s))) b)))) ∧
    (Starts 0x1204 r s → ∀ k, k = rd r.params 0 1 → r.params.length = 16 → k ≤ 1 → rd r.params 1 1 ≤ 1 →
      rd r.params 2 2 = 0 ∨ 60 ≤ rd r.params 2 2 → isZero r.params 4 4 = true → isScheduled r = false → rd r.params 8 8 = 0 →
      (∀ st d, activationRefusal s k .verified (bit (rd r.params 1 1) 0) = some (st, d) →
        exec (.updActivate r) s = .next (answered 0x1204 r (refuse (begun 0x1204 r s) st d))) ∧
      (activationRefusal s k .verified (bit (rd r.params 1 1) 0) = none →
        exec (.updActivate r) s = .next (deferredBy 0x1204 r [] (setBoot (fun b => { b with
          armed := some ⟨k, bit (rd r.params 1 1) 0, if rd r.params 2 2 = 0 then 600 else rd r.params 2 2, 0, false, false⟩ })
          (setSlot k (fun x => { x with state := .armed }) (begun 0x1204 r s)))))) ∧
    (Starts 0x1205 r s → ∀ k, k = rd r.params 0 1 → r.params.length = 8 → k ≤ 1 → isZero r.params 1 7 = true →
      (runsSlot s k = true → (slotOf s k).state = .trial → ∃ t, exec (.updConfirm r) s = .next (answered 0x1205 r (okay t [])) ∧
        t = { begun 0x1205 r s with boot := t.boot, keys := t.keys } ∧ (slotOf t k).state = .confirmed ∧
        (slotOf t (1 - k)).state = .verified ∧ t.boot.confirmEnd = none ∧
        t.keys = { s.keys with securityCounter := max s.keys.securityCounter (slotOf s k).secVersion }) ∧
      ((slotOf s k).state ≠ .trial →
        exec (.updConfirm r) s = .next (answered 0x1205 r (refuse (begun 0x1205 r s) stNotActive 0)))) ∧
    (Starts 0x1206 r s → r.params = [] → ∃ b, exec (.updStatus r) s = .next (answered 0x1206 r (okay (begun 0x1206 r s) b)) ∧
      b.length = 168 ∧ slice b 24 144 = slotStatus s 0 ++ slotStatus s 1) ∧
    (Starts 0x1207 r s → ∀ c n, c = rd r.params 0 1 → n = rd r.params 8 4 → isZero r.params 2 2 = true → c = 1 →
      (rd r.params 1 1 = 1 → r.params.length = 12 → rd r.params 4 4 = 0 → 1 ≤ n →
        (n ≤ 16777216 → exec (.casWrite r) s = .next (answered 0x1207 r (okay
          (setBoot (fun b => { b with building := some ⟨1, n, []⟩ }) (setCase 1 [] (begun 0x1207 r s))) []))) ∧
        (16777216 < n → exec (.casWrite r) s = .next (answered 0x1207 r (refuse (begun 0x1207 r s) stNoCapacity 0)))) ∧
      (∀ b, rd r.params 1 1 = 2 → r.params.length = 12 + n → 1 ≤ n → s.boot.building = some b → b.which = 1 →
        rd r.params 4 4 + n ≤ b.length →
        exec (.casWrite r) s = .next (answered 0x1207 r (okay (setBoot (fun x => { x with
          building := some { b with data := layBytes (rd r.params 4 4) (r.params.drop 12) b.data } }) (begun 0x1207 r s)) []))) ∧
      (∀ b img, rd r.params 1 1 = 3 → r.params.length = 12 → rd r.params 4 4 = 0 → n = 0 → s.boot.building = some b →
        b.which = 1 → img = b.data.map (·.2) → b.data.length = b.length →
        (caseRefusal s 1 img = none → exec (.casWrite r) s = .next (answered 0x1207 r (okay (rerandomise (setCase 1 img
          (setBoot (fun x => { x with building := none }) (begun 0x1207 r s)))) []))) ∧
        (∀ st d, caseRefusal s 1 img = some (st, d) → exec (.casWrite r) s = .next (answered 0x1207 r
          (refuse (setBoot (fun x => { x with building := none }) (begun 0x1207 r s)) st d))))) ∧
    (Starts 0x1207 r s → rd r.params 0 1 = 0 → r.port ≠ portFactory → r.params.length = 12 → rd r.params 1 1 = 1 →
      isZero r.params 2 2 = true → rd r.params 4 4 = 0 → 1 ≤ rd r.params 8 4 →
      exec (.casWrite r) s = .next (answered 0x1207 r (refuse (begun 0x1207 r s) stNotPermitted r.port))) ∧
    (Starts 0x1208 r s → ∀ b, b = caseOf s (rd r.params 0 1) → r.params.length = 12 → rd r.params 0 1 ≤ 1 →
      isZero r.params 1 3 = true → 1 ≤ rd r.params 8 4 → rd r.params 8 4 ≤ 65504 →
      (b ≠ [] → rd r.params 4 4 + rd r.params 8 4 ≤ b.length → exec (.casRead r) s = .next (answered 0x1208 r
        (okay (begun 0x1208 r s) (slice b (rd r.params 4 4) (rd r.params 8 4))))) ∧
      (b = [] → exec (.casRead r) s = .next (answered 0x1208 r (refuse (begun 0x1208 r s) stNotActive 0))))

/-- Resets, start-up and activation (R520, R523, R528 to R531, R541, R543, R546, R547): a low of 1 µs on RESET_N resets the chip,
which keeps its flash, its fuses, the dumps, the last-gasp ring and the retained pending bits; start-up stops with the code of the
first thing that is missing; a restart begins when one is due and ends when Vegen registers within 5 s; an armed activation waits
for its time and for staging and is checked again; the confirm timer falls back; the choreography goes from phase to phase. -/
def Obligations.StartAndUpdate : Prop :=
  ∀ (s : State),
    (∀ n, n < 1000 → exec (.resetAssert n) s = .next s) ∧
    (∀ n, 1000 ≤ n → exec (.resetAssert n) s = .next (chipReset false false s)) ∧
    (∀ pw pin t, t = chipReset pw pin s → t.boot.inReset = true ∧ t.boot.ready = false ∧ t.tb = {} ∧
      t.boot.factoryCase = s.boot.factoryCase ∧ t.boot.userCase = s.boot.userCase ∧ t.boot.running = s.boot.running ∧
      t.keys.lifeCycle = s.keys.lifeCycle ∧ t.keys.serial = s.keys.serial ∧ t.keys.securityCounter = s.keys.securityCounter ∧
      t.keys.flash = s.keys.flash ∧ t.ev.flashRing = s.ev.flashRing ∧
      (pw = false → t.ev.half0 = s.ev.half0 ∧ t.ev.half1 = s.ev.half1 ∧ t.ev.retention = s.ev.retention ∧
        t.ev.errn = s.ev.errn ∧ t.boot.bootCount = s.boot.bootCount ∧ t.keys.colophonKey = s.keys.colophonKey) ∧
      (pw = true → t.ev.half0 = {} ∧ t.ev.half1 = {} ∧ t.ev.retention = [] ∧ t.ev.errn = false ∧ t.boot.bootCount = 0)) ∧
    (∀ k, s.boot.plannedReset = some k → exec (.chipReset none) s = .next (plannedReset k s)) ∧
    (s.boot.plannedReset = none → s.ev.fatal = none → exec (.chipReset none) s = .next s) ∧
    (∀ i, s.boot.inReset = true → s.power.thermalHold = false → s.power.brownHold = false →
      exec (.resetRelease i) s = .next (startUp i s) ∧
      (i.bootSrc % 4 = 3 → startUp i s = bootHalt 8 (sampleStraps i s)) ∧
      (i.bootSrc % 4 ≠ 3 → sysrefKnown i.sysref = false → startUp i s = bootHalt 1 (sampleStraps i s)) ∧
      (i.bootSrc % 4 ≠ 3 → sysrefKnown i.sysref = true → i.mdll = false → startUp i s = bootHalt 2 (sampleStraps i s)) ∧
      (∀ u, i.bootSrc % 4 ≠ 3 → sysrefKnown i.sysref = true → i.mdll = true → u = readFuses i.entropy (sampleStraps i s) →
        (i.entropy = false → startUp i s = bootHalt 4 u) ∧
        (i.entropy = true → lifeCycle u = 5 → startUp i s = bootHalt 7 u) ∧
        (∀ n v, i.entropy = true → lifeCycle u ≠ 5 → i.flash = true → i.bootSrc % 4 ≠ 2 →
          (keySlot (loadRoots u) (rootSlot (loadRoots u))).state ≠ .empty → chooseSlot (loadRoots u) = (n, v) →
          (n = none → startUp i s = bootHalt 5 v) ∧
          (∀ k, n = some k → startUp i s = finishStart (slotBytes (slotOf v k)) i.fails i.badKeys
            (setBoot (fun b => { b with running := k })
              (setSlot k (slotChecked v.boot (slotBytes (slotOf v k))) v)))))) ∧
    (∀ i, s.boot.inReset = false → exec (.resetRelease i) s = .next s) ∧
    (∀ v, exec (.bootStatusWrite v) s = .next
      { s with boot := { s.boot with fallbackFlag := s.boot.fallbackFlag && !bit v 14 } }) ∧
    (∀ fails bad, s.host.mbox.busy = true → exec (.mboxFetchDone none fails bad) s = .next (bootHalt 5
      { s with host := { s.host with mbox := { s.host.mbox with busy := false, done := false, error := true } } })) ∧
    (∀ p fails bad, s.host.mbox.busy = true → p.length = s.host.mbox.len → packageFault p = none → packageSigned s p = true →
      exec (.mboxFetchDone (some p) fails bad) s = .next (finishStart p fails bad (setBoot (fun b => { b with mailbox := p })
        { s with host := { s.host with mbox := { s.host.mbox with busy := false, done := true, error := false } } }))) ∧
    (∀ k, vegenUp s = true → s.boot.restartDue = some (k, false) → ∃ t, exec .controlPlaneRestart s = .next t ∧
      t.boot.restart = some ⟨now s, some k, false⟩ ∧ t.boot.stage = 7 ∧ t.boot.restartDue = none) ∧
    (vegenUp s = true → s.boot.restartDue = none → s.ev.trap = true → ∃ t, exec .controlPlaneRestart s = .next t ∧
      t.boot.restart = some ⟨now s, none, false⟩ ∧ t.boot.stage = 7 ∧ t.ev.trap = false) ∧
    (vegenUp s = true → s.boot.restartDue = none → s.ev.trap = false → exec .controlPlaneRestart s = .next s) ∧
    (∀ x t, s.boot.restart = some x → x.forSlot = none → s.ev.fatal = none → now s ≤ x.since + 3 * ticksPerSec →
      t = setBoot (fun b => { b with restart := none, stage := 6 }) s →
      exec .vegenRegister s = .next (notifyStatus s (solvePaused (sendDelayed (startUnknown s.cmds.waiting.length t))))) ∧
    (∀ x, s.boot.restart = some x → x.since + 5 * ticksPerSec ≤ now s → exec .vegenRegister s = .next s) ∧
    (∀ a, s.boot.armed = some a → vegenUp s = true →
      (now s < a.time → exec .updateActivationDue s = .next s) ∧
      (a.time ≤ now s → stagingNow s = true → a.waits = false → exec .updateActivationDue s = .next
        (raise 1218 a.slot 0x20000 (setBoot (fun b => { b with armed := some { a with waits := true } }) s))) ∧
      (a.time ≤ now s → stagingNow s = false → activationRefusal s a.slot .armed a.allowOutage = none →
        exec .updateActivationDue s = .next (startActivation a s)) ∧
      (∀ st d, a.time ≤ now s → stagingNow s = false → activationRefusal s a.slot .armed a.allowOutage = some (st, d) →
        exec .updateActivationDue s = .next (answerActivation st d (raise 1218 a.slot (0x40000 + st)
          (setBoot (fun b => { b with armed := none }) (setSlot a.slot (fun x => { x with state := .verified }) s)))))) ∧
    (∀ t, s.boot.confirmEnd = some t → t ≤ now s → inTrial s = true → vegenUp s = true → isTwin s = false →
      deepPackage s (1 - s.boot.running) = false → ∃ u, exec .confirmTimerExpiry s = .next u ∧ u.boot.confirmEnd = none ∧
        u.boot.fallbackFlag = true ∧ u.boot.restartDue = some (1 - s.boot.running, true) ∧
        (slotOf u s.boot.running).state = .bad) ∧
    (s.boot.confirmEnd = none → exec .confirmTimerExpiry s = .next s) ∧
    (∀ p, s.boot.deepPhase = p → 1 ≤ p → p ≤ 2 → phaseDone s p = true →
      exec (.deepUpdatePhase p true) s = .next (nextPhase p s)) ∧
    (∀ p, s.boot.deepPhase = p → 1 ≤ p → exec (.deepUpdatePhase p false) s = .next
      (raise 1218 s.boot.deepSlot (0x50000 + p) { s with boot := { s.boot with deepPhase := 0 } }))

/-! ### The host interface and the internal control plane (chapter 19) -/

/-- The PCIe function (R549 to R557, R587): a doorbell moves the tail or, outside the ring, faults the pair; a submission entry is
fetched, refused for its form, or faults the pair on a DMA error; the oldest answered entry is completed; enabling a pair clears
its fault and indices, and a size changed while enabled faults it; the interrupt delay runs out; the packet ring takes its indices
and delivers the oldest host frame; go starts a fetch only while nothing is busy, done or in error; read-only and reserved registers ignore a
write; PERST_N low disables every pair. -/
def Obligations.HostInterface : Prop :=
  ∀ (q : Nat) (s : State),
    (∀ v, hostReaches s = true → q < 64 → qpRuns (qpAt s q) = true →
      (v < 2 ^ (qpAt s q).sqLog2 → v < 65536 →
        exec (.hstDoorbell q v) s = .next (setQp q (fun x => { x with sqTail := v }) s)) ∧
      (2 ^ (qpAt s q).sqLog2 ≤ v → v < 65536 → exec (.hstDoorbell q v) s = .next (qpFault q 1 s)) ∧
      (v < 2 ^ (qpAt s q).cqLog2 → v < 65536 →
        exec (.hstCqHead q v) s = .next (setQp q (fun x => { x with cqHead := v }) s))) ∧
    (∀ v, qpRuns (qpAt s q) = false →
      exec (.hstDoorbell q v) s = .next s ∧ exec (.hstCqHead q v) s = .next s) ∧
    (∀ v, hostReaches s = true → q < 64 → exec (.hstQpCfgWrite q v) s = .next (setQp q (qpConfigure v) s)) ∧
    (∀ v x,
      (bit v 0 = false → (qpConfigure v x).enable = false ∧ (qpConfigure v x).entries = []) ∧
      (bit v 0 = true → x.enable = false →
        ∃ y, qpConfigure v x = y ∧ y.enable = true ∧ y.fault = false ∧ y.cause = 0 ∧ y.sqHead = 0 ∧ y.sqTail = 0 ∧
          y.cqHead = 0 ∧ y.cqTail = 0 ∧ y.phase = true ∧ y.sqLog2 = bits v 7 4 ∧ y.cqLog2 = bits v 11 8) ∧
      (bit v 0 = true → x.enable = true → x.fault = false → bits v 7 4 ≠ x.sqLog2 ∨ bits v 11 8 ≠ x.cqLog2 →
        (qpConfigure v x).fault = true ∧ (qpConfigure v x).cause = 3 ∧ (qpConfigure v x).entries = [])) ∧
    (∀ p, mayFetch s q = true → exec (.submissionFetch q none p) s = .next (qpFault q 2 s)) ∧
    (∀ e p, mayFetch s q = true → rd e 8 4 < 32 ∨ 65536 < rd e 8 4 ∨ (rd e 0x18 4 ≠ 0 ∧ rd e 0x18 4 < 32) →
      exec (.submissionFetch q (some e) p) s = .next (consume q e 0 .refused s)) ∧
    (∀ e p, mayFetch s q = true → 32 ≤ rd e 8 4 → rd e 8 4 ≤ 65536 → rd e 0x18 4 = 0 ∨ 32 ≤ rd e 0x18 4 →
      p.length = rd e 8 4 →
      exec (.submissionFetch q (some e) (some p)) s = .next (settleNewest q (receivePacket (.qp q) p
        (consume q e (rd p 8 8) .waits (settleReplies q s))))) ∧
    (∀ e p, mayFetch s q = false → exec (.submissionFetch q e p) s = .next s) ∧
    (∀ t x e, t = settleReplies q s → x = qpAt t q → x.entries.find? (fun e => decide (e.answer ≠ .waits)) = some e →
      hostReaches t = true → qpRuns x = true → cqFull x = false → ∃ u,
        exec (.completionWrite q) s = .next (moderate q (emit (.completion q
          (completionEntry e (answerParts e.capacity e.answer).1 (answerParts e.capacity e.answer).2.1 x.phase)
          e.replyAddr (answerParts e.capacity e.answer).2.2) u)) ∧
        u = setQp q (fun _ => { x with
          cqTail := ringNext x.cqLog2 x.cqTail
          phase := if ringNext x.cqLog2 x.cqTail = 0 then !x.phase else x.phase
          entries := x.entries.erase e }) t) ∧
    (∀ e, (answerParts 0 (.reply e)).2 = (e.length, []) ∧ answerParts 0 .refused = (3, 0, []) ∧
      answerParts 0 .noReply = (2, 0, []) ∧
      ∀ cap, answerParts cap (.reply e) = (if e.length ≤ cap then 0 else 1, e.length, e.take cap)) ∧
    (0 < (qpAt s q).unsignalled → (qpAt s q).firstUnsignalled + (qpAt s q).modTime * ticksPerUs ≤ now s →
      exec (.interruptModerationTimeout q) s = .next (signalQp q s)) ∧
    ((qpAt s q).unsignalled = 0 → exec (.interruptModerationTimeout q) s = .next s) ∧
    (∃ t, exec (.perstAssert true) s = .next t ∧ t = { s with host := t.host } ∧ t.host.perst = true ∧
      (∀ k, (qpAt t k).enable = false) ∧ t.host.ringDesc.enable = false ∧ t.host.ringRecv.enable = false ∧
      t.host.ringLaunch.enable = false ∧ t.host.mbox = s.host.mbox ∧ t.host.fold = s.host.fold ∧
      t.host.sessions = s.host.sessions) ∧
    exec (.perstAssert false) s = .next { s with host := { s.host with perst := false } } ∧
    (∀ v, hostReaches s = true → v < 65536 →
      (v < 2 ^ s.host.ringDesc.log2 → exec (.descriptorTailWrite v) s = .next
        { s with host := { s.host with ringDesc := { s.host.ringDesc with host := v } } }) ∧
      (v < 2 ^ s.host.ringRecv.log2 → exec (.receiveHeadWrite v) s = .next
        { s with host := { s.host with ringRecv := { s.host.ringRecv with host := v } } }) ∧
      (v < 2 ^ s.host.ringLaunch.log2 → s.host.launchWaiting = [] → exec (.launchHeadWrite v) s = .next
        { s with host := { s.host with ringLaunch := { s.host.ringLaunch with host := v } } })) ∧
    (∀ len r rest, hostReaches s = true → s.host.ringDesc.enable = true → s.host.ringDesc.dev ≠ s.host.ringDesc.host →
      classQueue s 5 = r :: rest →
      (len < 9216 → exec (.hostFrameDeliver len) s = .next { s with host := { s.host with
        ringDesc := ringStep s.host.ringDesc, shortDescriptors := satInc s.host.shortDescriptors } }) ∧
      (9216 ≤ len → ringRoom s.host.ringRecv = true → ∃ u, exec (.hostFrameDeliver len) s = .next (sendMsi 82
        (emit (.received (receiveRecord r s.host.ringRecv.phase s.host.ringDesc.dev) r.bytes) u)) ∧
        u = setHost (fun h => { h with ringDesc := ringStep h.ringDesc, ringRecv := ringStep h.ringRecv })
          (setClass 5 rest s))) ∧
    (∀ v, (bit v 0 = true → s.boot.recovery = true → s.boot.stage = 2 → s.host.mbox.busy = false → s.host.mbox.done = false →
        s.host.mbox.error = false →
        exec (.hstMboxGo v) s = .next { s with host := { s.host with mbox := { s.host.mbox with busy := true } } }) ∧
      (bit v 0 = false ∨ s.host.mbox.busy = true ∨ s.host.mbox.done = true ∨ s.host.mbox.error = true →
        exec (.hstMboxGo v) s = .next s)) ∧
    (∀ off v, v < 2 ^ 32 → off % 4 = 0 → hostReaches s = true →
      exec (.registerWrite 0 off v) s = .next (writeWindow off v s) ∧
      (off ∈ [0x000, 0x004, 0x010, 0x014, 0x018, 0x5000] ∨ (0x4100 ≤ off ∧ off < 0x4148) ∨ 0x6000 ≤ off ∨
        (0x2030 ≤ off ∧ off < 0x4000) → exec (.registerWrite 0 off v) s = .next s) ∧
      (q < 64 → off = 0x1000 + 64 * q → (qpAt s q).enable = true → (qpAt s q).fault = false →
        ∃ t, exec (.registerWrite 0 off v) s = .next t ∧ (qpAt t q).fault = true ∧ (qpAt t q).cause = 3) ∧
      (off / 16 < 96 → off % 16 ≠ 12 → exec (.registerWrite 4 off v) s = .next
        { s with host := { s.host with msixTable := mset (fun _ => 0) s.host.msixTable (off / 4) v } }))

/-- The fold bus, the management ports, the bus matrix and the DIA commands (R505, R558 to R564, R569 to R572): a SLOT frame leaves at its
time; a frame with a bad CRC is discarded and counted; a token is passed when a tenure ends and taken when it arrives; a frame not
acknowledged for 2 ms is dropped; silence starts a poll round; a session past a time limit closes; an ARP request for the port's
address is answered, a frame that is for nobody dropped; registers are read and written over the bus; a loopback and a self-test answer; a lock held too long is raised; a JTAG
instruction that is not available loads BYPASS. -/
def Obligations.ControlPlane : Prop :=
  ∀ (r : Req) (s : State),
    (foldUp s = true → 2 * ticksPerUs * (ownStation s + 1) ≤ now s % cycleTicks → now s % cycleTicks < slotWindow →
      s.host.fold.slotSent ≠ some (cycleNow s) → exec .foldSlotSend s = .next (emit
        (.fold (foldFrame s 0xFF 4 0 s.twin.slotBody))
        { s with
          twin := { s.twin with slotBody := [] }
          host := { s.host with fold := { s.host.fold with slotSent := some (cycleNow s) } } })) ∧
    (s.host.fold.slotSent = some (cycleNow s) → exec .foldSlotSend s = .next s) ∧
    (∀ b, foldUp s = true →
      (b.length ≠ 12 + rd b 4 2 ∨ 1536 < rd b 4 2 ∨
          rd b (8 + rd b 4 2) 4 ≠ (crc32c (b.take (8 + rd b 4 2))).toNat →
        exec (.foldFrameReceive b) s = .next
          { s with host := { s.host with fold := { s.host.fold with crcErrors := satInc s.host.fold.crcErrors } } }) ∧
      (∀ t, b.length = 12 + rd b 4 2 → rd b 4 2 ≤ 1536 → rd b (8 + rd b 4 2) 4 = (crc32c (b.take (8 + rd b 4 2))).toNat →
        rd b 1 1 ≠ ownStation s → rd b 1 1 < 64 → rd b 0 1 = ownStation s → rd b 2 1 = 1 → inTokenPhase s = true →
        s.host.fold.polls = [] → t = setFold (fun f => { f with heardAt := now s }) s → (holdToken t).host.fold.polls = [] →
        exec (.foldFrameReceive b) s = .next (holdToken t))) ∧
    (foldUp s = true → inTokenPhase s = true → s.host.fold.token = true → s.host.fold.busyUntil ≤ now s →
      nextUnsent s.host.fold = none → exec .foldTenureEnd s = .next (passToken s)) ∧
    (∀ n, tokenTarget s = some n → max (now s) s.host.fold.busyUntil + foldTime 0 ≤ nextCycleEnd s →
      (passToken s).host.fold.token = false) ∧
    (s.host.fold.token = false → exec .foldTenureEnd s = .next s ∧ exec .foldTokenPhaseStart s = .next s) ∧
    (foldUp s = true → inTokenPhase s = true → s.host.fold.token = true →
      exec .foldTokenPhaseStart s = .next (runTenure s)) ∧
    (∃ t, exec .foldFrameDrop s = .next t ∧
      t = { s with host := { s.host with fold := { s.host.fold with queue := t.host.fold.queue, dropped := t.host.fold.dropped } } } ∧
      ∀ o, o ∈ t.host.fold.queue ↔ o ∈ s.host.fold.queue ∧ ∀ x, o.firstSent = some x → now s < x + 2 * ticksPerMs) ∧
    (foldUp s = true → inTokenPhase s = true → s.host.fold.token = false → s.host.fold.polls = [] →
      (100 + 2 * ownStation s) * ticksPerUs ≤ phaseTicks (now s) - phaseTicks s.host.fold.heardAt →
      exec .foldSilenceTimeout s = .next (pollNext (present s) s)) ∧
    (s.host.fold.token = true → exec .foldSilenceTimeout s = .next s) ∧
    (∀ p rest, s.host.fold.polls = p :: rest → s.host.fold.pollEnd + 2 * ticksPerUs ≤ now s → s.host.fold.skipped = [] →
      exec .foldPollResponseTimeout s = .next (pollNext rest (setFold (fun f => { f with skipped := [p] }) s))) ∧
    (s.host.fold.polls = [] → exec .foldPollResponseTimeout s = .next s) ∧
    (∃ l, exec .mgtSessionAckTimeout s = .next { s with host := { s.host with sessions := l } } ∧
      ∀ x, x ∈ l ↔ x ∈ s.host.sessions ∧ ∀ t, x.unackedSince = some t → now s < t + 400 * ticksPerMs) ∧
    (∃ l, exec .sessionIdleTimeout s = .next { s with host := { s.host with sessions := l } } ∧
      ∀ x, x ∈ l ↔ x ∈ s.host.sessions ∧ now s < x.lastRecord + 600 * ticksPerSec) ∧
    (∃ t, exec .sessionKeyUpdate s = .next t ∧ t = { s with out := t.out, host := { s.host with sessions := t.host.sessions } } ∧
      ∀ x ∈ t.host.sessions, x.records < 2 ^ 24 ∧ now s < x.lastUpdate + 3600 * ticksPerSec) ∧
    (∀ m b a, m < 2 → mgtField s.quire.active m 0 1 ≠ 0 → s.boot.ready = true → a = mgtAddress s.quire.active (sideB s) m →
      (slice b 0 6 = a.1 → rdB b 12 2 = 0x0806 → a.2.1 ≠ zeros 4 → rdB b 20 2 = 1 → slice b 38 4 = a.2.1 →
        ∃ f, exec (.mgtFrameReceive m (.frame b)) s = .next (emit (.mgt m f) s) ∧
          f = ethHeader (slice b 22 6) a.1 none 0x0806 ++ slice b 14 6 ++ be 2 2 ++ a.1 ++ a.2.1 ++ slice b 22 10) ∧
      (slice b 0 6 ≠ a.1 → slice b 0 6 ≠ ffs 6 → slice b 0 2 ≠ be 2 0x3333 →
        exec (.mgtFrameReceive m (.frame b)) s = .next (mgtDrop m s)) ∧
      (∀ i, exec (.mgtFrameReceive m (.close i)) s = .next { s with host := { s.host with
        sessions := s.host.sessions.filter fun x => !decide (x.mgt = m ∧ x.idx = i) } })) ∧
    (Starts 0x1303 r s → ∀ a n, a = rd r.params 0 8 → n = rd r.params 8 2 → r.params.length = 16 → a % 4 = 0 →
      (∀ k < n, busCell s (a + 4 * k) ≠ none) → 1 ≤ n → n ≤ 256 → isZero r.params 10 6 = true → ∃ c,
      exec (.diaRegRead r) s = .next (answered 0x1303 r
        { st := (busReads n a (begun 0x1303 r s)).2, params := (busReads n a (begun 0x1303 r s)).1, clearing := c })) ∧
    (∀ off, off < 0x100000 → busRead (0x20000000 + off) s = (windowValue s off, readEffect off s) ∧
      ∀ v, busWrite (0x20000000 + off) v s = writeWindow off v s) ∧
    (Starts 0x1304 r s → ∀ a n, a = rd r.params 0 8 → n = rd r.params 8 2 → r.params.length = 16 + 4 * n → a % 4 = 0 →
      (∀ k < n, busCell s (a + 4 * k) ≠ none) → 1 ≤ n → n ≤ 256 → isZero r.params 10 6 = true →
      exec (.diaRegWrite r) s = .next (answered 0x1304 r
        (okay (busWrites n a (r.params.drop 16) (begun 0x1304 r s)) []))) ∧
    (Starts 0x1301 r s → ∀ c l op pat, c = rd r.params 0 1 → l = rd r.params 1 1 → op = rd r.params 2 1 →
      pat = rd r.params 3 1 → r.params.length = 8 → c ≤ 3 → l < classLanes c → op ≤ 3 →
      op = 0 ∨ carriesPattern s.quire.active c l pat = true → rd r.params 4 1 = 0 → isZero r.params 5 3 = true →
      (c = 0 → exec (.diaLoopback r) s = .next (answered 0x1301 r (mediaLoop l op pat false (begun 0x1301 r s)))) ∧
      (c ≠ 0 → ∃ t b, exec (.diaLoopback r) s = .next (answered 0x1301 r (okay t b)) ∧ b.length = 24 ∧
        t = { laneTest c l op pat (begun 0x1301 r s) with free := t.free })) ∧
    (Starts 0x1302 r s → ∀ item g, item = rd r.params 0 1 → g = rd r.params 1 1 → r.params.length = 8 → item ≤ 8 →
      (if item = 8 then g < 4 else g = 0) → isZero r.params 2 6 = true →
      (item ≠ 8 ∨ (∀ e ∈ partitions s.quire.active, rd e 1 1 ≠ g) → ∃ v t, v < 3 ∧
        t = { begun 0x1302 r s with free := s.free + 1 } ∧ exec (.diaSelftest r) s = .next
        (answered 0x1302 r (okay (if item < 8 ∧ v < 2 then noteTest item (decide (v = 0)) t else t) (le 1 v ++ zeros 7)))) ∧
      (item = 8 → ∀ e ∈ partitions s.quire.active, rd e 1 1 = g →
        exec (.diaSelftest r) s = .next (answered 0x1302 r (refuse (begun 0x1302 r s) stBusy 0)))) ∧
    (∀ m a, exec (.busLockTimeout m a true) s = .next s ∧
      (a < 2 ^ 32 → exec (.busLockTimeout m a false) s = .next (raise 1 m a s))) ∧
    (s.boot.inReset = false → exec .romRemapWrite s = .next { s with host := { s.host with remap := true } }) ∧
    (∀ f, jtagAvailable (lifeCycle s) f = false →
      exec (.jtagInstruction f) s = .next { s with host := { s.host with jtag := .bypass } }) ∧
    (∀ f, jtagAvailable (lifeCycle s) f = true → ∃ t, exec (.jtagInstruction f) s = .next t ∧ t.host.jtag = f ∧
      t = { s with host := { s.host with jtag := f, extest := t.host.extest, halted := t.host.halted } }) ∧
    (jtagAvailable 5 .mailbox = false ∧ jtagAvailable 3 .mailbox = false ∧ ∀ c, jtagAvailable 2 (.halt c) = false) ∧
    (∀ w, jtagAvailable (lifeCycle s) .mailbox = true →
      ((s.host.dbgIn ++ le 4 w).length < 4 + 4 * cdiv (rd (s.host.dbgIn ++ le 4 w) 0 4) 4 →
        exec (.debugMailboxWrite w) s = .next { s with host := { s.host with dbgIn := s.host.dbgIn ++ le 4 w } }) ∧
      (4 + 4 * cdiv (rd (s.host.dbgIn ++ le 4 w) 0 4) 4 ≤ (s.host.dbgIn ++ le 4 w).length →
        exec (.debugMailboxWrite w) s = .next (receivePacket .debug
          (slice (s.host.dbgIn ++ le 4 w) 4 (rd (s.host.dbgIn ++ le 4 w) 0 4))
          { s with host := { s.host with dbgIn := [] } })))

/-! ### Supplies, the governor and temperatures (chapter 20) -/

/-- Supplies and temperatures (R577, R578, R580 to R582, R585): a voltage request moves by at most 10 mV, at least 1 ms after the
last and while no load ramps, and the third without an acknowledgement raises EV1251 for good; at a 1 µs boundary the first waiting load that fits is switched on, and the rises of all admitted stay within
36 A in every window; an undervoltage raises EV1250 and holds the device in reset until every rail is valid; a power-up loses the
retention state; the hottest sensor raises EV1248 and EV1249 as it crosses them, and the thermal hold goes once it reads no more
than the upper limit. -/
def Obligations.PowerEvents : Prop :=
  ∀ (s : State),
    (∀ ack slew, s.power.avsFailed = false → s.boot.ready = true → (∀ t, s.power.lastRequest = some t → t + ticksPerMs ≤ now s) →
      ramping s = false → nextMv s ≠ s.power.requestedMv → ∃ u,
      u = emit (.avs (nextMv s)) { s with power := { s.power with lastRequest := some (now s) } } ∧
      (ack = true → exec (.avsRequest ack slew) s = .next { u with power := { u.power with
        requestedMv := nextMv s, attempts := 0, slewUntil := some (now s + slew * ticksPerNs) } }) ∧
      (ack = false → s.power.attempts < 2 →
        exec (.avsRequest ack slew) s = .next { u with power := { u.power with attempts := s.power.attempts + 1 } }) ∧
      (ack = false → 2 ≤ s.power.attempts → exec (.avsRequest ack slew) s = .next
        (raise 1251 0 (nextMv s) { u with power := { u.power with attempts := 3, avsFailed := true } }))) ∧
    (nextMv s ≤ s.power.requestedMv + 10 ∧ s.power.requestedMv ≤ nextMv s + 10) ∧
    (∀ ack slew, s.power.avsFailed = true ∨ ramping s = true →
      exec (.avsRequest ack slew) s = .next s) ∧
    (∀ l, s.boot.inReset = false → now s % ticksPerUs = 0 → nextLoad s = some l →
      ∃ adm, exec .governorAdmission s = .next (switchOn l { s with power := { s.power with
          waiting := s.power.waiting.erase l, admitted := adm } }) ∧
        l ∈ s.power.waiting ∧ risesFit (s.power.admitted ++ admittedAs s l) = true) ∧
    (nextLoad s = none → exec .governorAdmission s = .next s) ∧
    (∀ t, s.power.slewUntil = some t → now s < t + 100 * ticksPerUs → exec .governorAdmission s = .next s) ∧
    (∀ rail mv, rail < 9 → monitorTrips s rail mv = true → s.boot.inReset = false → ∃ t,
      exec (.supplyUndervoltage rail mv) s = .next (raise 1250 rail mv t) ∧ t.power.brownHold = true ∧
      t = { s with power := { s.power with brownHold := true, rails := t.power.rails } }) ∧
    (∀ rail mv, rail < 9 → monitorTrips s rail mv = false → exec (.supplyUndervoltage rail mv) s = .next s) ∧
    (∀ mv, (monitorTrips s 0 mv = true ↔ mv + 45 < s.power.requestedMv) ∧ (monitorTrips s 4 mv = true ↔ mv < 1656)) ∧
    (∀ mv, mv < 760 → ∃ t, exec (.supplyUndervoltage 9 mv) s = .next t ∧ t.ev.retention = [] ∧ t.boot.inReset = true) ∧
    (∀ l : List Nat, (∀ r < 10, 95 * (if r = 0 then s.power.requestedMv else railNominal r) ≤ 100 * l.getD r 0) →
      ∃ t, exec (.supplyRestored l) s = .next t ∧ t.power.brownHold = false ∧
        t = { s with power := { s.power with brownHold := false, rails := t.power.rails } }) ∧
    (∃ t, exec .powerUp s = .next t ∧ t.boot.inReset = true ∧ t.boot.resetN = false ∧ t.boot.bootCount = 0 ∧ t.power.requestedMv = 800 ∧
      t.ev.retention = [] ∧ t.boot.userCase = s.boot.userCase) ∧
    (∀ temps t, s.boot.inReset = false → t = temps.foldl max (-128) → ∃ u,
      u = { s with power := { s.power with
        temps := temps.zipIdx.map fun x => (x.2, x.1)
        boosted := boostNow t s.power.boosted
        thermalHold := (s.power.thermalHold || decide (upperLimit + 10 ≤ t)) && decide (upperLimit < t) } } ∧
      (t < upperLimit - 5 → exec (.thermalThreshold temps) s = .next u) ∧
      ((hottest s).getD (-128) < upperLimit - 5 → upperLimit - 5 ≤ t → t < upperLimit + 10 →
        exec (.thermalThreshold temps) s = .next (raise 1248 (hottestSensor temps) (t % 4294967296).toNat u)) ∧
      (upperLimit - 5 ≤ (hottest s).getD (-128) → (hottest s).getD (-128) < upperLimit + 10 → upperLimit + 10 ≤ t →
        exec (.thermalThreshold temps) s = .next (raise 1249 (hottestSensor temps) (t % 4294967296).toNat u)))

/-! ### The whole device -/

/-- A step takes the command at the front of the queue and gives exec's outcome on the state with the queue's rest. With no
command waiting a TIME cycle passes (the model's choice, assumption 1): nothing but the time base changes, and in reset nothing. -/
def Obligations.StepRunsFront : Prop :=
  (∀ (c : Instr) (rest : List Instr) (s : State), s.pending = c :: rest → step s = exec c { s with pending := rest }) ∧
    ∀ (s : State), s.pending = [] →
      (s.boot.inReset = false → step s = .next { s with tb := tickBase s.tb }) ∧ (s.boot.inReset = true → step s = .next s)

/-- Every step takes its command off the queue, which no meaning changes, and keeps the time base sound: its increments below a
second (R381), its rate word within ±20 ppm (R382). On an empty queue the time base ticks (the model's choice, assumption 1). -/
def Obligations.QueueAndTimeKept : Prop :=
  ∀ (s t : State), step s = .next t → t.pending = s.pending.tail ∧ (timeSound s → timeSound t)

/-- The machine right after reset (the model's choice where the specification gives no value): the queue is empty, the device is
in reset and not ready, the time base stands at zero and is sound, and every table of the spine is in its canonical form. -/
def Obligations.ResetState : Prop :=
  State.reset.pending = [] ∧ State.reset.boot.inReset = true ∧ State.reset.boot.ready = false ∧
    State.reset.tb.sec = 0 ∧ State.reset.tb.inc = 0 ∧ State.reset.tb.acquired = false ∧ State.reset.spine.dst = [] ∧
    State.reset.ev.pend = 0 ∧ State.reset.ev.log = [] ∧ (∀ q, (qpAt State.reset q).enable = false ∧ (qpAt State.reset q).sqLog2 = 4) ∧
    timeSound State.reset ∧ spineSound State.reset
end

