-- ==== Sys2Proof/Laws/Cells.lean ====
section
/-! SUPPORT. Fabric cells: a cell built with its CRC passes the check of R210. -/

namespace Sys2Proof.Machine

@[simp] theorem le_length (n v : Nat) : (le n v).length = n := by
  induction n generalizing v with
  | zero => rfl
  | succ k ih => simp [le, ih]

theorem crc16_lt (bs : Bytes) : crc16 bs < 65536 := (bs.foldl crc16Byte 0xFFFF#16).isLt

theorem rd_le_two (v : Nat) (a b : Bytes) (n : Nat) (hn : a.length = n) (hv : v < 65536) :
    rd (a ++ le 2 v ++ b) n 2 = v := by
  subst hn
  simp [rd, slice, le, leNat]
  omega

/-- The CRC field of a block of at least 16 bytes makes its check pass, whatever the field held. -/
theorem cellCrc_sealed (c : Bytes) (h : 16 ≤ c.length) :
    cellCrc (c.take 14 ++ le 2 (cellCrc c) ++ c.drop 16) = rd (c.take 14 ++ le 2 (cellCrc c) ++ c.drop 16) 14 2 := by
  rw [rd_le_two (cellCrc c) _ _ 14 (by simp; omega) (crc16_lt _)]
  have h1 : (c.take 14).length = 14 := by simp; omega
  unfold cellCrc
  congr 1
  simp [List.drop_append, h1]

end Sys2Proof.Machine
end

