-- ==== Sys2Proof/Laws/Command.lean ====
section
/-! SUPPORT. How a command of Table 04.11 runs: what later proofs cite in place of `command`. -/

namespace Sys2Proof.Laws

open Sys2Proof.Machine Sys2Proof.Safety

/-- A command that starts executes in the state that `begun` gives, and is answered at once or later. -/
theorem command_starts {op : Nat} {r : Req} {s : State} {body : Req → State → Ans}
    (hc : (catalogue op).isSome = true) (h : Starts op r s) :
    command op body r s =
      match (body r (begun op r s)).later with
      | some info => deferredBy op r info (body r (begun op r s)).st
      | none => answered op r (body r (begun op r s)) := by
  obtain ⟨h1, h2, h3⟩ := h
  obtain ⟨row, hrow⟩ := Option.isSome_iff_exists.mp hc
  have hr : rowOf op = row := by simp [rowOf, hrow]
  rw [hr] at h1 h2
  simp only [command, hrow, h1, h2, h3, begun, answered, deferredBy, hr, if_true, Bool.false_eq_true, if_false] <;>
    rfl

/-- A command that may not start waits, where the device takes commands. -/
theorem command_waits {op : Nat} {r : Req} {s : State} {body : Req → State → Ans}
    (hc : (catalogue op).isSome = true) (h : canStart (rowOf op) r s = false) :
    command op body r s = if s.boot.ready = true ∨ s.boot.stage = 15 then await op r s else s := by
  obtain ⟨row, hrow⟩ := Option.isSome_iff_exists.mp hc
  have hr : rowOf op = row := by simp [rowOf, hrow]
  rw [hr] at h
  simp [command, hrow, h]

/-- A command that starts and fails a step of 7 to 11 is answered with that refusal. -/
theorem command_refused {op : Nat} {r : Req} {s : State} {body : Req → State → Ans} {st d : Nat}
    (hc : (catalogue op).isSome = true) (h1 : canStart (rowOf op) r s = true) (h3 : r.dup = false)
    (h2 : precheck (rowOf op) r s = some (st, d)) :
    command op body r s = answered op r (refuse (begun op r s) st d) := by
  obtain ⟨row, hrow⟩ := Option.isSome_iff_exists.mp hc
  have hr : rowOf op = row := by simp [rowOf, hrow]
  rw [hr] at h1 h2
  simp only [command, hrow, h1, h2, h3, begun, answered, hr, if_true, Bool.false_eq_true, if_false]

/-- A parameter block of the right length passes the check of its length. -/
theorem needLen_ok {n : Nat} {r : Req} {s : State} {k : Unit → Ans} (h : r.params.length = n) :
    needLen n r s k = k () := by simp [needLen, h]

/-- Parameters of good form pass the check of their form. -/
theorem needForm_ok {l : List (Bool × Nat)} {s : State} {k : Unit → Ans} (h : ∀ x ∈ l, x.1 = true) :
    needForm l s k = k () := by
  have : firstBad l = none := by
    induction l with
    | nil => rfl
    | cons a t ih =>
      have ha := h a (by simp)
      obtain ⟨b, o⟩ := a
      simp only at ha
      subst ha
      simpa [firstBad] using ih fun x hx => h x (by simp [hx])
  simp [needForm, this]

end Sys2Proof.Laws
end

