-- ==== Sys2Proof/Laws/State.lean ====
section
/-! SUPPORT. What each update of one part of the state leaves as it was: one lemma for each update and each other field. -/

namespace Sys2Proof.Laws

open Sys2Proof Sys2Proof.Machine Sys2Proof.Safety

set_option linter.unusedSimpArgs false
set_option linter.unusedTactic false
set_option linter.unreachableTactic false

@[simp] theorem emit_pending (o : Out) (s : State) : (emit o s).pending = s.pending := (rfl)
@[simp] theorem emit_free (o : Out) (s : State) : (emit o s).free = s.free := (rfl)
@[simp] theorem emit_tb (o : Out) (s : State) : (emit o s).tb = s.tb := (rfl)
@[simp] theorem emit_cmds (o : Out) (s : State) : (emit o s).cmds = s.cmds := (rfl)
@[simp] theorem emit_quire (o : Out) (s : State) : (emit o s).quire = s.quire := (rfl)
@[simp] theorem emit_drv (o : Out) (s : State) : (emit o s).drv = s.drv := (rfl)
@[simp] theorem emit_ev (o : Out) (s : State) : (emit o s).ev = s.ev := (rfl)
@[simp] theorem emit_spine (o : Out) (s : State) : (emit o s).spine = s.spine := (rfl)
@[simp] theorem emit_fabric (o : Out) (s : State) : (emit o s).fabric = s.fabric := (rfl)
@[simp] theorem emit_twin (o : Out) (s : State) : (emit o s).twin = s.twin := (rfl)
@[simp] theorem emit_flock (o : Out) (s : State) : (emit o s).flock = s.flock := (rfl)
@[simp] theorem emit_boot (o : Out) (s : State) : (emit o s).boot = s.boot := (rfl)
@[simp] theorem emit_keys (o : Out) (s : State) : (emit o s).keys = s.keys := (rfl)
@[simp] theorem emit_host (o : Out) (s : State) : (emit o s).host = s.host := (rfl)
@[simp] theorem emit_power (o : Out) (s : State) : (emit o s).power = s.power := (rfl)
@[simp] theorem emit_time (o : Out) (s : State) : (emit o s).time = s.time := (rfl)
@[simp] theorem emit_lanes (o : Out) (s : State) : (emit o s).lanes = s.lanes := (rfl)
@[simp] theorem emit_net (o : Out) (s : State) : (emit o s).net = s.net := (rfl)
@[simp] theorem emit_dram (o : Out) (s : State) : (emit o s).dram = s.dram := (rfl)
@[simp] theorem emit_layers (o : Out) (s : State) : (emit o s).layers = s.layers := (rfl)
@[simp] theorem emit_audio (o : Out) (s : State) : (emit o s).audio = s.audio := (rfl)
@[simp] theorem emit_apt (o : Out) (s : State) : (emit o s).apt = s.apt := (rfl)

@[simp] theorem setAudio_pending (f : Audio → Audio) (s : State) : (setAudio f s).pending = s.pending := (rfl)
@[simp] theorem setAudio_out (f : Audio → Audio) (s : State) : (setAudio f s).out = s.out := (rfl)
@[simp] theorem setAudio_free (f : Audio → Audio) (s : State) : (setAudio f s).free = s.free := (rfl)
@[simp] theorem setAudio_tb (f : Audio → Audio) (s : State) : (setAudio f s).tb = s.tb := (rfl)
@[simp] theorem setAudio_cmds (f : Audio → Audio) (s : State) : (setAudio f s).cmds = s.cmds := (rfl)
@[simp] theorem setAudio_quire (f : Audio → Audio) (s : State) : (setAudio f s).quire = s.quire := (rfl)
@[simp] theorem setAudio_drv (f : Audio → Audio) (s : State) : (setAudio f s).drv = s.drv := (rfl)
@[simp] theorem setAudio_ev (f : Audio → Audio) (s : State) : (setAudio f s).ev = s.ev := (rfl)
@[simp] theorem setAudio_spine (f : Audio → Audio) (s : State) : (setAudio f s).spine = s.spine := (rfl)
@[simp] theorem setAudio_fabric (f : Audio → Audio) (s : State) : (setAudio f s).fabric = s.fabric := (rfl)
@[simp] theorem setAudio_twin (f : Audio → Audio) (s : State) : (setAudio f s).twin = s.twin := (rfl)
@[simp] theorem setAudio_flock (f : Audio → Audio) (s : State) : (setAudio f s).flock = s.flock := (rfl)
@[simp] theorem setAudio_boot (f : Audio → Audio) (s : State) : (setAudio f s).boot = s.boot := (rfl)
@[simp] theorem setAudio_keys (f : Audio → Audio) (s : State) : (setAudio f s).keys = s.keys := (rfl)
@[simp] theorem setAudio_host (f : Audio → Audio) (s : State) : (setAudio f s).host = s.host := (rfl)
@[simp] theorem setAudio_power (f : Audio → Audio) (s : State) : (setAudio f s).power = s.power := (rfl)
@[simp] theorem setAudio_time (f : Audio → Audio) (s : State) : (setAudio f s).time = s.time := (rfl)
@[simp] theorem setAudio_lanes (f : Audio → Audio) (s : State) : (setAudio f s).lanes = s.lanes := (rfl)
@[simp] theorem setAudio_net (f : Audio → Audio) (s : State) : (setAudio f s).net = s.net := (rfl)
@[simp] theorem setAudio_dram (f : Audio → Audio) (s : State) : (setAudio f s).dram = s.dram := (rfl)
@[simp] theorem setAudio_layers (f : Audio → Audio) (s : State) : (setAudio f s).layers = s.layers := (rfl)
@[simp] theorem setAudio_apt (f : Audio → Audio) (s : State) : (setAudio f s).apt = s.apt := (rfl)

@[simp] theorem setEv_pending (f : Events → Events) (s : State) : (setEv f s).pending = s.pending := (rfl)
@[simp] theorem setEv_out (f : Events → Events) (s : State) : (setEv f s).out = s.out := (rfl)
@[simp] theorem setEv_free (f : Events → Events) (s : State) : (setEv f s).free = s.free := (rfl)
@[simp] theorem setEv_tb (f : Events → Events) (s : State) : (setEv f s).tb = s.tb := (rfl)
@[simp] theorem setEv_cmds (f : Events → Events) (s : State) : (setEv f s).cmds = s.cmds := (rfl)
@[simp] theorem setEv_quire (f : Events → Events) (s : State) : (setEv f s).quire = s.quire := (rfl)
@[simp] theorem setEv_drv (f : Events → Events) (s : State) : (setEv f s).drv = s.drv := (rfl)
@[simp] theorem setEv_spine (f : Events → Events) (s : State) : (setEv f s).spine = s.spine := (rfl)
@[simp] theorem setEv_fabric (f : Events → Events) (s : State) : (setEv f s).fabric = s.fabric := (rfl)
@[simp] theorem setEv_twin (f : Events → Events) (s : State) : (setEv f s).twin = s.twin := (rfl)
@[simp] theorem setEv_flock (f : Events → Events) (s : State) : (setEv f s).flock = s.flock := (rfl)
@[simp] theorem setEv_boot (f : Events → Events) (s : State) : (setEv f s).boot = s.boot := (rfl)
@[simp] theorem setEv_keys (f : Events → Events) (s : State) : (setEv f s).keys = s.keys := (rfl)
@[simp] theorem setEv_host (f : Events → Events) (s : State) : (setEv f s).host = s.host := (rfl)
@[simp] theorem setEv_power (f : Events → Events) (s : State) : (setEv f s).power = s.power := (rfl)
@[simp] theorem setEv_time (f : Events → Events) (s : State) : (setEv f s).time = s.time := (rfl)
@[simp] theorem setEv_lanes (f : Events → Events) (s : State) : (setEv f s).lanes = s.lanes := (rfl)
@[simp] theorem setEv_net (f : Events → Events) (s : State) : (setEv f s).net = s.net := (rfl)
@[simp] theorem setEv_dram (f : Events → Events) (s : State) : (setEv f s).dram = s.dram := (rfl)
@[simp] theorem setEv_layers (f : Events → Events) (s : State) : (setEv f s).layers = s.layers := (rfl)
@[simp] theorem setEv_audio (f : Events → Events) (s : State) : (setEv f s).audio = s.audio := (rfl)
@[simp] theorem setEv_apt (f : Events → Events) (s : State) : (setEv f s).apt = s.apt := (rfl)

@[simp] theorem setFlock_pending (f : Flock → Flock) (s : State) : (setFlock f s).pending = s.pending := (rfl)
@[simp] theorem setFlock_out (f : Flock → Flock) (s : State) : (setFlock f s).out = s.out := (rfl)
@[simp] theorem setFlock_free (f : Flock → Flock) (s : State) : (setFlock f s).free = s.free := (rfl)
@[simp] theorem setFlock_tb (f : Flock → Flock) (s : State) : (setFlock f s).tb = s.tb := (rfl)
@[simp] theorem setFlock_cmds (f : Flock → Flock) (s : State) : (setFlock f s).cmds = s.cmds := (rfl)
@[simp] theorem setFlock_quire (f : Flock → Flock) (s : State) : (setFlock f s).quire = s.quire := (rfl)
@[simp] theorem setFlock_drv (f : Flock → Flock) (s : State) : (setFlock f s).drv = s.drv := (rfl)
@[simp] theorem setFlock_ev (f : Flock → Flock) (s : State) : (setFlock f s).ev = s.ev := (rfl)
@[simp] theorem setFlock_spine (f : Flock → Flock) (s : State) : (setFlock f s).spine = s.spine := (rfl)
@[simp] theorem setFlock_fabric (f : Flock → Flock) (s : State) : (setFlock f s).fabric = s.fabric := (rfl)
@[simp] theorem setFlock_twin (f : Flock → Flock) (s : State) : (setFlock f s).twin = s.twin := (rfl)
@[simp] theorem setFlock_boot (f : Flock → Flock) (s : State) : (setFlock f s).boot = s.boot := (rfl)
@[simp] theorem setFlock_keys (f : Flock → Flock) (s : State) : (setFlock f s).keys = s.keys := (rfl)
@[simp] theorem setFlock_host (f : Flock → Flock) (s : State) : (setFlock f s).host = s.host := (rfl)
@[simp] theorem setFlock_power (f : Flock → Flock) (s : State) : (setFlock f s).power = s.power := (rfl)
@[simp] theorem setFlock_time (f : Flock → Flock) (s : State) : (setFlock f s).time = s.time := (rfl)
@[simp] theorem setFlock_lanes (f : Flock → Flock) (s : State) : (setFlock f s).lanes = s.lanes := (rfl)
@[simp] theorem setFlock_net (f : Flock → Flock) (s : State) : (setFlock f s).net = s.net := (rfl)
@[simp] theorem setFlock_dram (f : Flock → Flock) (s : State) : (setFlock f s).dram = s.dram := (rfl)
@[simp] theorem setFlock_layers (f : Flock → Flock) (s : State) : (setFlock f s).layers = s.layers := (rfl)
@[simp] theorem setFlock_audio (f : Flock → Flock) (s : State) : (setFlock f s).audio = s.audio := (rfl)
@[simp] theorem setFlock_apt (f : Flock → Flock) (s : State) : (setFlock f s).apt = s.apt := (rfl)

@[simp] theorem setHost_pending (f : Host19 → Host19) (s : State) : (setHost f s).pending = s.pending := (rfl)
@[simp] theorem setHost_out (f : Host19 → Host19) (s : State) : (setHost f s).out = s.out := (rfl)
@[simp] theorem setHost_free (f : Host19 → Host19) (s : State) : (setHost f s).free = s.free := (rfl)
@[simp] theorem setHost_tb (f : Host19 → Host19) (s : State) : (setHost f s).tb = s.tb := (rfl)
@[simp] theorem setHost_cmds (f : Host19 → Host19) (s : State) : (setHost f s).cmds = s.cmds := (rfl)
@[simp] theorem setHost_quire (f : Host19 → Host19) (s : State) : (setHost f s).quire = s.quire := (rfl)
@[simp] theorem setHost_drv (f : Host19 → Host19) (s : State) : (setHost f s).drv = s.drv := (rfl)
@[simp] theorem setHost_ev (f : Host19 → Host19) (s : State) : (setHost f s).ev = s.ev := (rfl)
@[simp] theorem setHost_spine (f : Host19 → Host19) (s : State) : (setHost f s).spine = s.spine := (rfl)
@[simp] theorem setHost_fabric (f : Host19 → Host19) (s : State) : (setHost f s).fabric = s.fabric := (rfl)
@[simp] theorem setHost_twin (f : Host19 → Host19) (s : State) : (setHost f s).twin = s.twin := (rfl)
@[simp] theorem setHost_flock (f : Host19 → Host19) (s : State) : (setHost f s).flock = s.flock := (rfl)
@[simp] theorem setHost_boot (f : Host19 → Host19) (s : State) : (setHost f s).boot = s.boot := (rfl)
@[simp] theorem setHost_keys (f : Host19 → Host19) (s : State) : (setHost f s).keys = s.keys := (rfl)
@[simp] theorem setHost_power (f : Host19 → Host19) (s : State) : (setHost f s).power = s.power := (rfl)
@[simp] theorem setHost_time (f : Host19 → Host19) (s : State) : (setHost f s).time = s.time := (rfl)
@[simp] theorem setHost_lanes (f : Host19 → Host19) (s : State) : (setHost f s).lanes = s.lanes := (rfl)
@[simp] theorem setHost_net (f : Host19 → Host19) (s : State) : (setHost f s).net = s.net := (rfl)
@[simp] theorem setHost_dram (f : Host19 → Host19) (s : State) : (setHost f s).dram = s.dram := (rfl)
@[simp] theorem setHost_layers (f : Host19 → Host19) (s : State) : (setHost f s).layers = s.layers := (rfl)
@[simp] theorem setHost_audio (f : Host19 → Host19) (s : State) : (setHost f s).audio = s.audio := (rfl)
@[simp] theorem setHost_apt (f : Host19 → Host19) (s : State) : (setHost f s).apt = s.apt := (rfl)

@[simp] theorem setKeys_pending (f : Keys → Keys) (s : State) : (setKeys f s).pending = s.pending := (rfl)
@[simp] theorem setKeys_out (f : Keys → Keys) (s : State) : (setKeys f s).out = s.out := (rfl)
@[simp] theorem setKeys_free (f : Keys → Keys) (s : State) : (setKeys f s).free = s.free := (rfl)
@[simp] theorem setKeys_tb (f : Keys → Keys) (s : State) : (setKeys f s).tb = s.tb := (rfl)
@[simp] theorem setKeys_cmds (f : Keys → Keys) (s : State) : (setKeys f s).cmds = s.cmds := (rfl)
@[simp] theorem setKeys_quire (f : Keys → Keys) (s : State) : (setKeys f s).quire = s.quire := (rfl)
@[simp] theorem setKeys_drv (f : Keys → Keys) (s : State) : (setKeys f s).drv = s.drv := (rfl)
@[simp] theorem setKeys_ev (f : Keys → Keys) (s : State) : (setKeys f s).ev = s.ev := (rfl)
@[simp] theorem setKeys_spine (f : Keys → Keys) (s : State) : (setKeys f s).spine = s.spine := (rfl)
@[simp] theorem setKeys_fabric (f : Keys → Keys) (s : State) : (setKeys f s).fabric = s.fabric := (rfl)
@[simp] theorem setKeys_twin (f : Keys → Keys) (s : State) : (setKeys f s).twin = s.twin := (rfl)
@[simp] theorem setKeys_flock (f : Keys → Keys) (s : State) : (setKeys f s).flock = s.flock := (rfl)
@[simp] theorem setKeys_boot (f : Keys → Keys) (s : State) : (setKeys f s).boot = s.boot := (rfl)
@[simp] theorem setKeys_host (f : Keys → Keys) (s : State) : (setKeys f s).host = s.host := (rfl)
@[simp] theorem setKeys_power (f : Keys → Keys) (s : State) : (setKeys f s).power = s.power := (rfl)
@[simp] theorem setKeys_time (f : Keys → Keys) (s : State) : (setKeys f s).time = s.time := (rfl)
@[simp] theorem setKeys_lanes (f : Keys → Keys) (s : State) : (setKeys f s).lanes = s.lanes := (rfl)
@[simp] theorem setKeys_net (f : Keys → Keys) (s : State) : (setKeys f s).net = s.net := (rfl)
@[simp] theorem setKeys_dram (f : Keys → Keys) (s : State) : (setKeys f s).dram = s.dram := (rfl)
@[simp] theorem setKeys_layers (f : Keys → Keys) (s : State) : (setKeys f s).layers = s.layers := (rfl)
@[simp] theorem setKeys_audio (f : Keys → Keys) (s : State) : (setKeys f s).audio = s.audio := (rfl)
@[simp] theorem setKeys_apt (f : Keys → Keys) (s : State) : (setKeys f s).apt = s.apt := (rfl)

@[simp] theorem setTime_pending (f : TimeSvc → TimeSvc) (s : State) : (setTime f s).pending = s.pending := (rfl)
@[simp] theorem setTime_out (f : TimeSvc → TimeSvc) (s : State) : (setTime f s).out = s.out := (rfl)
@[simp] theorem setTime_free (f : TimeSvc → TimeSvc) (s : State) : (setTime f s).free = s.free := (rfl)
@[simp] theorem setTime_tb (f : TimeSvc → TimeSvc) (s : State) : (setTime f s).tb = s.tb := (rfl)
@[simp] theorem setTime_cmds (f : TimeSvc → TimeSvc) (s : State) : (setTime f s).cmds = s.cmds := (rfl)
@[simp] theorem setTime_quire (f : TimeSvc → TimeSvc) (s : State) : (setTime f s).quire = s.quire := (rfl)
@[simp] theorem setTime_drv (f : TimeSvc → TimeSvc) (s : State) : (setTime f s).drv = s.drv := (rfl)
@[simp] theorem setTime_ev (f : TimeSvc → TimeSvc) (s : State) : (setTime f s).ev = s.ev := (rfl)
@[simp] theorem setTime_spine (f : TimeSvc → TimeSvc) (s : State) : (setTime f s).spine = s.spine := (rfl)
@[simp] theorem setTime_fabric (f : TimeSvc → TimeSvc) (s : State) : (setTime f s).fabric = s.fabric := (rfl)
@[simp] theorem setTime_twin (f : TimeSvc → TimeSvc) (s : State) : (setTime f s).twin = s.twin := (rfl)
@[simp] theorem setTime_flock (f : TimeSvc → TimeSvc) (s : State) : (setTime f s).flock = s.flock := (rfl)
@[simp] theorem setTime_boot (f : TimeSvc → TimeSvc) (s : State) : (setTime f s).boot = s.boot := (rfl)
@[simp] theorem setTime_keys (f : TimeSvc → TimeSvc) (s : State) : (setTime f s).keys = s.keys := (rfl)
@[simp] theorem setTime_host (f : TimeSvc → TimeSvc) (s : State) : (setTime f s).host = s.host := (rfl)
@[simp] theorem setTime_power (f : TimeSvc → TimeSvc) (s : State) : (setTime f s).power = s.power := (rfl)
@[simp] theorem setTime_lanes (f : TimeSvc → TimeSvc) (s : State) : (setTime f s).lanes = s.lanes := (rfl)
@[simp] theorem setTime_net (f : TimeSvc → TimeSvc) (s : State) : (setTime f s).net = s.net := (rfl)
@[simp] theorem setTime_dram (f : TimeSvc → TimeSvc) (s : State) : (setTime f s).dram = s.dram := (rfl)
@[simp] theorem setTime_layers (f : TimeSvc → TimeSvc) (s : State) : (setTime f s).layers = s.layers := (rfl)
@[simp] theorem setTime_audio (f : TimeSvc → TimeSvc) (s : State) : (setTime f s).audio = s.audio := (rfl)
@[simp] theorem setTime_apt (f : TimeSvc → TimeSvc) (s : State) : (setTime f s).apt = s.apt := (rfl)

@[simp] theorem setDpll_pending (f : Dpll → Dpll) (s : State) : (setDpll f s).pending = s.pending := (rfl)
@[simp] theorem setDpll_out (f : Dpll → Dpll) (s : State) : (setDpll f s).out = s.out := (rfl)
@[simp] theorem setDpll_free (f : Dpll → Dpll) (s : State) : (setDpll f s).free = s.free := (rfl)
@[simp] theorem setDpll_tb (f : Dpll → Dpll) (s : State) : (setDpll f s).tb = s.tb := (rfl)
@[simp] theorem setDpll_cmds (f : Dpll → Dpll) (s : State) : (setDpll f s).cmds = s.cmds := (rfl)
@[simp] theorem setDpll_quire (f : Dpll → Dpll) (s : State) : (setDpll f s).quire = s.quire := (rfl)
@[simp] theorem setDpll_drv (f : Dpll → Dpll) (s : State) : (setDpll f s).drv = s.drv := (rfl)
@[simp] theorem setDpll_ev (f : Dpll → Dpll) (s : State) : (setDpll f s).ev = s.ev := (rfl)
@[simp] theorem setDpll_spine (f : Dpll → Dpll) (s : State) : (setDpll f s).spine = s.spine := (rfl)
@[simp] theorem setDpll_fabric (f : Dpll → Dpll) (s : State) : (setDpll f s).fabric = s.fabric := (rfl)
@[simp] theorem setDpll_twin (f : Dpll → Dpll) (s : State) : (setDpll f s).twin = s.twin := (rfl)
@[simp] theorem setDpll_flock (f : Dpll → Dpll) (s : State) : (setDpll f s).flock = s.flock := (rfl)
@[simp] theorem setDpll_boot (f : Dpll → Dpll) (s : State) : (setDpll f s).boot = s.boot := (rfl)
@[simp] theorem setDpll_keys (f : Dpll → Dpll) (s : State) : (setDpll f s).keys = s.keys := (rfl)
@[simp] theorem setDpll_host (f : Dpll → Dpll) (s : State) : (setDpll f s).host = s.host := (rfl)
@[simp] theorem setDpll_power (f : Dpll → Dpll) (s : State) : (setDpll f s).power = s.power := (rfl)
@[simp] theorem setDpll_lanes (f : Dpll → Dpll) (s : State) : (setDpll f s).lanes = s.lanes := (rfl)
@[simp] theorem setDpll_net (f : Dpll → Dpll) (s : State) : (setDpll f s).net = s.net := (rfl)
@[simp] theorem setDpll_dram (f : Dpll → Dpll) (s : State) : (setDpll f s).dram = s.dram := (rfl)
@[simp] theorem setDpll_layers (f : Dpll → Dpll) (s : State) : (setDpll f s).layers = s.layers := (rfl)
@[simp] theorem setDpll_audio (f : Dpll → Dpll) (s : State) : (setDpll f s).audio = s.audio := (rfl)
@[simp] theorem setDpll_apt (f : Dpll → Dpll) (s : State) : (setDpll f s).apt = s.apt := (rfl)

@[simp] theorem setPower_pending (f : Power → Power) (s : State) : (setPower f s).pending = s.pending := (rfl)
@[simp] theorem setPower_out (f : Power → Power) (s : State) : (setPower f s).out = s.out := (rfl)
@[simp] theorem setPower_free (f : Power → Power) (s : State) : (setPower f s).free = s.free := (rfl)
@[simp] theorem setPower_tb (f : Power → Power) (s : State) : (setPower f s).tb = s.tb := (rfl)
@[simp] theorem setPower_cmds (f : Power → Power) (s : State) : (setPower f s).cmds = s.cmds := (rfl)
@[simp] theorem setPower_quire (f : Power → Power) (s : State) : (setPower f s).quire = s.quire := (rfl)
@[simp] theorem setPower_drv (f : Power → Power) (s : State) : (setPower f s).drv = s.drv := (rfl)
@[simp] theorem setPower_ev (f : Power → Power) (s : State) : (setPower f s).ev = s.ev := (rfl)
@[simp] theorem setPower_spine (f : Power → Power) (s : State) : (setPower f s).spine = s.spine := (rfl)
@[simp] theorem setPower_fabric (f : Power → Power) (s : State) : (setPower f s).fabric = s.fabric := (rfl)
@[simp] theorem setPower_twin (f : Power → Power) (s : State) : (setPower f s).twin = s.twin := (rfl)
@[simp] theorem setPower_flock (f : Power → Power) (s : State) : (setPower f s).flock = s.flock := (rfl)
@[simp] theorem setPower_boot (f : Power → Power) (s : State) : (setPower f s).boot = s.boot := (rfl)
@[simp] theorem setPower_keys (f : Power → Power) (s : State) : (setPower f s).keys = s.keys := (rfl)
@[simp] theorem setPower_host (f : Power → Power) (s : State) : (setPower f s).host = s.host := (rfl)
@[simp] theorem setPower_time (f : Power → Power) (s : State) : (setPower f s).time = s.time := (rfl)
@[simp] theorem setPower_lanes (f : Power → Power) (s : State) : (setPower f s).lanes = s.lanes := (rfl)
@[simp] theorem setPower_net (f : Power → Power) (s : State) : (setPower f s).net = s.net := (rfl)
@[simp] theorem setPower_dram (f : Power → Power) (s : State) : (setPower f s).dram = s.dram := (rfl)
@[simp] theorem setPower_layers (f : Power → Power) (s : State) : (setPower f s).layers = s.layers := (rfl)
@[simp] theorem setPower_audio (f : Power → Power) (s : State) : (setPower f s).audio = s.audio := (rfl)
@[simp] theorem setPower_apt (f : Power → Power) (s : State) : (setPower f s).apt = s.apt := (rfl)

@[simp] theorem setQuires_pending (f : QuireState → QuireState) (s : State) : (setQuires f s).pending = s.pending := (rfl)
@[simp] theorem setQuires_out (f : QuireState → QuireState) (s : State) : (setQuires f s).out = s.out := (rfl)
@[simp] theorem setQuires_free (f : QuireState → QuireState) (s : State) : (setQuires f s).free = s.free := (rfl)
@[simp] theorem setQuires_tb (f : QuireState → QuireState) (s : State) : (setQuires f s).tb = s.tb := (rfl)
@[simp] theorem setQuires_cmds (f : QuireState → QuireState) (s : State) : (setQuires f s).cmds = s.cmds := (rfl)
@[simp] theorem setQuires_drv (f : QuireState → QuireState) (s : State) : (setQuires f s).drv = s.drv := (rfl)
@[simp] theorem setQuires_ev (f : QuireState → QuireState) (s : State) : (setQuires f s).ev = s.ev := (rfl)
@[simp] theorem setQuires_spine (f : QuireState → QuireState) (s : State) : (setQuires f s).spine = s.spine := (rfl)
@[simp] theorem setQuires_fabric (f : QuireState → QuireState) (s : State) : (setQuires f s).fabric = s.fabric := (rfl)
@[simp] theorem setQuires_twin (f : QuireState → QuireState) (s : State) : (setQuires f s).twin = s.twin := (rfl)
@[simp] theorem setQuires_flock (f : QuireState → QuireState) (s : State) : (setQuires f s).flock = s.flock := (rfl)
@[simp] theorem setQuires_boot (f : QuireState → QuireState) (s : State) : (setQuires f s).boot = s.boot := (rfl)
@[simp] theorem setQuires_keys (f : QuireState → QuireState) (s : State) : (setQuires f s).keys = s.keys := (rfl)
@[simp] theorem setQuires_host (f : QuireState → QuireState) (s : State) : (setQuires f s).host = s.host := (rfl)
@[simp] theorem setQuires_power (f : QuireState → QuireState) (s : State) : (setQuires f s).power = s.power := (rfl)
@[simp] theorem setQuires_time (f : QuireState → QuireState) (s : State) : (setQuires f s).time = s.time := (rfl)
@[simp] theorem setQuires_lanes (f : QuireState → QuireState) (s : State) : (setQuires f s).lanes = s.lanes := (rfl)
@[simp] theorem setQuires_net (f : QuireState → QuireState) (s : State) : (setQuires f s).net = s.net := (rfl)
@[simp] theorem setQuires_dram (f : QuireState → QuireState) (s : State) : (setQuires f s).dram = s.dram := (rfl)
@[simp] theorem setQuires_layers (f : QuireState → QuireState) (s : State) : (setQuires f s).layers = s.layers := (rfl)
@[simp] theorem setQuires_audio (f : QuireState → QuireState) (s : State) : (setQuires f s).audio = s.audio := (rfl)
@[simp] theorem setQuires_apt (f : QuireState → QuireState) (s : State) : (setQuires f s).apt = s.apt := (rfl)

@[simp] theorem setTwin_pending (f : Twin → Twin) (s : State) : (setTwin f s).pending = s.pending := (rfl)
@[simp] theorem setTwin_out (f : Twin → Twin) (s : State) : (setTwin f s).out = s.out := (rfl)
@[simp] theorem setTwin_free (f : Twin → Twin) (s : State) : (setTwin f s).free = s.free := (rfl)
@[simp] theorem setTwin_tb (f : Twin → Twin) (s : State) : (setTwin f s).tb = s.tb := (rfl)
@[simp] theorem setTwin_cmds (f : Twin → Twin) (s : State) : (setTwin f s).cmds = s.cmds := (rfl)
@[simp] theorem setTwin_quire (f : Twin → Twin) (s : State) : (setTwin f s).quire = s.quire := (rfl)
@[simp] theorem setTwin_drv (f : Twin → Twin) (s : State) : (setTwin f s).drv = s.drv := (rfl)
@[simp] theorem setTwin_ev (f : Twin → Twin) (s : State) : (setTwin f s).ev = s.ev := (rfl)
@[simp] theorem setTwin_spine (f : Twin → Twin) (s : State) : (setTwin f s).spine = s.spine := (rfl)
@[simp] theorem setTwin_fabric (f : Twin → Twin) (s : State) : (setTwin f s).fabric = s.fabric := (rfl)
@[simp] theorem setTwin_flock (f : Twin → Twin) (s : State) : (setTwin f s).flock = s.flock := (rfl)
@[simp] theorem setTwin_boot (f : Twin → Twin) (s : State) : (setTwin f s).boot = s.boot := (rfl)
@[simp] theorem setTwin_keys (f : Twin → Twin) (s : State) : (setTwin f s).keys = s.keys := (rfl)
@[simp] theorem setTwin_host (f : Twin → Twin) (s : State) : (setTwin f s).host = s.host := (rfl)
@[simp] theorem setTwin_power (f : Twin → Twin) (s : State) : (setTwin f s).power = s.power := (rfl)
@[simp] theorem setTwin_time (f : Twin → Twin) (s : State) : (setTwin f s).time = s.time := (rfl)
@[simp] theorem setTwin_lanes (f : Twin → Twin) (s : State) : (setTwin f s).lanes = s.lanes := (rfl)
@[simp] theorem setTwin_net (f : Twin → Twin) (s : State) : (setTwin f s).net = s.net := (rfl)
@[simp] theorem setTwin_dram (f : Twin → Twin) (s : State) : (setTwin f s).dram = s.dram := (rfl)
@[simp] theorem setTwin_layers (f : Twin → Twin) (s : State) : (setTwin f s).layers = s.layers := (rfl)
@[simp] theorem setTwin_audio (f : Twin → Twin) (s : State) : (setTwin f s).audio = s.audio := (rfl)
@[simp] theorem setTwin_apt (f : Twin → Twin) (s : State) : (setTwin f s).apt = s.apt := (rfl)

@[simp] theorem setBoot_pending (f : Boot → Boot) (s : State) : (setBoot f s).pending = s.pending := (rfl)
@[simp] theorem setBoot_out (f : Boot → Boot) (s : State) : (setBoot f s).out = s.out := (rfl)
@[simp] theorem setBoot_free (f : Boot → Boot) (s : State) : (setBoot f s).free = s.free := (rfl)
@[simp] theorem setBoot_tb (f : Boot → Boot) (s : State) : (setBoot f s).tb = s.tb := (rfl)
@[simp] theorem setBoot_cmds (f : Boot → Boot) (s : State) : (setBoot f s).cmds = s.cmds := (rfl)
@[simp] theorem setBoot_quire (f : Boot → Boot) (s : State) : (setBoot f s).quire = s.quire := (rfl)
@[simp] theorem setBoot_drv (f : Boot → Boot) (s : State) : (setBoot f s).drv = s.drv := (rfl)
@[simp] theorem setBoot_ev (f : Boot → Boot) (s : State) : (setBoot f s).ev = s.ev := (rfl)
@[simp] theorem setBoot_spine (f : Boot → Boot) (s : State) : (setBoot f s).spine = s.spine := (rfl)
@[simp] theorem setBoot_fabric (f : Boot → Boot) (s : State) : (setBoot f s).fabric = s.fabric := (rfl)
@[simp] theorem setBoot_twin (f : Boot → Boot) (s : State) : (setBoot f s).twin = s.twin := (rfl)
@[simp] theorem setBoot_flock (f : Boot → Boot) (s : State) : (setBoot f s).flock = s.flock := (rfl)
@[simp] theorem setBoot_keys (f : Boot → Boot) (s : State) : (setBoot f s).keys = s.keys := (rfl)
@[simp] theorem setBoot_host (f : Boot → Boot) (s : State) : (setBoot f s).host = s.host := (rfl)
@[simp] theorem setBoot_power (f : Boot → Boot) (s : State) : (setBoot f s).power = s.power := (rfl)
@[simp] theorem setBoot_time (f : Boot → Boot) (s : State) : (setBoot f s).time = s.time := (rfl)
@[simp] theorem setBoot_lanes (f : Boot → Boot) (s : State) : (setBoot f s).lanes = s.lanes := (rfl)
@[simp] theorem setBoot_net (f : Boot → Boot) (s : State) : (setBoot f s).net = s.net := (rfl)
@[simp] theorem setBoot_dram (f : Boot → Boot) (s : State) : (setBoot f s).dram = s.dram := (rfl)
@[simp] theorem setBoot_layers (f : Boot → Boot) (s : State) : (setBoot f s).layers = s.layers := (rfl)
@[simp] theorem setBoot_audio (f : Boot → Boot) (s : State) : (setBoot f s).audio = s.audio := (rfl)
@[simp] theorem setBoot_apt (f : Boot → Boot) (s : State) : (setBoot f s).apt = s.apt := (rfl)

@[simp] theorem setStitch_pending (f : Stitch → Stitch) (s : State) : (setStitch f s).pending = s.pending := (rfl)
@[simp] theorem setStitch_out (f : Stitch → Stitch) (s : State) : (setStitch f s).out = s.out := (rfl)
@[simp] theorem setStitch_free (f : Stitch → Stitch) (s : State) : (setStitch f s).free = s.free := (rfl)
@[simp] theorem setStitch_tb (f : Stitch → Stitch) (s : State) : (setStitch f s).tb = s.tb := (rfl)
@[simp] theorem setStitch_cmds (f : Stitch → Stitch) (s : State) : (setStitch f s).cmds = s.cmds := (rfl)
@[simp] theorem setStitch_quire (f : Stitch → Stitch) (s : State) : (setStitch f s).quire = s.quire := (rfl)
@[simp] theorem setStitch_drv (f : Stitch → Stitch) (s : State) : (setStitch f s).drv = s.drv := (rfl)
@[simp] theorem setStitch_ev (f : Stitch → Stitch) (s : State) : (setStitch f s).ev = s.ev := (rfl)
@[simp] theorem setStitch_spine (f : Stitch → Stitch) (s : State) : (setStitch f s).spine = s.spine := (rfl)
@[simp] theorem setStitch_twin (f : Stitch → Stitch) (s : State) : (setStitch f s).twin = s.twin := (rfl)
@[simp] theorem setStitch_flock (f : Stitch → Stitch) (s : State) : (setStitch f s).flock = s.flock := (rfl)
@[simp] theorem setStitch_boot (f : Stitch → Stitch) (s : State) : (setStitch f s).boot = s.boot := (rfl)
@[simp] theorem setStitch_keys (f : Stitch → Stitch) (s : State) : (setStitch f s).keys = s.keys := (rfl)
@[simp] theorem setStitch_host (f : Stitch → Stitch) (s : State) : (setStitch f s).host = s.host := (rfl)
@[simp] theorem setStitch_power (f : Stitch → Stitch) (s : State) : (setStitch f s).power = s.power := (rfl)
@[simp] theorem setStitch_time (f : Stitch → Stitch) (s : State) : (setStitch f s).time = s.time := (rfl)
@[simp] theorem setStitch_lanes (f : Stitch → Stitch) (s : State) : (setStitch f s).lanes = s.lanes := (rfl)
@[simp] theorem setStitch_net (f : Stitch → Stitch) (s : State) : (setStitch f s).net = s.net := (rfl)
@[simp] theorem setStitch_dram (f : Stitch → Stitch) (s : State) : (setStitch f s).dram = s.dram := (rfl)
@[simp] theorem setStitch_layers (f : Stitch → Stitch) (s : State) : (setStitch f s).layers = s.layers := (rfl)
@[simp] theorem setStitch_audio (f : Stitch → Stitch) (s : State) : (setStitch f s).audio = s.audio := (rfl)
@[simp] theorem setStitch_apt (f : Stitch → Stitch) (s : State) : (setStitch f s).apt = s.apt := (rfl)

@[simp] theorem setLane_pending (l : Nat) (f : Lane → Lane) (s : State) : (setLane l f s).pending = s.pending := (rfl)
@[simp] theorem setLane_out (l : Nat) (f : Lane → Lane) (s : State) : (setLane l f s).out = s.out := (rfl)
@[simp] theorem setLane_free (l : Nat) (f : Lane → Lane) (s : State) : (setLane l f s).free = s.free := (rfl)
@[simp] theorem setLane_tb (l : Nat) (f : Lane → Lane) (s : State) : (setLane l f s).tb = s.tb := (rfl)
@[simp] theorem setLane_cmds (l : Nat) (f : Lane → Lane) (s : State) : (setLane l f s).cmds = s.cmds := (rfl)
@[simp] theorem setLane_quire (l : Nat) (f : Lane → Lane) (s : State) : (setLane l f s).quire = s.quire := (rfl)
@[simp] theorem setLane_drv (l : Nat) (f : Lane → Lane) (s : State) : (setLane l f s).drv = s.drv := (rfl)
@[simp] theorem setLane_ev (l : Nat) (f : Lane → Lane) (s : State) : (setLane l f s).ev = s.ev := (rfl)
@[simp] theorem setLane_spine (l : Nat) (f : Lane → Lane) (s : State) : (setLane l f s).spine = s.spine := (rfl)
@[simp] theorem setLane_fabric (l : Nat) (f : Lane → Lane) (s : State) : (setLane l f s).fabric = s.fabric := (rfl)
@[simp] theorem setLane_twin (l : Nat) (f : Lane → Lane) (s : State) : (setLane l f s).twin = s.twin := (rfl)
@[simp] theorem setLane_flock (l : Nat) (f : Lane → Lane) (s : State) : (setLane l f s).flock = s.flock := (rfl)
@[simp] theorem setLane_boot (l : Nat) (f : Lane → Lane) (s : State) : (setLane l f s).boot = s.boot := (rfl)
@[simp] theorem setLane_keys (l : Nat) (f : Lane → Lane) (s : State) : (setLane l f s).keys = s.keys := (rfl)
@[simp] theorem setLane_host (l : Nat) (f : Lane → Lane) (s : State) : (setLane l f s).host = s.host := (rfl)
@[simp] theorem setLane_power (l : Nat) (f : Lane → Lane) (s : State) : (setLane l f s).power = s.power := (rfl)
@[simp] theorem setLane_time (l : Nat) (f : Lane → Lane) (s : State) : (setLane l f s).time = s.time := (rfl)
@[simp] theorem setLane_net (l : Nat) (f : Lane → Lane) (s : State) : (setLane l f s).net = s.net := (rfl)
@[simp] theorem setLane_dram (l : Nat) (f : Lane → Lane) (s : State) : (setLane l f s).dram = s.dram := (rfl)
@[simp] theorem setLane_layers (l : Nat) (f : Lane → Lane) (s : State) : (setLane l f s).layers = s.layers := (rfl)
@[simp] theorem setLane_audio (l : Nat) (f : Lane → Lane) (s : State) : (setLane l f s).audio = s.audio := (rfl)
@[simp] theorem setLane_apt (l : Nat) (f : Lane → Lane) (s : State) : (setLane l f s).apt = s.apt := (rfl)

@[simp] theorem setSrc_pending (i : Nat) (f : SrcSlot → SrcSlot) (s : State) : (setSrc i f s).pending = s.pending := (rfl)
@[simp] theorem setSrc_out (i : Nat) (f : SrcSlot → SrcSlot) (s : State) : (setSrc i f s).out = s.out := (rfl)
@[simp] theorem setSrc_free (i : Nat) (f : SrcSlot → SrcSlot) (s : State) : (setSrc i f s).free = s.free := (rfl)
@[simp] theorem setSrc_tb (i : Nat) (f : SrcSlot → SrcSlot) (s : State) : (setSrc i f s).tb = s.tb := (rfl)
@[simp] theorem setSrc_cmds (i : Nat) (f : SrcSlot → SrcSlot) (s : State) : (setSrc i f s).cmds = s.cmds := (rfl)
@[simp] theorem setSrc_quire (i : Nat) (f : SrcSlot → SrcSlot) (s : State) : (setSrc i f s).quire = s.quire := (rfl)
@[simp] theorem setSrc_drv (i : Nat) (f : SrcSlot → SrcSlot) (s : State) : (setSrc i f s).drv = s.drv := (rfl)
@[simp] theorem setSrc_ev (i : Nat) (f : SrcSlot → SrcSlot) (s : State) : (setSrc i f s).ev = s.ev := (rfl)
@[simp] theorem setSrc_fabric (i : Nat) (f : SrcSlot → SrcSlot) (s : State) : (setSrc i f s).fabric = s.fabric := (rfl)
@[simp] theorem setSrc_twin (i : Nat) (f : SrcSlot → SrcSlot) (s : State) : (setSrc i f s).twin = s.twin := (rfl)
@[simp] theorem setSrc_flock (i : Nat) (f : SrcSlot → SrcSlot) (s : State) : (setSrc i f s).flock = s.flock := (rfl)
@[simp] theorem setSrc_boot (i : Nat) (f : SrcSlot → SrcSlot) (s : State) : (setSrc i f s).boot = s.boot := (rfl)
@[simp] theorem setSrc_keys (i : Nat) (f : SrcSlot → SrcSlot) (s : State) : (setSrc i f s).keys = s.keys := (rfl)
@[simp] theorem setSrc_host (i : Nat) (f : SrcSlot → SrcSlot) (s : State) : (setSrc i f s).host = s.host := (rfl)
@[simp] theorem setSrc_power (i : Nat) (f : SrcSlot → SrcSlot) (s : State) : (setSrc i f s).power = s.power := (rfl)
@[simp] theorem setSrc_time (i : Nat) (f : SrcSlot → SrcSlot) (s : State) : (setSrc i f s).time = s.time := (rfl)
@[simp] theorem setSrc_lanes (i : Nat) (f : SrcSlot → SrcSlot) (s : State) : (setSrc i f s).lanes = s.lanes := (rfl)
@[simp] theorem setSrc_net (i : Nat) (f : SrcSlot → SrcSlot) (s : State) : (setSrc i f s).net = s.net := (rfl)
@[simp] theorem setSrc_dram (i : Nat) (f : SrcSlot → SrcSlot) (s : State) : (setSrc i f s).dram = s.dram := (rfl)
@[simp] theorem setSrc_layers (i : Nat) (f : SrcSlot → SrcSlot) (s : State) : (setSrc i f s).layers = s.layers := (rfl)
@[simp] theorem setSrc_audio (i : Nat) (f : SrcSlot → SrcSlot) (s : State) : (setSrc i f s).audio = s.audio := (rfl)
@[simp] theorem setSrc_apt (i : Nat) (f : SrcSlot → SrcSlot) (s : State) : (setSrc i f s).apt = s.apt := (rfl)

@[simp] theorem setDst_pending (d : Nat) (f : DstSlot → DstSlot) (s : State) : (setDst d f s).pending = s.pending := (rfl)
@[simp] theorem setDst_out (d : Nat) (f : DstSlot → DstSlot) (s : State) : (setDst d f s).out = s.out := (rfl)
@[simp] theorem setDst_free (d : Nat) (f : DstSlot → DstSlot) (s : State) : (setDst d f s).free = s.free := (rfl)
@[simp] theorem setDst_tb (d : Nat) (f : DstSlot → DstSlot) (s : State) : (setDst d f s).tb = s.tb := (rfl)
@[simp] theorem setDst_cmds (d : Nat) (f : DstSlot → DstSlot) (s : State) : (setDst d f s).cmds = s.cmds := (rfl)
@[simp] theorem setDst_quire (d : Nat) (f : DstSlot → DstSlot) (s : State) : (setDst d f s).quire = s.quire := (rfl)
@[simp] theorem setDst_drv (d : Nat) (f : DstSlot → DstSlot) (s : State) : (setDst d f s).drv = s.drv := (rfl)
@[simp] theorem setDst_ev (d : Nat) (f : DstSlot → DstSlot) (s : State) : (setDst d f s).ev = s.ev := (rfl)
@[simp] theorem setDst_fabric (d : Nat) (f : DstSlot → DstSlot) (s : State) : (setDst d f s).fabric = s.fabric := (rfl)
@[simp] theorem setDst_twin (d : Nat) (f : DstSlot → DstSlot) (s : State) : (setDst d f s).twin = s.twin := (rfl)
@[simp] theorem setDst_flock (d : Nat) (f : DstSlot → DstSlot) (s : State) : (setDst d f s).flock = s.flock := (rfl)
@[simp] theorem setDst_boot (d : Nat) (f : DstSlot → DstSlot) (s : State) : (setDst d f s).boot = s.boot := (rfl)
@[simp] theorem setDst_keys (d : Nat) (f : DstSlot → DstSlot) (s : State) : (setDst d f s).keys = s.keys := (rfl)
@[simp] theorem setDst_host (d : Nat) (f : DstSlot → DstSlot) (s : State) : (setDst d f s).host = s.host := (rfl)
@[simp] theorem setDst_power (d : Nat) (f : DstSlot → DstSlot) (s : State) : (setDst d f s).power = s.power := (rfl)
@[simp] theorem setDst_time (d : Nat) (f : DstSlot → DstSlot) (s : State) : (setDst d f s).time = s.time := (rfl)
@[simp] theorem setDst_lanes (d : Nat) (f : DstSlot → DstSlot) (s : State) : (setDst d f s).lanes = s.lanes := (rfl)
@[simp] theorem setDst_net (d : Nat) (f : DstSlot → DstSlot) (s : State) : (setDst d f s).net = s.net := (rfl)
@[simp] theorem setDst_dram (d : Nat) (f : DstSlot → DstSlot) (s : State) : (setDst d f s).dram = s.dram := (rfl)
@[simp] theorem setDst_layers (d : Nat) (f : DstSlot → DstSlot) (s : State) : (setDst d f s).layers = s.layers := (rfl)
@[simp] theorem setDst_audio (d : Nat) (f : DstSlot → DstSlot) (s : State) : (setDst d f s).audio = s.audio := (rfl)
@[simp] theorem setDst_apt (d : Nat) (f : DstSlot → DstSlot) (s : State) : (setDst d f s).apt = s.apt := (rfl)

@[simp] theorem setNet_pending (p : Nat) (f : NetPort → NetPort) (s : State) : (setNet p f s).pending = s.pending := (rfl)
@[simp] theorem setNet_out (p : Nat) (f : NetPort → NetPort) (s : State) : (setNet p f s).out = s.out := (rfl)
@[simp] theorem setNet_free (p : Nat) (f : NetPort → NetPort) (s : State) : (setNet p f s).free = s.free := (rfl)
@[simp] theorem setNet_tb (p : Nat) (f : NetPort → NetPort) (s : State) : (setNet p f s).tb = s.tb := (rfl)
@[simp] theorem setNet_cmds (p : Nat) (f : NetPort → NetPort) (s : State) : (setNet p f s).cmds = s.cmds := (rfl)
@[simp] theorem setNet_quire (p : Nat) (f : NetPort → NetPort) (s : State) : (setNet p f s).quire = s.quire := (rfl)
@[simp] theorem setNet_drv (p : Nat) (f : NetPort → NetPort) (s : State) : (setNet p f s).drv = s.drv := (rfl)
@[simp] theorem setNet_ev (p : Nat) (f : NetPort → NetPort) (s : State) : (setNet p f s).ev = s.ev := (rfl)
@[simp] theorem setNet_spine (p : Nat) (f : NetPort → NetPort) (s : State) : (setNet p f s).spine = s.spine := (rfl)
@[simp] theorem setNet_fabric (p : Nat) (f : NetPort → NetPort) (s : State) : (setNet p f s).fabric = s.fabric := (rfl)
@[simp] theorem setNet_twin (p : Nat) (f : NetPort → NetPort) (s : State) : (setNet p f s).twin = s.twin := (rfl)
@[simp] theorem setNet_flock (p : Nat) (f : NetPort → NetPort) (s : State) : (setNet p f s).flock = s.flock := (rfl)
@[simp] theorem setNet_boot (p : Nat) (f : NetPort → NetPort) (s : State) : (setNet p f s).boot = s.boot := (rfl)
@[simp] theorem setNet_keys (p : Nat) (f : NetPort → NetPort) (s : State) : (setNet p f s).keys = s.keys := (rfl)
@[simp] theorem setNet_host (p : Nat) (f : NetPort → NetPort) (s : State) : (setNet p f s).host = s.host := (rfl)
@[simp] theorem setNet_power (p : Nat) (f : NetPort → NetPort) (s : State) : (setNet p f s).power = s.power := (rfl)
@[simp] theorem setNet_time (p : Nat) (f : NetPort → NetPort) (s : State) : (setNet p f s).time = s.time := (rfl)
@[simp] theorem setNet_lanes (p : Nat) (f : NetPort → NetPort) (s : State) : (setNet p f s).lanes = s.lanes := (rfl)
@[simp] theorem setNet_dram (p : Nat) (f : NetPort → NetPort) (s : State) : (setNet p f s).dram = s.dram := (rfl)
@[simp] theorem setNet_layers (p : Nat) (f : NetPort → NetPort) (s : State) : (setNet p f s).layers = s.layers := (rfl)
@[simp] theorem setNet_audio (p : Nat) (f : NetPort → NetPort) (s : State) : (setNet p f s).audio = s.audio := (rfl)
@[simp] theorem setNet_apt (p : Nat) (f : NetPort → NetPort) (s : State) : (setNet p f s).apt = s.apt := (rfl)

@[simp] theorem setFlow_pending (i : Nat) (f : Flow → Flow) (s : State) : (setFlow i f s).pending = s.pending := (rfl)
@[simp] theorem setFlow_out (i : Nat) (f : Flow → Flow) (s : State) : (setFlow i f s).out = s.out := (rfl)
@[simp] theorem setFlow_free (i : Nat) (f : Flow → Flow) (s : State) : (setFlow i f s).free = s.free := (rfl)
@[simp] theorem setFlow_tb (i : Nat) (f : Flow → Flow) (s : State) : (setFlow i f s).tb = s.tb := (rfl)
@[simp] theorem setFlow_cmds (i : Nat) (f : Flow → Flow) (s : State) : (setFlow i f s).cmds = s.cmds := (rfl)
@[simp] theorem setFlow_quire (i : Nat) (f : Flow → Flow) (s : State) : (setFlow i f s).quire = s.quire := (rfl)
@[simp] theorem setFlow_drv (i : Nat) (f : Flow → Flow) (s : State) : (setFlow i f s).drv = s.drv := (rfl)
@[simp] theorem setFlow_ev (i : Nat) (f : Flow → Flow) (s : State) : (setFlow i f s).ev = s.ev := (rfl)
@[simp] theorem setFlow_spine (i : Nat) (f : Flow → Flow) (s : State) : (setFlow i f s).spine = s.spine := (rfl)
@[simp] theorem setFlow_fabric (i : Nat) (f : Flow → Flow) (s : State) : (setFlow i f s).fabric = s.fabric := (rfl)
@[simp] theorem setFlow_twin (i : Nat) (f : Flow → Flow) (s : State) : (setFlow i f s).twin = s.twin := (rfl)
@[simp] theorem setFlow_flock (i : Nat) (f : Flow → Flow) (s : State) : (setFlow i f s).flock = s.flock := (rfl)
@[simp] theorem setFlow_boot (i : Nat) (f : Flow → Flow) (s : State) : (setFlow i f s).boot = s.boot := (rfl)
@[simp] theorem setFlow_keys (i : Nat) (f : Flow → Flow) (s : State) : (setFlow i f s).keys = s.keys := (rfl)
@[simp] theorem setFlow_host (i : Nat) (f : Flow → Flow) (s : State) : (setFlow i f s).host = s.host := (rfl)
@[simp] theorem setFlow_power (i : Nat) (f : Flow → Flow) (s : State) : (setFlow i f s).power = s.power := (rfl)
@[simp] theorem setFlow_time (i : Nat) (f : Flow → Flow) (s : State) : (setFlow i f s).time = s.time := (rfl)
@[simp] theorem setFlow_lanes (i : Nat) (f : Flow → Flow) (s : State) : (setFlow i f s).lanes = s.lanes := (rfl)
@[simp] theorem setFlow_dram (i : Nat) (f : Flow → Flow) (s : State) : (setFlow i f s).dram = s.dram := (rfl)
@[simp] theorem setFlow_layers (i : Nat) (f : Flow → Flow) (s : State) : (setFlow i f s).layers = s.layers := (rfl)
@[simp] theorem setFlow_audio (i : Nat) (f : Flow → Flow) (s : State) : (setFlow i f s).audio = s.audio := (rfl)
@[simp] theorem setFlow_apt (i : Nat) (f : Flow → Flow) (s : State) : (setFlow i f s).apt = s.apt := (rfl)

@[simp] theorem setPort_pending (p : Nat) (f : PortState → PortState) (s : State) : (setPort p f s).pending = s.pending := (rfl)
@[simp] theorem setPort_out (p : Nat) (f : PortState → PortState) (s : State) : (setPort p f s).out = s.out := (rfl)
@[simp] theorem setPort_free (p : Nat) (f : PortState → PortState) (s : State) : (setPort p f s).free = s.free := (rfl)
@[simp] theorem setPort_tb (p : Nat) (f : PortState → PortState) (s : State) : (setPort p f s).tb = s.tb := (rfl)
@[simp] theorem setPort_quire (p : Nat) (f : PortState → PortState) (s : State) : (setPort p f s).quire = s.quire := (rfl)
@[simp] theorem setPort_drv (p : Nat) (f : PortState → PortState) (s : State) : (setPort p f s).drv = s.drv := (rfl)
@[simp] theorem setPort_ev (p : Nat) (f : PortState → PortState) (s : State) : (setPort p f s).ev = s.ev := (rfl)
@[simp] theorem setPort_spine (p : Nat) (f : PortState → PortState) (s : State) : (setPort p f s).spine = s.spine := (rfl)
@[simp] theorem setPort_fabric (p : Nat) (f : PortState → PortState) (s : State) : (setPort p f s).fabric = s.fabric := (rfl)
@[simp] theorem setPort_twin (p : Nat) (f : PortState → PortState) (s : State) : (setPort p f s).twin = s.twin := (rfl)
@[simp] theorem setPort_flock (p : Nat) (f : PortState → PortState) (s : State) : (setPort p f s).flock = s.flock := (rfl)
@[simp] theorem setPort_boot (p : Nat) (f : PortState → PortState) (s : State) : (setPort p f s).boot = s.boot := (rfl)
@[simp] theorem setPort_keys (p : Nat) (f : PortState → PortState) (s : State) : (setPort p f s).keys = s.keys := (rfl)
@[simp] theorem setPort_host (p : Nat) (f : PortState → PortState) (s : State) : (setPort p f s).host = s.host := (rfl)
@[simp] theorem setPort_power (p : Nat) (f : PortState → PortState) (s : State) : (setPort p f s).power = s.power := (rfl)
@[simp] theorem setPort_time (p : Nat) (f : PortState → PortState) (s : State) : (setPort p f s).time = s.time := (rfl)
@[simp] theorem setPort_lanes (p : Nat) (f : PortState → PortState) (s : State) : (setPort p f s).lanes = s.lanes := (rfl)
@[simp] theorem setPort_net (p : Nat) (f : PortState → PortState) (s : State) : (setPort p f s).net = s.net := (rfl)
@[simp] theorem setPort_dram (p : Nat) (f : PortState → PortState) (s : State) : (setPort p f s).dram = s.dram := (rfl)
@[simp] theorem setPort_layers (p : Nat) (f : PortState → PortState) (s : State) : (setPort p f s).layers = s.layers := (rfl)
@[simp] theorem setPort_audio (p : Nat) (f : PortState → PortState) (s : State) : (setPort p f s).audio = s.audio := (rfl)
@[simp] theorem setPort_apt (p : Nat) (f : PortState → PortState) (s : State) : (setPort p f s).apt = s.apt := (rfl)

@[simp] theorem begun_pending (op : Nat) (r : Req) (s : State) : (begun op r s).pending = s.pending := (rfl)
@[simp] theorem begun_out (op : Nat) (r : Req) (s : State) : (begun op r s).out = s.out := (rfl)
@[simp] theorem begun_free (op : Nat) (r : Req) (s : State) : (begun op r s).free = s.free := (rfl)
@[simp] theorem begun_tb (op : Nat) (r : Req) (s : State) : (begun op r s).tb = s.tb := (rfl)
@[simp] theorem begun_quire (op : Nat) (r : Req) (s : State) : (begun op r s).quire = s.quire := (rfl)
@[simp] theorem begun_drv (op : Nat) (r : Req) (s : State) : (begun op r s).drv = s.drv := (rfl)
@[simp] theorem begun_ev (op : Nat) (r : Req) (s : State) : (begun op r s).ev = s.ev := (rfl)
@[simp] theorem begun_spine (op : Nat) (r : Req) (s : State) : (begun op r s).spine = s.spine := (rfl)
@[simp] theorem begun_fabric (op : Nat) (r : Req) (s : State) : (begun op r s).fabric = s.fabric := (rfl)
@[simp] theorem begun_twin (op : Nat) (r : Req) (s : State) : (begun op r s).twin = s.twin := (rfl)
@[simp] theorem begun_flock (op : Nat) (r : Req) (s : State) : (begun op r s).flock = s.flock := (rfl)
@[simp] theorem begun_boot (op : Nat) (r : Req) (s : State) : (begun op r s).boot = s.boot := (rfl)
@[simp] theorem begun_keys (op : Nat) (r : Req) (s : State) : (begun op r s).keys = s.keys := (rfl)
@[simp] theorem begun_host (op : Nat) (r : Req) (s : State) : (begun op r s).host = s.host := (rfl)
@[simp] theorem begun_power (op : Nat) (r : Req) (s : State) : (begun op r s).power = s.power := (rfl)
@[simp] theorem begun_time (op : Nat) (r : Req) (s : State) : (begun op r s).time = s.time := (rfl)
@[simp] theorem begun_lanes (op : Nat) (r : Req) (s : State) : (begun op r s).lanes = s.lanes := (rfl)
@[simp] theorem begun_net (op : Nat) (r : Req) (s : State) : (begun op r s).net = s.net := (rfl)
@[simp] theorem begun_dram (op : Nat) (r : Req) (s : State) : (begun op r s).dram = s.dram := (rfl)
@[simp] theorem begun_layers (op : Nat) (r : Req) (s : State) : (begun op r s).layers = s.layers := (rfl)
@[simp] theorem begun_audio (op : Nat) (r : Req) (s : State) : (begun op r s).audio = s.audio := (rfl)
@[simp] theorem begun_apt (op : Nat) (r : Req) (s : State) : (begun op r s).apt = s.apt := (rfl)

@[simp] theorem setFab_pending (l : Nat) (f : FabLane → FabLane) (s : State) : (setFab l f s).pending = s.pending := (rfl)
@[simp] theorem setFab_out (l : Nat) (f : FabLane → FabLane) (s : State) : (setFab l f s).out = s.out := (rfl)
@[simp] theorem setFab_free (l : Nat) (f : FabLane → FabLane) (s : State) : (setFab l f s).free = s.free := (rfl)
@[simp] theorem setFab_tb (l : Nat) (f : FabLane → FabLane) (s : State) : (setFab l f s).tb = s.tb := (rfl)
@[simp] theorem setFab_cmds (l : Nat) (f : FabLane → FabLane) (s : State) : (setFab l f s).cmds = s.cmds := (rfl)
@[simp] theorem setFab_quire (l : Nat) (f : FabLane → FabLane) (s : State) : (setFab l f s).quire = s.quire := (rfl)
@[simp] theorem setFab_drv (l : Nat) (f : FabLane → FabLane) (s : State) : (setFab l f s).drv = s.drv := (rfl)
@[simp] theorem setFab_ev (l : Nat) (f : FabLane → FabLane) (s : State) : (setFab l f s).ev = s.ev := (rfl)
@[simp] theorem setFab_spine (l : Nat) (f : FabLane → FabLane) (s : State) : (setFab l f s).spine = s.spine := (rfl)
@[simp] theorem setFab_twin (l : Nat) (f : FabLane → FabLane) (s : State) : (setFab l f s).twin = s.twin := (rfl)
@[simp] theorem setFab_flock (l : Nat) (f : FabLane → FabLane) (s : State) : (setFab l f s).flock = s.flock := (rfl)
@[simp] theorem setFab_boot (l : Nat) (f : FabLane → FabLane) (s : State) : (setFab l f s).boot = s.boot := (rfl)
@[simp] theorem setFab_keys (l : Nat) (f : FabLane → FabLane) (s : State) : (setFab l f s).keys = s.keys := (rfl)
@[simp] theorem setFab_host (l : Nat) (f : FabLane → FabLane) (s : State) : (setFab l f s).host = s.host := (rfl)
@[simp] theorem setFab_power (l : Nat) (f : FabLane → FabLane) (s : State) : (setFab l f s).power = s.power := (rfl)
@[simp] theorem setFab_time (l : Nat) (f : FabLane → FabLane) (s : State) : (setFab l f s).time = s.time := (rfl)
@[simp] theorem setFab_lanes (l : Nat) (f : FabLane → FabLane) (s : State) : (setFab l f s).lanes = s.lanes := (rfl)
@[simp] theorem setFab_net (l : Nat) (f : FabLane → FabLane) (s : State) : (setFab l f s).net = s.net := (rfl)
@[simp] theorem setFab_dram (l : Nat) (f : FabLane → FabLane) (s : State) : (setFab l f s).dram = s.dram := (rfl)
@[simp] theorem setFab_layers (l : Nat) (f : FabLane → FabLane) (s : State) : (setFab l f s).layers = s.layers := (rfl)
@[simp] theorem setFab_audio (l : Nat) (f : FabLane → FabLane) (s : State) : (setFab l f s).audio = s.audio := (rfl)
@[simp] theorem setFab_apt (l : Nat) (f : FabLane → FabLane) (s : State) : (setFab l f s).apt = s.apt := (rfl)

@[simp] theorem setQp_pending (q : Nat) (f : Qp → Qp) (s : State) : (setQp q f s).pending = s.pending := (rfl)
@[simp] theorem setQp_out (q : Nat) (f : Qp → Qp) (s : State) : (setQp q f s).out = s.out := (rfl)
@[simp] theorem setQp_free (q : Nat) (f : Qp → Qp) (s : State) : (setQp q f s).free = s.free := (rfl)
@[simp] theorem setQp_tb (q : Nat) (f : Qp → Qp) (s : State) : (setQp q f s).tb = s.tb := (rfl)
@[simp] theorem setQp_cmds (q : Nat) (f : Qp → Qp) (s : State) : (setQp q f s).cmds = s.cmds := (rfl)
@[simp] theorem setQp_quire (q : Nat) (f : Qp → Qp) (s : State) : (setQp q f s).quire = s.quire := (rfl)
@[simp] theorem setQp_drv (q : Nat) (f : Qp → Qp) (s : State) : (setQp q f s).drv = s.drv := (rfl)
@[simp] theorem setQp_ev (q : Nat) (f : Qp → Qp) (s : State) : (setQp q f s).ev = s.ev := (rfl)
@[simp] theorem setQp_spine (q : Nat) (f : Qp → Qp) (s : State) : (setQp q f s).spine = s.spine := (rfl)
@[simp] theorem setQp_fabric (q : Nat) (f : Qp → Qp) (s : State) : (setQp q f s).fabric = s.fabric := (rfl)
@[simp] theorem setQp_twin (q : Nat) (f : Qp → Qp) (s : State) : (setQp q f s).twin = s.twin := (rfl)
@[simp] theorem setQp_flock (q : Nat) (f : Qp → Qp) (s : State) : (setQp q f s).flock = s.flock := (rfl)
@[simp] theorem setQp_boot (q : Nat) (f : Qp → Qp) (s : State) : (setQp q f s).boot = s.boot := (rfl)
@[simp] theorem setQp_keys (q : Nat) (f : Qp → Qp) (s : State) : (setQp q f s).keys = s.keys := (rfl)
@[simp] theorem setQp_power (q : Nat) (f : Qp → Qp) (s : State) : (setQp q f s).power = s.power := (rfl)
@[simp] theorem setQp_time (q : Nat) (f : Qp → Qp) (s : State) : (setQp q f s).time = s.time := (rfl)
@[simp] theorem setQp_lanes (q : Nat) (f : Qp → Qp) (s : State) : (setQp q f s).lanes = s.lanes := (rfl)
@[simp] theorem setQp_net (q : Nat) (f : Qp → Qp) (s : State) : (setQp q f s).net = s.net := (rfl)
@[simp] theorem setQp_dram (q : Nat) (f : Qp → Qp) (s : State) : (setQp q f s).dram = s.dram := (rfl)
@[simp] theorem setQp_layers (q : Nat) (f : Qp → Qp) (s : State) : (setQp q f s).layers = s.layers := (rfl)
@[simp] theorem setQp_audio (q : Nat) (f : Qp → Qp) (s : State) : (setQp q f s).audio = s.audio := (rfl)
@[simp] theorem setQp_apt (q : Nat) (f : Qp → Qp) (s : State) : (setQp q f s).apt = s.apt := (rfl)

@[simp] theorem setApt_pending (p : Nat) (f : AudioPort → AudioPort) (s : State) : (setApt p f s).pending = s.pending := (rfl)
@[simp] theorem setApt_out (p : Nat) (f : AudioPort → AudioPort) (s : State) : (setApt p f s).out = s.out := (rfl)
@[simp] theorem setApt_free (p : Nat) (f : AudioPort → AudioPort) (s : State) : (setApt p f s).free = s.free := (rfl)
@[simp] theorem setApt_tb (p : Nat) (f : AudioPort → AudioPort) (s : State) : (setApt p f s).tb = s.tb := (rfl)
@[simp] theorem setApt_cmds (p : Nat) (f : AudioPort → AudioPort) (s : State) : (setApt p f s).cmds = s.cmds := (rfl)
@[simp] theorem setApt_quire (p : Nat) (f : AudioPort → AudioPort) (s : State) : (setApt p f s).quire = s.quire := (rfl)
@[simp] theorem setApt_drv (p : Nat) (f : AudioPort → AudioPort) (s : State) : (setApt p f s).drv = s.drv := (rfl)
@[simp] theorem setApt_ev (p : Nat) (f : AudioPort → AudioPort) (s : State) : (setApt p f s).ev = s.ev := (rfl)
@[simp] theorem setApt_spine (p : Nat) (f : AudioPort → AudioPort) (s : State) : (setApt p f s).spine = s.spine := (rfl)
@[simp] theorem setApt_fabric (p : Nat) (f : AudioPort → AudioPort) (s : State) : (setApt p f s).fabric = s.fabric := (rfl)
@[simp] theorem setApt_twin (p : Nat) (f : AudioPort → AudioPort) (s : State) : (setApt p f s).twin = s.twin := (rfl)
@[simp] theorem setApt_flock (p : Nat) (f : AudioPort → AudioPort) (s : State) : (setApt p f s).flock = s.flock := (rfl)
@[simp] theorem setApt_boot (p : Nat) (f : AudioPort → AudioPort) (s : State) : (setApt p f s).boot = s.boot := (rfl)
@[simp] theorem setApt_keys (p : Nat) (f : AudioPort → AudioPort) (s : State) : (setApt p f s).keys = s.keys := (rfl)
@[simp] theorem setApt_host (p : Nat) (f : AudioPort → AudioPort) (s : State) : (setApt p f s).host = s.host := (rfl)
@[simp] theorem setApt_power (p : Nat) (f : AudioPort → AudioPort) (s : State) : (setApt p f s).power = s.power := (rfl)
@[simp] theorem setApt_time (p : Nat) (f : AudioPort → AudioPort) (s : State) : (setApt p f s).time = s.time := (rfl)
@[simp] theorem setApt_lanes (p : Nat) (f : AudioPort → AudioPort) (s : State) : (setApt p f s).lanes = s.lanes := (rfl)
@[simp] theorem setApt_net (p : Nat) (f : AudioPort → AudioPort) (s : State) : (setApt p f s).net = s.net := (rfl)
@[simp] theorem setApt_dram (p : Nat) (f : AudioPort → AudioPort) (s : State) : (setApt p f s).dram = s.dram := (rfl)
@[simp] theorem setApt_layers (p : Nat) (f : AudioPort → AudioPort) (s : State) : (setApt p f s).layers = s.layers := (rfl)
@[simp] theorem setApt_audio (p : Nat) (f : AudioPort → AudioPort) (s : State) : (setApt p f s).audio = s.audio := (rfl)

end Sys2Proof.Laws
end

