-- ==== Sys2Proof/Laws/Clock.lean ====
section
/-! SUPPORT. The operations that leave the time base as it was: all but the tick, a step of the time base, the rate word and a
chip reset. -/

namespace Sys2Proof.Laws

open Sys2Proof Sys2Proof.Machine Sys2Proof.Safety

set_option linter.unusedSimpArgs false
set_option linter.unusedTactic false
set_option linter.unreachableTactic false

@[simp] theorem foldl_tb {α : Type} (f : State → α → State) (h : ∀ s a, (f s a).tb = s.tb) (l : List α) (s : State) :
    (l.foldl f s).tb = s.tb := by
  induction l generalizing s with
  | nil => rfl
  | cons a t ih => rw [List.foldl_cons, ih, h]

@[simp] theorem foldl_fst_tb {α β : Type} (f : State × β → α → State × β) (h : ∀ p a, (f p a).1.tb = p.1.tb)
    (l : List α) (p : State × β) : (l.foldl f p).1.tb = p.1.tb := by
  induction l generalizing p with
  | nil => rfl
  | cons a t ih => rw [List.foldl_cons, ih, h]

@[simp] theorem foldl_snd_tb {α β : Type} (f : β × State → α → β × State) (h : ∀ p a, (f p a).2.tb = p.2.tb)
    (l : List α) (p : β × State) : (l.foldl f p).2.tb = p.2.tb := by
  induction l generalizing p with
  | nil => rfl
  | cons a t ih => rw [List.foldl_cons, ih, h]

@[simp] theorem ite_tb (c : Prop) [Decidable c] (a b : State) : (if c then a else b).tb = if c then a.tb else b.tb := by
  split <;> rfl

@[simp] theorem setRef_tb (x0 : ℕ) (x1 : RefState → RefState) (x2 : State) : (setRef x0 x1 x2).tb = x2.tb := (rfl)

@[simp] theorem sendMsi_tb (x0 : ℕ) (x1 : State) : (sendMsi x0 x1).tb = x1.tb := by
  simp only [sendMsi, emit_tb, ite_tb, ite_self]

@[simp] theorem raiseOne_tb (x0 : Bool) (x1 x2 x3 : ℕ) (x4 : State) : (raiseOne x0 x1 x2 x3 x4).1.tb = x4.tb := by
  simp only [raiseOne, sendMsi_tb, ite_tb, ite_self]

@[simp] theorem raiseInj_tb (x0 : Bool) (x1 x2 x3 : ℕ) (x4 : State) : (raiseInj x0 x1 x2 x3 x4).tb = x4.tb := by
  simp only [raiseInj, raiseOne_tb, ite_tb, ite_self]

@[simp] theorem raise_tb (x0 x1 x2 : ℕ) (x3 : State) : (raise x0 x1 x2 x3).tb = x3.tb := by
  simp only [raise, raiseInj_tb, ite_tb, ite_self]

@[simp] theorem rfcEvent_tb (x0 x1 x2 : ℕ) (x3 : State) : (rfcEvent x0 x1 x2 x3).tb = x3.tb := by
  simp only [rfcEvent, raise_tb, setDpll_tb, ite_tb, ite_self]

@[simp] theorem refEnter_tb (x0 x1 : ℕ) (x2 : State) : (refEnter x0 x1 x2).tb = x2.tb := by
  simp only [refEnter, rfcEvent_tb, setRef_tb, ite_tb, ite_self]

@[simp] theorem refUse_tb (x0 : State) (x1 : ℕ) : (refUse x0 x1).tb = x0.tb := by
  simp only [refUse, refEnter_tb, setRef_tb, ite_tb, ite_self]

@[simp] theorem reconcile_tb (x0 : State) (x1 : ℕ) : (reconcile x0 x1).tb = x0.tb := by
  simp only [reconcile, refEnter_tb, ite_tb, ite_self]

@[simp] theorem dequeue_tb (x0 : U32) (x1 : State) : (dequeue x0 x1).tb = x1.tb := (rfl)

@[simp] theorem zeroColophon_tb (x0 : State) : (zeroColophon x0).tb = x0.tb := (rfl)

@[simp] theorem eraseFrom_tb (x0 : ℕ) (x1 : State) : (eraseFrom x0 x1).tb = x1.tb := (rfl)

@[simp] theorem setKey_tb (x0 : ℕ) (x1 : KeySlot) (x2 : State) : (setKey x0 x1 x2).tb = x2.tb := (rfl)

@[simp] theorem draw_tb (x0 : State) : (draw x0).2.tb = x0.tb := (rfl)

@[simp] theorem generate_tb (x0 : ℕ) (x1 : State) : (generate x0 x1).2.tb = x1.tb := (rfl)

@[simp] theorem fixKey_tb (x0 x1 x2 x3 : ℕ) (x4 : State) : (fixKey x0 x1 x2 x3 x4).tb = x4.tb := (rfl)

@[simp] theorem finishTransition_tb (x0 : ℕ) (x1 : State) : (finishTransition x0 x1).tb = x1.tb := by
  unfold finishTransition
  (repeat' split) <;> simp only [fixKey_tb, eraseFrom_tb, zeroColophon_tb, setKeys_tb, ite_tb, ite_self]

@[simp] theorem readFuses_tb (x0 : Bool) (x1 : State) : (readFuses x0 x1).tb = x1.tb := by
  unfold readFuses
  (repeat' split) <;> simp only [finishTransition_tb, setKeys_tb, ite_tb, ite_self]

@[simp] theorem setPp_tb (x0 : ℕ) (x1 : PtpPort → PtpPort) (x2 : State) : (setPp x0 x1 x2).tb = x2.tb := (rfl)

@[simp] theorem ppEnter_tb (x0 x1 : ℕ) (x2 : State) : (ppEnter x0 x1 x2).tb = x2.tb := by
  simp only [ppEnter, setPp_tb, ite_tb, ite_self]

@[simp] theorem setInst_tb (x0 : ℕ) (x1 : PtpInst → PtpInst) (x2 : State) : (setInst x0 x1 x2).tb = x2.tb := (rfl)

@[simp] theorem startInst_tb (x0 : ℕ) (x1 : State) : (startInst x0 x1).tb = x1.tb := by
  simp only [startInst, setInst_tb, ppEnter_tb, foldl_tb, implies_true, ite_tb, ite_self]

@[simp] theorem storesRetry_tb (x0 : State) : (storesRetry x0).tb = x0.tb := by
  have one (t : State) (e l : ℕ) (f : Layer → Layer) : (setLayer e l f t).tb = t.tb := rfl
  simp only [storesRetry]
  rw [foldl_tb]
  intro t p
  rw [foldl_tb]
  intro u l
  (repeat' split) <;> simp only [one]

@[simp] theorem endItem_tb (x0 x1 : ℕ) (x2 : State) : (endItem x0 x1 x2).tb = x2.tb := by
  unfold endItem
  (repeat' split) <;> simp only [setFlow_tb, ite_tb, setSrc_tb, startInst_tb, storesRetry_tb, ite_tb, ite_self]

@[simp] theorem setGroup_tb (x0 : ℕ) (x1 : DramGroup → DramGroup) (x2 : State) : (setGroup x0 x1 x2).tb = x2.tb := (rfl)

@[simp] theorem srcEnter_tb (x0 : ℕ) (x1 : SrcState) (x2 : State) : (srcEnter x0 x1 x2).tb = x2.tb := by
  simp only [srcEnter, raise_tb, setSrc_tb, ite_tb, ite_self]

@[simp] theorem srcLost_tb (x0 : ℕ) (x1 : State) : (srcLost x0 x1).tb = x1.tb := by
  simp only [srcLost, srcEnter_tb, setSrc_tb, ite_tb, ite_self]

@[simp] theorem copyItem_tb (x0 : CopyItem) (x1 : State) : (copyItem x0 x1).tb = x1.tb := by
  simp only [copyItem, ite_tb, ite_self]

@[simp] theorem copyResult_tb (x0 : CatRow) (x1 : Req) (x2 : Ans) (x3 : Bool) (x4 : State) : (copyResult x0 x1 x2 x3 x4).tb =
    x4.tb := by
  simp only [copyResult, ite_tb, copyItem_tb, ite_tb, ite_self]

@[simp] theorem setNtp_tb (x0 : Ntp → Ntp) (x1 : State) : (setNtp x0 x1).tb = x1.tb := (rfl)

@[simp] theorem refuse_tb (x0 : State) (x1 x2 : ℕ) : (refuse x0 x1 x2).st.tb = x0.tb := (rfl)

@[simp] theorem needForm_tb (x0 : List (Bool × ℕ)) (x1 : State) (x2 : Unit → Ans) (h : (x2 ()).st.tb = x1.tb) : (needForm x0 x1
    x2).st.tb = x1.tb := by
  unfold needForm
  (repeat' split) <;> simp [*]

@[simp] theorem needLen_tb (x0 : ℕ) (x1 : Req) (x2 : State) (x3 : Unit → Ans) (h : (x3 ()).st.tb = x2.tb) : (needLen x0 x1 x2
    x3).st.tb = x2.tb := by
  unfold needLen
  (repeat' split) <;> simp [*]

@[simp] theorem await_tb (x0 : ℕ) (x1 : Req) (x2 : State) : (await x0 x1 x2).tb = x2.tb := by
  simp only [await, ite_tb, ite_self]

@[simp] theorem Ans_st_tb (x0 : Ans) : (Ans.st x0).tb = x0.st.tb := (rfl)

@[simp] theorem sendSymbols_tb (x0 x1 : ℕ) (x2 : List ℕ × LaneCode) (x3 : State) : (sendSymbols x0 x1 x2 x3).tb = x3.tb := by
  simp only [sendSymbols, setFab_tb, ite_tb, emit_tb, ite_tb, ite_self]

@[simp] theorem laneBlocks_tb (x0 : ℕ) (x1 : List Block) (x2 : State) : (laneBlocks x0 x1 x2).tb = x2.tb := by
  simp only [laneBlocks, ite_tb, setFab_tb, sendSymbols_tb, ite_tb, ite_self]

@[simp] theorem bondSend_tb (x0 : ℕ) (x1 : List Block) (x2 : State) : (bondSend x0 x1 x2).tb = x2.tb := by
  simp only [bondSend, laneBlocks_tb, ite_tb, foldl_tb, implies_true, ite_tb, ite_self]

@[simp] theorem stitchEmit_tb (x0 : Bytes) (x1 : State) : (stitchEmit x0 x1).tb = x1.tb := by
  simp only [stitchEmit, bondSend_tb, emit_tb, ite_tb, ite_self]

@[simp] theorem stitchPut_tb (x0 : ℕ) (x1 : Bytes) (x2 : State) : (stitchPut x0 x1 x2).tb = x2.tb := by
  simp only [stitchPut, setStitch_tb, ite_tb, stitchEmit_tb, ite_tb, ite_self]

@[simp] theorem stitchSend_tb (x0 : ℕ) (x1 : Bytes) (x2 : State) : (stitchSend x0 x1 x2).tb = x2.tb := by
  simp only [stitchSend, setStitch_tb, stitchPut_tb, ite_tb, ite_self]

@[simp] theorem foldPut_tb (x0 x1 : ℕ) (x2 : Bytes) (x3 : State) : (foldPut x0 x1 x2 x3).tb = x3.tb := (rfl)

@[simp] theorem foldFragments_tb (x0 x1 x2 x3 : ℕ) (x4 : Bytes) (x5 : State) : (foldFragments x0 x1 x2 x3 x4 x5).tb = x5.tb :=
    by
  fun_induction foldFragments <;> simp_all +zetaDelta

@[simp] theorem foldReply_tb (x0 : ℕ) (x1 : Bytes) (x2 : State) : (foldReply x0 x1 x2).tb = x2.tb := by
  simp only [foldReply, foldFragments_tb, ite_tb, ite_self]

@[simp] theorem sessionSend_tb (x0 x1 : ℕ) (x2 : Bytes) (x3 : State) : (sessionSend x0 x1 x2 x3).tb = x3.tb := by
  simp only [sessionSend, emit_tb, ite_tb, ite_self]

@[simp] theorem carryReply_tb (x0 : Reply) (x1 : State) : (carryReply x0 x1).tb = x1.tb := by
  unfold carryReply
  (repeat' split) <;> simp only [sessionSend_tb, foldReply_tb, emit_tb, stitchSend_tb, ite_tb, ite_self]

@[simp] theorem sendReply_tb (x0 : Reply) (x1 : State) : (sendReply x0 x1).tb = x1.tb := by
  unfold sendReply
  (repeat' split) <;> simp only [carryReply_tb, emit_tb, ite_tb, ite_self]

@[simp] theorem conclude_tb (x0 : CatRow) (x1 : Req) (x2 : Ans) : (conclude x0 x1 x2).tb = x2.st.tb := by
  simp only [conclude, Ans_st_tb, ite_tb, setPort_tb, sendReply_tb, copyResult_tb, ite_tb, ite_self]

@[simp] theorem unwait_tb (x0 : ℕ) (x1 : Req) (x2 : State) : (unwait x0 x1 x2).tb = x2.tb := (rfl)

@[simp] theorem command_tb (x0 : ℕ) (x1 : Req → State → Ans) (x2 : Req) (x3 : State) (h : ∀ r s, (x1 r s).st.tb = s.tb) :
    (command x0 x1 x2 x3).tb = x3.tb := by
  unfold command
  dsimp only
  (repeat' split) <;> simp [*]

@[simp] theorem setEngine_tb (x0 : ℕ) (x1 : Engine → Engine) (x2 : State) : (setEngine x0 x1 x2).tb = x2.tb := (rfl)

@[simp] theorem copyEngine_tb (x0 : ℕ) (x1 : State) : (copyEngine x0 x1).tb = x1.tb := (rfl)

@[simp] theorem setLayer_tb (x0 x1 : ℕ) (x2 : Layer → Layer) (x3 : State) : (setLayer x0 x1 x2 x3).tb = x3.tb := (rfl)

@[simp] theorem layerRestart_tb (x0 : ℕ) (x1 : State) : (layerRestart x0 x1).tb = x1.tb := by
  simp only [layerRestart, setEngine_tb, setLayer_tb, foldl_tb, implies_true, ite_tb, ite_self]

@[simp] theorem clearRfc_tb (x0 : ℕ) (x1 : State) : (clearRfc x0 x1).tb = x1.tb := (rfl)

@[simp] theorem releaseErrN_tb (x0 : State) : (releaseErrN x0).tb = x0.tb := by simp only [releaseErrN, ite_tb, ite_self]

@[simp] theorem clearPend_tb (x0 : BitVec 1280) (x1 : State) : (clearPend x0 x1).tb = x1.tb := by
  simp only [clearPend, releaseErrN_tb, setEv_tb, ite_tb, ite_self]

@[simp] theorem clearSummary_tb (x0 : ℕ) (x1 : State) : (clearSummary x0 x1).tb = x1.tb := (rfl)

@[simp] theorem flushLaunch_tb (x0 : ℕ) (x1 : State) : (flushLaunch x0 x1).tb = x1.tb := by
  fun_induction flushLaunch <;> simp_all +zetaDelta

@[simp] theorem writePkt_tb (x0 x1 : ℕ) (x2 : State) : (writePkt x0 x1 x2).tb = x2.tb := by
  simp only [writePkt, setHost_tb, flushLaunch_tb, ite_tb, ite_self]

@[simp] theorem qpFault_tb (x0 x1 : ℕ) (x2 : State) : (qpFault x0 x1 x2).tb = x2.tb := (rfl)

@[simp] theorem baseWrite_tb (x0 : ℕ) (x1 : Qp → Qp) (x2 : State) : (baseWrite x0 x1 x2).tb = x2.tb := by
  simp only [baseWrite, setQp_tb, qpFault_tb, ite_tb, ite_self]

@[simp] theorem writeQp_tb (x0 x1 x2 : ℕ) (x3 : State) : (writeQp x0 x1 x2 x3).tb = x3.tb := by
  unfold writeQp
  (repeat' split) <;> simp only [baseWrite_tb, setQp_tb, ite_tb, ite_self]

@[simp] theorem mboxGo_tb (x0 : ℕ) (x1 : State) : (mboxGo x0 x1).tb = x1.tb := by
  simp only [mboxGo, setHost_tb, ite_tb, ite_self]

@[simp] theorem writeWindow_tb (x0 x1 : ℕ) (x2 : State) : (writeWindow x0 x1 x2).tb = x2.tb := by
  simp only [writeWindow, setHost_tb, ite_tb, setBoot_tb, mboxGo_tb, writeQp_tb, writePkt_tb, clearSummary_tb, clearPend_tb,
    clearRfc_tb, ite_tb, ite_self]

@[simp] theorem busWrite_tb (x0 x1 : ℕ) (x2 : State) : (busWrite x0 x1 x2).tb = x2.tb := by
  unfold busWrite
  (repeat' split) <;> simp only [writeWindow_tb, setHost_tb, foldl_tb, implies_true, ite_tb, ite_self]

@[simp] theorem okay_tb (x0 : State) (x1 : Bytes) : (okay x0 x1).st.tb = x0.tb := (rfl)

@[simp] theorem settleNewest_tb (x0 : ℕ) (x1 : State) : (settleNewest x0 x1).tb = x1.tb := by
  unfold settleNewest
  (repeat' split) <;> simp only [setHost_tb, setQp_tb, ite_tb, ite_self]

@[simp] theorem rerandomise_tb (x0 : State) : (rerandomise x0).tb = x0.tb := (rfl)

@[simp] theorem keyRefused_tb (x0 x1 : ℕ) (x2 : State) : (keyRefused x0 x1 x2).tb = x2.tb := by
  simp only [keyRefused, raise_tb, ite_tb, ite_self]

@[simp] theorem keyUse_tb (x0 x1 x2 x3 : ℕ) (x4 : State) : (keyUse x0 x1 x2 x3 x4).1.tb = x4.tb := by
  unfold keyUse
  dsimp only
  (repeat' split) <;> simp [*]

@[simp] theorem flockSend_tb (x0 : Bool) (x1 x2 : ℕ) (x3 : Bytes) (x4 : State) : (flockSend x0 x1 x2 x3 x4).tb = x4.tb := by
  unfold flockSend
  dsimp only
  (repeat' split) <;> simp [*]

@[simp] theorem flockReport_tb (x0 : DrvEvent) (x1 x2 x3 : ℕ) (x4 : State) : (flockReport x0 x1 x2 x3 x4).tb = x4.tb := by
  simp only [flockReport, flockSend_tb, ite_tb, ite_self]

@[simp] theorem addResult_tb (x0 : DrvEvent) (x1 x2 x3 : ℕ) (x4 : State) : (addResult x0 x1 x2 x3 x4).tb = x4.tb := by
  simp only [addResult, flockReport_tb, raise_tb, copyItem_tb, ite_tb, ite_self]

@[simp] theorem reportAll_tb (x0 : Quire) (x1 : ℕ) (x2 : List (DrvEvent × ℕ × Bool)) (x3 : State) : (reportAll x0 x1 x2 x3).tb =
    x3.tb := by
  fun_induction reportAll <;> simp_all +zetaDelta

@[simp] theorem enqueue_tb (x0 : DrvEvent) (x1 : State) : (enqueue x0 x1).tb = x1.tb := by
  simp only [enqueue, copyItem_tb, ite_tb, ite_self]

@[simp] theorem enterAll_tb (x0 : Req) (x1 : ℕ) (x2 : List Bytes) (x3 : ℕ) (x4 : State) : (enterAll x0 x1 x2 x3 x4).tb = x4.tb
    := by
  fun_induction enterAll <;> simp_all +zetaDelta

@[simp] theorem countChange_tb (x0 : State) : (countChange x0).tb = x0.tb := (rfl)

@[simp] theorem ringIndex_tb (x0 x1 : ℕ) (x2 : State) : (ringIndex x0 x1 x2).2.tb = x2.tb := by
  unfold ringIndex
  (repeat' split) <;> simp only [draw_tb, ite_tb, ite_self]

@[simp] theorem drawMany_tb (x0 : ℕ) (x1 : State) : (drawMany x0 x1).tb = x1.tb := (rfl)

@[simp] theorem sendTraining_tb (x0 : ℕ) (x1 : State) : (sendTraining x0 x1).tb = x1.tb := by
  simp only [sendTraining, sendSymbols_tb, drawMany_tb, ite_tb, ite_self]

@[simp] theorem concludeLater_tb (x0 : CatRow) (x1 : Req) (x2 : Ans) : (concludeLater x0 x1 x2).tb = x2.st.tb := by
  simp only [concludeLater, conclude_tb, ite_tb, ite_self]

@[simp] theorem concludeRetrain_tb (x0 : ℕ) (x1 : State) : (concludeRetrain x0 x1).tb = x1.tb := by
  unfold concludeRetrain
  (repeat' split) <;> simp only [concludeLater_tb, okay_tb, ite_tb, ite_self]

@[simp] theorem notifyStatus_tb (x0 x1 : State) : (notifyStatus x0 x1).tb = x1.tb := by
  simp only [notifyStatus, sendMsi_tb, ite_tb, ite_self]

@[simp] theorem enterRole_tb (x0 : Role) (x1 : State) : (enterRole x0 x1).tb = x1.tb := by
  simp only [enterRole, notifyStatus_tb, setTwin_tb, ite_tb, ite_self]

@[simp] theorem releaseReplies_tb (x0 : HeldReply → Bool) (x1 : State) : (releaseReplies x0 x1).tb = x1.tb := by
  simp only [releaseReplies, sendReply_tb, foldl_tb, implies_true, ite_tb, ite_self]

@[simp] theorem armAll_tb (x0 : ℕ) (x1 : State) : (armAll x0 x1).tb = x1.tb := (rfl)

@[simp] theorem twinLinkDown_tb (x0 : State) : (twinLinkDown x0).tb = x0.tb := by
  unfold twinLinkDown
  dsimp only
  (repeat' split) <;> simp [*]

@[simp] theorem addLoad_tb (x0 : Load) (x1 : State) : (addLoad x0 x1).tb = x1.tb := by simp only [addLoad, ite_tb, ite_self]

@[simp] theorem fabReset_tb (x0 : ℕ) (x1 : State) : (fabReset x0 x1).tb = x1.tb := by
  simp only [fabReset, addLoad_tb, setFab_tb, ite_tb, ite_self]

@[simp] theorem raiseIn_tb (x0 x1 x2 x3 : ℕ) (x4 : State → State) (x5 : State) (h : ∀ s, (x4 s).tb = s.tb) : (raiseIn x0 x1 x2
    x3 x4 x5).tb = x5.tb := by
  simp [raiseIn, *]

@[simp] theorem fabLeave_tb (x0 x1 : ℕ) (x2 : State) : (fabLeave x0 x1 x2).tb = x2.tb := by simp [fabLeave, *]

@[simp] theorem fabDetect_tb (x0 : ℕ) (x1 : State) : (fabDetect x0 x1).tb = x1.tb := by
  simp only [fabDetect, fabLeave_tb, setFab_tb, ite_tb, concludeRetrain_tb, sendTraining_tb, ite_tb, ite_self]

@[simp] theorem fabWait_tb (x0 : ℕ) (x1 : State) : (fabWait x0 x1).tb = x1.tb := by simp only [fabWait, ite_tb, ite_self]

@[simp] theorem fabHold_tb (x0 : ℕ) (x1 : State) : (fabHold x0 x1).tb = x1.tb := by
  simp only [fabHold, concludeRetrain_tb, setFab_tb, fabLeave_tb, ite_tb, ite_self]

@[simp] theorem audioChange_tb (x0 : Quire) (x1 : ℕ) (x2 : State) : (audioChange x0 x1 x2).tb = x2.tb := by
  simp only [audioChange, ite_tb, ite_self]

@[simp] theorem fenceEvaluation_tb (x0 : State) : (fenceEvaluation x0).tb = x0.tb := by
  unfold fenceEvaluation
  (repeat' split) <;> simp only [raise_tb, ite_tb, ite_self]

@[simp] theorem holdExpiry_tb (x0 : State) : (holdExpiry x0).tb = x0.tb := by
  simp only [holdExpiry, setDpll_tb, rfcEvent_tb, ite_tb, ite_self]

@[simp] theorem evaluateBounds_tb (x0 : State) : (evaluateBounds x0).tb = x0.tb := by
  simp only [evaluateBounds, setDpll_tb, holdExpiry_tb, fenceEvaluation_tb, setTime_tb, ite_tb, ite_self]

@[simp] theorem dpllEnter_tb (x0 : ℕ) (x1 : State) : (dpllEnter x0 x1).tb = x1.tb := by
  simp only [dpllEnter, setDpll_tb, evaluateBounds_tb, rfcEvent_tb, ite_tb, ite_self]

@[simp] theorem disqualify_tb (x0 : State) (x1 : ℕ) : (disqualify x0 x1).tb = x0.tb := by
  simp only [disqualify, refEnter_tb, ite_tb, ite_self]

@[simp] theorem startSoak_tb (x0 : ℕ) (x1 : State) : (startSoak x0 x1).tb = x1.tb := by
  simp only [startSoak, refEnter_tb, ite_tb, ite_self]

@[simp] theorem promote_tb (x0 : State) (x1 : ℕ) : (promote x0 x1).tb = x0.tb := by
  simp only [promote, setRef_tb, refEnter_tb, startSoak_tb, ite_tb, ite_self]

@[simp] theorem followBridge_tb (x0 : State) : (followBridge x0).tb = x0.tb := by
  unfold followBridge
  dsimp only
  (repeat' split) <;> simp [*]

@[simp] theorem selectRef_tb (x0 : Option ℕ) (x1 : State) : (selectRef x0 x1).tb = x1.tb := by
  unfold selectRef
  (repeat' split) <;> simp only [setTime_tb, setDpll_tb, dpllEnter_tb, rfcEvent_tb, ite_tb, ite_self]

@[simp] theorem applySelect_tb (x0 : State) (x1 : PendingSelect) : (applySelect x0 x1).tb = x0.tb := by
  unfold applySelect
  dsimp only
  (repeat' split) <;> simp [*]

@[simp] theorem checkForce_tb (x0 : State) : (checkForce x0).tb = x0.tb := by
  unfold checkForce
  dsimp only
  (repeat' split) <;> simp [*]

@[simp] theorem updateFlywheel_tb (x0 : State) : (updateFlywheel x0).tb = x0.tb := by
  simp only [updateFlywheel, setDpll_tb, ite_tb, ite_self]

@[simp] theorem reselect_tb (x0 : State) : (reselect x0).tb = x0.tb := by
  simp only [reselect, updateFlywheel_tb, checkForce_tb, applySelect_tb, setDpll_tb, selectRef_tb, followBridge_tb, foldl_tb,
    implies_true, ite_tb, ite_self]

@[simp] theorem refChange_tb (x0 : Quire) (x1 : State) : (refChange x0 x1).tb = x1.tb := by
  simp only [refChange, ite_tb, setRef_tb, refEnter_tb, refUse_tb, evaluateBounds_tb, reselect_tb, promote_tb, disqualify_tb,
    dpllEnter_tb, foldl_tb, implies_true, ite_tb, ite_self]

@[simp] theorem setGnss_tb (x0 : Gnss → Gnss) (x1 : State) : (setGnss x0 x1).tb = x1.tb := (rfl)

@[simp] theorem setSatChan_tb (x0 : ℕ) (x1 : Channel → Channel) (x2 : State) : (setSatChan x0 x1 x2).tb = x2.tb := (rfl)

@[simp] theorem chanEnter_tb (x0 x1 : ℕ) (x2 : State) : (chanEnter x0 x1 x2).tb = x2.tb := by
  simp only [chanEnter, setSatChan_tb, ite_tb, ite_self]

@[simp] theorem activityFault_tb (x0 : ℕ) (x1 : State) : (activityFault x0 x1).tb = x1.tb := by
  simp only [activityFault, setRef_tb, reselect_tb, refEnter_tb, ite_tb, ite_self]

@[simp] theorem gnssInvalid_tb (x0 : State) : (gnssInvalid x0).tb = x0.tb := by
  simp only [gnssInvalid, activityFault_tb, setGnss_tb, ite_tb, ite_self]

@[simp] theorem idleAll_tb (x0 : State) : (idleAll x0).tb = x0.tb := by
  simp only [idleAll, chanEnter_tb, foldl_tb, implies_true, ite_tb, ite_self]

@[simp] theorem gnssChange_tb (x0 : Quire) (x1 : State) : (gnssChange x0 x1).tb = x1.tb := by
  simp only [gnssChange, setGnss_tb, idleAll_tb, gnssInvalid_tb, chanEnter_tb, foldl_tb, implies_true, ite_tb, ite_self]

@[simp] theorem mgmtChange_tb (x0 : Quire) (x1 : State) : (mgmtChange x0 x1).tb = x1.tb := (rfl)

@[simp] theorem noteUtc_tb (x0 : State) : (noteUtc x0).tb = x0.tb := by simp only [noteUtc, setTime_tb, ite_tb, ite_self]

@[simp] theorem instantChange_tb (x0 : Quire) (x1 : ℕ) (x2 : State) : (instantChange x0 x1 x2).tb = x2.tb := by
  simp only [instantChange, fenceEvaluation_tb, noteUtc_tb, mgmtChange_tb, gnssChange_tb, refChange_tb, audioChange_tb, ite_tb,
    ite_self]

@[simp] theorem adoptSnapshot_tb (x0 : Snapshot) (x1 : State) : (adoptSnapshot x0 x1).tb = x1.tb := by
  simp only [adoptSnapshot, setQuires_tb, setTime_tb, instantChange_tb, ite_tb, ite_self]

@[simp] theorem egress_tb (x0 : ℕ) (x1 : EgFrame) (x2 : State) : (egress x0 x1 x2).tb = x2.tb := by
  simp only [egress, setNet_tb, ite_tb, ite_self]

@[simp] theorem launchRtp_tb (x0 : ℕ) (x1 : Bytes) (x2 : ℕ) (x3 : Bytes) (x4 : State) : (launchRtp x0 x1 x2 x3 x4).tb = x4.tb :=
    by
  simp only [launchRtp, setFlow_tb, egress_tb, ite_tb, ite_self]

@[simp] theorem txCount_tb (x0 x1 x2 : ℕ) (x3 : State) : (txCount x0 x1 x2 x3).2.tb = x3.tb := by
  unfold txCount
  dsimp only
  (repeat' split) <;> simp [*]

@[simp] theorem foreseen_tb (x0 : State) (x1 x2 : ℕ) : (foreseen x0 x1 x2).tb = x0.tb := by
  unfold foreseen
  (repeat' split) <;> simp [*]

@[simp] theorem launchAnc_tb (x0 x1 x2 : ℕ) (x3 x4 : Bytes) (x5 : State) : (launchAnc x0 x1 x2 x3 x4 x5).tb = x5.tb := by
  unfold launchAnc
  (repeat' split) <;> simp only [ite_tb, txCount_tb, launchRtp_tb, ite_tb, ite_self]

@[simp] theorem fabricTest_tb (x0 x1 : ℕ) (x2 : State) : (fabricTest x0 x1 x2).tb = x2.tb := by
  simp only [fabricTest, ite_tb, fabLeave_tb, fabDetect_tb, ite_tb, ite_self]

@[simp] theorem doorbell_tb (x0 x1 : ℕ) (x2 : State) : (doorbell x0 x1 x2).tb = x2.tb := by
  simp only [doorbell, qpFault_tb, setQp_tb, ite_tb, ite_self]

@[simp] theorem portEnter_tb (x0 x1 : ℕ) (x2 : State) : (portEnter x0 x1 x2).tb = x2.tb := (rfl)

@[simp] theorem portReset_tb (x0 : ℕ) (x1 : State) : (portReset x0 x1).tb = x1.tb := by
  simp only [portReset, addLoad_tb, portEnter_tb, ite_tb, ite_self]

@[simp] theorem wakePort_tb (x0 x1 : ℕ) (x2 : State) : (wakePort x0 x1 x2).tb = x2.tb := by simp [wakePort, *]

@[simp] theorem ownDecision_tb (x0 : ℕ) (x1 : State) : (ownDecision x0 x1).tb = x1.tb := by
  simp only [ownDecision, ite_tb, ite_self]

@[simp] theorem apCount_tb (x0 x1 x2 : ℕ) (x3 : State) : (apCount x0 x1 x2 x3).tb = x3.tb := (rfl)

@[simp] theorem apReset_tb (x0 : ℕ) (x1 : State) : (apReset x0 x1).tb = x1.tb := by
  simp only [apReset, setApt_tb, ite_tb, ite_self]

@[simp] theorem slipped_tb (x0 x1 : ℕ) (x2 : Bool) (x3 : State) : (slipped x0 x1 x2 x3).tb = x3.tb := by simp [slipped, *]

@[simp] theorem bufOut_tb (x0 : ℕ) (x1 : Option Bool) (x2 : State) : (bufOut x0 x1 x2).1.tb = x2.tb := by
  unfold bufOut
  dsimp only
  (repeat' split) <;> simp [*]

@[simp] theorem feedPort_tb (x0 : ℕ) (x1 : Option (List ℕ)) (x2 : State) : (feedPort x0 x1 x2).1.tb = x2.tb := by
  simp only [feedPort, bufOut_tb, ite_tb, ite_self]

@[simp] theorem setRx_tb (x0 : ℕ) (x1 : RxStream → RxStream) (x2 : State) : (setRx x0 x1 x2).tb = x2.tb := (rfl)

@[simp] theorem feedStream_tb (x0 : ℕ) (x1 : Bytes) (x2 : State) : (feedStream x0 x1 x2).1.tb = x2.tb := (rfl)

@[simp] theorem feedFlow_tb (x0 : ℕ) (x1 : Bytes) (x2 : State) : (feedFlow x0 x1 x2).1.tb = x2.tb := by
  unfold feedFlow
  dsimp only
  (repeat' split) <;> simp [*]

@[simp] theorem laneReset_tb (x0 : ℕ) (x1 : State) : (laneReset x0 x1).tb = x1.tb := by
  unfold laneReset
  (repeat' split) <;> simp only [setLane_tb, srcLost_tb, addLoad_tb, ite_tb, ite_self]

@[simp] theorem fifoDrain_tb (x0 : ℕ) (x1 : State) : (fifoDrain x0 x1).1.tb = x1.tb := by
  unfold fifoDrain
  dsimp only
  (repeat' split) <;> simp [*]

@[simp] theorem feedLane_tb (x0 : ℕ) (x1 : State) : (feedLane x0 x1).1.tb = x1.tb := by
  simp only [feedLane, fifoDrain_tb, foldl_tb, implies_true, ite_tb, ite_self]

@[simp] theorem gather_tb {α : Type} (x1 : α → State → State × Feed) (x2 : List α) (x3 : State) (h : ∀ a s, (x1 a s).1.tb =
    s.tb) : (gather x1 x2 x3).1.tb = x3.tb := by
  fun_induction gather <;> simp_all +zetaDelta

@[simp] theorem sectionFeed_tb (sec n : Nat) (c : Option (List Nat)) (s : State) : (sectionFeed sec n c s).1.tb = s.tb := by
  have h1 : ∀ l s, (gather feedLane l s).1.tb = s.tb := fun l s => gather_tb _ _ _ fun a s => by simp
  have h2 : ∀ l s, (gather (feedFlow n) l s).1.tb = s.tb := fun l s => gather_tb _ _ _ fun a s => by simp
  have h3 : ∀ l s, (gather (feedStream n) l s).1.tb = s.tb := fun l s => gather_tb _ _ _ fun a s => by simp
  have h4 : ∀ l s, (gather (fun p t => feedPort p c t) l s).1.tb = s.tb := fun l s => gather_tb _ _ _ fun a s => by simp
  by_cases h : sec = 0 <;> simp only [sectionFeed, h, if_true, if_false, h1, h2, h3, h4]

@[simp] theorem resendFrom_tb (x0 : ℕ) (x1 : State) : (resendFrom x0 x1).tb = x1.tb := by
  simp only [resendFrom, setStitch_tb, stitchEmit_tb, foldl_tb, implies_true, ite_tb, ite_self]

@[simp] theorem launch2022_tb (x0 x1 x2 : ℕ) (x3 x4 : Bytes) (x5 : State) : (launch2022 x0 x1 x2 x3 x4 x5).tb = x5.tb := by
  unfold launch2022
  (repeat' split) <;> simp only [launchRtp_tb, ite_tb, ite_self]

@[simp] theorem rollOver_tb (x0 : ℕ) (x1 : State) : (rollOver x0 x1).tb = x1.tb := (rfl)

@[simp] theorem signPtp_tb (x0 : ℕ) (x1 : Bytes) (x2 : State) : (signPtp x0 x1 x2).1.tb = x2.tb := by
  unfold signPtp
  dsimp only
  (repeat' split) <;> simp [*]

@[simp] theorem sendPtp_tb (x0 x1 : ℕ) (x2 x3 : Bytes) (x4 : State) : (sendPtp x0 x1 x2 x3 x4).tb = x4.tb := by
  simp only [sendPtp, signPtp_tb, emit_tb, ite_tb, ite_self]

@[simp] theorem nextSeqOf_tb (x0 x1 : ℕ) (x2 : State) : (nextSeqOf x0 x1 x2).2.tb = x2.tb := (rfl)

@[simp] theorem setPtpSessions_tb (x0 : List PtpSession) (x1 : State) : (setPtpSessions x0 x1).tb = x1.tb := by
  simp only [setPtpSessions, copyItem_tb, setTime_tb, foldl_tb, implies_true, ite_tb, ite_self]

@[simp] theorem cancelUnicast_tb (x0 x1 : ℕ) (x2 x3 : Bytes) (x4 x5 : ℕ) (x6 : State) : (cancelUnicast x0 x1 x2 x3 x4 x5 x6).tb
    = x6.tb := by
  simp only [cancelUnicast, setPtpSessions_tb, ite_tb, ite_tb, ite_self]

@[simp] theorem requestUnicast_tb (x0 x1 : ℕ) (x2 x3 : Bytes) (x4 x5 : ℕ) (x6 : ℤ) (x7 : ℕ) (x8 : Bool) (x9 : State) :
    (requestUnicast x0 x1 x2 x3 x4 x5 x6 x7 x8 x9).2.tb = x9.tb := by
  unfold requestUnicast
  dsimp only
  (repeat' split) <;> simp [*]

@[simp] theorem signalTlv_tb (x0 x1 : ℕ) (x2 x3 : Bytes) (x4 : ℕ) (x5 : Bool) (x6 : Bytes × State) (x7 : ℕ × ℕ × Bytes) :
    (signalTlv x0 x1 x2 x3 x4 x5 x6 x7).2.tb = x6.2.tb := by
  unfold signalTlv
  (repeat' split) <;> simp only [requestUnicast_tb, cancelUnicast_tb, ite_tb, ite_self]

@[simp] theorem takeSignal_tb (x0 x1 : ℕ) (x2 x3 : Bytes) (x4 : Bool) (x5 : State) : (takeSignal x0 x1 x2 x3 x4 x5).tb = x5.tb
    := by
  simp [takeSignal, *]

@[simp] theorem noteLeap_tb (x0 : ℕ) (x1 : Foreign) (x2 : State) : (noteLeap x0 x1 x2).tb = x2.tb := by
  simp only [noteLeap, setTime_tb, ite_tb, ite_self]

@[simp] theorem selectMaster_tb (x0 : ℕ) (x1 : Option ℕ) (x2 : Option Foreign) (x3 : State) : (selectMaster x0 x1 x2 x3).tb =
    x3.tb := by
  simp only [selectMaster, noteUtc_tb, setInst_tb, ite_tb, ite_self]

@[simp] theorem decidePort_tb (x0 : ℕ) (x1 : Option (ℕ × Foreign)) (x2 : State) (x3 : ℕ) : (decidePort x0 x1 x2 x3).tb = x2.tb
    := by
  unfold decidePort
  (repeat' split) <;> simp only [ppEnter_tb, ite_tb, ite_self]

@[simp] theorem bestMaster_tb (x0 : ℕ) (x1 : State) : (bestMaster x0 x1).tb = x1.tb := by
  unfold bestMaster
  dsimp only
  (repeat' split) <;> simp [*]

@[simp] theorem takeAnnounce_tb (x0 x1 : ℕ) (x2 x3 : Bytes) (x4 : State) : (takeAnnounce x0 x1 x2 x3 x4).tb = x4.tb := by
  unfold takeAnnounce
  dsimp only
  (repeat' split) <;> simp [*]

@[simp] theorem delayResp_tb (x0 x1 : ℕ) (x2 x3 : Bytes) (x4 : ℕ) (x5 : Bool) (x6 : ℤ) (x7 : State) : (delayResp x0 x1 x2 x3 x4
    x5 x6 x7).tb = x7.tb := by
  simp only [delayResp, sendPtp_tb, ite_tb, ite_self]

@[simp] theorem takeDelayReq_tb (x0 x1 : ℕ) (x2 x3 : Bytes) (x4 : ℕ) (x5 : State) : (takeDelayReq x0 x1 x2 x3 x4 x5).tb = x5.tb
    := by
  unfold takeDelayReq
  dsimp only
  (repeat' split) <;> simp [*]

@[simp] theorem activityRestored_tb (x0 : ℕ) (x1 : State) : (activityRestored x0 x1).tb = x1.tb := by
  simp only [activityRestored, setRef_tb, reselect_tb, refEnter_tb, startSoak_tb, ite_tb, ite_self]

@[simp] theorem measured_tb (x0 x1 : ℕ) (x2 : State) : (measured x0 x1 x2).tb = x2.tb := by
  simp only [measured, ppEnter_tb, setRef_tb, activityRestored_tb, setInst_tb, ite_tb, ite_self]

@[simp] theorem takeDelayResp_tb (x0 x1 : ℕ) (x2 : Bytes) (x3 : State) : (takeDelayResp x0 x1 x2 x3).tb = x3.tb := by
  unfold takeDelayResp
  dsimp only
  (repeat' split) <;> simp [*]

@[simp] theorem takeSync_tb (x0 x1 : ℕ) (x2 x3 x4 : ℤ) (x5 : State) : (takeSync x0 x1 x2 x3 x4 x5).tb = x5.tb := by
  simp only [takeSync, measured_tb, setInst_tb, ite_tb, ite_self]

@[simp] theorem handlePtp_tb (x0 x1 : ℕ) (x2 x3 : Bytes) (x4 : Bool) (x5 : State) : (handlePtp x0 x1 x2 x3 x4 x5).tb = x5.tb :=
    by
  unfold handlePtp
  (repeat' split) <;> simp only [setInst_tb, takeSync_tb, takeDelayResp_tb, takeDelayReq_tb, takeAnnounce_tb, takeSignal_tb,
    ite_tb, ite_self]

@[simp] theorem lanesSettle_tb (x0 : ℕ) (x1 : State) : (lanesSettle x0 x1).tb = x1.tb := by
  unfold lanesSettle
  (repeat' split) <;> simp only [setLane_tb, foldl_tb, implies_true, ite_tb, ite_self]

@[simp] theorem writeDest_tb (x0 x1 : ℕ) (x2 : Bytes) (x3 : State) : (writeDest x0 x1 x2 x3).tb = x3.tb := by
  simp only [writeDest, ite_tb, ite_self]

@[simp] theorem takeSwap_tb (x0 x1 : ℕ) (x2 : State) : (takeSwap x0 x1 x2).tb = x2.tb := by
  unfold takeSwap
  (repeat' split) <;> simp only [ite_tb, ite_self]

@[simp] theorem applyDest_tb (x0 : DrvEvent) (x1 : ℕ) (x2 : State) : (applyDest x0 x1 x2).1.tb = x2.tb := by
  unfold applyDest
  dsimp only
  (repeat' split) <;> simp [*]

@[simp] theorem answerDeferred_tb (x0 x1 x2 : ℕ) (x3 : Deferred → State → Ans) (x4 : State) (h : ∀ d s, (x3 d s).st.tb = s.tb) :
    (answerDeferred x0 x1 x2 x3 x4).tb = x4.tb := by
  unfold answerDeferred
  (repeat' split) <;> simp [*]

@[simp] theorem answerActivation_tb (x0 x1 : ℕ) (x2 : State) : (answerActivation x0 x1 x2).tb = x2.tb := by
  simp only [answerActivation, answerDeferred_tb, foldl_tb, implies_true, ite_tb, ite_self]

@[simp] theorem startActivation_tb (x0 : Activation) (x1 : State) : (startActivation x0 x1).tb = x1.tb := by
  simp only [startActivation, setBoot_tb, ite_tb, copyItem_tb, answerActivation_tb, ite_tb, ite_self]

@[simp] theorem learnSample_tb (x0 : State) : (learnSample x0).tb = x0.tb := by
  simp only [learnSample, setDpll_tb, ite_tb, ite_self]

@[simp] theorem setSessions_tb (x0 : List Session → List Session) (x1 : State) : (setSessions x0 x1).tb = x1.tb := (rfl)

@[simp] theorem closeSession_tb (x0 x1 : ℕ) (x2 : State) : (closeSession x0 x1 x2).tb = x2.tb := (rfl)

@[simp] theorem finishItem_tb (x0 x1 x2 : ℕ) (x3 : State) : (finishItem x0 x1 x2 x3).tb = x3.tb := (rfl)

@[simp] theorem sendCaps_tb (x0 : ℕ) (x1 : State) : (sendCaps x0 x1).tb = x1.tb := by
  simp only [sendCaps, bondSend_tb, ite_tb, ite_self]

@[simp] theorem apStart_tb (x0 : ℕ) (x1 : State) : (apStart x0 x1).tb = x1.tb := (rfl)

@[simp] theorem chooseCase_tb (x0 : State) : (chooseCase x0).2.tb = x0.tb := by
  unfold chooseCase
  dsimp only
  (repeat' split) <;> simp [*]

@[simp] theorem loadQuire_tb (x0 : State) : (loadQuire x0).tb = x0.tb := by
  simp only [loadQuire, chooseCase_tb, setBoot_tb, setQuires_tb, instantChange_tb, ite_tb, ite_self]

@[simp] theorem refuseWaiting_tb (x0 : State) : (refuseWaiting x0).tb = x0.tb := by
  unfold refuseWaiting
  repeat' (first | (simp [*]; done) | (rw [foldl_tb]; intro t a) | split | dsimp only)

@[simp] theorem launchOpaque_tb (x0 x1 : ℕ) (x2 x3 : Bytes) (x4 : State) : (launchOpaque x0 x1 x2 x3 x4).tb = x4.tb := by
  unfold launchOpaque
  dsimp only
  (repeat' split) <;> simp [*]

@[simp] theorem postLaunch_tb (x0 : LaunchRec) (x1 : State) : (postLaunch x0 x1).tb = x1.tb := by
  simp only [postLaunch, flushLaunch_tb, ite_tb, ite_self]

@[simp] theorem dropHostFrames_tb (x0 : ℕ) (x1 : State) : (dropHostFrames x0 x1).tb = x1.tb := by
  simp only [dropHostFrames, postLaunch_tb, setNet_tb, foldl_tb, implies_true, ite_tb, ite_self]

@[simp] theorem layerReset_tb (x0 : ℕ) (x1 : State) : (layerReset x0 x1).tb = x1.tb := by
  simp only [layerReset, setLayer_tb, foldl_tb, implies_true, ite_tb, ite_self]

@[simp] theorem storeMove_tb (x0 x1 : ℕ) (x2 : State) : (storeMove x0 x1 x2).tb = x2.tb := by
  unfold storeMove
  dsimp only
  (repeat' split) <;> simp [*]

@[simp] theorem setSection_tb (x0 : ℕ) (x1 : Section → Section) (x2 : State) : (setSection x0 x1 x2).tb = x2.tb := (rfl)

@[simp] theorem delayMove_tb (x0 x1 : ℕ) (x2 : State) : (delayMove x0 x1 x2).tb = x2.tb := by
  unfold delayMove
  dsimp only
  (repeat' split) <;> simp [*]

@[simp] theorem setSync_tb (x0 : ℕ) (x1 : Sync → Sync) (x2 : State) : (setSync x0 x1 x2).tb = x2.tb := (rfl)

@[simp] theorem syEvent_tb (x0 x1 : ℕ) (x2 : State) : (syEvent x0 x1 x2).tb = x2.tb := by
  simp only [syEvent, raise_tb, ite_tb, ite_self]

@[simp] theorem syEnter_tb (x0 x1 : ℕ) (x2 : State) : (syEnter x0 x1 x2).tb = x2.tb := by
  simp only [syEnter, syEvent_tb, setSync_tb, ite_tb, ite_self]

@[simp] theorem syMove_tb (x0 : ℕ) (x1 : State) : (syMove x0 x1).tb = x1.tb := by
  unfold syMove
  dsimp only
  (repeat' split) <;> simp [*]

@[simp] theorem colophonMove_tb (x0 : ℕ) (x1 : State) : (colophonMove x0 x1).tb = x1.tb := by
  simp only [colophonMove, raise_tb, ite_tb, ite_self]

@[simp] theorem groupOut_tb (x0 x1 : ℕ) (x2 : State) : (groupOut x0 x1 x2).tb = x2.tb := by
  simp only [groupOut, raise_tb, setGroup_tb, colophonMove_tb, syMove_tb, delayMove_tb, ownDecision_tb, storeMove_tb, foldl_tb,
    implies_true, ite_tb, ite_self]

@[simp] theorem slaveOut_tb (x0 : ℕ) (x1 : Option Bool) (x2 : State) : (slaveOut x0 x1 x2).1.tb = x2.tb := by
  unfold slaveOut
  dsimp only
  (repeat' split) <;> simp [*]

@[simp] theorem entryIdle_tb (x0 : Bytes) (x1 : State) : (entryIdle x0 x1).tb = x1.tb := by
  unfold entryIdle
  dsimp only
  (repeat' split) <;> simp [*]

@[simp] theorem netCount_tb (x0 x1 x2 : ℕ) (x3 : State) : (netCount x0 x1 x2 x3).tb = x3.tb := (rfl)

@[simp] theorem portDrop_tb (x0 x1 x2 : ℕ) (x3 : State) : (portDrop x0 x1 x2 x3).tb = x3.tb := by
  simp only [portDrop, setNet_tb, portEnter_tb, ite_tb, netCount_tb, setLane_tb, entryIdle_tb, dropHostFrames_tb, foldl_tb,
    implies_true, ite_tb, ite_self]

@[simp] theorem laneLost_tb (x0 : ℕ) (x1 : State) : (laneLost x0 x1).tb = x1.tb := by
  unfold laneLost
  (repeat' split) <;> simp only [srcLost_tb, ite_tb, ite_self]

@[simp] theorem startLane_tb (x0 : Quire) (x1 : Bool) (x2 : ℕ) (x3 : State) : (startLane x0 x1 x2 x3).tb = x3.tb := by
  simp only [startLane, ite_tb, setLane_tb, laneLost_tb, portDrop_tb, addLoad_tb, ite_tb, ite_self]

@[simp] theorem setTx_tb (x0 : ℕ) (x1 : TxStream → TxStream) (x2 : State) : (setTx x0 x1 x2).tb = x2.tb := (rfl)

@[simp] theorem noteSent_tb (x0 : ℕ) (x1 : Bytes) (x2 : State) : (noteSent x0 x1 x2).tb = x2.tb := by
  unfold noteSent
  (repeat' split) <;> simp only [ite_tb, setFlow_tb, ite_tb, ite_self]

@[simp] theorem settleReplies_tb (x0 : ℕ) (x1 : State) : (settleReplies x0 x1).tb = x1.tb := (rfl)

@[simp] theorem countCoding_tb (x0 : ℕ) (x1 : State) : (countCoding x0 x1).tb = x1.tb := (rfl)

@[simp] theorem evaluateSource_tb (x0 : ℕ) (x1 : State) : (evaluateSource x0 x1).tb = x1.tb := by
  simp only [evaluateSource, srcEnter_tb, setSrc_tb, ite_tb, ite_self]

@[simp] theorem stampEdge_tb (x0 x1 : ℕ) (x2 : State) : (stampEdge x0 x1 x2).tb = x2.tb := by
  simp only [stampEdge, ite_tb, setAudio_tb, ite_tb, ite_self]

@[simp] theorem authCheck_tb (x0 : ℕ) (x1 : Bytes) (x2 : State) : (authCheck x0 x1 x2).1.tb = x2.tb := by
  unfold authCheck
  dsimp only
  (repeat' split) <;> simp [*]

@[simp] theorem ntsAuth_tb (x0 x1 : Bytes) (x2 : State) : (ntsAuth x0 x1 x2).1.tb = x2.tb := (rfl)

@[simp] theorem settleUse_tb (x0 x1 : ℕ) (x2 : State) : (settleUse x0 x1 x2).tb = x2.tb := (rfl)

@[simp] theorem sendSync_tb (x0 : ℕ) (x1 : State) : (sendSync x0 x1).tb = x1.tb := by
  fun_induction sendSync <;> simp_all +zetaDelta

@[simp] theorem sendAck_tb (x0 : Bool) (x1 : State) : (sendAck x0 x1).tb = x1.tb := by
  simp only [sendAck, setStitch_tb, ite_tb, stitchEmit_tb, ite_tb, ite_self]

@[simp] theorem earlyReply_tb (x0 : Req) (x1 x2 x3 : ℕ) (x4 : Bytes) (x5 : State) : (earlyReply x0 x1 x2 x3 x4 x5).tb = x5.tb :=
    by
  simp only [earlyReply, sendReply_tb, ite_tb, ite_self]

@[simp] theorem earlyBusy_tb (x0 : Req) (x1 : ℕ) (x2 : State) : (earlyBusy x0 x1 x2).tb = x2.tb := by
  simp only [earlyBusy, setPort_tb, earlyReply_tb, ite_tb, ite_self]

@[simp] theorem newCookie_tb (x0 x1 : Bytes) (x2 : State) : (newCookie x0 x1 x2).1.tb = x2.tb := (rfl)

@[simp] theorem newCookies_tb (x0 x1 : Bytes) (x2 : ℕ) (x3 : State) : (newCookies x0 x1 x2 x3).1.tb = x3.tb := by
  fun_induction newCookies <;> simp_all +zetaDelta

@[simp] theorem cookieKey_tb (x0 : ℕ) (x1 : State) : (cookieKey x0 x1).1.tb = x1.tb := by
  simp only [cookieKey, keyUse_tb, ite_tb, ite_self]

@[simp] theorem openCookie_tb (x0 : Bytes) (x1 : State) : (openCookie x0 x1).1.tb = x1.tb := by
  unfold openCookie
  dsimp only
  (repeat' split) <;> simp [*]

@[simp] theorem ntpCount_tb (x0 : ℕ) (x1 : State) : (ntpCount x0 x1).tb = x1.tb := (rfl)

@[simp] theorem ntsAnswer_tb (x0 : ℕ) (x1 x2 : Bytes) (x3 : State) : (ntsAnswer x0 x1 x2 x3).tb = x3.tb := by
  unfold ntsAnswer
  dsimp only
  (repeat' split) <;> simp [*]

@[simp] theorem markUsed_tb (x0 : ℕ) (x1 : Checked) (x2 : State) : (markUsed x0 x1 x2).tb = x2.tb := by
  simp only [markUsed, setSatChan_tb, setGnss_tb, foldl_tb, implies_true, ite_tb, ite_self]

@[simp] theorem writeColophon_tb (x0 : Option (ℕ × ℕ)) (x1 : State) : (writeColophon x0 x1).tb = x1.tb := by
  unfold writeColophon
  (repeat' split) <;> simp only [setEv_tb, ite_tb, ite_self]

@[simp] theorem restartInst_tb (x0 : ℕ) (x1 : State) : (restartInst x0 x1).tb = x1.tb := by
  simp only [restartInst, setPp_tb, ppEnter_tb, setInst_tb, setPtpSessions_tb, ite_tb, activityFault_tb, foldl_tb, implies_true,
    ite_tb, ite_self]

@[simp] theorem timeReset_tb (x0 : State) : (timeReset x0).tb = x0.tb := by
  simp only [timeReset, restartInst_tb, foldl_tb, implies_true, ite_tb, ite_self]

@[simp] theorem largeOffset_tb (x0 : State) : (largeOffset x0).tb = x0.tb := by
  unfold largeOffset
  (repeat' split) <;> simp [*]

@[simp] theorem noteOffset_tb (x0 : State) (x1 : ℕ) (x2 : Option ℤ) : (noteOffset x0 x1 x2).tb = x0.tb := (rfl)

@[simp] theorem closeAtom_tb (x0 : State) : (closeAtom x0).1.tb = x0.tb := by
  unfold closeAtom
  dsimp only
  (repeat' split) <;> simp [*]

@[simp] theorem evaluateRefs_tb (x0 : List (ℕ × ℤ)) (x1 : State) : (evaluateRefs x0 x1).tb = x1.tb := by
  simp only [evaluateRefs, setDpll_tb, refUse_tb, reconcile_tb, closeAtom_tb, noteOffset_tb, promote_tb, disqualify_tb, evaluateBounds_tb,
    largeOffset_tb, learnSample_tb, reselect_tb, foldl_tb, implies_true, ite_tb, ite_self]

@[simp] theorem stageActive_tb (x0 : Quire → Quire → Quire) (x1 : State) : (stageActive x0 x1).tb = x1.tb := (rfl)

@[simp] theorem sendReport_tb (x0 : Bytes) (x1 : ℕ) (x2 : State) : (sendReport x0 x1 x2).tb = x2.tb := by
  simp only [sendReport, egress_tb, ite_tb, ite_self]

@[simp] theorem startFlow_tb (x0 : ℕ) (x1 : State) : (startFlow x0 x1).1.tb = x1.tb := by
  unfold startFlow
  dsimp only
  (repeat' split) <;> simp [*]

@[simp] theorem setSlot_tb (x0 : ℕ) (x1 : FwSlot → FwSlot) (x2 : State) : (setSlot x0 x1 x2).tb = x2.tb := (rfl)

@[simp] theorem leaveSlot_tb (n : Nat) (s : State) : (leaveSlot n s).tb = s.tb := (rfl)

@[simp] theorem chooseSlot_tb (x0 : State) : (chooseSlot x0).2.tb = x0.tb := by
  unfold chooseSlot
  dsimp only
  (repeat' split) <;> simp [*]

@[simp] theorem itemAdmitted_tb (x0 x1 : ℕ) (x2 : State) : (itemAdmitted x0 x1 x2).tb = x2.tb := (rfl)

@[simp] theorem surveySecond_tb (x0 : GnssEpoch) (x1 : State) : (surveySecond x0 x1).tb = x1.tb := by
  simp only [surveySecond, setGnss_tb, ite_tb, ite_self]

@[simp] theorem setFold_tb (x0 : FoldBus → FoldBus) (x1 : State) : (setFold x0 x1).tb = x1.tb := (rfl)

@[simp] theorem beginTenure_tb (x0 : State) : (beginTenure x0).tb = x0.tb := (rfl)

@[simp] theorem foldEmit_tb (x0 x1 x2 : ℕ) (x3 : Bytes) (x4 : State) : (foldEmit x0 x1 x2 x3 x4).tb = x4.tb := (rfl)

@[simp] theorem passToken_tb (x0 : State) : (passToken x0).tb = x0.tb := by
  unfold passToken
  (repeat' split) <;> simp only [setFold_tb, foldEmit_tb, beginTenure_tb, ite_tb, ite_self]

@[simp] theorem sendQueued_tb (x0 : FoldOut) (x1 : ℕ) (x2 : State) : (sendQueued x0 x1 x2).tb = x2.tb := (rfl)

@[simp] theorem sendTenure_tb (x0 : ℕ) (x1 : State) : (sendTenure x0 x1).tb = x1.tb := by
  fun_induction sendTenure <;> simp_all +zetaDelta

@[simp] theorem runTenure_tb (x0 : State) : (runTenure x0).tb = x0.tb := by
  simp only [runTenure, sendTenure_tb, passToken_tb, ite_tb, ite_self]

@[simp] theorem bootHalt_tb (x0 : ℕ) (x1 : State) : (bootHalt x0 x1).tb = x1.tb := by
  simp only [bootHalt, notifyStatus_tb, setBoot_tb, ite_tb, ite_self]

@[simp] theorem refuseUnknown_tb (x0 : ℕ) (x1 : Req) (x2 : State) : (refuseUnknown x0 x1 x2).tb = x2.tb := by
  simp only [refuseUnknown, setPort_tb, unwait_tb, conclude_tb, refuse_tb, ite_tb, ite_tb, ite_self]

@[simp] theorem syRestart_tb (x0 : ℕ) (x1 : State) : (syRestart x0 x1).tb = x1.tb := by
  simp only [syRestart, syEnter_tb, setSync_tb, ite_tb, ite_self]

@[simp] theorem allocate_tb (x0 x1 x2 : ℕ) (x3 : State) : (allocate x0 x1 x2 x3).tb = x3.tb := (rfl)

@[simp] theorem startDram_tb (x0 : ℕ) (x1 : State) : (startDram x0 x1).1.tb = x1.tb := by
  unfold startDram
  (repeat' split) <;> simp only [ite_tb, stageActive_tb, allocate_tb, setSync_tb, syRestart_tb, ite_tb, ite_self]

@[simp] theorem syCapture_tb (x0 x1 x2 x3 x4 : ℕ) (x5 : List ℕ) (x6 : List AncPkt) (x7 : State) : (syCapture x0 x1 x2 x3 x4 x5
    x6 x7).tb = x7.tb := (rfl)

@[simp] theorem keepEntries_tb (x0 x1 : Quire) (x2 : ℕ) (x3 : State) : (keepEntries x0 x1 x2 x3).tb = x3.tb := by
  simp only [keepEntries, setFlow_tb, foldl_tb, implies_true, ite_tb, ite_self]

@[simp] theorem wakeUsed_tb (x0 : State) : (wakeUsed x0).tb = x0.tb := by
  simp only [wakeUsed, wakePort_tb, foldl_tb, implies_true, ite_tb, ite_self]

@[simp] theorem takeQuire_tb (x0 : DrvEvent) (x1 : ℕ) (x2 : State) : (takeQuire x0 x1 x2).tb = x2.tb := by
  simp only [takeQuire, setQuires_tb, ite_tb, dequeue_tb, wakeUsed_tb, instantChange_tb, keepEntries_tb, ite_tb, ite_self]

@[simp] theorem syDue_tb (x0 : ℕ) (x1 : State) : (syDue x0 x1).tb = x1.tb := by
  unfold syDue
  (repeat' split) <;> simp only [ite_tb, syRestart_tb, ite_tb, ite_self]

@[simp] theorem syAdvance_tb (x0 : ℕ) (x1 : State) : (syAdvance x0 x1).tb = x1.tb := by
  unfold syAdvance
  dsimp only
  (repeat' split) <;> simp [*]

@[simp] theorem setChan_tb (x0 : ℕ) (x1 : DramChan → DramChan) (x2 : State) : (setChan x0 x1 x2).tb = x2.tb := (rfl)

@[simp] theorem chanSleep_tb (x0 : ℕ) (x1 : Bool) (x2 : State) : (chanSleep x0 x1 x2).tb = x2.tb := by
  simp only [chanSleep, setChan_tb, setGroup_tb, ite_tb, ite_self]

@[simp] theorem trainGroup_tb (x0 : ℕ) (x1 : List (ℕ × ℕ)) (x2 : State) : (trainGroup x0 x1 x2).tb = x2.tb := by
  simp only [trainGroup, setChan_tb, setGroup_tb, raise_tb, foldl_tb, implies_true, ite_tb, ite_self]

@[simp] theorem apEnter_tb (x0 x1 : ℕ) (x2 : State) : (apEnter x0 x1 x2).tb = x2.tb := by
  simp only [apEnter, apCount_tb, setApt_tb, ite_tb, ite_self]

@[simp] theorem apFollow_tb (x0 : ℕ) (x1 : State) : (apFollow x0 x1).tb = x1.tb := by
  simp only [apFollow, apEnter_tb, setApt_tb, foldl_tb, implies_true, ite_tb, ite_self]

@[simp] theorem putKey_tb (x0 : ℕ) (x1 : KeySlot) (x2 : State) : (putKey x0 x1 x2).tb = x2.tb := by
  simp only [putKey, setKey_tb, setKeys_tb, ite_tb, ite_self]

@[simp] theorem inputBlocks_tb (x0 : ℕ) (x1 : AesFrame) (x2 : State) : (inputBlocks x0 x1 x2).tb = x2.tb := (rfl)

@[simp] theorem runSlot_tb (x0 : ℕ) (x1 : Bool) (x2 : State) : (runSlot x0 x1 x2).tb = x2.tb := by
  simp only [runSlot, setSlot_tb, leaveSlot_tb, setBoot_tb, ite_tb, ite_self]

@[simp] theorem releaseShadow_tb (x0 : State) : (releaseShadow x0).tb = x0.tb := (rfl)

@[simp] theorem dropSwap_tb (x0 : DrvEvent) (x1 x2 : ℕ) (x3 : State) : (dropSwap x0 x1 x2 x3).tb = x3.tb := by
  simp [dropSwap, *]

@[simp] theorem applySwap_tb (x0 : State) : (applySwap x0).tb = x0.tb := by
  unfold applySwap
  (repeat' split) <;> simp only [ite_tb, takeQuire_tb, dropSwap_tb, releaseShadow_tb, ite_tb, ite_self]

@[simp] theorem forwardCommand_tb (x0 : Req) (x1 : Bytes) (x2 : State) : (forwardCommand x0 x1 x2).tb = x2.tb := by
  simp only [forwardCommand, stitchSend_tb, ite_tb, ite_self]

@[simp] theorem carryOver_tb (x0 : Bytes) (x1 : ℕ) (x2 : Req) (x3 : State) : (carryOver x0 x1 x2 x3).tb = x3.tb := by
  simp only [carryOver, forwardCommand_tb, ite_tb, unwait_tb, ite_tb, ite_self]

@[simp] theorem pushEra_tb (x0 x1 : ℕ) (x2 x3 : Bytes) (x4 : State) : (pushEra x0 x1 x2 x3 x4).tb = x4.tb := (rfl)

@[simp] theorem layerUpdate_tb (x0 : ℕ) (x1 : Bytes) (x2 : ℕ) (x3 : State) : (layerUpdate x0 x1 x2 x3).1.tb = x3.tb := by
  simp only [layerUpdate, setEngine_tb, pushEra_tb, foldl_tb, implies_true, ite_tb, ite_self]

@[simp] theorem bufIn_tb (x0 : ℕ) (x1 : PortFrame) (x2 : Option Bool) (x3 : State) : (bufIn x0 x1 x2 x3).tb = x3.tb := by
  simp only [bufIn, slipped_tb, setApt_tb, ite_tb, ite_self]

@[simp] theorem loadRoots_tb (x0 : State) : (loadRoots x0).tb = x0.tb := by
  unfold loadRoots
  repeat' (first | (simp [*]; done) | (rw [foldl_tb]; intro t a) | split | dsimp only)

@[simp] theorem setClass_tb (x0 : ℕ) (x1 : List RxRec) (x2 : State) : (setClass x0 x1 x2).tb = x2.tb := (rfl)

@[simp] theorem fabCount_tb (x0 x1 x2 : ℕ) (x3 : State) : (fabCount x0 x1 x2 x3).tb = x3.tb := (rfl)

@[simp] theorem sendCell_tb (x0 : List ℕ) (x1 : Bytes) (x2 : State) : (sendCell x0 x1 x2).tb = x2.tb := by
  unfold sendCell
  repeat' (first | (simp [*]; done) | (rw [foldl_tb]; intro t a) | split | dsimp only)

@[simp] theorem flowCount_tb (x0 x1 x2 : ℕ) (x3 : State) : (flowCount x0 x1 x2 x3).tb = x3.tb := (rfl)

@[simp] theorem receiveAudio_tb (x0 : ℕ) (x1 x2 : Bytes) (x3 : Rtp) (x4 : State) : (receiveAudio x0 x1 x2 x3 x4).tb = x4.tb :=
    by
  simp only [receiveAudio, flowCount_tb, setFlow_tb, foldl_tb, implies_true, ite_tb, ite_self]

@[simp] theorem signalQp_tb (x0 : ℕ) (x1 : State) : (signalQp x0 x1).tb = x1.tb := by
  simp only [signalQp, sendMsi_tb, setQp_tb, ite_tb, ite_self]

@[simp] theorem ownBridges_tb (x0 : State) : (ownBridges x0).tb = x0.tb := by
  simp only [ownBridges, ownDecision_tb, ite_tb, ite_self]

@[simp] theorem sendCrook_tb (x0 x1 : ℕ) (x2 : State) : (sendCrook x0 x1 x2).tb = x2.tb := by
  simp only [sendCrook, stitchSend_tb, setTwin_tb, ite_tb, ite_self]

@[simp] theorem followCycle_tb (x0 : ℕ) (x1 : State) : (followCycle x0 x1).tb = x1.tb := by
  unfold followCycle
  (repeat' split) <;> simp only [sendCrook_tb, ownBridges_tb, setTwin_tb, ite_tb, ite_self]

@[simp] theorem rxDrop_tb (x0 x1 : ℕ) (x2 : Quire) (x3 : ℕ) (x4 : State) : (rxDrop x0 x1 x2 x3 x4).tb = x4.tb := by
  simp [rxDrop, *]

@[simp] theorem gangDrop_tb (x0 : ℕ) (x1 : State) : (gangDrop x0 x1).tb = x1.tb := by
  simp only [gangDrop, rxDrop_tb, foldl_tb, implies_true, ite_tb, ite_self]

@[simp] theorem busWrites_tb (x0 x1 : ℕ) (x2 : Bytes) (x3 : State) : (busWrites x0 x1 x2 x3).tb = x3.tb := by
  fun_induction busWrites <;> simp_all +zetaDelta

@[simp] theorem syCount_tb (x0 x1 x2 : ℕ) (x3 : State) : (syCount x0 x1 x2 x3).tb = x3.tb := (rfl)

@[simp] theorem keepChoice_tb (x0 : ℕ) (x1 : FsyChoice) (x2 : State) : (keepChoice x0 x1 x2).tb = x2.tb := by
  simp only [keepChoice, setSync_tb, ite_tb, copyItem_tb, ite_tb, ite_self]

@[simp] theorem takeFrame_tb (x0 x1 x2 x3 : ℕ) (x4 : State) : (takeFrame x0 x1 x2 x3 x4).tb = x4.tb := by
  simp only [takeFrame, keepChoice_tb, setSync_tb, syEvent_tb, syCount_tb, ite_tb, ite_self]

@[simp] theorem lossChoice_tb (x0 x1 : ℕ) (x2 : State) : (lossChoice x0 x1 x2).tb = x2.tb := by
  simp only [lossChoice, syCount_tb, keepChoice_tb, setSync_tb, ite_tb, ite_self]

@[simp] theorem syDecide_tb (x0 x1 : ℕ) (x2 : Option ℕ) (x3 : State) : (syDecide x0 x1 x2 x3).tb = x3.tb := by
  unfold syDecide
  dsimp only
  (repeat' split) <;> simp [*]

@[simp] theorem takeSyncFrame_tb (x0 : Bytes) (x1 : State) : (takeSyncFrame x0 x1).tb = x1.tb := by
  simp only [takeSyncFrame, ite_tb, setTwin_tb, ite_tb, ite_self]

@[simp] theorem compareClass_tb (x0 x1 : ℕ) (x2 : Bool) (x3 : State) : (compareClass x0 x1 x2 x3).tb = x3.tb := by
  simp only [compareClass, setTwin_tb, raise_tb, ite_tb, ite_self]

@[simp] theorem takeHealth_tb (x0 : Bytes) (x1 : State) : (takeHealth x0 x1).tb = x1.tb := by
  unfold takeHealth
  dsimp only
  (repeat' split) <;> simp [*]

@[simp] theorem enterSyncing_tb (x0 : State) : (enterSyncing x0).tb = x0.tb := by
  simp only [enterSyncing, enterRole_tb, setTwin_tb, ite_tb, ite_self]

@[simp] theorem crookReceive_tb (x0 : Bool) (x1 : Bytes) (x2 : State) : (crookReceive x0 x1 x2).tb = x2.tb := by
  unfold crookReceive
  dsimp only
  (repeat' split) <;> simp [*]

@[simp] theorem takeReply_tb (x0 : Bytes) (x1 : State) : (takeReply x0 x1).tb = x1.tb := by
  simp only [takeReply, setTwin_tb, sendReply_tb, ite_tb, ite_self]

@[simp] theorem startUnknown_tb (x0 : ℕ) (x1 : State) : (startUnknown x0 x1).tb = x1.tb := by
  fun_induction startUnknown <;> simp_all +zetaDelta

@[simp] theorem accept_tb (x0 : Bytes) (x1 : ℕ) (x2 : Req) (x3 : State) : (accept x0 x1 x2 x3).tb = x3.tb := by
  unfold accept
  (repeat' split) <;> simp only [await_tb, ite_tb, carryOver_tb, startUnknown_tb, ite_tb, ite_self]

@[simp] theorem earlyCounted_tb (x0 : Req) (x1 x2 x3 : ℕ) (x4 : Bytes) (x5 : State) : (earlyCounted x0 x1 x2 x3 x4 x5).tb =
    x5.tb := by
  simp only [earlyCounted, setPort_tb, earlyReply_tb, ite_tb, ite_self]

@[simp] theorem checkSequence_tb (x0 : Bytes) (x1 : ℕ) (x2 : Req) (x3 : State) : (checkSequence x0 x1 x2 x3).tb = x3.tb := by
  unfold checkSequence
  dsimp only
  (repeat' split) <;> simp [*]

@[simp] theorem setTransport_tb (x0 : ℕ) (x1 : Transport → Transport) (x2 : State) : (setTransport x0 x1 x2).tb = x2.tb := (rfl)

@[simp] theorem noAnswer_tb (x0 : Endpoint) (x1 : ℕ) (x2 : State) : (noAnswer x0 x1 x2).tb = x2.tb := by
  unfold noAnswer
  (repeat' split) <;> simp [*]

@[simp] theorem receiveAs_tb (x0 : Endpoint) (x1 : Option ℕ) (x2 : ℕ) (x3 : Bytes) (x4 : State) : (receiveAs x0 x1 x2 x3 x4).tb
    = x4.tb := by
  unfold receiveAs
  (repeat' split) <;> simp only [noAnswer_tb, setTransport_tb, setPort_tb, earlyReply_tb, earlyCounted_tb, checkSequence_tb,
    ite_tb, ite_self]

@[simp] theorem takeCommand_tb (x0 : Bytes) (x1 : State) : (takeCommand x0 x1).tb = x1.tb := by
  simp only [takeCommand, receiveAs_tb, ite_tb, ite_self]

@[simp] theorem adoptActivation_tb (x0 : Bool) (x1 : ℕ) (x2 : State) : (adoptActivation x0 x1 x2).tb = x2.tb := by
  simp only [adoptActivation, setBoot_tb, ite_tb, setSlot_tb, ite_tb, ite_self]

@[simp] theorem takeNav_tb (x0 x1 x2 : ℕ) (x3 : Bytes) (x4 : Bool) (x5 : State) : (takeNav x0 x1 x2 x3 x4 x5).tb = x5.tb := by
  unfold takeNav
  dsimp only
  (repeat' split) <;> simp [*]

@[simp] theorem suspectOff_tb (x0 : State) : (suspectOff x0).tb = x0.tb := by
  simp only [suspectOff, copyItem_tb, setGnss_tb, ite_tb, ite_self]

@[simp] theorem takeAid_tb (x0 : Bytes) (x1 : State) : (takeAid x0 x1).tb = x1.tb := by
  simp only [takeAid, copyItem_tb, setGnss_tb, suspectOff_tb, takeNav_tb, foldl_tb, implies_true, ite_tb, ite_self]

@[simp] theorem gnssReset_tb (x0 : State) : (gnssReset x0).tb = x0.tb := by
  simp only [gnssReset, chanEnter_tb, gnssInvalid_tb, foldl_tb, implies_true, ite_tb, ite_self]

@[simp] theorem suspectOn_tb (x0 : ℕ) (x1 : State) : (suspectOn x0 x1).tb = x1.tb := by simp [suspectOn, *]

@[simp] theorem adoptSession_tb (x0 : PtpSession) (x1 : Bool) (x2 : State) : (adoptSession x0 x1 x2).tb = x2.tb := (rfl)

@[simp] theorem adoptResult_tb (x0 : DrvResult) (x1 : State) : (adoptResult x0 x1).tb = x1.tb := by
  simp only [adoptResult, ite_tb, ite_tb, ite_self]

@[simp] theorem adoptEvent_tb (x0 : DrvEvent) (x1 : State) : (adoptEvent x0 x1).tb = x1.tb := by
  simp only [adoptEvent, ite_tb, setQuires_tb, ite_tb, ite_self]

@[simp] theorem setCard_tb (x0 : ℕ) (x1 : Card → Card) (x2 : State) : (setCard x0 x1 x2).tb = x2.tb := (rfl)

@[simp] theorem postChange_tb (x0 : Req) (x1 : ℕ) (x2 : List ℕ) (x3 : AudioWhat) (x4 : State) : (postChange x0 x1 x2 x3 x4).tb =
    x4.tb := (rfl)

@[simp] theorem takeGain_tb (x0 x1 : ℕ) (x2 : ℤ) (x3 : State) : (takeGain x0 x1 x2 x3).tb = x3.tb := by
  unfold takeGain
  dsimp only
  split <;> rfl

@[simp] theorem applyChange_tb (x0 : ℕ) (x1 : AudioChange) (x2 : State) : (applyChange x0 x1 x2).tb = x2.tb := by
  unfold applyChange
  (repeat' split) <;> simp only [takeGain_tb, setAudio_tb, ite_tb, ite_self]

@[simp] theorem applyGrant_tb (x0 x1 : ℕ) (x2 : Bytes) (x3 : State) : (applyGrant x0 x1 x2 x3).tb = x3.tb := (rfl)

@[simp] theorem refuseTimed_tb (x0 : State) (x1 x2 x3 : ℕ) : (refuseTimed x0 x1 x2 x3).st.tb = x0.tb := by
  simp only [refuseTimed, refuse_tb, ite_tb, ite_self]

@[simp] theorem meetSwap_tb (x0 : Bytes) (x1 : State) : (meetSwap x0 x1).tb = x1.tb := by
  unfold meetSwap
  (repeat' split) <;> simp only [setQuires_tb, dropSwap_tb, ite_tb, ite_self]

@[simp] theorem qirWrite_tb (x0 : Bytes) (x1 : State) : (qirWrite x0 x1).st.tb = x1.tb := by
  unfold qirWrite
  dsimp only
  (repeat' split) <;> simp [*]

@[simp] theorem makeChange_tb (x0 : Change) (x1 : State) : (makeChange x0 x1).tb = x1.tb := by
  unfold makeChange
  dsimp only
  (repeat' split) <;> simp [*]

@[simp] theorem adoptTime_tb (c : DpllCopy) (m : DpllMore) (s : State) : (adoptTime c m s).tb = s.tb := by
  simp only [adoptTime, setDpll_tb, setRef_tb, foldl_tb, implies_true]

@[simp] theorem adoptItem_tb (x0 : State) (x1 : CopyItem) : (adoptItem x0 x1).tb = x0.tb := by
  unfold adoptItem
  (repeat' split) <;> simp only [adoptTime_tb, setPort_tb, makeChange_tb, adoptEvent_tb, dequeue_tb, adoptResult_tb, setDpll_tb, setFlow_tb,
    adoptSession_tb, suspectOn_tb, ite_tb, suspectOff_tb, takeAid_tb, adoptActivation_tb, ite_tb, ite_self]

@[simp] theorem adoptItems_tb (l : List CopyItem) (s : State) : (adoptItems l s).tb = s.tb := by
  simp only [adoptItems, setTwin_tb, adoptItem_tb, foldl_tb, implies_true]

@[simp] theorem takeCopy_tb (x0 : Bytes) (x1 : State) : (takeCopy x0 x1).tb = x1.tb := by
  simp only [takeCopy, setTwin_tb, adoptItems_tb, ite_tb, ite_self]

@[simp] theorem deliver_tb (x0 : ℕ) (x1 : Bytes) (x2 : State) : (deliver x0 x1 x2).tb = x2.tb := by
  unfold deliver
  (repeat' split) <;> simp only [setTwin_tb, takeCopy_tb, takeCommand_tb, takeReply_tb, crookReceive_tb, takeHealth_tb,
    takeSyncFrame_tb, ite_tb, ite_self]

@[simp] theorem deliverRun_tb (x0 : ℕ) (x1 : Bytes) (x2 : State) : (deliverRun x0 x1 x2).tb = x2.tb := by
  fun_induction deliverRun <;> simp_all +zetaDelta

@[simp] theorem sendHealth_tb (x0 : ℕ) (x1 : State) : (sendHealth x0 x1).tb = x1.tb := by
  unfold sendHealth
  dsimp only
  (repeat' split) <;> simp [*]

@[simp] theorem sendCopy_tb (x0 : ℕ) (x1 : State) : (sendCopy x0 x1).tb = x1.tb := by
  simp only [sendCopy, setTwin_tb, stitchSend_tb, foldl_tb, implies_true, ite_tb, ite_self]

@[simp] theorem sendOwnCopy_tb (x0 : ℕ) (x1 : State) : (sendOwnCopy x0 x1).tb = x1.tb := by
  simp only [sendOwnCopy, setTwin_tb, stitchSend_tb, foldl_tb, implies_true, ite_tb, ite_self]

@[simp] theorem renewLease_tb (x0 : State) : (renewLease x0).tb = x0.tb := by
  simp only [renewLease, sendCrook_tb, setTwin_tb, ite_tb, ite_self]

@[simp] theorem loseCrook_tb (x0 : State) : (loseCrook x0).tb = x0.tb := by
  simp only [loseCrook, releaseReplies_tb, enterSyncing_tb, ite_tb, ite_self]

@[simp] theorem cancelEvent_tb (x0 : State) (x1 : DrvEvent) : (cancelEvent x0 x1).tb = x0.tb := by
  simp only [cancelEvent, ite_tb, dropSwap_tb, releaseShadow_tb, addResult_tb, copyItem_tb, dequeue_tb, ite_tb, ite_self]

@[simp] theorem routeReply_tb (x0 : Deferred) (x1 : State) : (routeReply x0 x1).st.tb = x1.tb := (rfl)

@[simp] theorem submitReply_tb (x0 : Deferred) (x1 : State) : (submitReply x0 x1).st.tb = x1.tb := by
  unfold submitReply
  (repeat' split) <;> simp only [okay_tb, ite_tb, ite_self]

@[simp] theorem layerReply_tb (x0 : Deferred) (x1 : State) : (layerReply x0 x1).st.tb = x1.tb := (rfl)

@[simp] theorem settle_tb (x0 x1 : ℕ) (x2 : State) : (settle x0 x1 x2).tb = x2.tb := by simp [settle, *]

@[simp] theorem ringMove_tb (x0 : Quire) (x1 x2 : ℕ) (x3 : State) : (ringMove x0 x1 x2 x3).tb = x3.tb := by
  simp only [ringMove, setSrc_tb, srcEnter_tb, ite_tb, ite_self]

@[simp] theorem moveRing_tb (x0 x1 : ℕ) (x2 : State) : (moveRing x0 x1 x2).tb = x2.tb := by
  simp only [moveRing, ite_tb, ringMove_tb, ite_tb, ite_self]

@[simp] theorem writeSlot_tb (x0 x1 x2 x3 : ℕ) (x4 : List ℕ) (x5 : State) : (writeSlot x0 x1 x2 x3 x4 x5).tb = x5.tb := by
  simp only [writeSlot, ite_tb, moveRing_tb, srcEnter_tb, setSrc_tb, ite_tb, ite_self]

@[simp] theorem writeThrough_tb (n i line fmt done : Nat) (data : List Nat) (s : State) :
    (writeThrough n i line fmt done data s).tb = s.tb := by
  induction n generalizing i s with
  | zero => simp [writeThrough]
  | succ n ih =>
    simp only [writeThrough]
    split
    · simp
    · rw [foldl_tb]
      · simp
      · intro t y
        split
        · rfl
        · split
          · split <;> simp [ih]
          · split <;> simp

@[simp] theorem audioCellTake_tb (x0 : ℕ) (x1 x2 : Bytes) (x3 : ℕ) (x4 : State) : (audioCellTake x0 x1 x2 x3 x4).tb = x4.tb :=
    (rfl)

@[simp] theorem ancCellTake_tb (x0 x1 : ℕ) (x2 : AncCell) (x3 : State) : (ancCellTake x0 x1 x2 x3).tb = x3.tb := by
  unfold ancCellTake
  dsimp only
  (repeat' split) <;> simp [*]

@[simp] theorem captureBad_tb (x0 x1 : ℕ) (x2 : State) : (captureBad x0 x1 x2).tb = x2.tb := by
  simp only [captureBad, setSync_tb, ite_tb, foldl_tb, implies_true, ite_tb, ite_self]

@[simp] theorem writeLine_tb (x0 x1 x2 x3 : ℕ) (x4 : List ℕ) (x5 : State) : (writeLine x0 x1 x2 x3 x4 x5).tb = x5.tb := by
  simp only [writeLine, writeThrough_tb, ite_tb, ite_self]

@[simp] theorem flushCells_tb (x0 : ℕ) (x1 : State) : (flushCells x0 x1).tb = x1.tb := by
  unfold flushCells
  (repeat' split) <;> simp only [ite_tb, setRx_tb, writeLine_tb, captureBad_tb, foldl_tb, implies_true, ite_tb, ite_self]

@[simp] theorem noteLate_tb (x0 : ℕ) (x1 : State) : (noteLate x0 x1).tb = x1.tb := by
  simp only [noteLate, setRx_tb, raiseIn_tb, fabReset_tb, foldl_tb, implies_true, ite_tb, ite_self]

@[simp] theorem cellTake_tb (x0 x1 : ℕ) (x2 : Bytes) (x3 : State) : (cellTake x0 x1 x2 x3).tb = x3.tb := by
  unfold cellTake
  dsimp only
  (repeat' split) <;> simp [*]

@[simp] theorem masterSend_tb (x0 x1 x2 : ℕ) (x3 : Bytes) (x4 : Bool) (x5 : ℤ) (x6 : State) : (masterSend x0 x1 x2 x3 x4 x5
    x6).tb = x6.tb := by
  simp only [masterSend, nextSeqOf_tb, sendPtp_tb, ite_tb, ite_self]

@[simp] theorem fabricAdmitted_tb (x0 : ℕ) (x1 : State) : (fabricAdmitted x0 x1).tb = x1.tb := by
  simp only [fabricAdmitted, fabDetect_tb, ite_tb, ite_self]

@[simp] theorem giveChannel_tb (x0 : State) (x1 : Want) : (giveChannel x0 x1).tb = x0.tb := by
  unfold giveChannel
  (repeat' split) <;> simp only [setSatChan_tb, chanEnter_tb, ite_tb, ite_self]

@[simp] theorem holdToken_tb (x0 : State) : (holdToken x0).tb = x0.tb := by
  simp only [holdToken, runTenure_tb, beginTenure_tb, ite_tb, ite_self]

@[simp] theorem deriveWrap_tb (x0 : State) : (deriveWrap x0).tb = x0.tb := (rfl)

@[simp] theorem restoreKeys_tb (x0 : List ℕ) (x1 : State) : (restoreKeys x0 x1).tb = x1.tb := by
  simp only [restoreKeys, raise_tb, setKey_tb, foldl_tb, implies_true, ite_tb, ite_self]

@[simp] theorem setSynth_tb (x0 x1 : ℕ) (x2 : State) : (setSynth x0 x1 x2).tb = x2.tb := (rfl)

@[simp] theorem portFall_tb (x0 x1 x2 : ℕ) (x3 : State) : (portFall x0 x1 x2 x3).tb = x3.tb := by simp [portFall, *]

@[simp] theorem ethrefDown_tb (x0 : State) : (ethrefDown x0).tb = x0.tb := by
  simp only [ethrefDown, portFall_tb, fabDetect_tb, foldl_tb, implies_true, ite_tb, ite_self]

@[simp] theorem silence_tb (x0 : ℕ) (x1 : State) : (silence x0 x1).tb = x1.tb := (rfl)

@[simp] theorem audioReset_tb (x0 : State) : (audioReset x0).tb = x0.tb := (rfl)

@[simp] theorem domainEnter_tb (x0 x1 : ℕ) (x2 : State) : (domainEnter x0 x1 x2).tb = x2.tb := by
  simp only [domainEnter, setAudio_tb, raiseIn_tb, audioReset_tb, apFollow_tb, silence_tb, foldl_tb, implies_true, ite_tb,
    ite_self]

@[simp] theorem gateEffects_tb (x0 : ℕ) (x1 : Bool) (x2 : State) : (gateEffects x0 x1 x2).tb = x2.tb := by
  simp only [gateEffects, domainEnter_tb, ethrefDown_tb, ite_tb, ite_self]

@[simp] theorem copyGasps_tb (x0 : State) : (copyGasps x0).tb = x0.tb := (rfl)

@[simp] theorem startVegen_tb (x0 : List ℕ) (x1 : State) : (startVegen x0 x1).tb = x1.tb := by
  simp only [startVegen, copyGasps_tb, setBoot_tb, setKeys_tb, gateEffects_tb, setSynth_tb, restoreKeys_tb, deriveWrap_tb,
    foldl_tb, implies_true, ite_tb, ite_self]

@[simp] theorem commandReady_tb (x0 : State) : (commandReady x0).tb = x0.tb := by
  simp only [commandReady, setBoot_tb, setTwin_tb, notifyStatus_tb, ite_tb, ite_self]

@[simp] theorem loadImages_tb (x0 : Bytes) (x1 : State) : (loadImages x0 x1).tb = x1.tb := (rfl)

@[simp] theorem trainAll_tb (x0 : List (ℕ × ℕ)) (x1 : State) : (trainAll x0 x1).tb = x1.tb := by
  simp only [trainAll, trainGroup_tb, setBoot_tb, setEv_tb, raise_tb, foldl_tb, implies_true, ite_tb, ite_self]

@[simp] theorem finishStart_tb (x0 : Bytes) (x1 : List (ℕ × ℕ)) (x2 : List ℕ) (x3 : State) : (finishStart x0 x1 x2 x3).tb =
    x3.tb := by
  simp only [finishStart, trainAll_tb, loadImages_tb, bootHalt_tb, commandReady_tb, loadQuire_tb, startVegen_tb, ite_tb,
    ite_self]

@[simp] theorem takeAidMessage_tb (x0 : Bytes) (x1 : State) : (takeAidMessage x0 x1).tb = x1.tb := by
  simp only [takeAidMessage, ite_tb, setFlock_tb, takeAid_tb, ite_tb, ite_self]

@[simp] theorem takeReport_tb (x0 : Bytes) (x1 : State) : (takeReport x0 x1).tb = x1.tb := by
  simp only [takeReport, setFlock_tb, ite_tb, ite_self]

@[simp] theorem listMember_tb (x0 : Member) (x1 : State) : (listMember x0 x1).tb = x1.tb := by
  unfold listMember
  dsimp only
  (repeat' split) <;> simp [*]

@[simp] theorem takeHello_tb (x0 x1 : ℕ) (x2 x3 : Bytes) (x4 : State) : (takeHello x0 x1 x2 x3 x4).tb = x4.tb := by
  simp only [takeHello, listMember_tb, ite_tb, ite_self]

@[simp] theorem acceptFlock_tb (x0 x1 : ℕ) (x2 x3 : Bytes) (x4 : State) : (acceptFlock x0 x1 x2 x3 x4).tb = x4.tb := by
  unfold acceptFlock
  (repeat' split) <;> simp only [setFlock_tb, takeHello_tb, takeReport_tb, takeAidMessage_tb, ite_tb, ite_self]

@[simp] theorem handleFlock_tb (x0 x1 : ℕ) (x2 x3 : Bytes) (x4 : State) : (handleFlock x0 x1 x2 x3 x4).tb = x4.tb := by
  simp only [handleFlock, keyUse_tb, acceptFlock_tb, setFlock_tb, ite_tb, ite_self]

@[simp] theorem deembedTake_tb (x0 x1 x2 : ℕ) (x3 : List (List ℤ)) (x4 : State) : (deembedTake x0 x1 x2 x3 x4).tb = x4.tb := by
  simp only [deembedTake, ite_tb, setLane_tb, ite_tb, ite_self]

@[simp] theorem engineTake_tb (x0 : ℕ) (x1 : State) : (engineTake x0 x1).tb = x1.tb := by
  unfold engineTake
  (repeat' split) <;> simp only [pushEra_tb, takeSwap_tb, ite_tb, ite_self]

@[simp] theorem applyLayer_tb (x0 : DrvEvent) (x1 : ℕ) (x2 : State) : (applyLayer x0 x1 x2).1.tb = x2.tb := by
  unfold applyLayer
  dsimp only
  (repeat' split) <;> simp [*]

@[simp] theorem exchangeSet_tb (x0 : State) (x1 : ℕ) : (exchangeSet x0 x1).tb = x0.tb := (rfl)

@[simp] theorem safeload_tb (x0 : Bytes) (x1 : State) : (safeload x0 x1).tb = x1.tb := by
  simp only [safeload, exchangeSet_tb, foldl_tb, implies_true, ite_tb, ite_self]

@[simp] theorem takeProgram_tb (x0 : ℕ) (x1 : State) : (takeProgram x0 x1).tb = x1.tb := by
  simp only [takeProgram, setSection_tb, delayMove_tb, foldl_tb, implies_true, ite_tb, ite_self]

@[simp] theorem takeParams_tb (x0 : ℕ) (x1 : State) : (takeParams x0 x1).tb = x1.tb := (rfl)

@[simp] theorem bankExchange_tb (x0 : ℕ) (x1 : State) : (bankExchange x0 x1).tb = x1.tb := by
  simp only [bankExchange, takeProgram_tb, foldl_tb, implies_true, ite_tb, ite_self]

@[simp] theorem takeDueSwaps_tb (x0 x1 : ℕ) (x2 : State) : (takeDueSwaps x0 x1 x2).tb = x2.tb := by
  unfold takeDueSwaps
  dsimp only
  split <;> simp only [takeParams_tb, bankExchange_tb, foldl_tb, implies_true, ite_tb, ite_self]

@[simp] theorem applySafeload_tb (x0 : DrvEvent) (x1 : ℕ) (x2 : State) : (applySafeload x0 x1 x2).1.tb = x2.tb := by
  unfold applySafeload
  dsimp only
  (repeat' split) <;> simp [*]

@[simp] theorem applyRoute_tb (x0 : DrvEvent) (x1 : ℕ) (x2 : State) : (applyRoute x0 x1 x2).1.tb = x2.tb := by
  unfold applyRoute
  dsimp only
  (repeat' split) <;> simp [*]

@[simp] theorem applyEvent_tb (x0 : DrvEvent) (x1 : ℕ) (x2 : State) : (applyEvent x0 x1 x2).1.tb = x2.tb := by
  unfold applyEvent
  (repeat' split) <;> simp only [applyRoute_tb, applyDest_tb, applyGrant_tb, applySafeload_tb, applyLayer_tb, ite_tb, ite_self]

@[simp] theorem tcForward_tb (x0 : ℕ) (x1 : Bytes) (x2 : ℕ) (x3 : State) : (tcForward x0 x1 x2 x3).tb = x3.tb := by
  simp only [tcForward, netCount_tb, egress_tb, foldl_tb, implies_true, ite_tb, ite_self]

@[simp] theorem enterBlock_tb (x0 x1 : ℕ) (x2 : State) : (enterBlock x0 x1 x2).tb = x2.tb := by
  unfold enterBlock
  (repeat' split) <;> simp only [laneReset_tb, portReset_tb, portDrop_tb, fabReset_tb, groupOut_tb, audioReset_tb, apReset_tb,
    layerReset_tb, timeReset_tb, gnssReset_tb, foldl_tb, implies_true, ite_tb, ite_self]

@[simp] theorem eventBad_tb (x0 : Bool) (x1 : ℕ) (x2 : State) : (eventBad x0 x1 x2).tb = x2.tb := by
  simp only [eventBad, ite_tb, raiseInj_tb, ite_tb, ite_self]

@[simp] theorem countCorrected_tb (x0 : ℕ) (x1 : State) : (countCorrected x0 x1).tb = x1.tb := (rfl)

@[simp] theorem hwFault_tb (x0 : Bool) (x1 : HwFault) (x2 : State) : (hwFault x0 x1 x2).tb = x2.tb := by
  unfold hwFault
  (repeat' split) <;> simp only [raiseInj_tb, ite_tb, setTwin_tb, countCorrected_tb, setDst_tb, setSrc_tb, eventBad_tb,
    concludeLater_tb, ite_tb, ite_self]

@[simp] theorem faultIn_tb (x0 : Bool) (x1 : HwFault) (x2 : State) : (faultIn x0 x1 x2).tb = x2.tb := by
  unfold faultIn
  (repeat' split) <;> simp only [hwFault_tb, enterBlock_tb, ite_tb, ite_self]

@[simp] theorem applyAll_tb (x0 : ℕ) (x1 : List DrvEvent) (x2 : State) : (applyAll x0 x1 x2).1.tb = x2.tb := by
  fun_induction applyAll <;> simp_all +zetaDelta

@[simp] theorem sendAnc_tb (x0 : List ℕ) (x1 x2 : ℕ) (x3 : AncPkt) (x4 : State) : (sendAnc x0 x1 x2 x3 x4).tb = x4.tb := by
  simp only [sendAnc, sendCell_tb, setTx_tb, foldl_tb, implies_true, ite_tb, ite_self]

@[simp] theorem passStep_tb (x0 x1 : ℕ) (x2 : Smp) (x3 : State) : (passStep x0 x1 x2 x3).tb = x3.tb := by
  simp only [passStep, setApt_tb, ite_tb, ite_self]

@[simp] theorem moveDelay_tb (x0 x1 : ℕ) (x2 : State) : (moveDelay x0 x1 x2).tb = x2.tb := by
  simp only [moveDelay, ite_tb, setDst_tb, ite_tb, ite_self]

@[simp] theorem captureLayer_tb (x0 x1 x2 : ℕ) (x3 : LineRead) (x4 : State) : (captureLayer x0 x1 x2 x3 x4).tb = x4.tb := by
  unfold captureLayer
  (repeat' split) <;> simp only [engineTake_tb, setLayer_tb, ite_tb, ite_self]

@[simp] theorem pidFrame_tb (x0 : ℕ) (x1 : State) : (pidFrame x0 x1).tb = x1.tb := by
  simp only [pidFrame, setLane_tb, foldl_tb, implies_true, ite_tb, ite_self]

@[simp] theorem laneWrite_tb (x0 x1 x2 x3 x4 : ℕ) (x5 : List ℕ) (x6 : LineErr) (x7 : State) :
    (laneWrite x0 x1 x2 x3 x4 x5 x6 x7).tb = x7.tb := by
  simp only [laneWrite, setLane_tb, ite_tb, writeLine_tb, pidFrame_tb, ite_tb, ite_self]

@[simp] theorem sweepSessions_tb (x0 : State) : (sweepSessions x0).tb = x0.tb := (rfl)

@[simp] theorem receive40_tb (x0 : ℕ) (x1 x2 : Bytes) (x3 : Rtp) (x4 : State) : (receive40 x0 x1 x2 x3 x4).tb = x4.tb := by
  unfold receive40
  (repeat' split) <;> simp only [flowCount_tb, setSrc_tb, foldl_tb, implies_true, ite_tb, ite_self]

@[simp] theorem jamEvents_tb (x0 : GnssEpoch) (x1 : State) : (jamEvents x0 x1).tb = x1.tb := by
  simp only [jamEvents, raiseIn_tb, gnssReset_tb, foldl_tb, implies_true, ite_tb, ite_self]

@[simp] theorem gnssHold_tb (x0 : State) : (gnssHold x0).tb = x0.tb := (rfl)

@[simp] theorem validEpoch_tb (x0 : ℕ) (x1 : GnssEpoch) (x2 : State) : (validEpoch x0 x1 x2).tb = x2.tb := by
  simp only [validEpoch, setGnss_tb, draw_tb, ite_tb, setTwin_tb, setRef_tb, activityRestored_tb, ite_tb, ite_self]

@[simp] theorem invalidEpoch_tb (x0 : State) : (invalidEpoch x0).tb = x0.tb := by
  simp only [invalidEpoch, gnssInvalid_tb, setGnss_tb, ite_tb, ite_self]

@[simp] theorem concludeEpoch_tb (x0 : ℕ) (x1 : GnssEpoch) (x2 : Checked) (x3 x4 : Bool) (x5 : State) : (concludeEpoch x0 x1 x2
    x3 x4 x5).tb = x5.tb := by
  unfold concludeEpoch
  (repeat' split) <;> simp only [invalidEpoch_tb, suspectOn_tb, setGnss_tb, suspectOff_tb, surveySecond_tb, validEpoch_tb,
    gnssHold_tb, ite_tb, ite_self]

@[simp] theorem solveEpoch_tb (x0 : ℕ) (x1 : GnssEpoch) (x2 : State) : (solveEpoch x0 x1 x2).tb = x2.tb := by
  simp only [solveEpoch, setGnss_tb, markUsed_tb, concludeEpoch_tb, jamEvents_tb, foldl_tb, implies_true, ite_tb, ite_self]

@[simp] theorem solvePaused_tb (x0 : State) : (solvePaused x0).tb = x0.tb := by
  simp only [solvePaused, solveEpoch_tb, setGnss_tb, foldl_tb, implies_true, ite_tb, ite_self]

@[simp] theorem blkClear_tb (x0 : ℕ) (x1 : State) : (blkClear x0 x1).tb = x1.tb := by
  unfold blkClear
  (repeat' split) <;> simp only [setEv_tb, ite_tb, ite_self]

@[simp] theorem readEffect_tb (x0 : ℕ) (x1 : State) : (readEffect x0 x1).tb = x1.tb := by
  simp only [readEffect, ite_tb, setHost_tb, blkClear_tb, ite_tb, ite_self]

@[simp] theorem prbsApply_tb (x0 x1 x2 x3 x4 x5 : ℕ) (x6 : State) : (prbsApply x0 x1 x2 x3 x4 x5 x6).tb = x6.tb := by
  simp only [prbsApply, setLane_tb, ite_tb, laneLost_tb, gangDrop_tb, ite_tb, ite_self]

@[simp] theorem mediaLoop_tb (x0 x1 x2 : ℕ) (x3 : Bool) (x4 : State) : (mediaLoop x0 x1 x2 x3 x4).st.tb = x4.tb := by
  simp only [mediaLoop, draw_tb, setLane_tb, prbsApply_tb, ite_tb, ite_tb, ite_self]

@[simp] theorem gainReplies_tb (x0 : State) : (gainReplies x0).tb = x0.tb := by
  unfold gainReplies
  (repeat' split) <;> simp only [concludeLater_tb, okay_tb, foldl_tb, implies_true, ite_tb, ite_self]

@[simp] theorem recover_tb (x0 : BlockReset) (x1 : State) : (recover x0 x1).tb = x1.tb := by
  unfold recover
  (repeat' split) <;> simp only [apStart_tb, startInst_tb, foldl_tb, implies_true, ite_tb, ite_self]

@[simp] theorem transition_tb (x0 : Bytes) (x1 : State) : (transition x0 x1).tb = x1.tb := by
  simp only [transition, setKeys_tb, finishTransition_tb, ite_tb, ite_self]

@[simp] theorem startPacket_tb (x0 : ℕ) (x1 : State) : (startPacket x0 x1).1.tb = x1.tb := by
  simp only [startPacket, stageActive_tb, portDrop_tb, addLoad_tb, portEnter_tb, foldl_tb, implies_true, ite_tb, ite_self]

@[simp] theorem rootSigned_tb (x0 x1 : Bytes) (x2 : State) : (rootSigned x0 x1 x2).1.tb = x2.tb := by
  unfold rootSigned
  dsimp only
  (repeat' split) <;> simp [*]

@[simp] theorem receivePacket_tb (x0 : Endpoint) (x1 : Bytes) (x2 : State) : (receivePacket x0 x1 x2).tb = x2.tb := by
  simp only [receivePacket, receiveAs_tb, ite_tb, ite_self]

@[simp] theorem takeFragment_tb (x0 : ℕ) (x1 : Bytes) (x2 : State) : (takeFragment x0 x1 x2).tb = x2.tb := by
  unfold takeFragment
  dsimp only
  (repeat' split) <;> simp [*]

@[simp] theorem foldAck_tb (x0 x1 : ℕ) (x2 : State) : (foldAck x0 x1 x2).tb = x2.tb := (rfl)

@[simp] theorem answerPoll_tb (x0 : ℕ) (x1 : State) : (answerPoll x0 x1).tb = x1.tb := by
  unfold answerPoll
  (repeat' split) <;> simp only [sendQueued_tb, foldEmit_tb, ite_tb, ite_self]

@[simp] theorem foldHandle_tb (x0 x1 x2 x3 : ℕ) (x4 : Bytes) (x5 : State) : (foldHandle x0 x1 x2 x3 x4 x5).tb = x5.tb := by
  unfold foldHandle
  (repeat' split) <;> simp only [holdToken_tb, answerPoll_tb, setFold_tb, crookReceive_tb, foldAck_tb, takeFragment_tb,
    handleFlock_tb, ite_tb, ite_self]

@[simp] theorem flushLines_tb (x0 x1 : ℕ) (x2 : State) : (flushLines x0 x1 x2).tb = x2.tb := by
  simp only [flushLines, setFlow_tb, ite_tb, writeLine_tb, captureBad_tb, flowCount_tb, foldl_tb, implies_true, ite_tb,
    ite_self]

@[simp] theorem unwrap_tb (x0 x1 : Bytes) (x2 : State) : (unwrap x0 x1 x2).1.tb = x2.tb := by
  unfold unwrap
  (repeat' split) <;> simp only [keyUse_tb, ite_tb, ite_self]

@[simp] theorem concludeWatch_tb (x0 x1 x2 : ℕ) (x3 : State) : (concludeWatch x0 x1 x2 x3).tb = x3.tb := by
  unfold concludeWatch
  (repeat' split) <;> simp only [concludeLater_tb, ite_tb, ite_self]

@[simp] theorem noteTest_tb (x0 : ℕ) (x1 : Bool) (x2 : State) : (noteTest x0 x1 x2).tb = x2.tb := by
  simp only [noteTest, ite_tb, setTwin_tb, raise_tb, ite_tb, ite_self]

@[simp] theorem noteServed_tb (x0 : State) : (noteServed x0).tb = x0.tb := by
  simp only [noteServed, setNtp_tb, ite_tb, ite_tb, ite_self]

@[simp] theorem sendUnsent_tb (x0 : ℕ) (x1 : State) : (sendUnsent x0 x1).tb = x1.tb := by
  fun_induction sendUnsent <;> simp_all +zetaDelta

@[simp] theorem takeAck_tb (x0 : ℕ) (x1 : State) : (takeAck x0 x1).tb = x1.tb := by
  unfold takeAck
  dsimp only
  (repeat' split) <;> simp [*]

@[simp] theorem partnerCommand_tb (x0 : ℕ) (x1 : Bytes) (x2 : State) : (partnerCommand x0 x1 x2).tb = x2.tb := by
  simp only [partnerCommand, stitchSend_tb, setTwin_tb, ite_tb, ite_self]

@[simp] theorem startPhase_tb (x0 : ℕ) (x1 : State) : (startPhase x0 x1).tb = x1.tb := by
  simp only [startPhase, partnerCommand_tb, setTwin_tb, ite_tb, ite_self]

@[simp] theorem watchBound_tb (x0 : ℕ) (x1 : State) : (watchBound x0 x1).tb = x1.tb := by
  unfold watchBound
  (repeat' split) <;> simp only [ite_tb, concludeWatch_tb, ite_tb, ite_self]

@[simp] theorem mediaAdmitted_tb (x0 : ℕ) (x1 : State) : (mediaAdmitted x0 x1).tb = x1.tb := (rfl)

@[simp] theorem startBounds_tb (x0 x1 : ℕ) (x2 : State) : (startBounds x0 x1 x2).tb = x2.tb := by
  simp only [startBounds, itemAdmitted_tb, foldl_tb, implies_true, ite_tb, ite_self]

@[simp] theorem switchOn_tb (x0 : Load) (x1 : State) : (switchOn x0 x1).tb = x1.tb := by
  simp only [switchOn, ite_tb, chanSleep_tb, itemAdmitted_tb, startBounds_tb, mediaAdmitted_tb, watchBound_tb, fabricAdmitted_tb,
    ite_tb, ite_self]

@[simp] theorem failItem_tb (x0 x1 : ℕ) (x2 : StageItem) (x3 : State) : (failItem x0 x1 x2 x3).tb = x3.tb := by
  simp only [failItem, ite_tb, lanesSettle_tb, raise_tb, finishItem_tb, ite_tb, ite_self]

@[simp] theorem startPtp_tb (x0 : ℕ) (x1 : State) : (startPtp x0 x1).1.tb = x1.tb := by
  simp only [startPtp, restartInst_tb, stageActive_tb, foldl_tb, implies_true, ite_tb, ite_self]

@[simp] theorem startEngine_tb (x0 : ℕ) (x1 : State) : (startEngine x0 x1).1.tb = x1.tb := by
  simp only [startEngine, setEngine_tb, ite_tb, addLoad_tb, foldl_tb, implies_true, ite_tb, ite_self]

@[simp] theorem startAudioPort_tb (x0 : ℕ) (x1 : State) : (startAudioPort x0 x1).1.tb = x1.tb := by
  simp only [startAudioPort, apStart_tb, stageActive_tb, domainEnter_tb, ite_tb, ite_self]

@[simp] theorem startFabric_tb (x0 : ℕ) (x1 : State) : (startFabric x0 x1).1.tb = x1.tb := by
  simp only [startFabric, stageActive_tb, fabLeave_tb, fabWait_tb, foldl_tb, implies_true, ite_tb, ite_self]

@[simp] theorem startLanes_tb (x0 : ℕ) (x1 : State) : (startLanes x0 x1).1.tb = x1.tb := by
  simp only [startLanes, stageActive_tb, startLane_tb, foldl_tb, implies_true, ite_tb, ite_self]

@[simp] theorem setItem_tb (x0 : ℕ) (x1 : StageItem → StageItem) (x2 : State) : (setItem x0 x1 x2).tb = x2.tb := (rfl)

@[simp] theorem pollNext_tb (x0 : List ℕ) (x1 : State) : (pollNext x0 x1).tb = x1.tb := by
  unfold pollNext
  (repeat' split) <;> simp only [holdToken_tb, setFold_tb, foldEmit_tb, ite_tb, ite_self]

@[simp] theorem decideAt_tb (x0 x1 : ℕ) (x2 : State) : (decideAt x0 x1 x2).tb = x2.tb := by
  simp only [decideAt, takeSwap_tb, setDst_tb, ite_tb, ite_self]

@[simp] theorem applyDue_tb (x0 : ℕ) (x1 : State) : (applyDue x0 x1).tb = x1.tb := by
  simp only [applyDue, ite_tb, applySwap_tb, applyAll_tb, settle_tb, reportAll_tb, foldl_tb, implies_true, ite_tb, ite_self]

@[simp] theorem fallBack_tb (x0 : ℕ) (x1 : State) : (fallBack x0 x1).tb = x1.tb := by
  simp only [fallBack, dpllEnter_tb, rfcEvent_tb, setDpll_tb, ite_tb, ite_self]

@[simp] theorem packetTest_tb (x0 x1 : ℕ) (x2 : State) : (packetTest x0 x1 x2).tb = x2.tb := by
  simp only [packetTest, addLoad_tb, portEnter_tb, portFall_tb, ite_tb, ite_self]

@[simp] theorem laneTest_tb (x0 x1 x2 x3 : ℕ) (x4 : State) : (laneTest x0 x1 x2 x3 x4).tb = x4.tb := by
  unfold laneTest
  (repeat' split) <;> simp only [packetTest_tb, fabricTest_tb, setHost_tb, ite_tb, ite_self]

@[simp] theorem classDrop_tb (x0 x1 : ℕ) (x2 : State) : (classDrop x0 x1 x2).tb = x2.tb := (rfl)

@[simp] theorem toClass_tb (x0 x1 : ℕ) (x2 : RxRec) (x3 : State) : (toClass x0 x1 x2 x3).tb = x3.tb := by
  simp only [toClass, ite_tb, classDrop_tb, setClass_tb, ite_tb, ite_self]

@[simp] theorem runSection_tb (x0 x1 : ℕ) (x2 : Feed) (x3 : State) : (runSection x0 x1 x2 x3).tb = x3.tb := by
  simp only [runSection, raiseIn_tb, audioReset_tb, foldl_tb, implies_true, ite_tb, ite_self]

@[simp] theorem takeShep_tb (x0 : ShepChange) (x1 x2 : ℕ) (x3 : State) : (takeShep x0 x1 x2 x3).tb = x3.tb := (rfl)

@[simp] theorem ancTake_tb (x0 : ℕ) (x1 : AncPkt) (x2 : State) : (ancTake x0 x1 x2).tb = x2.tb := by
  unfold ancTake
  (repeat' split) <;> simp only [ite_tb, setLane_tb, setSrc_tb, ite_tb, ite_self]

@[simp] theorem sdiLine_tb (x0 x1 x2 x3 : ℕ) (x4 : Option Bytes) (x5 : State) : (sdiLine x0 x1 x2 x3 x4 x5).tb = x5.tb := by
  unfold sdiLine
  (repeat' split) <;> simp only [flowCount_tb, ite_tb, writeLine_tb, ancTake_tb, deembedTake_tb, laneWrite_tb, foldl_tb,
    implies_true, ite_tb, ite_self]

@[simp] theorem sdiLines_tb (x0 x1 x2 : ℕ) (x3 : State) : (sdiLines x0 x1 x2 x3).tb = x3.tb := by
  fun_induction sdiLines <;> simp_all +zetaDelta

@[simp] theorem nextPhase_tb (x0 : ℕ) (x1 : State) : (nextPhase x0 x1).tb = x1.tb := by
  unfold nextPhase
  (repeat' split) <;> simp only [setBoot_tb, setTwin_tb, ite_tb, ite_self]

@[simp] theorem drainSession_tb (x0 x1 x2 : ℕ) (x3 : State) : (drainSession x0 x1 x2 x3).tb = x3.tb := by
  fun_induction drainSession <;> simp_all +zetaDelta

@[simp] theorem mgtData_tb (x0 x1 x2 : ℕ) (x3 : Bytes) (x4 : State) : (mgtData x0 x1 x2 x3 x4).tb = x4.tb := by
  unfold mgtData
  dsimp only
  (repeat' split) <;> simp [*]

@[simp] theorem sampleStraps_tb (x0 : BootIn) (x1 : State) : (sampleStraps x0 x1).tb = x1.tb := (rfl)

@[simp] theorem requestGrants_tb (x0 x1 : ℕ) (x2 : State) : (requestGrants x0 x1 x2).tb = x2.tb := by
  simp only [requestGrants, nextSeqOf_tb, sendPtp_tb, ite_tb, ite_self]

@[simp] theorem slaveSend_tb (x0 x1 : ℕ) (x2 : State) : (slaveSend x0 x1 x2).tb = x2.tb := by
  simp only [slaveSend, nextSeqOf_tb, sendPtp_tb, setInst_tb, ite_tb, ite_self]

@[simp] theorem launchVideo_tb (x0 x1 x2 : ℕ) (x3 x4 : Bytes) (x5 : State) : (launchVideo x0 x1 x2 x3 x4 x5).tb = x5.tb := by
  unfold launchVideo
  (repeat' split) <;> simp only [launchRtp_tb, ite_tb, ite_self]

@[simp] theorem launchAudio_tb (x0 x1 : ℕ) (x2 x3 : Bytes) (x4 : State) : (launchAudio x0 x1 x2 x3 x4).tb = x4.tb := by
  simp only [launchAudio, setFlow_tb, launchRtp_tb, ite_tb, ite_self]

@[simp] theorem busRead_tb (x0 : ℕ) (x1 : State) : (busRead x0 x1).2.tb = x1.tb := by
  unfold busRead
  (repeat' split) <;> simp only [readEffect_tb, draw_tb, ite_tb, ite_self]

@[simp] theorem busReads_tb (x0 x1 : ℕ) (x2 : State) : (busReads x0 x1 x2).2.tb = x2.tb := by
  fun_induction busReads <;> simp_all +zetaDelta

@[simp] theorem consume_tb (x0 : ℕ) (x1 : Bytes) (x2 : ℕ) (x3 : QpAnswer) (x4 : State) : (consume x0 x1 x2 x3 x4).tb = x4.tb :=
    (rfl)

@[simp] theorem routeEntries_tb (x0 : Req) (x1 : ℕ) (x2 : List Bytes) (x3 : ℕ) (x4 : State) : (routeEntries x0 x1 x2 x3 x4).2.tb
    = x4.tb := by
  fun_induction routeEntries <;> simp_all +zetaDelta

@[simp] theorem fecRead_tb (x0 : ℕ) (x1 : State) : (fecRead x0 x1).tb = x1.tb := by
  simp only [fecRead, ite_tb, draw_tb, netCount_tb, ite_tb, ite_self]

@[simp] theorem tcReceive_tb (x0 : ℕ) (x1 : Bytes) (x2 : State) : (tcReceive x0 x1 x2).tb = x2.tb := by
  unfold tcReceive
  (repeat' split) <;> simp only [tcForward_tb, ite_tb, ite_self]

@[simp] theorem setMgt_tb (x0 : ℕ) (x1 : MgtPort → MgtPort) (x2 : State) : (setMgt x0 x1 x2).tb = x2.tb := (rfl)

@[simp] theorem mgtDrop_tb (x0 : ℕ) (x1 : State) : (mgtDrop x0 x1).tb = x1.tb := (rfl)

@[simp] theorem mgtConnect_tb (x0 x1 : ℕ) (x2 : Bool) (x3 : List Bytes) (x4 x5 : ℕ) (x6 : State) : (mgtConnect x0 x1 x2 x3 x4 x5
    x6).tb = x6.tb := by
  unfold mgtConnect
  dsimp only
  (repeat' split) <;> simp [*]

@[simp] theorem mgtFrame_tb (x0 : ℕ) (x1 : Bytes) (x2 : State) : (mgtFrame x0 x1 x2).tb = x2.tb := by
  unfold mgtFrame
  dsimp only
  (repeat' split) <;> simp [*]

@[simp] theorem twinLinkUp_tb (x0 : State) : (twinLinkUp x0).tb = x0.tb := by
  unfold twinLinkUp
  dsimp only
  (repeat' split) <;> simp [*]

@[simp] theorem portOut_tb (x0 x1 : ℕ) (x2 : PortFrame) (x3 : State) : (portOut x0 x1 x2 x3).tb = x3.tb := by
  simp only [portOut, setApt_tb, slipped_tb, ite_tb, ite_self]

@[simp] theorem startUp_tb (x0 : BootIn) (x1 : State) : (startUp x0 x1).tb = x1.tb := by
  unfold startUp
  dsimp only
  (repeat' split) <;> simp [*]

@[simp] theorem burstLost_tb (x0 x1 : ℕ) (x2 : DramUser) (x3 : State) : (burstLost x0 x1 x2 x3).tb = x3.tb := by
  unfold burstLost
  (repeat' split) <;> simp only [setSync_tb, setLayer_tb, setSection_tb, ite_tb, ite_self]

@[simp] theorem symbolErrors_tb (x0 x1 : ℕ) (x2 : State) : (symbolErrors x0 x1 x2).tb = x2.tb := by
  simp only [symbolErrors, ite_tb, fabCount_tb, ite_tb, ite_self]

@[simp] theorem settleFrame_tb (x0 x1 : ℕ) (x2 : State) : (settleFrame x0 x1 x2).tb = x2.tb := by
  simp only [settleFrame, setLayer_tb, setEngine_tb, foldl_tb, implies_true, ite_tb, ite_self]

@[simp] theorem ptpFault_tb (x0 : State) : (ptpFault x0).tb = x0.tb := by
  unfold ptpFault
  dsimp only
  (repeat' split) <;> simp [*]

@[simp] theorem completionHead_tb (x0 x1 : ℕ) (x2 : State) : (completionHead x0 x1 x2).tb = x2.tb := by
  simp only [completionHead, ringIndex_tb, setQp_tb, ite_tb, ite_self]

@[simp] theorem takeToken_tb (x0 : Bytes) (x1 : State) : (takeToken x0 x1).2.2.tb = x1.tb := by
  unfold takeToken
  dsimp only
  (repeat' split) <;> simp [*]

@[simp] theorem writeMsix_tb (x0 x1 : ℕ) (x2 : State) : (writeMsix x0 x1 x2).tb = x2.tb := by
  simp only [writeMsix, setHost_tb, emit_tb, ite_tb, ite_self]

@[simp] theorem moderate_tb (x0 : ℕ) (x1 : State) : (moderate x0 x1).tb = x1.tb := by
  simp only [moderate, setQp_tb, signalQp_tb, ite_tb, ite_self]

@[simp] theorem sendDelayed_tb (x0 : State) : (sendDelayed x0).tb = x0.tb := by
  simp only [sendDelayed, flockSend_tb, takeAid_tb, foldl_tb, implies_true, ite_tb, ite_self]

@[simp] theorem freezeData_tb (x0 : State) : (freezeData x0).tb = x0.tb := by
  simp only [freezeData, setInst_tb, foldl_tb, implies_true, ite_tb, ite_self]

@[simp] theorem shareAid_tb (x0 x1 x2 : ℕ) (x3 : Bytes) (x4 : Bool) (x5 : State) : (shareAid x0 x1 x2 x3 x4 x5).tb = x5.tb := by
  simp only [shareAid, flockSend_tb, ite_tb, ite_self]

@[simp] theorem deliverSamples_tb (x0 x1 : ℕ) (x2 : State) : (deliverSamples x0 x1 x2).tb = x2.tb := by
  simp only [deliverSamples, setLane_tb, setFlow_tb, setTx_tb, portOut_tb, foldl_tb, implies_true, ite_tb, ite_self]

@[simp] theorem wordClockOut_tb (x0 : ℕ) (x1 : State) : (wordClockOut x0 x1).tb = x1.tb := by
  simp only [wordClockOut, ite_tb, emit_tb, ite_tb, ite_self]

@[simp] theorem receive2022_tb (x0 x1 : ℕ) (x2 : Bytes) (x3 : Rtp) (x4 : State) : (receive2022 x0 x1 x2 x3 x4).tb = x4.tb := by
  unfold receive2022
  (repeat' split) <;> simp only [setFlow_tb, ite_tb, setLane_tb, sdiLines_tb, ite_tb, ite_self]

@[simp] theorem receive22_tb (x0 x1 x2 : ℕ) (x3 : Bytes) (x4 : Rtp) (x5 : State) : (receive22 x0 x1 x2 x3 x4 x5).tb = x5.tb :=
    by
  unfold receive22
  (repeat' split) <;> simp only [ite_tb, flowCount_tb, setFlow_tb, writeLine_tb, ite_tb, ite_self]

@[simp] theorem receive20_tb (x0 : ℕ) (x1 : Bytes) (x2 : ℕ) (x3 : Bytes) (x4 : Rtp) (x5 : State) : (receive20 x0 x1 x2 x3 x4
    x5).tb = x5.tb := by
  unfold receive20
  (repeat' split) <;> simp only [flowCount_tb, setFlow_tb, flushLines_tb, foldl_tb, implies_true, ite_tb, ite_self]

@[simp] theorem receiveEssence_tb (x0 : ℕ) (x1 : Bytes) (x2 x3 x4 : ℕ) (x5 : Bytes) (x6 : Rtp) (x7 : State) : (receiveEssence x0
    x1 x2 x3 x4 x5 x6 x7).tb = x7.tb := by
  unfold receiveEssence
  (repeat' split) <;> simp only [receive20_tb, receive22_tb, receiveAudio_tb, receive40_tb, receive2022_tb, ite_tb, ite_self]

@[simp] theorem mediaReceive_tb (x0 x1 : Bytes) (x2 : ℕ) (x3 : State) : (mediaReceive x0 x1 x2 x3).tb = x3.tb := by
  unfold mediaReceive
  dsimp only
  (repeat' split) <;> simp [*]

@[simp] theorem receiveClassed_tb (x0 : ℕ) (x1 : Bytes) (x2 : Bool) (x3 : ℕ) (x4 : State) : (receiveClassed x0 x1 x2 x3 x4).tb =
    x4.tb := by
  unfold receiveClassed
  dsimp only
  (repeat' split) <;> simp [*]

@[simp] theorem pauseReceive_tb (x0 x1 : ℕ) (x2 : State) : (pauseReceive x0 x1 x2).tb = x2.tb := by
  simp only [pauseReceive, netCount_tb, setNet_tb, ite_tb, ite_self]

@[simp] theorem setCase_tb (x0 : ℕ) (x1 : Bytes) (x2 : State) : (setCase x0 x1 x2).tb = x2.tb := (rfl)

@[simp] theorem injectOne_tb (x0 x1 x2 x3 : ℕ) (x4 : State) : (injectOne x0 x1 x2 x3 x4).tb = x4.tb := by
  unfold injectOne
  dsimp only
  (repeat' split) <;> simp [*]

@[simp] theorem keyLoad_tb (x0 : Bytes) (x1 : State) : (keyLoad x0 x1).st.tb = x1.tb := by
  unfold keyLoad
  dsimp only
  (repeat' split) <;> simp [*]

@[simp] theorem State_withFetchWord_tb (x0 : State) (x1 x2 : ℕ) : (State.withFetchWord x0 x1 x2).tb = x0.tb := (rfl)

end Sys2Proof.Laws
end

