-- ==== Sys2Proof/Laws/Coding.lean ====
section
/-! SUPPORT. The line coding of chapter 07 is undone by its receiver. -/

namespace Sys2Proof.Machine

/-- A descrambler with the scrambler's history gives back what went in (R200). -/
theorem descramble_scramble (h : BitVec 58) (bs : List Bool) : descramble h (scramble h bs) = bs := by
  induction bs generalizing h with
  | nil => rfl
  | cons b bs ih =>
    simp only [scramble, descramble]
    rw [ih]
    congr 1
    unfold scrambleBit
    cases b <;> cases h.getLsbD 38 <;> cases h.getLsbD 57 <;> rfl

/-- Scrambling keeps the number of bits. -/
theorem scramble_length (h : BitVec 58) (bs : List Bool) : (scramble h bs).length = bs.length := by
  induction bs generalizing h with
  | nil => rfl
  | cons b bs ih => simp [scramble, ih]

/-- Histories that agree in their latest bits agree in one more after the same bit. -/
theorem pushBit_agree (h h' : BitVec 58) (n : Nat) (c : Bool) (e : ∀ i, i < n → h.getLsbD i = h'.getLsbD i) :
    ∀ i, i < n + 1 → (pushBit h c).getLsbD i = (pushBit h' c).getLsbD i := by
  intro i hi
  unfold pushBit
  rcases Nat.eq_zero_or_pos i with rfl | hp
  · simp
  · have := e (i-1) (by omega)
    simp [BitVec.getLsbD_shiftLeft, this]

/-- A descrambler whose history agrees in the latest `n` bits is right after 58 − n bits more: from any history
after 58 (R200). -/
theorem descramble_synchronises (h h' : BitVec 58) (bs : List Bool) (n : Nat) (hn : n ≤ 58)
    (e : ∀ i, i < n → h.getLsbD i = h'.getLsbD i) :
    (descramble h' (scramble h bs)).drop (58 - n) = bs.drop (58 - n) := by
  induction bs generalizing h h' n with
  | nil => rfl
  | cons b bs ih =>
    by_cases hh : n = 58
    · subst hh
      have : h = h' := by
        exact BitVec.eq_of_getLsbD_eq fun i hi => e i hi
      subst this; rw [descramble_scramble]
    · have : 58 - n = (58 - (n+1)) + 1 := by omega
      rw [this]
      simp only [scramble, descramble, List.drop_succ_cons]
      exact ih _ _ (n+1) (by omega) (pushBit_agree _ _ _ _ e)

/-- The receiver gives back the symbols that were stuffed, and counts no stuff error (R203). -/
theorem unstuff_stuff (r : Nat × Nat) (xs : List Nat) (hr : r.2 ≠ 48) : unstuff r (stuff r xs) = (xs, 0) := by
  induction xs generalizing r with
  | nil => rfl
  | cons x xs ih =>
    simp only [stuff]
    split
    · rename_i h
      rw [unstuff, if_neg hr]
      simp only
      rw [unstuff, if_pos h]
      have e : (runNext r x).1 = x := by unfold runNext; split <;> rfl
      rw [e, ih _ (by simp)]
      simp [b2n]
    · rename_i h
      rw [unstuff, if_neg hr]
      simp only
      rw [ih _ h]

/-- Line symbols give back their bits (R202, R221). -/
theorem lineBits_lineSymbols (nrz : Bool) (k : Nat) (bs : List Bool) (h : bs.length = 2 * k) :
    lineBits nrz (lineSymbols nrz bs) = bs := by
  induction k generalizing bs with
  | zero => have : bs = [] := by simpa using h
            subst this; rfl
  | succ k ih =>
    match bs, h with
    | a :: b :: rest, h =>
      have := ih rest (by simp at h; omega)
      cases nrz <;> cases a <;> cases b <;> simp_all [lineSymbols, lineBits, grayLevel, grayBits, b2n]

/-- A byte is what its bits spell. -/
theorem byte_bits : ∀ x : Byte, BitVec.ofNat 8 (bitsNat ((List.range 8).map x.getLsbD)) = x := by
  decide +kernel

/-- Bits in transmission order give back their bytes (R198). -/
theorem bitsBytes_bytesBits (bs : Bytes) (rest : List Bool) : bitsBytes bs.length (bytesBits bs ++ rest) = bs := by
  induction bs with
  | nil => rfl
  | cons x bs ih =>
    have hl : ((List.range 8).map x.getLsbD).length = 8 := by simp
    have e : bytesBits (x :: bs) = (List.range 8).map x.getLsbD ++ bytesBits bs := rfl
    rw [e, List.append_assoc]
    simp only [List.length_cons, bitsBytes]
    rw [List.take_append_of_le_length (by rw [hl]), List.take_of_length_le (by rw [hl]), byte_bits,
        List.drop_append_of_le_length (by rw [hl]), List.drop_of_length_le (by rw [hl]), List.nil_append, ih]

/-- A byte has eight bits. -/
theorem bytesBits_length (bs : Bytes) : (bytesBits bs).length = 8 * bs.length := by
  induction bs with
  | nil => rfl
  | cons x bs ih =>
    have e : bytesBits (x :: bs) = (List.range 8).map x.getLsbD ++ bytesBits bs := rfl
    rw [e]; simp [ih]; omega

/-- The receiver gives back the blocks that were sent (R198, R200). -/
theorem bitsBlocks_blocksBits (h : BitVec 58) (bs : List Block) (hp : ∀ b ∈ bs, b.payload.length = 64) :
    (bitsBlocks bs.length h (blocksBits h bs).1).1 = bs.map some := by
  induction bs generalizing h with
  | nil => rfl
  | cons b bs ih =>
    have hb := hp b (by simp)
    simp only [List.length_cons, blocksBits, bitsBlocks, headerBits]
    have hl : (scramble h (bytesBits b.payload)).length = 512 := by rw [scramble_length, bytesBits_length, hb]
    simp only [List.cons_append, List.nil_append, List.drop_succ_cons, List.drop_zero, List.headD_cons, List.map_cons]
    rw [List.take_append_of_le_length (by omega), List.take_of_length_le (by omega), List.drop_append_of_le_length (by omega),
      List.drop_of_length_le (by omega), List.nil_append, ih _ (fun x hx => hp x (by simp [hx])), descramble_scramble]
    have := bitsBytes_bytesBits b.payload []
    rw [List.append_nil, hb] at this
    rw [this]
    cases b with | mk c p => cases c <;> simp

/-- A cell in four data blocks is read as it was sent (R199). -/
theorem readBlocks_cell (c : Bytes) (h : c.length = 256) (rest : List Block) :
    readBlocks (dataBlocks c ++ rest) [] = (c :: (readBlocks rest []).1, (readBlocks rest []).2) := by
  have e : dataBlocks c = [⟨false, c.take 64⟩, ⟨false, (c.drop 64).take 64⟩,
      ⟨false, (c.drop 128).take 64⟩, ⟨false, (c.drop 192).take 64⟩] := by
    unfold dataBlocks
    have : cdiv c.length 64 = 4 := by rw [h]; decide
    rw [this]
    simp [List.range, List.range.loop, fit, slice, h]
  rw [e]
  simp [readBlocks, h]
  have a : c.take 64 ++ ((c.drop 64).take 64 ++ ((c.drop 128).take 64 ++ (c.drop 192).take 64)) = c := by
    have h1 : (c.drop 192).take 64 = c.drop 192 := List.take_of_length_le (by simp [h])
    rw [h1]
    have h2 : c.drop 192 = (c.drop 128).drop 64 := by rw [List.drop_drop]
    rw [h2, List.take_append_drop]
    have h3 : c.drop 128 = (c.drop 64).drop 64 := by rw [List.drop_drop]
    rw [h3, List.take_append_drop, List.take_append_drop]
  rw [a]

/-- Cells in data blocks are read as they were sent, with no control block discarded (R199). -/
theorem readBlocks_cells (cs : List Bytes) (h : ∀ c ∈ cs, c.length = 256) :
    readBlocks (cs.flatMap dataBlocks) [] = (cs, 0) := by
  induction cs with
  | nil => rfl
  | cons c cs ih =>
    rw [List.flatMap_cons, readBlocks_cell c (h c (by simp)), ih (fun x hx => h x (by simp [hx]))]
end Sys2Proof.Machine
end

