-- ==== Sys2Proof/Laws/Queue.lean ====
section
/-! SUPPORT. Every operation leaves the queue of waiting commands as it was. -/

namespace Sys2Proof.Laws

open Sys2Proof Sys2Proof.Machine Sys2Proof.Safety

set_option linter.unusedSimpArgs false
set_option linter.unusedTactic false
set_option linter.unreachableTactic false

@[simp] theorem foldl_pending {α : Type} (f : State → α → State) (h : ∀ s a, (f s a).pending = s.pending) (l : List α) (s : State) :
    (l.foldl f s).pending = s.pending := by
  induction l generalizing s with
  | nil => rfl
  | cons a t ih => rw [List.foldl_cons, ih, h]

@[simp] theorem foldl_fst_pending {α β : Type} (f : State × β → α → State × β) (h : ∀ p a, (f p a).1.pending = p.1.pending)
    (l : List α) (p : State × β) : (l.foldl f p).1.pending = p.1.pending := by
  induction l generalizing p with
  | nil => rfl
  | cons a t ih => rw [List.foldl_cons, ih, h]

@[simp] theorem foldl_snd_pending {α β : Type} (f : β × State → α → β × State) (h : ∀ p a, (f p a).2.pending = p.2.pending)
    (l : List α) (p : β × State) : (l.foldl f p).2.pending = p.2.pending := by
  induction l generalizing p with
  | nil => rfl
  | cons a t ih => rw [List.foldl_cons, ih, h]

@[simp] theorem ite_pending (c : Prop) [Decidable c] (a b : State) : (if c then a else b).pending = if c then a.pending else
    b.pending := by
  split <;> rfl

@[simp] theorem setRef_pending (x0 : ℕ) (x1 : RefState → RefState) (x2 : State) : (setRef x0 x1 x2).pending = x2.pending :=
    (rfl)

@[simp] theorem sendMsi_pending (x0 : ℕ) (x1 : State) : (sendMsi x0 x1).pending = x1.pending := by
  simp only [sendMsi, emit_pending, ite_pending, ite_self]

@[simp] theorem raiseOne_pending (x0 : Bool) (x1 x2 x3 : ℕ) (x4 : State) : (raiseOne x0 x1 x2 x3 x4).1.pending = x4.pending :=
    by
  simp only [raiseOne, sendMsi_pending, ite_pending, ite_self]

@[simp] theorem raiseInj_pending (x0 : Bool) (x1 x2 x3 : ℕ) (x4 : State) : (raiseInj x0 x1 x2 x3 x4).pending = x4.pending := by
  simp only [raiseInj, raiseOne_pending, ite_pending, ite_self]

@[simp] theorem raise_pending (x0 x1 x2 : ℕ) (x3 : State) : (raise x0 x1 x2 x3).pending = x3.pending := by
  simp only [raise, raiseInj_pending, ite_pending, ite_self]

@[simp] theorem rfcEvent_pending (x0 x1 x2 : ℕ) (x3 : State) : (rfcEvent x0 x1 x2 x3).pending = x3.pending := by
  simp only [rfcEvent, raise_pending, setDpll_pending, ite_pending, ite_self]

@[simp] theorem refEnter_pending (x0 x1 : ℕ) (x2 : State) : (refEnter x0 x1 x2).pending = x2.pending := by
  simp only [refEnter, rfcEvent_pending, setRef_pending, ite_pending, ite_self]

@[simp] theorem refUse_pending (x0 : State) (x1 : ℕ) : (refUse x0 x1).pending = x0.pending := by
  simp only [refUse, refEnter_pending, setRef_pending, ite_pending, ite_self]

@[simp] theorem reconcile_pending (x0 : State) (x1 : ℕ) : (reconcile x0 x1).pending = x0.pending := by
  simp only [reconcile, refEnter_pending, ite_pending, ite_self]

@[simp] theorem dequeue_pending (x0 : U32) (x1 : State) : (dequeue x0 x1).pending = x1.pending := (rfl)

@[simp] theorem zeroColophon_pending (x0 : State) : (zeroColophon x0).pending = x0.pending := (rfl)

@[simp] theorem eraseFrom_pending (x0 : ℕ) (x1 : State) : (eraseFrom x0 x1).pending = x1.pending := (rfl)

@[simp] theorem setKey_pending (x0 : ℕ) (x1 : KeySlot) (x2 : State) : (setKey x0 x1 x2).pending = x2.pending := (rfl)

@[simp] theorem draw_pending (x0 : State) : (draw x0).2.pending = x0.pending := (rfl)

@[simp] theorem generate_pending (x0 : ℕ) (x1 : State) : (generate x0 x1).2.pending = x1.pending := (rfl)

@[simp] theorem fixKey_pending (x0 x1 x2 x3 : ℕ) (x4 : State) : (fixKey x0 x1 x2 x3 x4).pending = x4.pending := (rfl)

@[simp] theorem finishTransition_pending (x0 : ℕ) (x1 : State) : (finishTransition x0 x1).pending = x1.pending := by
  unfold finishTransition
  (repeat' split) <;> simp only [fixKey_pending, eraseFrom_pending, zeroColophon_pending, setKeys_pending, ite_pending,
    ite_self]

@[simp] theorem readFuses_pending (x0 : Bool) (x1 : State) : (readFuses x0 x1).pending = x1.pending := by
  unfold readFuses
  (repeat' split) <;> simp only [finishTransition_pending, setKeys_pending, ite_pending, ite_self]

@[simp] theorem setPp_pending (x0 : ℕ) (x1 : PtpPort → PtpPort) (x2 : State) : (setPp x0 x1 x2).pending = x2.pending := (rfl)

@[simp] theorem ppEnter_pending (x0 x1 : ℕ) (x2 : State) : (ppEnter x0 x1 x2).pending = x2.pending := by
  simp only [ppEnter, setPp_pending, ite_pending, ite_self]

@[simp] theorem setInst_pending (x0 : ℕ) (x1 : PtpInst → PtpInst) (x2 : State) : (setInst x0 x1 x2).pending = x2.pending :=
    (rfl)

@[simp] theorem startInst_pending (x0 : ℕ) (x1 : State) : (startInst x0 x1).pending = x1.pending := by
  simp only [startInst, setInst_pending, ppEnter_pending, foldl_pending, implies_true, ite_pending, ite_self]

@[simp] theorem storesRetry_pending (x0 : State) : (storesRetry x0).pending = x0.pending := by
  have one (t : State) (e l : ℕ) (f : Layer → Layer) : (setLayer e l f t).pending = t.pending := rfl
  simp only [storesRetry]
  rw [foldl_pending]
  intro t p
  rw [foldl_pending]
  intro u l
  (repeat' split) <;> simp only [one]

@[simp] theorem endItem_pending (x0 x1 : ℕ) (x2 : State) : (endItem x0 x1 x2).pending = x2.pending := by
  unfold endItem
  (repeat' split) <;> simp only [setFlow_pending, ite_pending, setSrc_pending, startInst_pending, storesRetry_pending, ite_pending, ite_self]

@[simp] theorem setGroup_pending (x0 : ℕ) (x1 : DramGroup → DramGroup) (x2 : State) : (setGroup x0 x1 x2).pending = x2.pending
    := (rfl)

@[simp] theorem srcEnter_pending (x0 : ℕ) (x1 : SrcState) (x2 : State) : (srcEnter x0 x1 x2).pending = x2.pending := by
  simp only [srcEnter, raise_pending, setSrc_pending, ite_pending, ite_self]

@[simp] theorem srcLost_pending (x0 : ℕ) (x1 : State) : (srcLost x0 x1).pending = x1.pending := by
  simp only [srcLost, srcEnter_pending, setSrc_pending, ite_pending, ite_self]

@[simp] theorem copyItem_pending (x0 : CopyItem) (x1 : State) : (copyItem x0 x1).pending = x1.pending := by
  simp only [copyItem, ite_pending, ite_self]

@[simp] theorem copyResult_pending (x0 : CatRow) (x1 : Req) (x2 : Ans) (x3 : Bool) (x4 : State) : (copyResult x0 x1 x2 x3
    x4).pending = x4.pending := by
  simp only [copyResult, ite_pending, copyItem_pending, ite_pending, ite_self]

@[simp] theorem setNtp_pending (x0 : Ntp → Ntp) (x1 : State) : (setNtp x0 x1).pending = x1.pending := (rfl)

@[simp] theorem refuse_pending (x0 : State) (x1 x2 : ℕ) : (refuse x0 x1 x2).st.pending = x0.pending := (rfl)

@[simp] theorem needForm_pending (x0 : List (Bool × ℕ)) (x1 : State) (x2 : Unit → Ans) (h : (x2 ()).st.pending = x1.pending) :
    (needForm x0 x1 x2).st.pending = x1.pending := by
  unfold needForm
  (repeat' split) <;> simp [*]

@[simp] theorem needLen_pending (x0 : ℕ) (x1 : Req) (x2 : State) (x3 : Unit → Ans) (h : (x3 ()).st.pending = x2.pending) :
    (needLen x0 x1 x2 x3).st.pending = x2.pending := by
  unfold needLen
  (repeat' split) <;> simp [*]

@[simp] theorem await_pending (x0 : ℕ) (x1 : Req) (x2 : State) : (await x0 x1 x2).pending = x2.pending := by
  simp only [await, ite_pending, ite_self]

@[simp] theorem Ans_st_pending (x0 : Ans) : (Ans.st x0).pending = x0.st.pending := (rfl)

@[simp] theorem sendSymbols_pending (x0 x1 : ℕ) (x2 : List ℕ × LaneCode) (x3 : State) : (sendSymbols x0 x1 x2 x3).pending =
    x3.pending := by
  simp only [sendSymbols, setFab_pending, ite_pending, emit_pending, ite_pending, ite_self]

@[simp] theorem laneBlocks_pending (x0 : ℕ) (x1 : List Block) (x2 : State) : (laneBlocks x0 x1 x2).pending = x2.pending := by
  simp only [laneBlocks, ite_pending, setFab_pending, sendSymbols_pending, ite_pending, ite_self]

@[simp] theorem bondSend_pending (x0 : ℕ) (x1 : List Block) (x2 : State) : (bondSend x0 x1 x2).pending = x2.pending := by
  simp only [bondSend, laneBlocks_pending, ite_pending, foldl_pending, implies_true, ite_pending, ite_self]

@[simp] theorem stitchEmit_pending (x0 : Bytes) (x1 : State) : (stitchEmit x0 x1).pending = x1.pending := by
  simp only [stitchEmit, bondSend_pending, emit_pending, ite_pending, ite_self]

@[simp] theorem stitchPut_pending (x0 : ℕ) (x1 : Bytes) (x2 : State) : (stitchPut x0 x1 x2).pending = x2.pending := by
  simp only [stitchPut, setStitch_pending, ite_pending, stitchEmit_pending, ite_pending, ite_self]

@[simp] theorem stitchSend_pending (x0 : ℕ) (x1 : Bytes) (x2 : State) : (stitchSend x0 x1 x2).pending = x2.pending := by
  simp only [stitchSend, setStitch_pending, stitchPut_pending, ite_pending, ite_self]

@[simp] theorem foldPut_pending (x0 x1 : ℕ) (x2 : Bytes) (x3 : State) : (foldPut x0 x1 x2 x3).pending = x3.pending := (rfl)

@[simp] theorem foldFragments_pending (x0 x1 x2 x3 : ℕ) (x4 : Bytes) (x5 : State) : (foldFragments x0 x1 x2 x3 x4 x5).pending =
    x5.pending := by
  fun_induction foldFragments <;> simp_all +zetaDelta

@[simp] theorem foldReply_pending (x0 : ℕ) (x1 : Bytes) (x2 : State) : (foldReply x0 x1 x2).pending = x2.pending := by
  simp only [foldReply, foldFragments_pending, ite_pending, ite_self]

@[simp] theorem sessionSend_pending (x0 x1 : ℕ) (x2 : Bytes) (x3 : State) : (sessionSend x0 x1 x2 x3).pending = x3.pending := by
  simp only [sessionSend, emit_pending, ite_pending, ite_self]

@[simp] theorem carryReply_pending (x0 : Reply) (x1 : State) : (carryReply x0 x1).pending = x1.pending := by
  unfold carryReply
  (repeat' split) <;> simp only [sessionSend_pending, foldReply_pending, emit_pending, stitchSend_pending, ite_pending,
    ite_self]

@[simp] theorem sendReply_pending (x0 : Reply) (x1 : State) : (sendReply x0 x1).pending = x1.pending := by
  unfold sendReply
  (repeat' split) <;> simp only [carryReply_pending, emit_pending, ite_pending, ite_self]

@[simp] theorem conclude_pending (x0 : CatRow) (x1 : Req) (x2 : Ans) : (conclude x0 x1 x2).pending = x2.st.pending := by
  simp only [conclude, Ans_st_pending, ite_pending, setPort_pending, sendReply_pending, copyResult_pending, ite_pending,
    ite_self]

@[simp] theorem unwait_pending (x0 : ℕ) (x1 : Req) (x2 : State) : (unwait x0 x1 x2).pending = x2.pending := (rfl)

@[simp] theorem command_pending (x0 : ℕ) (x1 : Req → State → Ans) (x2 : Req) (x3 : State) (h : ∀ r s, (x1 r s).st.pending =
    s.pending) : (command x0 x1 x2 x3).pending = x3.pending := by
  unfold command
  dsimp only
  (repeat' split) <;> simp [*]

@[simp] theorem setEngine_pending (x0 : ℕ) (x1 : Engine → Engine) (x2 : State) : (setEngine x0 x1 x2).pending = x2.pending :=
    (rfl)

@[simp] theorem copyEngine_pending (x0 : ℕ) (x1 : State) : (copyEngine x0 x1).pending = x1.pending := (rfl)

@[simp] theorem setLayer_pending (x0 x1 : ℕ) (x2 : Layer → Layer) (x3 : State) : (setLayer x0 x1 x2 x3).pending = x3.pending :=
    (rfl)

@[simp] theorem layerRestart_pending (x0 : ℕ) (x1 : State) : (layerRestart x0 x1).pending = x1.pending := by
  simp only [layerRestart, setEngine_pending, setLayer_pending, foldl_pending, implies_true, ite_pending, ite_self]

@[simp] theorem clearRfc_pending (x0 : ℕ) (x1 : State) : (clearRfc x0 x1).pending = x1.pending := (rfl)

@[simp] theorem releaseErrN_pending (x0 : State) : (releaseErrN x0).pending = x0.pending := by
  simp only [releaseErrN, ite_pending, ite_self]

@[simp] theorem clearPend_pending (x0 : BitVec 1280) (x1 : State) : (clearPend x0 x1).pending = x1.pending := by
  simp only [clearPend, releaseErrN_pending, setEv_pending, ite_pending, ite_self]

@[simp] theorem clearSummary_pending (x0 : ℕ) (x1 : State) : (clearSummary x0 x1).pending = x1.pending := (rfl)

@[simp] theorem flushLaunch_pending (x0 : ℕ) (x1 : State) : (flushLaunch x0 x1).pending = x1.pending := by
  fun_induction flushLaunch <;> simp_all +zetaDelta

@[simp] theorem writePkt_pending (x0 x1 : ℕ) (x2 : State) : (writePkt x0 x1 x2).pending = x2.pending := by
  simp only [writePkt, setHost_pending, flushLaunch_pending, ite_pending, ite_self]

@[simp] theorem qpFault_pending (x0 x1 : ℕ) (x2 : State) : (qpFault x0 x1 x2).pending = x2.pending := (rfl)

@[simp] theorem baseWrite_pending (x0 : ℕ) (x1 : Qp → Qp) (x2 : State) : (baseWrite x0 x1 x2).pending = x2.pending := by
  simp only [baseWrite, setQp_pending, qpFault_pending, ite_pending, ite_self]

@[simp] theorem writeQp_pending (x0 x1 x2 : ℕ) (x3 : State) : (writeQp x0 x1 x2 x3).pending = x3.pending := by
  unfold writeQp
  (repeat' split) <;> simp only [baseWrite_pending, setQp_pending, ite_pending, ite_self]

@[simp] theorem mboxGo_pending (x0 : ℕ) (x1 : State) : (mboxGo x0 x1).pending = x1.pending := by
  simp only [mboxGo, setHost_pending, ite_pending, ite_self]

@[simp] theorem writeWindow_pending (x0 x1 : ℕ) (x2 : State) : (writeWindow x0 x1 x2).pending = x2.pending := by
  simp only [writeWindow, setHost_pending, ite_pending, setBoot_pending, mboxGo_pending, writeQp_pending, writePkt_pending,
    clearSummary_pending, clearPend_pending, clearRfc_pending, ite_pending, ite_self]

@[simp] theorem busWrite_pending (x0 x1 : ℕ) (x2 : State) : (busWrite x0 x1 x2).pending = x2.pending := by
  unfold busWrite
  (repeat' split) <;> simp only [writeWindow_pending, setHost_pending, foldl_pending, implies_true, ite_pending, ite_self]

@[simp] theorem okay_pending (x0 : State) (x1 : Bytes) : (okay x0 x1).st.pending = x0.pending := (rfl)

@[simp] theorem settleNewest_pending (x0 : ℕ) (x1 : State) : (settleNewest x0 x1).pending = x1.pending := by
  unfold settleNewest
  (repeat' split) <;> simp only [setHost_pending, setQp_pending, ite_pending, ite_self]

@[simp] theorem rerandomise_pending (x0 : State) : (rerandomise x0).pending = x0.pending := (rfl)

@[simp] theorem keyRefused_pending (x0 x1 : ℕ) (x2 : State) : (keyRefused x0 x1 x2).pending = x2.pending := by
  simp only [keyRefused, raise_pending, ite_pending, ite_self]

@[simp] theorem keyUse_pending (x0 x1 x2 x3 : ℕ) (x4 : State) : (keyUse x0 x1 x2 x3 x4).1.pending = x4.pending := by
  unfold keyUse
  dsimp only
  (repeat' split) <;> simp [*]

@[simp] theorem flockSend_pending (x0 : Bool) (x1 x2 : ℕ) (x3 : Bytes) (x4 : State) : (flockSend x0 x1 x2 x3 x4).pending =
    x4.pending := by
  unfold flockSend
  dsimp only
  (repeat' split) <;> simp [*]

@[simp] theorem flockReport_pending (x0 : DrvEvent) (x1 x2 x3 : ℕ) (x4 : State) : (flockReport x0 x1 x2 x3 x4).pending =
    x4.pending := by
  simp only [flockReport, flockSend_pending, ite_pending, ite_self]

@[simp] theorem addResult_pending (x0 : DrvEvent) (x1 x2 x3 : ℕ) (x4 : State) : (addResult x0 x1 x2 x3 x4).pending = x4.pending
    := by
  simp only [addResult, flockReport_pending, raise_pending, copyItem_pending, ite_pending, ite_self]

@[simp] theorem reportAll_pending (x0 : Quire) (x1 : ℕ) (x2 : List (DrvEvent × ℕ × Bool)) (x3 : State) : (reportAll x0 x1 x2
    x3).pending = x3.pending := by
  fun_induction reportAll <;> simp_all +zetaDelta

@[simp] theorem enqueue_pending (x0 : DrvEvent) (x1 : State) : (enqueue x0 x1).pending = x1.pending := by
  simp only [enqueue, copyItem_pending, ite_pending, ite_self]

@[simp] theorem enterAll_pending (x0 : Req) (x1 : ℕ) (x2 : List Bytes) (x3 : ℕ) (x4 : State) : (enterAll x0 x1 x2 x3 x4).pending
    = x4.pending := by
  fun_induction enterAll <;> simp_all +zetaDelta

@[simp] theorem countChange_pending (x0 : State) : (countChange x0).pending = x0.pending := (rfl)

@[simp] theorem ringIndex_pending (x0 x1 : ℕ) (x2 : State) : (ringIndex x0 x1 x2).2.pending = x2.pending := by
  unfold ringIndex
  (repeat' split) <;> simp only [draw_pending, ite_pending, ite_self]

@[simp] theorem drawMany_pending (x0 : ℕ) (x1 : State) : (drawMany x0 x1).pending = x1.pending := (rfl)

@[simp] theorem sendTraining_pending (x0 : ℕ) (x1 : State) : (sendTraining x0 x1).pending = x1.pending := by
  simp only [sendTraining, sendSymbols_pending, drawMany_pending, ite_pending, ite_self]

@[simp] theorem concludeLater_pending (x0 : CatRow) (x1 : Req) (x2 : Ans) : (concludeLater x0 x1 x2).pending = x2.st.pending :=
    by
  simp only [concludeLater, conclude_pending, ite_pending, ite_self]

@[simp] theorem concludeRetrain_pending (x0 : ℕ) (x1 : State) : (concludeRetrain x0 x1).pending = x1.pending := by
  unfold concludeRetrain
  (repeat' split) <;> simp only [concludeLater_pending, okay_pending, ite_pending, ite_self]

@[simp] theorem notifyStatus_pending (x0 x1 : State) : (notifyStatus x0 x1).pending = x1.pending := by
  simp only [notifyStatus, sendMsi_pending, ite_pending, ite_self]

@[simp] theorem enterRole_pending (x0 : Role) (x1 : State) : (enterRole x0 x1).pending = x1.pending := by
  simp only [enterRole, notifyStatus_pending, setTwin_pending, ite_pending, ite_self]

@[simp] theorem releaseReplies_pending (x0 : HeldReply → Bool) (x1 : State) : (releaseReplies x0 x1).pending = x1.pending := by
  simp only [releaseReplies, sendReply_pending, foldl_pending, implies_true, ite_pending, ite_self]

@[simp] theorem armAll_pending (x0 : ℕ) (x1 : State) : (armAll x0 x1).pending = x1.pending := (rfl)

@[simp] theorem twinLinkDown_pending (x0 : State) : (twinLinkDown x0).pending = x0.pending := by
  unfold twinLinkDown
  dsimp only
  (repeat' split) <;> simp [*]

@[simp] theorem addLoad_pending (x0 : Load) (x1 : State) : (addLoad x0 x1).pending = x1.pending := by
  simp only [addLoad, ite_pending, ite_self]

@[simp] theorem fabReset_pending (x0 : ℕ) (x1 : State) : (fabReset x0 x1).pending = x1.pending := by
  simp only [fabReset, addLoad_pending, setFab_pending, ite_pending, ite_self]

@[simp] theorem raiseIn_pending (x0 x1 x2 x3 : ℕ) (x4 : State → State) (x5 : State) (h : ∀ s, (x4 s).pending = s.pending) :
    (raiseIn x0 x1 x2 x3 x4 x5).pending = x5.pending := by
  simp [raiseIn, *]

@[simp] theorem fabLeave_pending (x0 x1 : ℕ) (x2 : State) : (fabLeave x0 x1 x2).pending = x2.pending := by simp [fabLeave, *]

@[simp] theorem fabDetect_pending (x0 : ℕ) (x1 : State) : (fabDetect x0 x1).pending = x1.pending := by
  simp only [fabDetect, fabLeave_pending, setFab_pending, ite_pending, concludeRetrain_pending, sendTraining_pending,
    ite_pending, ite_self]

@[simp] theorem fabWait_pending (x0 : ℕ) (x1 : State) : (fabWait x0 x1).pending = x1.pending := by
  simp only [fabWait, ite_pending, ite_self]

@[simp] theorem fabHold_pending (x0 : ℕ) (x1 : State) : (fabHold x0 x1).pending = x1.pending := by
  simp only [fabHold, concludeRetrain_pending, setFab_pending, fabLeave_pending, ite_pending, ite_self]

@[simp] theorem audioChange_pending (x0 : Quire) (x1 : ℕ) (x2 : State) : (audioChange x0 x1 x2).pending = x2.pending := by
  simp only [audioChange, ite_pending, ite_self]

@[simp] theorem fenceEvaluation_pending (x0 : State) : (fenceEvaluation x0).pending = x0.pending := by
  unfold fenceEvaluation
  (repeat' split) <;> simp only [raise_pending, ite_pending, ite_self]

@[simp] theorem holdExpiry_pending (x0 : State) : (holdExpiry x0).pending = x0.pending := by
  simp only [holdExpiry, setDpll_pending, rfcEvent_pending, ite_pending, ite_self]

@[simp] theorem evaluateBounds_pending (x0 : State) : (evaluateBounds x0).pending = x0.pending := by
  simp only [evaluateBounds, setDpll_pending, holdExpiry_pending, fenceEvaluation_pending, setTime_pending, ite_pending,
    ite_self]

@[simp] theorem dpllEnter_pending (x0 : ℕ) (x1 : State) : (dpllEnter x0 x1).pending = x1.pending := by
  simp only [dpllEnter, setDpll_pending, evaluateBounds_pending, rfcEvent_pending, ite_pending, ite_self]

@[simp] theorem disqualify_pending (x0 : State) (x1 : ℕ) : (disqualify x0 x1).pending = x0.pending := by
  simp only [disqualify, refEnter_pending, ite_pending, ite_self]

@[simp] theorem startSoak_pending (x0 : ℕ) (x1 : State) : (startSoak x0 x1).pending = x1.pending := by
  simp only [startSoak, refEnter_pending, ite_pending, ite_self]

@[simp] theorem promote_pending (x0 : State) (x1 : ℕ) : (promote x0 x1).pending = x0.pending := by
  simp only [promote, setRef_pending, refEnter_pending, startSoak_pending, ite_pending, ite_self]

@[simp] theorem followBridge_pending (x0 : State) : (followBridge x0).pending = x0.pending := by
  unfold followBridge
  dsimp only
  (repeat' split) <;> simp [*]

@[simp] theorem selectRef_pending (x0 : Option ℕ) (x1 : State) : (selectRef x0 x1).pending = x1.pending := by
  unfold selectRef
  (repeat' split) <;> simp only [setTime_pending, setDpll_pending, dpllEnter_pending, rfcEvent_pending, ite_pending, ite_self]

@[simp] theorem applySelect_pending (x0 : State) (x1 : PendingSelect) : (applySelect x0 x1).pending = x0.pending := by
  unfold applySelect
  dsimp only
  (repeat' split) <;> simp [*]

@[simp] theorem checkForce_pending (x0 : State) : (checkForce x0).pending = x0.pending := by
  unfold checkForce
  dsimp only
  (repeat' split) <;> simp [*]

@[simp] theorem updateFlywheel_pending (x0 : State) : (updateFlywheel x0).pending = x0.pending := by
  simp only [updateFlywheel, setDpll_pending, ite_pending, ite_self]

@[simp] theorem reselect_pending (x0 : State) : (reselect x0).pending = x0.pending := by
  simp only [reselect, updateFlywheel_pending, checkForce_pending, applySelect_pending, setDpll_pending, selectRef_pending,
    followBridge_pending, foldl_pending, implies_true, ite_pending, ite_self]

@[simp] theorem refChange_pending (x0 : Quire) (x1 : State) : (refChange x0 x1).pending = x1.pending := by
  simp only [refChange, ite_pending, setRef_pending, refEnter_pending, refUse_pending, evaluateBounds_pending, reselect_pending,
    promote_pending, disqualify_pending, dpllEnter_pending, foldl_pending, implies_true, ite_pending, ite_self]

@[simp] theorem setGnss_pending (x0 : Gnss → Gnss) (x1 : State) : (setGnss x0 x1).pending = x1.pending := (rfl)

@[simp] theorem setSatChan_pending (x0 : ℕ) (x1 : Channel → Channel) (x2 : State) : (setSatChan x0 x1 x2).pending = x2.pending
    := (rfl)

@[simp] theorem chanEnter_pending (x0 x1 : ℕ) (x2 : State) : (chanEnter x0 x1 x2).pending = x2.pending := by
  simp only [chanEnter, setSatChan_pending, ite_pending, ite_self]

@[simp] theorem activityFault_pending (x0 : ℕ) (x1 : State) : (activityFault x0 x1).pending = x1.pending := by
  simp only [activityFault, setRef_pending, reselect_pending, refEnter_pending, ite_pending, ite_self]

@[simp] theorem gnssInvalid_pending (x0 : State) : (gnssInvalid x0).pending = x0.pending := by
  simp only [gnssInvalid, activityFault_pending, setGnss_pending, ite_pending, ite_self]

@[simp] theorem idleAll_pending (x0 : State) : (idleAll x0).pending = x0.pending := by
  simp only [idleAll, chanEnter_pending, foldl_pending, implies_true, ite_pending, ite_self]

@[simp] theorem gnssChange_pending (x0 : Quire) (x1 : State) : (gnssChange x0 x1).pending = x1.pending := by
  simp only [gnssChange, setGnss_pending, idleAll_pending, gnssInvalid_pending, chanEnter_pending, foldl_pending, implies_true,
    ite_pending, ite_self]

@[simp] theorem mgmtChange_pending (x0 : Quire) (x1 : State) : (mgmtChange x0 x1).pending = x1.pending := (rfl)

@[simp] theorem noteUtc_pending (x0 : State) : (noteUtc x0).pending = x0.pending := by
  simp only [noteUtc, setTime_pending, ite_pending, ite_self]

@[simp] theorem instantChange_pending (x0 : Quire) (x1 : ℕ) (x2 : State) : (instantChange x0 x1 x2).pending = x2.pending := by
  simp only [instantChange, fenceEvaluation_pending, noteUtc_pending, mgmtChange_pending, gnssChange_pending, refChange_pending,
    audioChange_pending, ite_pending, ite_self]

@[simp] theorem adoptSnapshot_pending (x0 : Snapshot) (x1 : State) : (adoptSnapshot x0 x1).pending = x1.pending := by
  simp only [adoptSnapshot, setQuires_pending, setTime_pending, instantChange_pending, ite_pending, ite_self]

@[simp] theorem egress_pending (x0 : ℕ) (x1 : EgFrame) (x2 : State) : (egress x0 x1 x2).pending = x2.pending := by
  simp only [egress, setNet_pending, ite_pending, ite_self]

@[simp] theorem launchRtp_pending (x0 : ℕ) (x1 : Bytes) (x2 : ℕ) (x3 : Bytes) (x4 : State) : (launchRtp x0 x1 x2 x3 x4).pending
    = x4.pending := by
  simp only [launchRtp, setFlow_pending, egress_pending, ite_pending, ite_self]

@[simp] theorem txCount_pending (x0 x1 x2 : ℕ) (x3 : State) : (txCount x0 x1 x2 x3).2.pending = x3.pending := by
  unfold txCount
  dsimp only
  (repeat' split) <;> simp [*]

@[simp] theorem foreseen_pending (x0 : State) (x1 x2 : ℕ) : (foreseen x0 x1 x2).pending = x0.pending := by
  unfold foreseen
  (repeat' split) <;> simp [*]

@[simp] theorem launchAnc_pending (x0 x1 x2 : ℕ) (x3 x4 : Bytes) (x5 : State) : (launchAnc x0 x1 x2 x3 x4 x5).pending =
    x5.pending := by
  unfold launchAnc
  (repeat' split) <;> simp only [ite_pending, txCount_pending, launchRtp_pending, ite_pending, ite_self]

@[simp] theorem fabricTest_pending (x0 x1 : ℕ) (x2 : State) : (fabricTest x0 x1 x2).pending = x2.pending := by
  simp only [fabricTest, ite_pending, fabLeave_pending, fabDetect_pending, ite_pending, ite_self]

@[simp] theorem doorbell_pending (x0 x1 : ℕ) (x2 : State) : (doorbell x0 x1 x2).pending = x2.pending := by
  simp only [doorbell, qpFault_pending, setQp_pending, ite_pending, ite_self]

@[simp] theorem portEnter_pending (x0 x1 : ℕ) (x2 : State) : (portEnter x0 x1 x2).pending = x2.pending := (rfl)

@[simp] theorem portReset_pending (x0 : ℕ) (x1 : State) : (portReset x0 x1).pending = x1.pending := by
  simp only [portReset, addLoad_pending, portEnter_pending, ite_pending, ite_self]

@[simp] theorem wakePort_pending (x0 x1 : ℕ) (x2 : State) : (wakePort x0 x1 x2).pending = x2.pending := by simp [wakePort, *]

@[simp] theorem ownDecision_pending (x0 : ℕ) (x1 : State) : (ownDecision x0 x1).pending = x1.pending := by
  simp only [ownDecision, ite_pending, ite_self]

@[simp] theorem apCount_pending (x0 x1 x2 : ℕ) (x3 : State) : (apCount x0 x1 x2 x3).pending = x3.pending := (rfl)

@[simp] theorem apReset_pending (x0 : ℕ) (x1 : State) : (apReset x0 x1).pending = x1.pending := by
  simp only [apReset, setApt_pending, ite_pending, ite_self]

@[simp] theorem slipped_pending (x0 x1 : ℕ) (x2 : Bool) (x3 : State) : (slipped x0 x1 x2 x3).pending = x3.pending := by
  simp [slipped, *]

@[simp] theorem bufOut_pending (x0 : ℕ) (x1 : Option Bool) (x2 : State) : (bufOut x0 x1 x2).1.pending = x2.pending := by
  unfold bufOut
  dsimp only
  (repeat' split) <;> simp [*]

@[simp] theorem feedPort_pending (x0 : ℕ) (x1 : Option (List ℕ)) (x2 : State) : (feedPort x0 x1 x2).1.pending = x2.pending := by
  simp only [feedPort, bufOut_pending, ite_pending, ite_self]

@[simp] theorem setRx_pending (x0 : ℕ) (x1 : RxStream → RxStream) (x2 : State) : (setRx x0 x1 x2).pending = x2.pending := (rfl)

@[simp] theorem feedStream_pending (x0 : ℕ) (x1 : Bytes) (x2 : State) : (feedStream x0 x1 x2).1.pending = x2.pending := (rfl)

@[simp] theorem feedFlow_pending (x0 : ℕ) (x1 : Bytes) (x2 : State) : (feedFlow x0 x1 x2).1.pending = x2.pending := by
  unfold feedFlow
  dsimp only
  (repeat' split) <;> simp [*]

@[simp] theorem laneReset_pending (x0 : ℕ) (x1 : State) : (laneReset x0 x1).pending = x1.pending := by
  unfold laneReset
  (repeat' split) <;> simp only [setLane_pending, srcLost_pending, addLoad_pending, ite_pending, ite_self]

@[simp] theorem fifoDrain_pending (x0 : ℕ) (x1 : State) : (fifoDrain x0 x1).1.pending = x1.pending := by
  unfold fifoDrain
  dsimp only
  (repeat' split) <;> simp [*]

@[simp] theorem feedLane_pending (x0 : ℕ) (x1 : State) : (feedLane x0 x1).1.pending = x1.pending := by
  simp only [feedLane, fifoDrain_pending, foldl_pending, implies_true, ite_pending, ite_self]

@[simp] theorem gather_pending {α : Type} (x1 : α → State → State × Feed) (x2 : List α) (x3 : State) (h : ∀ a s, (x1 a
    s).1.pending = s.pending) : (gather x1 x2 x3).1.pending = x3.pending := by
  fun_induction gather <;> simp_all +zetaDelta

@[simp] theorem sectionFeed_pending (sec n : Nat) (c : Option (List Nat)) (s : State) : (sectionFeed sec n c s).1.pending =
    s.pending := by
  have h1 : ∀ l s, (gather feedLane l s).1.pending = s.pending := fun l s => gather_pending _ _ _ fun a s => by simp
  have h2 : ∀ l s, (gather (feedFlow n) l s).1.pending = s.pending := fun l s => gather_pending _ _ _ fun a s => by simp
  have h3 : ∀ l s, (gather (feedStream n) l s).1.pending = s.pending := fun l s => gather_pending _ _ _ fun a s => by simp
  have h4 : ∀ l s, (gather (fun p t => feedPort p c t) l s).1.pending = s.pending := fun l s => gather_pending _ _ _ fun a s =>
    by simp
  by_cases h : sec = 0 <;> simp only [sectionFeed, h, if_true, if_false, h1, h2, h3, h4]

@[simp] theorem resendFrom_pending (x0 : ℕ) (x1 : State) : (resendFrom x0 x1).pending = x1.pending := by
  simp only [resendFrom, setStitch_pending, stitchEmit_pending, foldl_pending, implies_true, ite_pending, ite_self]

@[simp] theorem launch2022_pending (x0 x1 x2 : ℕ) (x3 x4 : Bytes) (x5 : State) : (launch2022 x0 x1 x2 x3 x4 x5).pending =
    x5.pending := by
  unfold launch2022
  (repeat' split) <;> simp only [launchRtp_pending, ite_pending, ite_self]

@[simp] theorem rollOver_pending (x0 : ℕ) (x1 : State) : (rollOver x0 x1).pending = x1.pending := (rfl)

@[simp] theorem signPtp_pending (x0 : ℕ) (x1 : Bytes) (x2 : State) : (signPtp x0 x1 x2).1.pending = x2.pending := by
  unfold signPtp
  dsimp only
  (repeat' split) <;> simp [*]

@[simp] theorem sendPtp_pending (x0 x1 : ℕ) (x2 x3 : Bytes) (x4 : State) : (sendPtp x0 x1 x2 x3 x4).pending = x4.pending := by
  simp only [sendPtp, signPtp_pending, emit_pending, ite_pending, ite_self]

@[simp] theorem nextSeqOf_pending (x0 x1 : ℕ) (x2 : State) : (nextSeqOf x0 x1 x2).2.pending = x2.pending := (rfl)

@[simp] theorem setPtpSessions_pending (x0 : List PtpSession) (x1 : State) : (setPtpSessions x0 x1).pending = x1.pending := by
  simp only [setPtpSessions, copyItem_pending, setTime_pending, foldl_pending, implies_true, ite_pending, ite_self]

@[simp] theorem cancelUnicast_pending (x0 x1 : ℕ) (x2 x3 : Bytes) (x4 x5 : ℕ) (x6 : State) : (cancelUnicast x0 x1 x2 x3 x4 x5
    x6).pending = x6.pending := by
  simp only [cancelUnicast, setPtpSessions_pending, ite_pending, ite_pending, ite_self]

@[simp] theorem requestUnicast_pending (x0 x1 : ℕ) (x2 x3 : Bytes) (x4 x5 : ℕ) (x6 : ℤ) (x7 : ℕ) (x8 : Bool) (x9 : State) :
    (requestUnicast x0 x1 x2 x3 x4 x5 x6 x7 x8 x9).2.pending = x9.pending := by
  unfold requestUnicast
  dsimp only
  (repeat' split) <;> simp [*]

@[simp] theorem signalTlv_pending (x0 x1 : ℕ) (x2 x3 : Bytes) (x4 : ℕ) (x5 : Bool) (x6 : Bytes × State) (x7 : ℕ × ℕ × Bytes) :
    (signalTlv x0 x1 x2 x3 x4 x5 x6 x7).2.pending = x6.2.pending := by
  unfold signalTlv
  (repeat' split) <;> simp only [requestUnicast_pending, cancelUnicast_pending, ite_pending, ite_self]

@[simp] theorem takeSignal_pending (x0 x1 : ℕ) (x2 x3 : Bytes) (x4 : Bool) (x5 : State) : (takeSignal x0 x1 x2 x3 x4 x5).pending
    = x5.pending := by
  simp [takeSignal, *]

@[simp] theorem noteLeap_pending (x0 : ℕ) (x1 : Foreign) (x2 : State) : (noteLeap x0 x1 x2).pending = x2.pending := by
  simp only [noteLeap, setTime_pending, ite_pending, ite_self]

@[simp] theorem selectMaster_pending (x0 : ℕ) (x1 : Option ℕ) (x2 : Option Foreign) (x3 : State) : (selectMaster x0 x1 x2
    x3).pending = x3.pending := by
  simp only [selectMaster, noteUtc_pending, setInst_pending, ite_pending, ite_self]

@[simp] theorem decidePort_pending (x0 : ℕ) (x1 : Option (ℕ × Foreign)) (x2 : State) (x3 : ℕ) : (decidePort x0 x1 x2 x3).pending
    = x2.pending := by
  unfold decidePort
  (repeat' split) <;> simp only [ppEnter_pending, ite_pending, ite_self]

@[simp] theorem bestMaster_pending (x0 : ℕ) (x1 : State) : (bestMaster x0 x1).pending = x1.pending := by
  unfold bestMaster
  dsimp only
  (repeat' split) <;> simp [*]

@[simp] theorem takeAnnounce_pending (x0 x1 : ℕ) (x2 x3 : Bytes) (x4 : State) : (takeAnnounce x0 x1 x2 x3 x4).pending =
    x4.pending := by
  unfold takeAnnounce
  dsimp only
  (repeat' split) <;> simp [*]

@[simp] theorem delayResp_pending (x0 x1 : ℕ) (x2 x3 : Bytes) (x4 : ℕ) (x5 : Bool) (x6 : ℤ) (x7 : State) : (delayResp x0 x1 x2
    x3 x4 x5 x6 x7).pending = x7.pending := by
  simp only [delayResp, sendPtp_pending, ite_pending, ite_self]

@[simp] theorem takeDelayReq_pending (x0 x1 : ℕ) (x2 x3 : Bytes) (x4 : ℕ) (x5 : State) : (takeDelayReq x0 x1 x2 x3 x4
    x5).pending = x5.pending := by
  unfold takeDelayReq
  dsimp only
  (repeat' split) <;> simp [*]

@[simp] theorem activityRestored_pending (x0 : ℕ) (x1 : State) : (activityRestored x0 x1).pending = x1.pending := by
  simp only [activityRestored, setRef_pending, reselect_pending, refEnter_pending, startSoak_pending, ite_pending, ite_self]

@[simp] theorem measured_pending (x0 x1 : ℕ) (x2 : State) : (measured x0 x1 x2).pending = x2.pending := by
  simp only [measured, ppEnter_pending, setRef_pending, activityRestored_pending, setInst_pending, ite_pending, ite_self]

@[simp] theorem takeDelayResp_pending (x0 x1 : ℕ) (x2 : Bytes) (x3 : State) : (takeDelayResp x0 x1 x2 x3).pending = x3.pending
    := by
  unfold takeDelayResp
  dsimp only
  (repeat' split) <;> simp [*]

@[simp] theorem takeSync_pending (x0 x1 : ℕ) (x2 x3 x4 : ℤ) (x5 : State) : (takeSync x0 x1 x2 x3 x4 x5).pending = x5.pending :=
    by
  simp only [takeSync, measured_pending, setInst_pending, ite_pending, ite_self]

@[simp] theorem handlePtp_pending (x0 x1 : ℕ) (x2 x3 : Bytes) (x4 : Bool) (x5 : State) : (handlePtp x0 x1 x2 x3 x4 x5).pending =
    x5.pending := by
  unfold handlePtp
  (repeat' split) <;> simp only [setInst_pending, takeSync_pending, takeDelayResp_pending, takeDelayReq_pending,
    takeAnnounce_pending, takeSignal_pending, ite_pending, ite_self]

@[simp] theorem lanesSettle_pending (x0 : ℕ) (x1 : State) : (lanesSettle x0 x1).pending = x1.pending := by
  unfold lanesSettle
  (repeat' split) <;> simp only [setLane_pending, foldl_pending, implies_true, ite_pending, ite_self]

@[simp] theorem writeDest_pending (x0 x1 : ℕ) (x2 : Bytes) (x3 : State) : (writeDest x0 x1 x2 x3).pending = x3.pending := by
  simp only [writeDest, ite_pending, ite_self]

@[simp] theorem takeSwap_pending (x0 x1 : ℕ) (x2 : State) : (takeSwap x0 x1 x2).pending = x2.pending := by
  unfold takeSwap
  (repeat' split) <;> simp only [ite_pending, ite_self]

@[simp] theorem applyDest_pending (x0 : DrvEvent) (x1 : ℕ) (x2 : State) : (applyDest x0 x1 x2).1.pending = x2.pending := by
  unfold applyDest
  dsimp only
  (repeat' split) <;> simp [*]

@[simp] theorem answerDeferred_pending (x0 x1 x2 : ℕ) (x3 : Deferred → State → Ans) (x4 : State) (h : ∀ d s, (x3 d s).st.pending
    = s.pending) : (answerDeferred x0 x1 x2 x3 x4).pending = x4.pending := by
  unfold answerDeferred
  (repeat' split) <;> simp [*]

@[simp] theorem answerActivation_pending (x0 x1 : ℕ) (x2 : State) : (answerActivation x0 x1 x2).pending = x2.pending := by
  simp only [answerActivation, answerDeferred_pending, foldl_pending, implies_true, ite_pending, ite_self]

@[simp] theorem startActivation_pending (x0 : Activation) (x1 : State) : (startActivation x0 x1).pending = x1.pending := by
  simp only [startActivation, setBoot_pending, ite_pending, copyItem_pending, answerActivation_pending, ite_pending, ite_self]

@[simp] theorem chipReset_pending (p q : Bool) (s : State) : (chipReset p q s).pending = s.pending := (rfl)

@[simp] theorem learnSample_pending (x0 : State) : (learnSample x0).pending = x0.pending := by
  simp only [learnSample, setDpll_pending, ite_pending, ite_self]

@[simp] theorem setSessions_pending (x0 : List Session → List Session) (x1 : State) : (setSessions x0 x1).pending = x1.pending
    := (rfl)

@[simp] theorem closeSession_pending (x0 x1 : ℕ) (x2 : State) : (closeSession x0 x1 x2).pending = x2.pending := (rfl)

@[simp] theorem finishItem_pending (x0 x1 x2 : ℕ) (x3 : State) : (finishItem x0 x1 x2 x3).pending = x3.pending := (rfl)

@[simp] theorem sendCaps_pending (x0 : ℕ) (x1 : State) : (sendCaps x0 x1).pending = x1.pending := by
  simp only [sendCaps, bondSend_pending, ite_pending, ite_self]

@[simp] theorem apStart_pending (x0 : ℕ) (x1 : State) : (apStart x0 x1).pending = x1.pending := (rfl)

@[simp] theorem chooseCase_pending (x0 : State) : (chooseCase x0).2.pending = x0.pending := by
  unfold chooseCase
  dsimp only
  (repeat' split) <;> simp [*]

@[simp] theorem loadQuire_pending (x0 : State) : (loadQuire x0).pending = x0.pending := by
  simp only [loadQuire, chooseCase_pending, setBoot_pending, setQuires_pending, instantChange_pending, ite_pending, ite_self]

@[simp] theorem refuseWaiting_pending (x0 : State) : (refuseWaiting x0).pending = x0.pending := by
  unfold refuseWaiting
  repeat' (first | (simp [*]; done) | (rw [foldl_pending]; intro t a) | split | dsimp only)

@[simp] theorem launchOpaque_pending (x0 x1 : ℕ) (x2 x3 : Bytes) (x4 : State) : (launchOpaque x0 x1 x2 x3 x4).pending =
    x4.pending := by
  unfold launchOpaque
  dsimp only
  (repeat' split) <;> simp [*]

@[simp] theorem postLaunch_pending (x0 : LaunchRec) (x1 : State) : (postLaunch x0 x1).pending = x1.pending := by
  simp only [postLaunch, flushLaunch_pending, ite_pending, ite_self]

@[simp] theorem dropHostFrames_pending (x0 : ℕ) (x1 : State) : (dropHostFrames x0 x1).pending = x1.pending := by
  simp only [dropHostFrames, postLaunch_pending, setNet_pending, foldl_pending, implies_true, ite_pending, ite_self]

@[simp] theorem layerReset_pending (x0 : ℕ) (x1 : State) : (layerReset x0 x1).pending = x1.pending := by
  simp only [layerReset, setLayer_pending, foldl_pending, implies_true, ite_pending, ite_self]

@[simp] theorem storeMove_pending (x0 x1 : ℕ) (x2 : State) : (storeMove x0 x1 x2).pending = x2.pending := by
  unfold storeMove
  dsimp only
  (repeat' split) <;> simp [*]

@[simp] theorem setSection_pending (x0 : ℕ) (x1 : Section → Section) (x2 : State) : (setSection x0 x1 x2).pending = x2.pending
    := (rfl)

@[simp] theorem delayMove_pending (x0 x1 : ℕ) (x2 : State) : (delayMove x0 x1 x2).pending = x2.pending := by
  unfold delayMove
  dsimp only
  (repeat' split) <;> simp [*]

@[simp] theorem setSync_pending (x0 : ℕ) (x1 : Sync → Sync) (x2 : State) : (setSync x0 x1 x2).pending = x2.pending := (rfl)

@[simp] theorem syEvent_pending (x0 x1 : ℕ) (x2 : State) : (syEvent x0 x1 x2).pending = x2.pending := by
  simp only [syEvent, raise_pending, ite_pending, ite_self]

@[simp] theorem syEnter_pending (x0 x1 : ℕ) (x2 : State) : (syEnter x0 x1 x2).pending = x2.pending := by
  simp only [syEnter, syEvent_pending, setSync_pending, ite_pending, ite_self]

@[simp] theorem syMove_pending (x0 : ℕ) (x1 : State) : (syMove x0 x1).pending = x1.pending := by
  unfold syMove
  dsimp only
  (repeat' split) <;> simp [*]

@[simp] theorem colophonMove_pending (x0 : ℕ) (x1 : State) : (colophonMove x0 x1).pending = x1.pending := by
  simp only [colophonMove, raise_pending, ite_pending, ite_self]

@[simp] theorem groupOut_pending (x0 x1 : ℕ) (x2 : State) : (groupOut x0 x1 x2).pending = x2.pending := by
  simp only [groupOut, raise_pending, setGroup_pending, colophonMove_pending, syMove_pending, delayMove_pending,
    ownDecision_pending, storeMove_pending, foldl_pending, implies_true, ite_pending, ite_self]

@[simp] theorem slaveOut_pending (x0 : ℕ) (x1 : Option Bool) (x2 : State) : (slaveOut x0 x1 x2).1.pending = x2.pending := by
  unfold slaveOut
  dsimp only
  (repeat' split) <;> simp [*]

@[simp] theorem entryIdle_pending (x0 : Bytes) (x1 : State) : (entryIdle x0 x1).pending = x1.pending := by
  unfold entryIdle
  dsimp only
  (repeat' split) <;> simp [*]

@[simp] theorem netCount_pending (x0 x1 x2 : ℕ) (x3 : State) : (netCount x0 x1 x2 x3).pending = x3.pending := (rfl)

@[simp] theorem portDrop_pending (x0 x1 x2 : ℕ) (x3 : State) : (portDrop x0 x1 x2 x3).pending = x3.pending := by
  simp only [portDrop, setNet_pending, portEnter_pending, ite_pending, netCount_pending, setLane_pending, entryIdle_pending,
    dropHostFrames_pending, foldl_pending, implies_true, ite_pending, ite_self]

@[simp] theorem laneLost_pending (x0 : ℕ) (x1 : State) : (laneLost x0 x1).pending = x1.pending := by
  unfold laneLost
  (repeat' split) <;> simp only [srcLost_pending, ite_pending, ite_self]

@[simp] theorem startLane_pending (x0 : Quire) (x1 : Bool) (x2 : ℕ) (x3 : State) : (startLane x0 x1 x2 x3).pending = x3.pending
    := by
  simp only [startLane, ite_pending, setLane_pending, laneLost_pending, portDrop_pending, addLoad_pending, ite_pending,
    ite_self]

@[simp] theorem setTx_pending (x0 : ℕ) (x1 : TxStream → TxStream) (x2 : State) : (setTx x0 x1 x2).pending = x2.pending := (rfl)

@[simp] theorem noteSent_pending (x0 : ℕ) (x1 : Bytes) (x2 : State) : (noteSent x0 x1 x2).pending = x2.pending := by
  unfold noteSent
  (repeat' split) <;> simp only [ite_pending, setFlow_pending, ite_pending, ite_self]

@[simp] theorem settleReplies_pending (x0 : ℕ) (x1 : State) : (settleReplies x0 x1).pending = x1.pending := (rfl)

@[simp] theorem countCoding_pending (x0 : ℕ) (x1 : State) : (countCoding x0 x1).pending = x1.pending := (rfl)

@[simp] theorem evaluateSource_pending (x0 : ℕ) (x1 : State) : (evaluateSource x0 x1).pending = x1.pending := by
  simp only [evaluateSource, srcEnter_pending, setSrc_pending, ite_pending, ite_self]

@[simp] theorem stampEdge_pending (x0 x1 : ℕ) (x2 : State) : (stampEdge x0 x1 x2).pending = x2.pending := by
  simp only [stampEdge, ite_pending, setAudio_pending, ite_pending, ite_self]

@[simp] theorem authCheck_pending (x0 : ℕ) (x1 : Bytes) (x2 : State) : (authCheck x0 x1 x2).1.pending = x2.pending := by
  unfold authCheck
  dsimp only
  (repeat' split) <;> simp [*]

@[simp] theorem ntsAuth_pending (x0 x1 : Bytes) (x2 : State) : (ntsAuth x0 x1 x2).1.pending = x2.pending := (rfl)

@[simp] theorem settleUse_pending (x0 x1 : ℕ) (x2 : State) : (settleUse x0 x1 x2).pending = x2.pending := (rfl)

@[simp] theorem sendSync_pending (x0 : ℕ) (x1 : State) : (sendSync x0 x1).pending = x1.pending := by
  fun_induction sendSync <;> simp_all +zetaDelta

@[simp] theorem sendAck_pending (x0 : Bool) (x1 : State) : (sendAck x0 x1).pending = x1.pending := by
  simp only [sendAck, setStitch_pending, ite_pending, stitchEmit_pending, ite_pending, ite_self]

@[simp] theorem tick_pending (s : State) : (tick s).pending = s.pending := by
  unfold tick
  split <;> rfl

@[simp] theorem earlyReply_pending (x0 : Req) (x1 x2 x3 : ℕ) (x4 : Bytes) (x5 : State) : (earlyReply x0 x1 x2 x3 x4 x5).pending
    = x5.pending := by
  simp only [earlyReply, sendReply_pending, ite_pending, ite_self]

@[simp] theorem earlyBusy_pending (x0 : Req) (x1 : ℕ) (x2 : State) : (earlyBusy x0 x1 x2).pending = x2.pending := by
  simp only [earlyBusy, setPort_pending, earlyReply_pending, ite_pending, ite_self]

@[simp] theorem newCookie_pending (x0 x1 : Bytes) (x2 : State) : (newCookie x0 x1 x2).1.pending = x2.pending := (rfl)

@[simp] theorem newCookies_pending (x0 x1 : Bytes) (x2 : ℕ) (x3 : State) : (newCookies x0 x1 x2 x3).1.pending = x3.pending := by
  fun_induction newCookies <;> simp_all +zetaDelta

@[simp] theorem cookieKey_pending (x0 : ℕ) (x1 : State) : (cookieKey x0 x1).1.pending = x1.pending := by
  simp only [cookieKey, keyUse_pending, ite_pending, ite_self]

@[simp] theorem openCookie_pending (x0 : Bytes) (x1 : State) : (openCookie x0 x1).1.pending = x1.pending := by
  unfold openCookie
  dsimp only
  (repeat' split) <;> simp [*]

@[simp] theorem ntpCount_pending (x0 : ℕ) (x1 : State) : (ntpCount x0 x1).pending = x1.pending := (rfl)

@[simp] theorem ntsAnswer_pending (x0 : ℕ) (x1 x2 : Bytes) (x3 : State) : (ntsAnswer x0 x1 x2 x3).pending = x3.pending := by
  unfold ntsAnswer
  dsimp only
  (repeat' split) <;> simp [*]

@[simp] theorem markUsed_pending (x0 : ℕ) (x1 : Checked) (x2 : State) : (markUsed x0 x1 x2).pending = x2.pending := by
  simp only [markUsed, setSatChan_pending, setGnss_pending, foldl_pending, implies_true, ite_pending, ite_self]

@[simp] theorem writeColophon_pending (x0 : Option (ℕ × ℕ)) (x1 : State) : (writeColophon x0 x1).pending = x1.pending := by
  unfold writeColophon
  (repeat' split) <;> simp only [setEv_pending, ite_pending, ite_self]

@[simp] theorem restartInst_pending (x0 : ℕ) (x1 : State) : (restartInst x0 x1).pending = x1.pending := by
  simp only [restartInst, setPp_pending, ppEnter_pending, setInst_pending, setPtpSessions_pending, ite_pending,
    activityFault_pending, foldl_pending, implies_true, ite_pending, ite_self]

@[simp] theorem timeReset_pending (x0 : State) : (timeReset x0).pending = x0.pending := by
  simp only [timeReset, restartInst_pending, foldl_pending, implies_true, ite_pending, ite_self]

@[simp] theorem largeOffset_pending (x0 : State) : (largeOffset x0).pending = x0.pending := by
  unfold largeOffset
  (repeat' split) <;> simp [*]

@[simp] theorem noteOffset_pending (x0 : State) (x1 : ℕ) (x2 : Option ℤ) : (noteOffset x0 x1 x2).pending = x0.pending := (rfl)

@[simp] theorem closeAtom_pending (x0 : State) : (closeAtom x0).1.pending = x0.pending := by
  unfold closeAtom
  dsimp only
  (repeat' split) <;> simp [*]

@[simp] theorem evaluateRefs_pending (x0 : List (ℕ × ℤ)) (x1 : State) : (evaluateRefs x0 x1).pending = x1.pending := by
  simp only [evaluateRefs, setDpll_pending, refUse_pending, reconcile_pending, closeAtom_pending, noteOffset_pending, promote_pending,
    disqualify_pending, evaluateBounds_pending, largeOffset_pending, learnSample_pending, reselect_pending, foldl_pending,
    implies_true, ite_pending, ite_self]

@[simp] theorem stageActive_pending (x0 : Quire → Quire → Quire) (x1 : State) : (stageActive x0 x1).pending = x1.pending :=
    (rfl)

@[simp] theorem sendReport_pending (x0 : Bytes) (x1 : ℕ) (x2 : State) : (sendReport x0 x1 x2).pending = x2.pending := by
  simp only [sendReport, egress_pending, ite_pending, ite_self]

@[simp] theorem startFlow_pending (x0 : ℕ) (x1 : State) : (startFlow x0 x1).1.pending = x1.pending := by
  unfold startFlow
  dsimp only
  (repeat' split) <;> simp [*]

@[simp] theorem setSlot_pending (x0 : ℕ) (x1 : FwSlot → FwSlot) (x2 : State) : (setSlot x0 x1 x2).pending = x2.pending := (rfl)

@[simp] theorem leaveSlot_pending (n : Nat) (s : State) : (leaveSlot n s).pending = s.pending := (rfl)

@[simp] theorem chooseSlot_pending (x0 : State) : (chooseSlot x0).2.pending = x0.pending := by
  unfold chooseSlot
  dsimp only
  (repeat' split) <;> simp [*]

@[simp] theorem itemAdmitted_pending (x0 x1 : ℕ) (x2 : State) : (itemAdmitted x0 x1 x2).pending = x2.pending := (rfl)

@[simp] theorem surveySecond_pending (x0 : GnssEpoch) (x1 : State) : (surveySecond x0 x1).pending = x1.pending := by
  simp only [surveySecond, setGnss_pending, ite_pending, ite_self]

@[simp] theorem setFold_pending (x0 : FoldBus → FoldBus) (x1 : State) : (setFold x0 x1).pending = x1.pending := (rfl)

@[simp] theorem beginTenure_pending (x0 : State) : (beginTenure x0).pending = x0.pending := (rfl)

@[simp] theorem foldEmit_pending (x0 x1 x2 : ℕ) (x3 : Bytes) (x4 : State) : (foldEmit x0 x1 x2 x3 x4).pending = x4.pending :=
    (rfl)

@[simp] theorem passToken_pending (x0 : State) : (passToken x0).pending = x0.pending := by
  unfold passToken
  (repeat' split) <;> simp only [setFold_pending, foldEmit_pending, beginTenure_pending, ite_pending, ite_self]

@[simp] theorem sendQueued_pending (x0 : FoldOut) (x1 : ℕ) (x2 : State) : (sendQueued x0 x1 x2).pending = x2.pending := (rfl)

@[simp] theorem sendTenure_pending (x0 : ℕ) (x1 : State) : (sendTenure x0 x1).pending = x1.pending := by
  fun_induction sendTenure <;> simp_all +zetaDelta

@[simp] theorem runTenure_pending (x0 : State) : (runTenure x0).pending = x0.pending := by
  simp only [runTenure, sendTenure_pending, passToken_pending, ite_pending, ite_self]

@[simp] theorem bootHalt_pending (x0 : ℕ) (x1 : State) : (bootHalt x0 x1).pending = x1.pending := by
  simp only [bootHalt, notifyStatus_pending, setBoot_pending, ite_pending, ite_self]

@[simp] theorem refuseUnknown_pending (x0 : ℕ) (x1 : Req) (x2 : State) : (refuseUnknown x0 x1 x2).pending = x2.pending := by
  simp only [refuseUnknown, setPort_pending, unwait_pending, conclude_pending, refuse_pending, ite_pending, ite_pending,
    ite_self]

@[simp] theorem plannedReset_pending (k : Nat) (s : State) : (plannedReset k s).pending = s.pending := by
  unfold plannedReset
  dsimp only
  split <;> simp

@[simp] theorem syRestart_pending (x0 : ℕ) (x1 : State) : (syRestart x0 x1).pending = x1.pending := by
  simp only [syRestart, syEnter_pending, setSync_pending, ite_pending, ite_self]

@[simp] theorem allocate_pending (x0 x1 x2 : ℕ) (x3 : State) : (allocate x0 x1 x2 x3).pending = x3.pending := (rfl)

@[simp] theorem startDram_pending (x0 : ℕ) (x1 : State) : (startDram x0 x1).1.pending = x1.pending := by
  unfold startDram
  (repeat' split) <;> simp only [ite_pending, stageActive_pending, allocate_pending, setSync_pending, syRestart_pending,
    ite_pending, ite_self]

@[simp] theorem syCapture_pending (x0 x1 x2 x3 x4 : ℕ) (x5 : List ℕ) (x6 : List AncPkt) (x7 : State) : (syCapture x0 x1 x2 x3 x4
    x5 x6 x7).pending = x7.pending := (rfl)

@[simp] theorem keepEntries_pending (x0 x1 : Quire) (x2 : ℕ) (x3 : State) : (keepEntries x0 x1 x2 x3).pending = x3.pending := by
  simp only [keepEntries, setFlow_pending, foldl_pending, implies_true, ite_pending, ite_self]

@[simp] theorem wakeUsed_pending (x0 : State) : (wakeUsed x0).pending = x0.pending := by
  simp only [wakeUsed, wakePort_pending, foldl_pending, implies_true, ite_pending, ite_self]

@[simp] theorem takeQuire_pending (x0 : DrvEvent) (x1 : ℕ) (x2 : State) : (takeQuire x0 x1 x2).pending = x2.pending := by
  simp only [takeQuire, setQuires_pending, ite_pending, dequeue_pending, wakeUsed_pending, instantChange_pending,
    keepEntries_pending, ite_pending, ite_self]

@[simp] theorem syDue_pending (x0 : ℕ) (x1 : State) : (syDue x0 x1).pending = x1.pending := by
  unfold syDue
  (repeat' split) <;> simp only [ite_pending, syRestart_pending, ite_pending, ite_self]

@[simp] theorem syAdvance_pending (x0 : ℕ) (x1 : State) : (syAdvance x0 x1).pending = x1.pending := by
  unfold syAdvance
  dsimp only
  (repeat' split) <;> simp [*]

@[simp] theorem setChan_pending (x0 : ℕ) (x1 : DramChan → DramChan) (x2 : State) : (setChan x0 x1 x2).pending = x2.pending :=
    (rfl)

@[simp] theorem chanSleep_pending (x0 : ℕ) (x1 : Bool) (x2 : State) : (chanSleep x0 x1 x2).pending = x2.pending := by
  simp only [chanSleep, setChan_pending, setGroup_pending, ite_pending, ite_self]

@[simp] theorem trainGroup_pending (x0 : ℕ) (x1 : List (ℕ × ℕ)) (x2 : State) : (trainGroup x0 x1 x2).pending = x2.pending := by
  simp only [trainGroup, setChan_pending, setGroup_pending, raise_pending, foldl_pending, implies_true, ite_pending, ite_self]

@[simp] theorem apEnter_pending (x0 x1 : ℕ) (x2 : State) : (apEnter x0 x1 x2).pending = x2.pending := by
  simp only [apEnter, apCount_pending, setApt_pending, ite_pending, ite_self]

@[simp] theorem apFollow_pending (x0 : ℕ) (x1 : State) : (apFollow x0 x1).pending = x1.pending := by
  simp only [apFollow, apEnter_pending, setApt_pending, foldl_pending, implies_true, ite_pending, ite_self]

@[simp] theorem putKey_pending (x0 : ℕ) (x1 : KeySlot) (x2 : State) : (putKey x0 x1 x2).pending = x2.pending := by
  simp only [putKey, setKey_pending, setKeys_pending, ite_pending, ite_self]

@[simp] theorem inputBlocks_pending (x0 : ℕ) (x1 : AesFrame) (x2 : State) : (inputBlocks x0 x1 x2).pending = x2.pending := (rfl)

@[simp] theorem runSlot_pending (x0 : ℕ) (x1 : Bool) (x2 : State) : (runSlot x0 x1 x2).pending = x2.pending := by
  simp only [runSlot, setSlot_pending, leaveSlot_pending, setBoot_pending, ite_pending, ite_self]

@[simp] theorem releaseShadow_pending (x0 : State) : (releaseShadow x0).pending = x0.pending := (rfl)

@[simp] theorem dropSwap_pending (x0 : DrvEvent) (x1 x2 : ℕ) (x3 : State) : (dropSwap x0 x1 x2 x3).pending = x3.pending := by
  simp [dropSwap, *]

@[simp] theorem applySwap_pending (x0 : State) : (applySwap x0).pending = x0.pending := by
  unfold applySwap
  (repeat' split) <;> simp only [ite_pending, takeQuire_pending, dropSwap_pending, releaseShadow_pending, ite_pending, ite_self]

@[simp] theorem forwardCommand_pending (x0 : Req) (x1 : Bytes) (x2 : State) : (forwardCommand x0 x1 x2).pending = x2.pending :=
    by
  simp only [forwardCommand, stitchSend_pending, ite_pending, ite_self]

@[simp] theorem carryOver_pending (x0 : Bytes) (x1 : ℕ) (x2 : Req) (x3 : State) : (carryOver x0 x1 x2 x3).pending = x3.pending
    := by
  simp only [carryOver, forwardCommand_pending, ite_pending, unwait_pending, ite_pending, ite_self]

@[simp] theorem pushEra_pending (x0 x1 : ℕ) (x2 x3 : Bytes) (x4 : State) : (pushEra x0 x1 x2 x3 x4).pending = x4.pending :=
    (rfl)

@[simp] theorem layerUpdate_pending (x0 : ℕ) (x1 : Bytes) (x2 : ℕ) (x3 : State) : (layerUpdate x0 x1 x2 x3).1.pending =
    x3.pending := by
  simp only [layerUpdate, setEngine_pending, pushEra_pending, foldl_pending, implies_true, ite_pending, ite_self]

@[simp] theorem bufIn_pending (x0 : ℕ) (x1 : PortFrame) (x2 : Option Bool) (x3 : State) : (bufIn x0 x1 x2 x3).pending =
    x3.pending := by
  simp only [bufIn, slipped_pending, setApt_pending, ite_pending, ite_self]

@[simp] theorem loadRoots_pending (x0 : State) : (loadRoots x0).pending = x0.pending := by
  unfold loadRoots
  repeat' (first | (simp [*]; done) | (rw [foldl_pending]; intro t a) | split | dsimp only)

@[simp] theorem setClass_pending (x0 : ℕ) (x1 : List RxRec) (x2 : State) : (setClass x0 x1 x2).pending = x2.pending := (rfl)

@[simp] theorem fabCount_pending (x0 x1 x2 : ℕ) (x3 : State) : (fabCount x0 x1 x2 x3).pending = x3.pending := (rfl)

@[simp] theorem sendCell_pending (x0 : List ℕ) (x1 : Bytes) (x2 : State) : (sendCell x0 x1 x2).pending = x2.pending := by
  unfold sendCell
  repeat' (first | (simp [*]; done) | (rw [foldl_pending]; intro t a) | split | dsimp only)

@[simp] theorem flowCount_pending (x0 x1 x2 : ℕ) (x3 : State) : (flowCount x0 x1 x2 x3).pending = x3.pending := (rfl)

@[simp] theorem receiveAudio_pending (x0 : ℕ) (x1 x2 : Bytes) (x3 : Rtp) (x4 : State) : (receiveAudio x0 x1 x2 x3 x4).pending =
    x4.pending := by
  simp only [receiveAudio, flowCount_pending, setFlow_pending, foldl_pending, implies_true, ite_pending, ite_self]

@[simp] theorem signalQp_pending (x0 : ℕ) (x1 : State) : (signalQp x0 x1).pending = x1.pending := by
  simp only [signalQp, sendMsi_pending, setQp_pending, ite_pending, ite_self]

@[simp] theorem ownBridges_pending (x0 : State) : (ownBridges x0).pending = x0.pending := by
  simp only [ownBridges, ownDecision_pending, ite_pending, ite_self]

@[simp] theorem sendCrook_pending (x0 x1 : ℕ) (x2 : State) : (sendCrook x0 x1 x2).pending = x2.pending := by
  simp only [sendCrook, stitchSend_pending, setTwin_pending, ite_pending, ite_self]

@[simp] theorem followCycle_pending (x0 : ℕ) (x1 : State) : (followCycle x0 x1).pending = x1.pending := by
  unfold followCycle
  (repeat' split) <;> simp only [sendCrook_pending, ownBridges_pending, setTwin_pending, ite_pending, ite_self]

@[simp] theorem rxDrop_pending (x0 x1 : ℕ) (x2 : Quire) (x3 : ℕ) (x4 : State) : (rxDrop x0 x1 x2 x3 x4).pending = x4.pending :=
    by
  simp [rxDrop, *]

@[simp] theorem gangDrop_pending (x0 : ℕ) (x1 : State) : (gangDrop x0 x1).pending = x1.pending := by
  simp only [gangDrop, rxDrop_pending, foldl_pending, implies_true, ite_pending, ite_self]

@[simp] theorem busWrites_pending (x0 x1 : ℕ) (x2 : Bytes) (x3 : State) : (busWrites x0 x1 x2 x3).pending = x3.pending := by
  fun_induction busWrites <;> simp_all +zetaDelta

@[simp] theorem syCount_pending (x0 x1 x2 : ℕ) (x3 : State) : (syCount x0 x1 x2 x3).pending = x3.pending := (rfl)

@[simp] theorem keepChoice_pending (x0 : ℕ) (x1 : FsyChoice) (x2 : State) : (keepChoice x0 x1 x2).pending = x2.pending := by
  simp only [keepChoice, setSync_pending, ite_pending, copyItem_pending, ite_pending, ite_self]

@[simp] theorem takeFrame_pending (x0 x1 x2 x3 : ℕ) (x4 : State) : (takeFrame x0 x1 x2 x3 x4).pending = x4.pending := by
  simp only [takeFrame, keepChoice_pending, setSync_pending, syEvent_pending, syCount_pending, ite_pending, ite_self]

@[simp] theorem lossChoice_pending (x0 x1 : ℕ) (x2 : State) : (lossChoice x0 x1 x2).pending = x2.pending := by
  simp only [lossChoice, syCount_pending, keepChoice_pending, setSync_pending, ite_pending, ite_self]

@[simp] theorem syDecide_pending (x0 x1 : ℕ) (x2 : Option ℕ) (x3 : State) : (syDecide x0 x1 x2 x3).pending = x3.pending := by
  unfold syDecide
  dsimp only
  (repeat' split) <;> simp [*]

@[simp] theorem takeSyncFrame_pending (x0 : Bytes) (x1 : State) : (takeSyncFrame x0 x1).pending = x1.pending := by
  simp only [takeSyncFrame, ite_pending, setTwin_pending, ite_pending, ite_self]

@[simp] theorem compareClass_pending (x0 x1 : ℕ) (x2 : Bool) (x3 : State) : (compareClass x0 x1 x2 x3).pending = x3.pending :=
    by
  simp only [compareClass, setTwin_pending, raise_pending, ite_pending, ite_self]

@[simp] theorem takeHealth_pending (x0 : Bytes) (x1 : State) : (takeHealth x0 x1).pending = x1.pending := by
  unfold takeHealth
  dsimp only
  (repeat' split) <;> simp [*]

@[simp] theorem enterSyncing_pending (x0 : State) : (enterSyncing x0).pending = x0.pending := by
  simp only [enterSyncing, enterRole_pending, setTwin_pending, ite_pending, ite_self]

@[simp] theorem crookReceive_pending (x0 : Bool) (x1 : Bytes) (x2 : State) : (crookReceive x0 x1 x2).pending = x2.pending := by
  unfold crookReceive
  dsimp only
  (repeat' split) <;> simp [*]

@[simp] theorem takeReply_pending (x0 : Bytes) (x1 : State) : (takeReply x0 x1).pending = x1.pending := by
  simp only [takeReply, setTwin_pending, sendReply_pending, ite_pending, ite_self]

@[simp] theorem startUnknown_pending (x0 : ℕ) (x1 : State) : (startUnknown x0 x1).pending = x1.pending := by
  fun_induction startUnknown <;> simp_all +zetaDelta

@[simp] theorem accept_pending (x0 : Bytes) (x1 : ℕ) (x2 : Req) (x3 : State) : (accept x0 x1 x2 x3).pending = x3.pending := by
  unfold accept
  (repeat' split) <;> simp only [await_pending, ite_pending, carryOver_pending, startUnknown_pending, ite_pending, ite_self]

@[simp] theorem earlyCounted_pending (x0 : Req) (x1 x2 x3 : ℕ) (x4 : Bytes) (x5 : State) : (earlyCounted x0 x1 x2 x3 x4
    x5).pending = x5.pending := by
  simp only [earlyCounted, setPort_pending, earlyReply_pending, ite_pending, ite_self]

@[simp] theorem checkSequence_pending (x0 : Bytes) (x1 : ℕ) (x2 : Req) (x3 : State) : (checkSequence x0 x1 x2 x3).pending =
    x3.pending := by
  unfold checkSequence
  dsimp only
  (repeat' split) <;> simp [*]

@[simp] theorem setTransport_pending (x0 : ℕ) (x1 : Transport → Transport) (x2 : State) : (setTransport x0 x1 x2).pending =
    x2.pending := (rfl)

@[simp] theorem noAnswer_pending (x0 : Endpoint) (x1 : ℕ) (x2 : State) : (noAnswer x0 x1 x2).pending = x2.pending := by
  unfold noAnswer
  (repeat' split) <;> simp [*]

@[simp] theorem receiveAs_pending (x0 : Endpoint) (x1 : Option ℕ) (x2 : ℕ) (x3 : Bytes) (x4 : State) : (receiveAs x0 x1 x2 x3
    x4).pending = x4.pending := by
  unfold receiveAs
  (repeat' split) <;> simp only [noAnswer_pending, setTransport_pending, setPort_pending, earlyReply_pending,
    earlyCounted_pending, checkSequence_pending, ite_pending, ite_self]

@[simp] theorem takeCommand_pending (x0 : Bytes) (x1 : State) : (takeCommand x0 x1).pending = x1.pending := by
  simp only [takeCommand, receiveAs_pending, ite_pending, ite_self]

@[simp] theorem adoptActivation_pending (x0 : Bool) (x1 : ℕ) (x2 : State) : (adoptActivation x0 x1 x2).pending = x2.pending :=
    by
  simp only [adoptActivation, setBoot_pending, ite_pending, setSlot_pending, ite_pending, ite_self]

@[simp] theorem takeNav_pending (x0 x1 x2 : ℕ) (x3 : Bytes) (x4 : Bool) (x5 : State) : (takeNav x0 x1 x2 x3 x4 x5).pending =
    x5.pending := by
  unfold takeNav
  dsimp only
  (repeat' split) <;> simp [*]

@[simp] theorem suspectOff_pending (x0 : State) : (suspectOff x0).pending = x0.pending := by
  simp only [suspectOff, copyItem_pending, setGnss_pending, ite_pending, ite_self]

@[simp] theorem takeAid_pending (x0 : Bytes) (x1 : State) : (takeAid x0 x1).pending = x1.pending := by
  simp only [takeAid, copyItem_pending, setGnss_pending, suspectOff_pending, takeNav_pending, foldl_pending, implies_true,
    ite_pending, ite_self]

@[simp] theorem gnssReset_pending (x0 : State) : (gnssReset x0).pending = x0.pending := by
  simp only [gnssReset, chanEnter_pending, gnssInvalid_pending, foldl_pending, implies_true, ite_pending, ite_self]

@[simp] theorem suspectOn_pending (x0 : ℕ) (x1 : State) : (suspectOn x0 x1).pending = x1.pending := by simp [suspectOn, *]

@[simp] theorem adoptSession_pending (x0 : PtpSession) (x1 : Bool) (x2 : State) : (adoptSession x0 x1 x2).pending = x2.pending
    := (rfl)

@[simp] theorem adoptResult_pending (x0 : DrvResult) (x1 : State) : (adoptResult x0 x1).pending = x1.pending := by
  simp only [adoptResult, ite_pending, ite_pending, ite_self]

@[simp] theorem adoptEvent_pending (x0 : DrvEvent) (x1 : State) : (adoptEvent x0 x1).pending = x1.pending := by
  simp only [adoptEvent, ite_pending, setQuires_pending, ite_pending, ite_self]

@[simp] theorem setCard_pending (x0 : ℕ) (x1 : Card → Card) (x2 : State) : (setCard x0 x1 x2).pending = x2.pending := (rfl)

@[simp] theorem postChange_pending (x0 : Req) (x1 : ℕ) (x2 : List ℕ) (x3 : AudioWhat) (x4 : State) : (postChange x0 x1 x2 x3
    x4).pending = x4.pending := (rfl)

@[simp] theorem takeGain_pending (x0 x1 : ℕ) (x2 : ℤ) (x3 : State) : (takeGain x0 x1 x2 x3).pending = x3.pending := by
  unfold takeGain
  dsimp only
  split <;> rfl

@[simp] theorem applyChange_pending (x0 : ℕ) (x1 : AudioChange) (x2 : State) : (applyChange x0 x1 x2).pending = x2.pending := by
  unfold applyChange
  (repeat' split) <;> simp only [takeGain_pending, setAudio_pending, ite_pending, ite_self]

@[simp] theorem applyGrant_pending (x0 x1 : ℕ) (x2 : Bytes) (x3 : State) : (applyGrant x0 x1 x2 x3).pending = x3.pending :=
    (rfl)

@[simp] theorem refuseTimed_pending (x0 : State) (x1 x2 x3 : ℕ) : (refuseTimed x0 x1 x2 x3).st.pending = x0.pending := by
  simp only [refuseTimed, refuse_pending, ite_pending, ite_self]

@[simp] theorem meetSwap_pending (x0 : Bytes) (x1 : State) : (meetSwap x0 x1).pending = x1.pending := by
  unfold meetSwap
  (repeat' split) <;> simp only [setQuires_pending, dropSwap_pending, ite_pending, ite_self]

@[simp] theorem qirWrite_pending (x0 : Bytes) (x1 : State) : (qirWrite x0 x1).st.pending = x1.pending := by
  unfold qirWrite
  dsimp only
  (repeat' split) <;> simp [*]

@[simp] theorem sendHealth_pending (x0 : ℕ) (x1 : State) : (sendHealth x0 x1).pending = x1.pending := by
  unfold sendHealth
  dsimp only
  (repeat' split) <;> simp [*]

@[simp] theorem sendCopy_pending (x0 : ℕ) (x1 : State) : (sendCopy x0 x1).pending = x1.pending := by
  simp only [sendCopy, setTwin_pending, stitchSend_pending, foldl_pending, implies_true, ite_pending, ite_self]

@[simp] theorem sendOwnCopy_pending (x0 : ℕ) (x1 : State) : (sendOwnCopy x0 x1).pending = x1.pending := by
  simp only [sendOwnCopy, setTwin_pending, stitchSend_pending, foldl_pending, implies_true, ite_pending, ite_self]

@[simp] theorem renewLease_pending (x0 : State) : (renewLease x0).pending = x0.pending := by
  simp only [renewLease, sendCrook_pending, setTwin_pending, ite_pending, ite_self]

@[simp] theorem loseCrook_pending (x0 : State) : (loseCrook x0).pending = x0.pending := by
  simp only [loseCrook, releaseReplies_pending, enterSyncing_pending, ite_pending, ite_self]

@[simp] theorem cancelEvent_pending (x0 : State) (x1 : DrvEvent) : (cancelEvent x0 x1).pending = x0.pending := by
  simp only [cancelEvent, ite_pending, dropSwap_pending, releaseShadow_pending, addResult_pending, copyItem_pending,
    dequeue_pending, ite_pending, ite_self]

@[simp] theorem routeReply_pending (x0 : Deferred) (x1 : State) : (routeReply x0 x1).st.pending = x1.pending := (rfl)

@[simp] theorem submitReply_pending (x0 : Deferred) (x1 : State) : (submitReply x0 x1).st.pending = x1.pending := by
  unfold submitReply
  (repeat' split) <;> simp only [okay_pending, ite_pending, ite_self]

@[simp] theorem layerReply_pending (x0 : Deferred) (x1 : State) : (layerReply x0 x1).st.pending = x1.pending := (rfl)

@[simp] theorem settle_pending (x0 x1 : ℕ) (x2 : State) : (settle x0 x1 x2).pending = x2.pending := by simp [settle, *]

@[simp] theorem ringMove_pending (x0 : Quire) (x1 x2 : ℕ) (x3 : State) : (ringMove x0 x1 x2 x3).pending = x3.pending := by
  simp only [ringMove, setSrc_pending, srcEnter_pending, ite_pending, ite_self]

@[simp] theorem moveRing_pending (x0 x1 : ℕ) (x2 : State) : (moveRing x0 x1 x2).pending = x2.pending := by
  simp only [moveRing, ite_pending, ringMove_pending, ite_pending, ite_self]

@[simp] theorem writeSlot_pending (x0 x1 x2 x3 : ℕ) (x4 : List ℕ) (x5 : State) : (writeSlot x0 x1 x2 x3 x4 x5).pending =
    x5.pending := by
  simp only [writeSlot, ite_pending, moveRing_pending, srcEnter_pending, setSrc_pending, ite_pending, ite_self]

@[simp] theorem writeThrough_pending (n i line fmt done : Nat) (data : List Nat) (s : State) :
    (writeThrough n i line fmt done data s).pending = s.pending := by
  induction n generalizing i s with
  | zero => simp [writeThrough]
  | succ n ih =>
    simp only [writeThrough]
    split
    · simp
    · rw [foldl_pending]
      · simp
      · intro t y
        split
        · rfl
        · split
          · split <;> simp [ih]
          · split <;> simp

@[simp] theorem audioCellTake_pending (x0 : ℕ) (x1 x2 : Bytes) (x3 : ℕ) (x4 : State) : (audioCellTake x0 x1 x2 x3 x4).pending =
    x4.pending := (rfl)

@[simp] theorem ancCellTake_pending (x0 x1 : ℕ) (x2 : AncCell) (x3 : State) : (ancCellTake x0 x1 x2 x3).pending = x3.pending :=
    by
  unfold ancCellTake
  dsimp only
  (repeat' split) <;> simp [*]

@[simp] theorem captureBad_pending (x0 x1 : ℕ) (x2 : State) : (captureBad x0 x1 x2).pending = x2.pending := by
  simp only [captureBad, setSync_pending, ite_pending, foldl_pending, implies_true, ite_pending, ite_self]

@[simp] theorem writeLine_pending (x0 x1 x2 x3 : ℕ) (x4 : List ℕ) (x5 : State) : (writeLine x0 x1 x2 x3 x4 x5).pending =
    x5.pending := by
  simp only [writeLine, writeThrough_pending, ite_pending, ite_self]

@[simp] theorem flushCells_pending (x0 : ℕ) (x1 : State) : (flushCells x0 x1).pending = x1.pending := by
  unfold flushCells
  (repeat' split) <;> simp only [ite_pending, setRx_pending, writeLine_pending, captureBad_pending, foldl_pending, implies_true,
    ite_pending, ite_self]

@[simp] theorem noteLate_pending (x0 : ℕ) (x1 : State) : (noteLate x0 x1).pending = x1.pending := by
  simp only [noteLate, setRx_pending, raiseIn_pending, fabReset_pending, foldl_pending, implies_true, ite_pending, ite_self]

@[simp] theorem cellTake_pending (x0 x1 : ℕ) (x2 : Bytes) (x3 : State) : (cellTake x0 x1 x2 x3).pending = x3.pending := by
  unfold cellTake
  dsimp only
  (repeat' split) <;> simp [*]

@[simp] theorem masterSend_pending (x0 x1 x2 : ℕ) (x3 : Bytes) (x4 : Bool) (x5 : ℤ) (x6 : State) : (masterSend x0 x1 x2 x3 x4 x5
    x6).pending = x6.pending := by
  simp only [masterSend, nextSeqOf_pending, sendPtp_pending, ite_pending, ite_self]

@[simp] theorem fabricAdmitted_pending (x0 : ℕ) (x1 : State) : (fabricAdmitted x0 x1).pending = x1.pending := by
  simp only [fabricAdmitted, fabDetect_pending, ite_pending, ite_self]

@[simp] theorem giveChannel_pending (x0 : State) (x1 : Want) : (giveChannel x0 x1).pending = x0.pending := by
  unfold giveChannel
  (repeat' split) <;> simp only [setSatChan_pending, chanEnter_pending, ite_pending, ite_self]

@[simp] theorem holdToken_pending (x0 : State) : (holdToken x0).pending = x0.pending := by
  simp only [holdToken, runTenure_pending, beginTenure_pending, ite_pending, ite_self]

@[simp] theorem deriveWrap_pending (x0 : State) : (deriveWrap x0).pending = x0.pending := (rfl)

@[simp] theorem restoreKeys_pending (x0 : List ℕ) (x1 : State) : (restoreKeys x0 x1).pending = x1.pending := by
  simp only [restoreKeys, raise_pending, setKey_pending, foldl_pending, implies_true, ite_pending, ite_self]

@[simp] theorem setSynth_pending (x0 x1 : ℕ) (x2 : State) : (setSynth x0 x1 x2).pending = x2.pending := (rfl)

@[simp] theorem portFall_pending (x0 x1 x2 : ℕ) (x3 : State) : (portFall x0 x1 x2 x3).pending = x3.pending := by
  simp [portFall, *]

@[simp] theorem ethrefDown_pending (x0 : State) : (ethrefDown x0).pending = x0.pending := by
  simp only [ethrefDown, portFall_pending, fabDetect_pending, foldl_pending, implies_true, ite_pending, ite_self]

@[simp] theorem silence_pending (x0 : ℕ) (x1 : State) : (silence x0 x1).pending = x1.pending := (rfl)

@[simp] theorem audioReset_pending (x0 : State) : (audioReset x0).pending = x0.pending := (rfl)

@[simp] theorem domainEnter_pending (x0 x1 : ℕ) (x2 : State) : (domainEnter x0 x1 x2).pending = x2.pending := by
  simp only [domainEnter, setAudio_pending, raiseIn_pending, audioReset_pending, apFollow_pending, silence_pending,
    foldl_pending, implies_true, ite_pending, ite_self]

@[simp] theorem gateEffects_pending (x0 : ℕ) (x1 : Bool) (x2 : State) : (gateEffects x0 x1 x2).pending = x2.pending := by
  simp only [gateEffects, domainEnter_pending, ethrefDown_pending, ite_pending, ite_self]

@[simp] theorem copyGasps_pending (x0 : State) : (copyGasps x0).pending = x0.pending := (rfl)

@[simp] theorem startVegen_pending (x0 : List ℕ) (x1 : State) : (startVegen x0 x1).pending = x1.pending := by
  simp only [startVegen, copyGasps_pending, setBoot_pending, setKeys_pending, gateEffects_pending, setSynth_pending,
    restoreKeys_pending, deriveWrap_pending, foldl_pending, implies_true, ite_pending, ite_self]

@[simp] theorem commandReady_pending (x0 : State) : (commandReady x0).pending = x0.pending := by
  simp only [commandReady, setBoot_pending, setTwin_pending, notifyStatus_pending, ite_pending, ite_self]

@[simp] theorem loadImages_pending (x0 : Bytes) (x1 : State) : (loadImages x0 x1).pending = x1.pending := (rfl)

@[simp] theorem trainAll_pending (x0 : List (ℕ × ℕ)) (x1 : State) : (trainAll x0 x1).pending = x1.pending := by
  simp only [trainAll, trainGroup_pending, setBoot_pending, setEv_pending, raise_pending, foldl_pending, implies_true,
    ite_pending, ite_self]

@[simp] theorem finishStart_pending (x0 : Bytes) (x1 : List (ℕ × ℕ)) (x2 : List ℕ) (x3 : State) : (finishStart x0 x1 x2
    x3).pending = x3.pending := by
  simp only [finishStart, trainAll_pending, loadImages_pending, bootHalt_pending, commandReady_pending, loadQuire_pending,
    startVegen_pending, ite_pending, ite_self]

@[simp] theorem takeAidMessage_pending (x0 : Bytes) (x1 : State) : (takeAidMessage x0 x1).pending = x1.pending := by
  simp only [takeAidMessage, ite_pending, setFlock_pending, takeAid_pending, ite_pending, ite_self]

@[simp] theorem takeReport_pending (x0 : Bytes) (x1 : State) : (takeReport x0 x1).pending = x1.pending := by
  simp only [takeReport, setFlock_pending, ite_pending, ite_self]

@[simp] theorem listMember_pending (x0 : Member) (x1 : State) : (listMember x0 x1).pending = x1.pending := by
  unfold listMember
  dsimp only
  (repeat' split) <;> simp [*]

@[simp] theorem takeHello_pending (x0 x1 : ℕ) (x2 x3 : Bytes) (x4 : State) : (takeHello x0 x1 x2 x3 x4).pending = x4.pending :=
    by
  simp only [takeHello, listMember_pending, ite_pending, ite_self]

@[simp] theorem acceptFlock_pending (x0 x1 : ℕ) (x2 x3 : Bytes) (x4 : State) : (acceptFlock x0 x1 x2 x3 x4).pending = x4.pending
    := by
  unfold acceptFlock
  (repeat' split) <;> simp only [setFlock_pending, takeHello_pending, takeReport_pending, takeAidMessage_pending, ite_pending,
    ite_self]

@[simp] theorem handleFlock_pending (x0 x1 : ℕ) (x2 x3 : Bytes) (x4 : State) : (handleFlock x0 x1 x2 x3 x4).pending = x4.pending
    := by
  simp only [handleFlock, keyUse_pending, acceptFlock_pending, setFlock_pending, ite_pending, ite_self]

@[simp] theorem deembedTake_pending (x0 x1 x2 : ℕ) (x3 : List (List ℤ)) (x4 : State) : (deembedTake x0 x1 x2 x3 x4).pending =
    x4.pending := by
  simp only [deembedTake, ite_pending, setLane_pending, ite_pending, ite_self]

@[simp] theorem writeTimeBase_pending (n : Nat) (s : State) : (writeTimeBase n s).pending = s.pending := by
  simp [writeTimeBase]

@[simp] theorem engineTake_pending (x0 : ℕ) (x1 : State) : (engineTake x0 x1).pending = x1.pending := by
  unfold engineTake
  (repeat' split) <;> simp only [pushEra_pending, takeSwap_pending, ite_pending, ite_self]

@[simp] theorem applyLayer_pending (x0 : DrvEvent) (x1 : ℕ) (x2 : State) : (applyLayer x0 x1 x2).1.pending = x2.pending := by
  unfold applyLayer
  dsimp only
  (repeat' split) <;> simp [*]

@[simp] theorem exchangeSet_pending (x0 : State) (x1 : ℕ) : (exchangeSet x0 x1).pending = x0.pending := (rfl)

@[simp] theorem safeload_pending (x0 : Bytes) (x1 : State) : (safeload x0 x1).pending = x1.pending := by
  simp only [safeload, exchangeSet_pending, foldl_pending, implies_true, ite_pending, ite_self]

@[simp] theorem takeProgram_pending (x0 : ℕ) (x1 : State) : (takeProgram x0 x1).pending = x1.pending := by
  simp only [takeProgram, setSection_pending, delayMove_pending, foldl_pending, implies_true, ite_pending, ite_self]

@[simp] theorem takeParams_pending (x0 : ℕ) (x1 : State) : (takeParams x0 x1).pending = x1.pending := (rfl)

@[simp] theorem bankExchange_pending (x0 : ℕ) (x1 : State) : (bankExchange x0 x1).pending = x1.pending := by
  simp only [bankExchange, takeProgram_pending, foldl_pending, implies_true, ite_pending, ite_self]

@[simp] theorem takeDueSwaps_pending (x0 x1 : ℕ) (x2 : State) : (takeDueSwaps x0 x1 x2).pending = x2.pending := by
  unfold takeDueSwaps
  dsimp only
  split <;> simp only [takeParams_pending, bankExchange_pending, foldl_pending, implies_true, ite_pending, ite_self]

@[simp] theorem applySafeload_pending (x0 : DrvEvent) (x1 : ℕ) (x2 : State) : (applySafeload x0 x1 x2).1.pending = x2.pending :=
    by
  unfold applySafeload
  dsimp only
  (repeat' split) <;> simp [*]

@[simp] theorem applyRoute_pending (x0 : DrvEvent) (x1 : ℕ) (x2 : State) : (applyRoute x0 x1 x2).1.pending = x2.pending := by
  unfold applyRoute
  dsimp only
  (repeat' split) <;> simp [*]

@[simp] theorem applyEvent_pending (x0 : DrvEvent) (x1 : ℕ) (x2 : State) : (applyEvent x0 x1 x2).1.pending = x2.pending := by
  unfold applyEvent
  (repeat' split) <;> simp only [applyRoute_pending, applyDest_pending, applyGrant_pending, applySafeload_pending,
    applyLayer_pending, ite_pending, ite_self]

@[simp] theorem tcForward_pending (x0 : ℕ) (x1 : Bytes) (x2 : ℕ) (x3 : State) : (tcForward x0 x1 x2 x3).pending = x3.pending :=
    by
  simp only [tcForward, netCount_pending, egress_pending, foldl_pending, implies_true, ite_pending, ite_self]

@[simp] theorem enterBlock_pending (x0 x1 : ℕ) (x2 : State) : (enterBlock x0 x1 x2).pending = x2.pending := by
  unfold enterBlock
  (repeat' split) <;> simp only [laneReset_pending, portReset_pending, portDrop_pending, fabReset_pending, groupOut_pending,
    audioReset_pending, apReset_pending, layerReset_pending, timeReset_pending, gnssReset_pending, foldl_pending, implies_true,
    ite_pending, ite_self]

@[simp] theorem eventBad_pending (x0 : Bool) (x1 : ℕ) (x2 : State) : (eventBad x0 x1 x2).pending = x2.pending := by
  simp only [eventBad, ite_pending, raiseInj_pending, ite_pending, ite_self]

@[simp] theorem countCorrected_pending (x0 : ℕ) (x1 : State) : (countCorrected x0 x1).pending = x1.pending := (rfl)

@[simp] theorem hwFault_pending (x0 : Bool) (x1 : HwFault) (x2 : State) : (hwFault x0 x1 x2).pending = x2.pending := by
  unfold hwFault
  (repeat' split) <;> simp only [raiseInj_pending, ite_pending, setTwin_pending, countCorrected_pending, setDst_pending,
    setSrc_pending, eventBad_pending, concludeLater_pending, ite_pending, ite_self]

@[simp] theorem faultIn_pending (x0 : Bool) (x1 : HwFault) (x2 : State) : (faultIn x0 x1 x2).pending = x2.pending := by
  unfold faultIn
  (repeat' split) <;> simp only [hwFault_pending, enterBlock_pending, ite_pending, ite_self]

@[simp] theorem applyAll_pending (x0 : ℕ) (x1 : List DrvEvent) (x2 : State) : (applyAll x0 x1 x2).1.pending = x2.pending := by
  fun_induction applyAll <;> simp_all +zetaDelta

@[simp] theorem sendAnc_pending (x0 : List ℕ) (x1 x2 : ℕ) (x3 : AncPkt) (x4 : State) : (sendAnc x0 x1 x2 x3 x4).pending =
    x4.pending := by
  simp only [sendAnc, sendCell_pending, setTx_pending, foldl_pending, implies_true, ite_pending, ite_self]

@[simp] theorem passStep_pending (x0 x1 : ℕ) (x2 : Smp) (x3 : State) : (passStep x0 x1 x2 x3).pending = x3.pending := by
  simp only [passStep, setApt_pending, ite_pending, ite_self]

@[simp] theorem moveDelay_pending (x0 x1 : ℕ) (x2 : State) : (moveDelay x0 x1 x2).pending = x2.pending := by
  simp only [moveDelay, ite_pending, setDst_pending, ite_pending, ite_self]

@[simp] theorem captureLayer_pending (x0 x1 x2 : ℕ) (x3 : LineRead) (x4 : State) : (captureLayer x0 x1 x2 x3 x4).pending =
    x4.pending := by
  unfold captureLayer
  (repeat' split) <;> simp only [engineTake_pending, setLayer_pending, ite_pending, ite_self]

@[simp] theorem pidFrame_pending (x0 : ℕ) (x1 : State) : (pidFrame x0 x1).pending = x1.pending := by
  simp only [pidFrame, setLane_pending, foldl_pending, implies_true, ite_pending, ite_self]

@[simp] theorem laneWrite_pending (x0 x1 x2 x3 x4 : ℕ) (x5 : List ℕ) (x6 : LineErr) (x7 : State) :
    (laneWrite x0 x1 x2 x3 x4 x5 x6 x7).pending = x7.pending := by
  simp only [laneWrite, setLane_pending, ite_pending, writeLine_pending, pidFrame_pending, ite_pending, ite_self]

@[simp] theorem sweepSessions_pending (x0 : State) : (sweepSessions x0).pending = x0.pending := (rfl)

@[simp] theorem receive40_pending (x0 : ℕ) (x1 x2 : Bytes) (x3 : Rtp) (x4 : State) : (receive40 x0 x1 x2 x3 x4).pending =
    x4.pending := by
  unfold receive40
  (repeat' split) <;> simp only [flowCount_pending, setSrc_pending, foldl_pending, implies_true, ite_pending, ite_self]

@[simp] theorem jamEvents_pending (x0 : GnssEpoch) (x1 : State) : (jamEvents x0 x1).pending = x1.pending := by
  simp only [jamEvents, raiseIn_pending, gnssReset_pending, foldl_pending, implies_true, ite_pending, ite_self]

@[simp] theorem gnssHold_pending (x0 : State) : (gnssHold x0).pending = x0.pending := (rfl)

@[simp] theorem validEpoch_pending (x0 : ℕ) (x1 : GnssEpoch) (x2 : State) : (validEpoch x0 x1 x2).pending = x2.pending := by
  simp only [validEpoch, setGnss_pending, draw_pending, ite_pending, setTwin_pending, setRef_pending, activityRestored_pending,
    ite_pending, ite_self]

@[simp] theorem invalidEpoch_pending (x0 : State) : (invalidEpoch x0).pending = x0.pending := by
  simp only [invalidEpoch, gnssInvalid_pending, setGnss_pending, ite_pending, ite_self]

@[simp] theorem concludeEpoch_pending (x0 : ℕ) (x1 : GnssEpoch) (x2 : Checked) (x3 x4 : Bool) (x5 : State) : (concludeEpoch x0
    x1 x2 x3 x4 x5).pending = x5.pending := by
  unfold concludeEpoch
  (repeat' split) <;> simp only [invalidEpoch_pending, suspectOn_pending, setGnss_pending, suspectOff_pending,
    surveySecond_pending, validEpoch_pending, gnssHold_pending, ite_pending, ite_self]

@[simp] theorem solveEpoch_pending (x0 : ℕ) (x1 : GnssEpoch) (x2 : State) : (solveEpoch x0 x1 x2).pending = x2.pending := by
  simp only [solveEpoch, setGnss_pending, markUsed_pending, concludeEpoch_pending, jamEvents_pending, foldl_pending,
    implies_true, ite_pending, ite_self]

@[simp] theorem solvePaused_pending (x0 : State) : (solvePaused x0).pending = x0.pending := by
  simp only [solvePaused, solveEpoch_pending, setGnss_pending, foldl_pending, implies_true, ite_pending, ite_self]

@[simp] theorem blkClear_pending (x0 : ℕ) (x1 : State) : (blkClear x0 x1).pending = x1.pending := by
  unfold blkClear
  (repeat' split) <;> simp only [setEv_pending, ite_pending, ite_self]

@[simp] theorem readEffect_pending (x0 : ℕ) (x1 : State) : (readEffect x0 x1).pending = x1.pending := by
  simp only [readEffect, ite_pending, setHost_pending, blkClear_pending, ite_pending, ite_self]

@[simp] theorem prbsApply_pending (x0 x1 x2 x3 x4 x5 : ℕ) (x6 : State) : (prbsApply x0 x1 x2 x3 x4 x5 x6).pending = x6.pending
    := by
  simp only [prbsApply, setLane_pending, ite_pending, laneLost_pending, gangDrop_pending, ite_pending, ite_self]

@[simp] theorem mediaLoop_pending (x0 x1 x2 : ℕ) (x3 : Bool) (x4 : State) : (mediaLoop x0 x1 x2 x3 x4).st.pending = x4.pending
    := by
  simp only [mediaLoop, draw_pending, setLane_pending, prbsApply_pending, ite_pending, ite_pending, ite_self]

@[simp] theorem gainReplies_pending (x0 : State) : (gainReplies x0).pending = x0.pending := by
  unfold gainReplies
  (repeat' split) <;> simp only [concludeLater_pending, okay_pending, foldl_pending, implies_true, ite_pending, ite_self]

@[simp] theorem recover_pending (x0 : BlockReset) (x1 : State) : (recover x0 x1).pending = x1.pending := by
  unfold recover
  (repeat' split) <;> simp only [apStart_pending, startInst_pending, foldl_pending, implies_true, ite_pending, ite_self]

@[simp] theorem transition_pending (x0 : Bytes) (x1 : State) : (transition x0 x1).pending = x1.pending := by
  simp only [transition, setKeys_pending, finishTransition_pending, ite_pending, ite_self]

@[simp] theorem startPacket_pending (x0 : ℕ) (x1 : State) : (startPacket x0 x1).1.pending = x1.pending := by
  simp only [startPacket, stageActive_pending, portDrop_pending, addLoad_pending, portEnter_pending, foldl_pending,
    implies_true, ite_pending, ite_self]

@[simp] theorem rootSigned_pending (x0 x1 : Bytes) (x2 : State) : (rootSigned x0 x1 x2).1.pending = x2.pending := by
  unfold rootSigned
  dsimp only
  (repeat' split) <;> simp [*]

@[simp] theorem receivePacket_pending (x0 : Endpoint) (x1 : Bytes) (x2 : State) : (receivePacket x0 x1 x2).pending = x2.pending
    := by
  simp only [receivePacket, receiveAs_pending, ite_pending, ite_self]

@[simp] theorem takeFragment_pending (x0 : ℕ) (x1 : Bytes) (x2 : State) : (takeFragment x0 x1 x2).pending = x2.pending := by
  unfold takeFragment
  dsimp only
  (repeat' split) <;> simp [*]

@[simp] theorem foldAck_pending (x0 x1 : ℕ) (x2 : State) : (foldAck x0 x1 x2).pending = x2.pending := (rfl)

@[simp] theorem answerPoll_pending (x0 : ℕ) (x1 : State) : (answerPoll x0 x1).pending = x1.pending := by
  unfold answerPoll
  (repeat' split) <;> simp only [sendQueued_pending, foldEmit_pending, ite_pending, ite_self]

@[simp] theorem foldHandle_pending (x0 x1 x2 x3 : ℕ) (x4 : Bytes) (x5 : State) : (foldHandle x0 x1 x2 x3 x4 x5).pending =
    x5.pending := by
  unfold foldHandle
  (repeat' split) <;> simp only [holdToken_pending, answerPoll_pending, setFold_pending, crookReceive_pending, foldAck_pending,
    takeFragment_pending, handleFlock_pending, ite_pending, ite_self]

@[simp] theorem flushLines_pending (x0 x1 : ℕ) (x2 : State) : (flushLines x0 x1 x2).pending = x2.pending := by
  simp only [flushLines, setFlow_pending, ite_pending, writeLine_pending, captureBad_pending, flowCount_pending, foldl_pending,
    implies_true, ite_pending, ite_self]

@[simp] theorem unwrap_pending (x0 x1 : Bytes) (x2 : State) : (unwrap x0 x1 x2).1.pending = x2.pending := by
  unfold unwrap
  (repeat' split) <;> simp only [keyUse_pending, ite_pending, ite_self]

@[simp] theorem concludeWatch_pending (x0 x1 x2 : ℕ) (x3 : State) : (concludeWatch x0 x1 x2 x3).pending = x3.pending := by
  unfold concludeWatch
  (repeat' split) <;> simp only [concludeLater_pending, ite_pending, ite_self]

@[simp] theorem noteTest_pending (x0 : ℕ) (x1 : Bool) (x2 : State) : (noteTest x0 x1 x2).pending = x2.pending := by
  simp only [noteTest, ite_pending, setTwin_pending, raise_pending, ite_pending, ite_self]

@[simp] theorem noteServed_pending (x0 : State) : (noteServed x0).pending = x0.pending := by
  simp only [noteServed, setNtp_pending, ite_pending, ite_pending, ite_self]

@[simp] theorem sendUnsent_pending (x0 : ℕ) (x1 : State) : (sendUnsent x0 x1).pending = x1.pending := by
  fun_induction sendUnsent <;> simp_all +zetaDelta

@[simp] theorem takeAck_pending (x0 : ℕ) (x1 : State) : (takeAck x0 x1).pending = x1.pending := by
  unfold takeAck
  dsimp only
  (repeat' split) <;> simp [*]

@[simp] theorem partnerCommand_pending (x0 : ℕ) (x1 : Bytes) (x2 : State) : (partnerCommand x0 x1 x2).pending = x2.pending := by
  simp only [partnerCommand, stitchSend_pending, setTwin_pending, ite_pending, ite_self]

@[simp] theorem startPhase_pending (x0 : ℕ) (x1 : State) : (startPhase x0 x1).pending = x1.pending := by
  simp only [startPhase, partnerCommand_pending, setTwin_pending, ite_pending, ite_self]

@[simp] theorem watchBound_pending (x0 : ℕ) (x1 : State) : (watchBound x0 x1).pending = x1.pending := by
  unfold watchBound
  (repeat' split) <;> simp only [ite_pending, concludeWatch_pending, ite_pending, ite_self]

@[simp] theorem mediaAdmitted_pending (x0 : ℕ) (x1 : State) : (mediaAdmitted x0 x1).pending = x1.pending := (rfl)

@[simp] theorem startBounds_pending (x0 x1 : ℕ) (x2 : State) : (startBounds x0 x1 x2).pending = x2.pending := by
  simp only [startBounds, itemAdmitted_pending, foldl_pending, implies_true, ite_pending, ite_self]

@[simp] theorem switchOn_pending (x0 : Load) (x1 : State) : (switchOn x0 x1).pending = x1.pending := by
  simp only [switchOn, ite_pending, chanSleep_pending, itemAdmitted_pending, startBounds_pending, mediaAdmitted_pending,
    watchBound_pending, fabricAdmitted_pending, ite_pending, ite_self]

@[simp] theorem failItem_pending (x0 x1 : ℕ) (x2 : StageItem) (x3 : State) : (failItem x0 x1 x2 x3).pending = x3.pending := by
  simp only [failItem, ite_pending, lanesSettle_pending, raise_pending, finishItem_pending, ite_pending, ite_self]

@[simp] theorem startPtp_pending (x0 : ℕ) (x1 : State) : (startPtp x0 x1).1.pending = x1.pending := by
  simp only [startPtp, restartInst_pending, stageActive_pending, foldl_pending, implies_true, ite_pending, ite_self]

@[simp] theorem startEngine_pending (x0 : ℕ) (x1 : State) : (startEngine x0 x1).1.pending = x1.pending := by
  simp only [startEngine, setEngine_pending, ite_pending, addLoad_pending, foldl_pending, implies_true, ite_pending, ite_self]

@[simp] theorem startAudioPort_pending (x0 : ℕ) (x1 : State) : (startAudioPort x0 x1).1.pending = x1.pending := by
  simp only [startAudioPort, apStart_pending, stageActive_pending, domainEnter_pending, ite_pending, ite_self]

@[simp] theorem startFabric_pending (x0 : ℕ) (x1 : State) : (startFabric x0 x1).1.pending = x1.pending := by
  simp only [startFabric, stageActive_pending, fabLeave_pending, fabWait_pending, foldl_pending, implies_true, ite_pending,
    ite_self]

@[simp] theorem startLanes_pending (x0 : ℕ) (x1 : State) : (startLanes x0 x1).1.pending = x1.pending := by
  simp only [startLanes, stageActive_pending, startLane_pending, foldl_pending, implies_true, ite_pending, ite_self]

@[simp] theorem setItem_pending (x0 : ℕ) (x1 : StageItem → StageItem) (x2 : State) : (setItem x0 x1 x2).pending = x2.pending :=
    (rfl)

@[simp] theorem pollNext_pending (x0 : List ℕ) (x1 : State) : (pollNext x0 x1).pending = x1.pending := by
  unfold pollNext
  (repeat' split) <;> simp only [holdToken_pending, setFold_pending, foldEmit_pending, ite_pending, ite_self]

@[simp] theorem aonLost_pending (s : State) : (aonLost s).pending = s.pending := (rfl)

@[simp] theorem decideAt_pending (x0 x1 : ℕ) (x2 : State) : (decideAt x0 x1 x2).pending = x2.pending := by
  simp only [decideAt, takeSwap_pending, setDst_pending, ite_pending, ite_self]

@[simp] theorem applyDue_pending (x0 : ℕ) (x1 : State) : (applyDue x0 x1).pending = x1.pending := by
  simp only [applyDue, ite_pending, applySwap_pending, applyAll_pending, settle_pending, reportAll_pending, foldl_pending,
    implies_true, ite_pending, ite_self]

@[simp] theorem fallBack_pending (x0 : ℕ) (x1 : State) : (fallBack x0 x1).pending = x1.pending := by
  simp only [fallBack, dpllEnter_pending, rfcEvent_pending, setDpll_pending, ite_pending, ite_self]

@[simp] theorem packetTest_pending (x0 x1 : ℕ) (x2 : State) : (packetTest x0 x1 x2).pending = x2.pending := by
  simp only [packetTest, addLoad_pending, portEnter_pending, portFall_pending, ite_pending, ite_self]

@[simp] theorem laneTest_pending (x0 x1 x2 x3 : ℕ) (x4 : State) : (laneTest x0 x1 x2 x3 x4).pending = x4.pending := by
  unfold laneTest
  (repeat' split) <;> simp only [packetTest_pending, fabricTest_pending, setHost_pending, ite_pending, ite_self]

@[simp] theorem classDrop_pending (x0 x1 : ℕ) (x2 : State) : (classDrop x0 x1 x2).pending = x2.pending := (rfl)

@[simp] theorem toClass_pending (x0 x1 : ℕ) (x2 : RxRec) (x3 : State) : (toClass x0 x1 x2 x3).pending = x3.pending := by
  simp only [toClass, ite_pending, classDrop_pending, setClass_pending, ite_pending, ite_self]

@[simp] theorem runSection_pending (x0 x1 : ℕ) (x2 : Feed) (x3 : State) : (runSection x0 x1 x2 x3).pending = x3.pending := by
  simp only [runSection, raiseIn_pending, audioReset_pending, foldl_pending, implies_true, ite_pending, ite_self]

@[simp] theorem takeShep_pending (x0 : ShepChange) (x1 x2 : ℕ) (x3 : State) : (takeShep x0 x1 x2 x3).pending = x3.pending :=
    (rfl)

@[simp] theorem ancTake_pending (x0 : ℕ) (x1 : AncPkt) (x2 : State) : (ancTake x0 x1 x2).pending = x2.pending := by
  unfold ancTake
  (repeat' split) <;> simp only [ite_pending, setLane_pending, setSrc_pending, ite_pending, ite_self]

@[simp] theorem sdiLine_pending (x0 x1 x2 x3 : ℕ) (x4 : Option Bytes) (x5 : State) : (sdiLine x0 x1 x2 x3 x4 x5).pending =
    x5.pending := by
  unfold sdiLine
  (repeat' split) <;> simp only [flowCount_pending, ite_pending, writeLine_pending, ancTake_pending, deembedTake_pending,
    laneWrite_pending, foldl_pending, implies_true, ite_pending, ite_self]

@[simp] theorem sdiLines_pending (x0 x1 x2 : ℕ) (x3 : State) : (sdiLines x0 x1 x2 x3).pending = x3.pending := by
  fun_induction sdiLines <;> simp_all +zetaDelta

@[simp] theorem setRate_pending (w : Int) (s : State) : (setRate w s).pending = s.pending := (rfl)

@[simp] theorem loopUpdate_pending (e : Int) (s : State) : (loopUpdate e s).pending = s.pending := by
  simp [loopUpdate]

@[simp] theorem nextPhase_pending (x0 : ℕ) (x1 : State) : (nextPhase x0 x1).pending = x1.pending := by
  unfold nextPhase
  (repeat' split) <;> simp only [setBoot_pending, setTwin_pending, ite_pending, ite_self]

@[simp] theorem drainSession_pending (x0 x1 x2 : ℕ) (x3 : State) : (drainSession x0 x1 x2 x3).pending = x3.pending := by
  fun_induction drainSession <;> simp_all +zetaDelta

@[simp] theorem mgtData_pending (x0 x1 x2 : ℕ) (x3 : Bytes) (x4 : State) : (mgtData x0 x1 x2 x3 x4).pending = x4.pending := by
  unfold mgtData
  dsimp only
  (repeat' split) <;> simp [*]

@[simp] theorem sampleStraps_pending (x0 : BootIn) (x1 : State) : (sampleStraps x0 x1).pending = x1.pending := (rfl)

@[simp] theorem requestGrants_pending (x0 x1 : ℕ) (x2 : State) : (requestGrants x0 x1 x2).pending = x2.pending := by
  simp only [requestGrants, nextSeqOf_pending, sendPtp_pending, ite_pending, ite_self]

@[simp] theorem slaveSend_pending (x0 x1 : ℕ) (x2 : State) : (slaveSend x0 x1 x2).pending = x2.pending := by
  simp only [slaveSend, nextSeqOf_pending, sendPtp_pending, setInst_pending, ite_pending, ite_self]

@[simp] theorem launchVideo_pending (x0 x1 x2 : ℕ) (x3 x4 : Bytes) (x5 : State) : (launchVideo x0 x1 x2 x3 x4 x5).pending =
    x5.pending := by
  unfold launchVideo
  (repeat' split) <;> simp only [launchRtp_pending, ite_pending, ite_self]

@[simp] theorem launchAudio_pending (x0 x1 : ℕ) (x2 x3 : Bytes) (x4 : State) : (launchAudio x0 x1 x2 x3 x4).pending = x4.pending
    := by
  simp only [launchAudio, setFlow_pending, launchRtp_pending, ite_pending, ite_self]

@[simp] theorem busRead_pending (x0 : ℕ) (x1 : State) : (busRead x0 x1).2.pending = x1.pending := by
  unfold busRead
  (repeat' split) <;> simp only [readEffect_pending, draw_pending, ite_pending, ite_self]

@[simp] theorem busReads_pending (x0 x1 : ℕ) (x2 : State) : (busReads x0 x1 x2).2.pending = x2.pending := by
  fun_induction busReads <;> simp_all +zetaDelta

@[simp] theorem consume_pending (x0 : ℕ) (x1 : Bytes) (x2 : ℕ) (x3 : QpAnswer) (x4 : State) : (consume x0 x1 x2 x3 x4).pending =
    x4.pending := (rfl)

@[simp] theorem routeEntries_pending (x0 : Req) (x1 : ℕ) (x2 : List Bytes) (x3 : ℕ) (x4 : State) : (routeEntries x0 x1 x2 x3
    x4).2.pending = x4.pending := by
  fun_induction routeEntries <;> simp_all +zetaDelta

@[simp] theorem fecRead_pending (x0 : ℕ) (x1 : State) : (fecRead x0 x1).pending = x1.pending := by
  simp only [fecRead, ite_pending, draw_pending, netCount_pending, ite_pending, ite_self]

@[simp] theorem tcReceive_pending (x0 : ℕ) (x1 : Bytes) (x2 : State) : (tcReceive x0 x1 x2).pending = x2.pending := by
  unfold tcReceive
  (repeat' split) <;> simp only [tcForward_pending, ite_pending, ite_self]

@[simp] theorem setMgt_pending (x0 : ℕ) (x1 : MgtPort → MgtPort) (x2 : State) : (setMgt x0 x1 x2).pending = x2.pending := (rfl)

@[simp] theorem mgtDrop_pending (x0 : ℕ) (x1 : State) : (mgtDrop x0 x1).pending = x1.pending := (rfl)

@[simp] theorem mgtConnect_pending (x0 x1 : ℕ) (x2 : Bool) (x3 : List Bytes) (x4 x5 : ℕ) (x6 : State) : (mgtConnect x0 x1 x2 x3
    x4 x5 x6).pending = x6.pending := by
  unfold mgtConnect
  dsimp only
  (repeat' split) <;> simp [*]

@[simp] theorem mgtFrame_pending (x0 : ℕ) (x1 : Bytes) (x2 : State) : (mgtFrame x0 x1 x2).pending = x2.pending := by
  unfold mgtFrame
  dsimp only
  (repeat' split) <;> simp [*]

@[simp] theorem twinLinkUp_pending (x0 : State) : (twinLinkUp x0).pending = x0.pending := by
  unfold twinLinkUp
  dsimp only
  (repeat' split) <;> simp [*]

@[simp] theorem portOut_pending (x0 x1 : ℕ) (x2 : PortFrame) (x3 : State) : (portOut x0 x1 x2 x3).pending = x3.pending := by
  simp only [portOut, setApt_pending, slipped_pending, ite_pending, ite_self]

@[simp] theorem startUp_pending (x0 : BootIn) (x1 : State) : (startUp x0 x1).pending = x1.pending := by
  unfold startUp
  dsimp only
  (repeat' split) <;> simp [*]

@[simp] theorem burstLost_pending (x0 x1 : ℕ) (x2 : DramUser) (x3 : State) : (burstLost x0 x1 x2 x3).pending = x3.pending := by
  unfold burstLost
  (repeat' split) <;> simp only [setSync_pending, setLayer_pending, setSection_pending, ite_pending, ite_self]

@[simp] theorem symbolErrors_pending (x0 x1 : ℕ) (x2 : State) : (symbolErrors x0 x1 x2).pending = x2.pending := by
  simp only [symbolErrors, ite_pending, fabCount_pending, ite_pending, ite_self]

@[simp] theorem settleFrame_pending (x0 x1 : ℕ) (x2 : State) : (settleFrame x0 x1 x2).pending = x2.pending := by
  simp only [settleFrame, setLayer_pending, setEngine_pending, foldl_pending, implies_true, ite_pending, ite_self]

@[simp] theorem ptpFault_pending (x0 : State) : (ptpFault x0).pending = x0.pending := by
  unfold ptpFault
  dsimp only
  (repeat' split) <;> simp [*]

@[simp] theorem completionHead_pending (x0 x1 : ℕ) (x2 : State) : (completionHead x0 x1 x2).pending = x2.pending := by
  simp only [completionHead, ringIndex_pending, setQp_pending, ite_pending, ite_self]

@[simp] theorem takeToken_pending (x0 : Bytes) (x1 : State) : (takeToken x0 x1).2.2.pending = x1.pending := by
  unfold takeToken
  dsimp only
  (repeat' split) <;> simp [*]

@[simp] theorem writeMsix_pending (x0 x1 : ℕ) (x2 : State) : (writeMsix x0 x1 x2).pending = x2.pending := by
  simp only [writeMsix, setHost_pending, emit_pending, ite_pending, ite_self]

@[simp] theorem moderate_pending (x0 : ℕ) (x1 : State) : (moderate x0 x1).pending = x1.pending := by
  simp only [moderate, setQp_pending, signalQp_pending, ite_pending, ite_self]

@[simp] theorem sendDelayed_pending (x0 : State) : (sendDelayed x0).pending = x0.pending := by
  simp only [sendDelayed, flockSend_pending, takeAid_pending, foldl_pending, implies_true, ite_pending, ite_self]

@[simp] theorem freezeData_pending (x0 : State) : (freezeData x0).pending = x0.pending := by
  simp only [freezeData, setInst_pending, foldl_pending, implies_true, ite_pending, ite_self]

@[simp] theorem shareAid_pending (x0 x1 x2 : ℕ) (x3 : Bytes) (x4 : Bool) (x5 : State) : (shareAid x0 x1 x2 x3 x4 x5).pending =
    x5.pending := by
  simp only [shareAid, flockSend_pending, ite_pending, ite_self]

@[simp] theorem deliverSamples_pending (x0 x1 : ℕ) (x2 : State) : (deliverSamples x0 x1 x2).pending = x2.pending := by
  simp only [deliverSamples, setLane_pending, setFlow_pending, setTx_pending, portOut_pending, foldl_pending, implies_true,
    ite_pending, ite_self]

@[simp] theorem wordClockOut_pending (x0 : ℕ) (x1 : State) : (wordClockOut x0 x1).pending = x1.pending := by
  simp only [wordClockOut, ite_pending, emit_pending, ite_pending, ite_self]

@[simp] theorem receive2022_pending (x0 x1 : ℕ) (x2 : Bytes) (x3 : Rtp) (x4 : State) : (receive2022 x0 x1 x2 x3 x4).pending =
    x4.pending := by
  unfold receive2022
  (repeat' split) <;> simp only [setFlow_pending, ite_pending, setLane_pending, sdiLines_pending, ite_pending, ite_self]

@[simp] theorem receive22_pending (x0 x1 x2 : ℕ) (x3 : Bytes) (x4 : Rtp) (x5 : State) : (receive22 x0 x1 x2 x3 x4 x5).pending =
    x5.pending := by
  unfold receive22
  (repeat' split) <;> simp only [ite_pending, flowCount_pending, setFlow_pending, writeLine_pending, ite_pending, ite_self]

@[simp] theorem receive20_pending (x0 : ℕ) (x1 : Bytes) (x2 : ℕ) (x3 : Bytes) (x4 : Rtp) (x5 : State) : (receive20 x0 x1 x2 x3
    x4 x5).pending = x5.pending := by
  unfold receive20
  (repeat' split) <;> simp only [flowCount_pending, setFlow_pending, flushLines_pending, foldl_pending, implies_true,
    ite_pending, ite_self]

@[simp] theorem receiveEssence_pending (x0 : ℕ) (x1 : Bytes) (x2 x3 x4 : ℕ) (x5 : Bytes) (x6 : Rtp) (x7 : State) :
    (receiveEssence x0 x1 x2 x3 x4 x5 x6 x7).pending = x7.pending := by
  unfold receiveEssence
  (repeat' split) <;> simp only [receive20_pending, receive22_pending, receiveAudio_pending, receive40_pending,
    receive2022_pending, ite_pending, ite_self]

@[simp] theorem mediaReceive_pending (x0 x1 : Bytes) (x2 : ℕ) (x3 : State) : (mediaReceive x0 x1 x2 x3).pending = x3.pending :=
    by
  unfold mediaReceive
  dsimp only
  (repeat' split) <;> simp [*]

@[simp] theorem receiveClassed_pending (x0 : ℕ) (x1 : Bytes) (x2 : Bool) (x3 : ℕ) (x4 : State) : (receiveClassed x0 x1 x2 x3
    x4).pending = x4.pending := by
  unfold receiveClassed
  dsimp only
  (repeat' split) <;> simp [*]

@[simp] theorem pauseReceive_pending (x0 x1 : ℕ) (x2 : State) : (pauseReceive x0 x1 x2).pending = x2.pending := by
  simp only [pauseReceive, netCount_pending, setNet_pending, ite_pending, ite_self]

@[simp] theorem setCase_pending (x0 : ℕ) (x1 : Bytes) (x2 : State) : (setCase x0 x1 x2).pending = x2.pending := (rfl)

@[simp] theorem injectOne_pending (x0 x1 x2 x3 : ℕ) (x4 : State) : (injectOne x0 x1 x2 x3 x4).pending = x4.pending := by
  unfold injectOne
  dsimp only
  (repeat' split) <;> simp [*]

@[simp] theorem keyLoad_pending (x0 : Bytes) (x1 : State) : (keyLoad x0 x1).st.pending = x1.pending := by
  unfold keyLoad
  dsimp only
  (repeat' split) <;> simp [*]

@[simp] theorem State_withFetchWord_pending (x0 : State) (x1 x2 : ℕ) : (State.withFetchWord x0 x1 x2).pending = x0.pending :=
    (rfl)

/-- A command whose execution leaves the queue alone leaves it alone. -/

theorem command_queue {op : Nat} {body : Req → State → Ans} (r : Req) {s : State}
    (h : ∀ r s, (body r s).st.pending = s.pending) :
    ∃ t, (.next (command op body r s) : Host.Outcome State Fault Refusal) = .next t ∧ t.pending = s.pending :=
  ⟨_, rfl, command_pending _ _ _ _ h⟩

theorem execDevBind_queue (r : Req) (s : State) : ∃ t, execDevBind r s = .next t ∧ t.pending = s.pending := by
  refine command_queue r fun r s => ?_
  repeat' first
    | (simp; done)
    | apply needLen_pending
    | apply needForm_pending
    | split
    | dsimp only

theorem execQirOpen_queue (r : Req) (s : State) : ∃ t, execQirOpen r s = .next t ∧ t.pending = s.pending := by
  refine command_queue r fun r s => ?_
  repeat' first
    | (simp; done)
    | apply needLen_pending
    | apply needForm_pending
    | split
    | dsimp only

theorem execQirWrite_queue (r : Req) (s : State) : ∃ t, execQirWrite r s = .next t ∧ t.pending = s.pending := by
  refine command_queue r fun r s => ?_
  repeat' first
    | (simp; done)
    | apply needLen_pending
    | apply needForm_pending
    | split
    | dsimp only

theorem execQirSeal_queue (r : Req) (s : State) : ∃ t, execQirSeal r s = .next t ∧ t.pending = s.pending := by
  refine command_queue r fun r s => ?_
  repeat' first
    | (simp; done)
    | apply needLen_pending
    | apply needForm_pending
    | split
    | dsimp only

theorem execQirDiscard_queue (r : Req) (s : State) : ∃ t, execQirDiscard r s = .next t ∧ t.pending = s.pending := by
  refine command_queue r fun r s => ?_
  repeat' first
    | (simp; done)
    | apply needLen_pending
    | apply needForm_pending
    | split
    | dsimp only

theorem execSpnGrant_queue (r : Req) (s : State) : ∃ t, execSpnGrant r s = .next t ∧ t.pending = s.pending := by
  refine command_queue r fun r s => ?_
  repeat' first
    | (simp; done)
    | apply needLen_pending
    | apply needForm_pending
    | split
    | dsimp only

theorem execSpnFallback_queue (r : Req) (s : State) : ∃ t, execSpnFallback r s = .next t ∧ t.pending = s.pending := by
  refine command_queue r fun r s => ?_
  repeat' first
    | (simp; done)
    | apply needLen_pending
    | apply needForm_pending
    | split
    | dsimp only

theorem execLanEq_queue (r : Req) (s : State) : ∃ t, execLanEq r s = .next t ∧ t.pending = s.pending := by
  refine command_queue r fun r s => ?_
  repeat' first
    | (simp; done)
    | apply needLen_pending
    | apply needForm_pending
    | split
    | dsimp only

theorem execAudParamWrite_queue (r : Req) (s : State) : ∃ t, execAudParamWrite r s = .next t ∧ t.pending = s.pending := by
  refine command_queue r fun r s => ?_
  repeat' first
    | (simp; done)
    | apply needLen_pending
    | apply needForm_pending
    | split
    | dsimp only

theorem execAudGain_queue (r : Req) (s : State) : ∃ t, execAudGain r s = .next t ∧ t.pending = s.pending := by
  refine command_queue r fun r s => ?_
  repeat' first
    | (simp; done)
    | apply needLen_pending
    | apply needForm_pending
    | split
    | dsimp only

theorem execAudShepherd_queue (r : Req) (s : State) : ∃ t, execAudShepherd r s = .next t ∧ t.pending = s.pending := by
  refine command_queue r fun r s => ?_
  repeat' first
    | (simp; done)
    | apply needLen_pending
    | apply needForm_pending
    | split
    | dsimp only

theorem execLaySet_queue (r : Req) (s : State) : ∃ t, execLaySet r s = .next t ∧ t.pending = s.pending := by
  refine command_queue r fun r s => ?_
  repeat' first
    | (simp; done)
    | apply needLen_pending
    | apply needForm_pending
    | split
    | dsimp only

theorem execLayShepherdWrite_queue (r : Req) (s : State) : ∃ t, execLayShepherdWrite r s = .next t ∧ t.pending = s.pending := by
  refine command_queue r fun r s => ?_
  repeat' first
    | (simp; done)
    | apply needLen_pending
    | apply needForm_pending
    | split
    | dsimp only

theorem execLayShepherdShow_queue (r : Req) (s : State) : ∃ t, execLayShepherdShow r s = .next t ∧ t.pending = s.pending := by
  refine command_queue r fun r s => ?_
  repeat' first
    | (simp; done)
    | apply needLen_pending
    | apply needForm_pending
    | split
    | dsimp only

theorem execTimSet_queue (r : Req) (s : State) : ∃ t, execTimSet r s = .next t ∧ t.pending = s.pending := by
  refine command_queue r fun r s => ?_
  repeat' first
    | (simp; done)
    | apply needLen_pending
    | apply needForm_pending
    | split
    | dsimp only

theorem execEvtConfig_queue (r : Req) (s : State) : ∃ t, execEvtConfig r s = .next t ∧ t.pending = s.pending := by
  refine command_queue r fun r s => ?_
  repeat' first
    | (simp; done)
    | apply needLen_pending
    | apply needForm_pending
    | split
    | dsimp only

theorem execUpdConfirm_queue (r : Req) (s : State) : ∃ t, execUpdConfirm r s = .next t ∧ t.pending = s.pending := by
  refine command_queue r fun r s => ?_
  repeat' first
    | (simp; done)
    | apply needLen_pending
    | apply needForm_pending
    | split
    | dsimp only

@[simp] theorem makeChange_pending (c : Change) (s : State) : (makeChange c s).pending = s.pending := by
  have h (o : Host.Outcome State Fault Refusal) (u : State) (ho : ∃ t, o = .next t ∧ t.pending = u.pending)
      (hu : u.pending = s.pending) :
      (match o with
        | .next u => { u with tb := s.tb }
        | _ => s : State).pending = s.pending := by
    obtain ⟨t, rfl, ht⟩ := ho
    exact ht.trans hu
  unfold makeChange
  dsimp only
  split
  · exact h _ _ (execDevBind_queue _ _) rfl
  · exact h _ _ (execQirOpen_queue _ _) rfl
  · exact h _ _ (execQirWrite_queue _ _) rfl
  · exact h _ _ (execQirSeal_queue _ _) rfl
  · exact h _ _ (execQirDiscard_queue _ _) rfl
  · exact h _ _ (execSpnGrant_queue _ _) rfl
  · exact h _ _ (execSpnFallback_queue _ _) rfl
  · exact h _ _ (execLanEq_queue _ _) rfl
  · exact h _ _ (execAudParamWrite_queue _ _) rfl
  · exact h _ _ (execAudGain_queue _ _) rfl
  · exact h _ _ (execAudShepherd_queue _ _) rfl
  · exact h _ _ (execLaySet_queue _ _) rfl
  · exact h _ _ (execLayShepherdWrite_queue _ _) rfl
  · exact h _ _ (execLayShepherdShow_queue _ _) rfl
  · exact h _ _ (execTimSet_queue _ _) rfl
  · exact h _ _ (execEvtConfig_queue _ _) rfl
  · exact h _ _ (execUpdConfirm_queue _ _) rfl
  · rfl

@[simp] theorem adoptTime_pending (c : DpllCopy) (m : DpllMore) (s : State) : (adoptTime c m s).pending = s.pending := by
  simp only [adoptTime, setDpll_pending, setRef_pending, foldl_pending, implies_true]

@[simp] theorem adoptItem_pending (s : State) (it : CopyItem) : (adoptItem s it).pending = s.pending := by
  unfold adoptItem
  split <;> (try split) <;> simp

@[simp] theorem adoptItems_pending (l : List CopyItem) (s : State) : (adoptItems l s).pending = s.pending := by
  simp only [adoptItems, setTwin_pending, adoptItem_pending, foldl_pending, implies_true]

@[simp] theorem takeCopy_pending (e : Bytes) (s : State) : (takeCopy e s).pending = s.pending := by
  unfold takeCopy
  dsimp only
  (repeat' split) <;> simp

@[simp] theorem deliver_pending (ty : Nat) (body : Bytes) (s : State) : (deliver ty body s).pending = s.pending := by
  unfold deliver
  (repeat' split) <;> simp

@[simp] theorem deliverRun_pending (x0 : ℕ) (x1 : Bytes) (x2 : State) : (deliverRun x0 x1 x2).pending = x2.pending := by
  fun_induction deliverRun <;> simp_all +zetaDelta

end Sys2Proof.Laws
end

