-- ==== Sys2Proof/Laws/Exec.lean ====
section
/-! SUPPORT. What the meaning of each command leaves alone: the queue, and the time base or its soundness. -/

namespace Sys2Proof.Laws

open Sys2Proof Sys2Proof.Machine Sys2Proof.Safety

set_option linter.unusedSimpArgs false
set_option linter.unusedTactic false
set_option linter.unreachableTactic false

set_option maxRecDepth 4000

/-- An outcome is a next state with the time base and the queue as they were. -/
def Keeps (s : State) (o : Host.Outcome State Fault Refusal) : Prop :=
  ∃ t, o = .next t ∧ t.tb = s.tb ∧ t.pending = s.pending

theorem command_keeps {op : Nat} {body : Req → State → Ans} {r : Req} {s : State}
    (h1 : ∀ r s, (body r s).st.tb = s.tb) (h2 : ∀ r s, (body r s).st.pending = s.pending) :
    Keeps s (.next (command op body r s)) :=
  ⟨_, rfl, command_tb _ _ _ _ h1, command_pending _ _ _ _ h2⟩

/-- An outcome is a next state with the queue as it was, whose time base is sound if the one before was. -/
def Kept (s : State) (o : Host.Outcome State Fault Refusal) : Prop :=
  ∃ t, o = .next t ∧ t.pending = s.pending ∧ (timeSound s → timeSound t)

theorem Keeps.kept {s : State} {o} (h : Keeps s o) : Kept s o := by
  obtain ⟨t, h1, h2, h3⟩ := h
  exact ⟨t, h1, h3, by simp [timeSound, h2]⟩
theorem execDramTempPoll_keeps (x0 : ℕ) (x1 : List ℤ) (x2 : State) : Keeps x2 (execDramTempPoll x0 x1 x2) := by
  refine ⟨_, rfl, ?_, ?_⟩ <;> simp

theorem chipReset_sound (p q : Bool) (s : State) : timeSound (chipReset p q s) := by
  simp [chipReset, timeSound, incsPerSec, rhoLimit]

theorem setRate_sound (w : Int) (s : State) (h : timeSound s) : timeSound (setRate w s) := by
  refine ⟨h.1, ?_, ?_⟩ <;> simp only [setRate, slewTo, rhoLimit] <;> omega

theorem writeTimeBase_sound (n : Nat) (s : State) (h : timeSound s) : timeSound (writeTimeBase n s) := by
  refine ⟨?_, ?_, ?_⟩ <;> simp only [writeTimeBase, setTime_tb, foldl_tb, evaluateSource_tb, implies_true, ite_tb, setDst_tb, ite_self]
  · exact Nat.mod_lt _ (by decide)
  · exact h.2.1
  · exact h.2.2

theorem startSource_tb {i : Nat} {s : State} {r : State × Nat} (h : startSource i s = some r) : r.1.tb = s.tb := by
  unfold startSource at h
  dsimp only at h
  (repeat' split at h) <;> simp at h <;> subst h <;> simp

theorem startSource_pending {i : Nat} {s : State} {r : State × Nat} (h : startSource i s = some r) :
    r.1.pending = s.pending := by
  unfold startSource at h
  dsimp only at h
  (repeat' split at h) <;> simp at h <;> subst h <;> simp

theorem beginItem_tb {f i : Nat} {s : State} {r : State × Nat} (h : beginItem f i s = some r) : r.1.tb = s.tb := by
  unfold beginItem at h
  split at h
  case h_6 => exact startSource_tb h
  case h_7 =>
    dsimp only at h
    split at h <;> simp only [Option.some.injEq] at h <;> subst h <;> simp
  all_goals (simp only [Option.some.injEq] at h; subst h; simp)

theorem beginItem_pending {f i : Nat} {s : State} {r : State × Nat} (h : beginItem f i s = some r) :
    r.1.pending = s.pending := by
  unfold beginItem at h
  split at h
  case h_6 => exact startSource_pending h
  case h_7 =>
    dsimp only at h
    split at h <;> simp only [Option.some.injEq] at h <;> subst h <;> simp
  all_goals (simp only [Option.some.injEq] at h; subst h; simp)

theorem kept_of {s t : State} (h1 : t.pending = s.pending) (h2 : timeSound s → timeSound t) : Kept s (.next t) :=
  ⟨t, rfl, h1, h2⟩

theorem sound_of_tb {s t : State} (h : t.tb = s.tb) (hs : timeSound s) : timeSound t := by simpa [timeSound, h] using hs

theorem plannedReset_sound (k : Nat) (s : State) : timeSound (plannedReset k s) := by
  unfold plannedReset
  dsimp only
  split
  · exact sound_of_tb (s := chipReset false true s) rfl (chipReset_sound _ _ _)
  · exact chipReset_sound _ _ _

theorem loopUpdate_sound (e : Int) (s : State) (h : timeSound s) : timeSound (loopUpdate e s) :=
  sound_of_tb (fallBack_tb _ _) (setRate_sound _ _ (sound_of_tb (by simp) h))

theorem clampRho (a : Int) : -rhoLimit ≤ max (-rhoLimit) (min rhoLimit a) ∧ max (-rhoLimit) (min rhoLimit a) ≤ rhoLimit :=
  ⟨le_max_left _ _, max_le (by decide) (min_le_left _ _)⟩

/-- The time base marked acquired. -/
theorem acquired_sound {t : State} (h : timeSound t) :
    timeSound { t with tb := { t.tb with acquired := true } } := h

theorem acquired_pending (t : State) :
    ({ t with tb := { t.tb with acquired := true } } : State).pending = t.pending := rfl

theorem execNtsStatus_keeps (x0 : Req) (x1 : State) : Keeps x1 (execNtsStatus x0 x1) := by
  refine command_keeps (fun r s => ?_) fun r s => ?_ <;> simp

theorem execLayerFormatChangeStart_keeps (x0 : ℕ) (x1 : State) : Keeps x1 (execLayerFormatChangeStart x0 x1) := by
  refine ⟨_, rfl, ?_, ?_⟩ <;> simp

theorem execQirOpen_keeps (x0 : Req) (x1 : State) : Keeps x1 (execQirOpen x0 x1) := by
  refine command_keeps (fun r s => ?_) fun r s => ?_ <;> dsimp only <;> (repeat' split) <;> simp

theorem execLaySet_keeps (x0 : Req) (x1 : State) : Keeps x1 (execLaySet x0 x1) := by
  refine command_keeps (fun r s => ?_) fun r s => ?_ <;> dsimp only <;> (repeat' split) <;> simp

theorem execFabRetrain_keeps (x0 : Req) (x1 : State) : Keeps x1 (execFabRetrain x0 x1) := by
  refine command_keeps (fun r s => ?_) fun r s => ?_ <;> dsimp only <;>
    repeat' first
      | (simp; done)
      | apply needLen_tb
      | apply needLen_pending
      | apply needForm_tb
      | apply needForm_pending
      | split
      | dsimp only

theorem execPktWatch_keeps (x0 : Req) (x1 : State) : Keeps x1 (execPktWatch x0 x1) := by
  refine command_keeps (fun r s => ?_) fun r s => ?_ <;> dsimp only <;> (repeat' split) <;> simp

theorem execGnssStreamCheck_keeps (x0 x1 x2 : ℕ) (x3 : Bool) (x4 : State) : Keeps x4 (execGnssStreamCheck x0 x1 x2 x3 x4) := by
  refine ⟨_, rfl, ?_, ?_⟩ <;> simp

theorem execPowerUp_kept (s : State) : Kept s (execPowerUp s) := by
  refine kept_of (by simp) fun _ => sound_of_tb ?_ (chipReset_sound true false s)
  simp

theorem execLayShepherdShow_keeps (x0 : Req) (x1 : State) : Keeps x1 (execLayShepherdShow x0 x1) := by
  refine command_keeps (fun r s => ?_) fun r s => ?_ <;> dsimp only <;> (repeat' split) <;> simp

theorem execSearchDwell_keeps (x0 : ℕ) (x1 : Bool) (x2 : State) : Keeps x2 (execSearchDwell x0 x1 x2) := by
  refine ⟨_, rfl, ?_, ?_⟩ <;> simp

theorem execDramAccessRefused_keeps (x0 x1 x2 : ℕ) (x3 : State) : Keeps x3 (execDramAccessRefused x0 x1 x2 x3) := by
  refine ⟨_, rfl, ?_, ?_⟩ <;> simp

theorem execQirStatus_keeps (x0 : Req) (x1 : State) : Keeps x1 (execQirStatus x0 x1) := by
  refine command_keeps (fun r s => ?_) fun r s => ?_ <;> simp

theorem execSpnStore_keeps (x0 : Req) (x1 : State) : Keeps x1 (execSpnStore x0 x1) := by
  refine command_keeps (fun r s => ?_) fun r s => ?_ <;> simp

theorem execFrameTransmit_keeps (x0 : ℕ) (x1 : State) : Keeps x1 (execFrameTransmit x0 x1) := by
  refine ⟨_, rfl, ?_, ?_⟩ <;> dsimp only <;> (repeat' split) <;> simp

theorem execFabCounters_keeps (x0 : Req) (x1 : State) : Keeps x1 (execFabCounters x0 x1) := by
  refine command_keeps (fun r s => ?_) fun r s => ?_ <;> dsimp only <;>
    repeat' first
      | (simp; done)
      | apply needLen_tb
      | apply needLen_pending
      | apply needForm_tb
      | apply needForm_pending
      | split
      | dsimp only

theorem execClkStatus_keeps (x0 : Req) (x1 : State) : Keeps x1 (execClkStatus x0 x1) := by
  refine command_keeps (fun r s => ?_) fun r s => ?_ <;> simp

theorem execTcEntryAgeing_keeps (x0 : State) : Keeps x0 (execTcEntryAgeing x0) := by
  refine ⟨_, rfl, ?_, ?_⟩ <;> simp only []

theorem execGnsStatus_keeps (x0 : Req) (x1 : State) : Keeps x1 (execGnsStatus x0 x1) := by
  refine command_keeps (fun r s => ?_) fun r s => ?_ <;> simp

theorem execGnsChannels_keeps (x0 : Req) (x1 : State) : Keeps x1 (execGnsChannels x0 x1) := by
  refine command_keeps (fun r s => ?_) fun r s => ?_ <;> simp

theorem execRestartOverrun_keeps (x0 : State) : Keeps x0 (execRestartOverrun x0) := by
  refine ⟨_, rfl, ?_, ?_⟩ <;> (repeat' split) <;> simp

theorem execAudStatus_keeps (x0 : Req) (x1 : State) : Keeps x1 (execAudStatus x0 x1) := by
  refine command_keeps (fun r s => ?_) fun r s => ?_ <;> simp

theorem execRefStatus_keeps (x0 : Req) (x1 : State) : Keeps x1 (execRefStatus x0 x1) := by
  refine command_keeps (fun r s => ?_) fun r s => ?_ <;> dsimp only <;>
    repeat' first
      | (simp; done)
      | apply needLen_tb
      | apply needLen_pending
      | apply needForm_tb
      | apply needForm_pending
      | split
      | dsimp only

theorem execDestFormatQuietPoint_keeps (x0 : ℕ) (x1 : State) : Keeps x1 (execDestFormatQuietPoint x0 x1) := by
  refine ⟨_, rfl, ?_, ?_⟩ <;> (repeat' split) <;> simp

theorem execChannelLockLoss_keeps (x0 : ℕ) (x1 : State) : Keeps x1 (execChannelLockLoss x0 x1) := by
  refine ⟨_, rfl, ?_, ?_⟩ <;> simp

theorem execTimSet_keeps (x0 : Req) (x1 : State) : Keeps x1 (execTimSet x0 x1) := by
  refine command_keeps (fun r s => ?_) fun r s => ?_ <;> dsimp only <;> (repeat' split) <;> simp

theorem execChipReset_kept (c : Option Nat) (s : State) : Kept s (execChipReset c s) := by
  refine kept_of (by (repeat' split) <;> simp) fun h => ?_
  (repeat' split) <;> first | exact h | exact plannedReset_sound _ _ | exact chipReset_sound _ _ _

theorem execFlkStatus_keeps (x0 : Req) (x1 : State) : Keeps x1 (execFlkStatus x0 x1) := by
  refine command_keeps (fun r s => ?_) fun r s => ?_ <;> simp

theorem execPerstAssert_keeps (x0 : Bool) (x1 : State) : Keeps x1 (execPerstAssert x0 x1) := by
  refine ⟨_, rfl, ?_, ?_⟩ <;> simp only [setHost_tb, setHost_pending, ite_tb, ite_pending]

theorem execStagedItemComplete_keeps (x0 : ℕ) (x1 : State) : Keeps x1 (execStagedItemComplete x0 x1) := by
  refine ⟨_, rfl, ?_, ?_⟩ <;> (repeat' split) <;> simp

theorem execDramPatrolScrub_keeps (x0 x1 : ℕ) (x2 : State) : Keeps x2 (execDramPatrolScrub x0 x1 x2) := by
  refine ⟨_, rfl, ?_, ?_⟩ <;> simp

theorem execTxLineStart_keeps (x0 x1 x2 x3 : ℕ) (x4 : State) : Keeps x4 (execTxLineStart x0 x1 x2 x3 x4) := by
  refine ⟨_, rfl, ?_, ?_⟩ <;> (repeat' split) <;> simp

theorem execFlkMembers_keeps (x0 : Req) (x1 : State) : Keeps x1 (execFlkMembers x0 x1) := by
  refine command_keeps (fun r s => ?_) fun r s => ?_ <;> simp

theorem execQuireSwapApply_keeps (x0 : State) : Keeps x0 (execQuireSwapApply x0) := by
  refine ⟨_, rfl, ?_, ?_⟩ <;> (repeat' split) <;> simp

theorem execReferenceHoldExpiry_keeps (x0 : ℕ) (x1 : State) : Keeps x1 (execReferenceHoldExpiry x0 x1) := by
  refine ⟨_, rfl, ?_, ?_⟩ <;> simp

theorem execDrvQueueRead_keeps (x0 : Req) (x1 : State) : Keeps x1 (execDrvQueueRead x0 x1) := by
  refine command_keeps (fun r s => ?_) fun r s => ?_ <;> simp

theorem execAudioCellSend_keeps (x0 x1 : ℕ) (x2 : State) : Keeps x2 (execAudioCellSend x0 x1 x2) := by
  refine ⟨_, rfl, ?_, ?_⟩ <;> (repeat' split) <;> simp

theorem execInterruptModerationTimeout_keeps (x0 : ℕ) (x1 : State) : Keeps x1 (execInterruptModerationTimeout x0 x1) := by
  refine ⟨_, rfl, ?_, ?_⟩ <;> simp

theorem execDiaRegWrite_keeps (x0 : Req) (x1 : State) : Keeps x1 (execDiaRegWrite x0 x1) := by
  refine command_keeps (fun r s => ?_) fun r s => ?_ <;> dsimp only <;> (repeat' split) <;> simp

theorem execUpdConfirm_keeps (x0 : Req) (x1 : State) : Keeps x1 (execUpdConfirm x0 x1) := by
  refine command_keeps (fun r s => ?_) fun r s => ?_ <;> dsimp only <;> (repeat' split) <;> simp

theorem execEvtConfig_keeps (x0 : Req) (x1 : State) : Keeps x1 (execEvtConfig x0 x1) := by
  refine command_keeps (fun r s => ?_) fun r s => ?_ <;> simp

theorem execLayShepherdWrite_keeps (x0 : Req) (x1 : State) : Keeps x1 (execLayShepherdWrite x0 x1) := by
  refine command_keeps (fun r s => ?_) fun r s => ?_ <;> dsimp only <;> (repeat' split) <;> simp

theorem execAudShepherd_keeps (x0 : Req) (x1 : State) : Keeps x1 (execAudShepherd x0 x1) := by
  refine command_keeps (fun r s => ?_) fun r s => ?_ <;> dsimp only <;> (repeat' split) <;> simp

theorem execAudGain_keeps (x0 : Req) (x1 : State) : Keeps x1 (execAudGain x0 x1) := by
  refine command_keeps (fun r s => ?_) fun r s => ?_ <;> dsimp only <;> (repeat' split) <;> simp

theorem execAudParamWrite_keeps (x0 : Req) (x1 : State) : Keeps x1 (execAudParamWrite x0 x1) := by
  refine command_keeps (fun r s => ?_) fun r s => ?_ <;> dsimp only <;> (repeat' split) <;> simp

theorem execLanEq_keeps (x0 : Req) (x1 : State) : Keeps x1 (execLanEq x0 x1) := by
  refine command_keeps (fun r s => ?_) fun r s => ?_ <;> simp

theorem execSpnFallback_keeps (x0 : Req) (x1 : State) : Keeps x1 (execSpnFallback x0 x1) := by
  refine command_keeps (fun r s => ?_) fun r s => ?_ <;> dsimp only <;> (repeat' split) <;> simp

theorem execSpnGrant_keeps (x0 : Req) (x1 : State) : Keeps x1 (execSpnGrant x0 x1) := by
  refine command_keeps (fun r s => ?_) fun r s => ?_ <;> dsimp only <;> (repeat' split) <;> simp

theorem execQirDiscard_keeps (r : Req) (s : State) : Keeps s (execQirDiscard r s) := by
  refine command_keeps (fun r s => ?_) fun r s => ?_ <;> [apply needLen_tb; apply needLen_pending] <;> split <;> rfl

theorem execQirSeal_keeps (x0 : Req) (x1 : State) : Keeps x1 (execQirSeal x0 x1) := by
  refine command_keeps (fun r s => ?_) fun r s => ?_ <;> dsimp only <;> (repeat' split) <;> simp

theorem execQirWrite_keeps (x0 : Req) (x1 : State) : Keeps x1 (execQirWrite x0 x1) := by
  refine command_keeps (fun r s => ?_) fun r s => ?_ <;> dsimp only <;> (repeat' split) <;> simp

theorem execDevBind_keeps (x0 : Req) (x1 : State) : Keeps x1 (execDevBind x0 x1) := by
  refine command_keeps (fun r s => ?_) fun r s => ?_ <;> simp

theorem execStitchCycleEnd_keeps (x0 : State) : Keeps x0 (execStitchCycleEnd x0) := by
  refine ⟨_, rfl, ?_, ?_⟩ <;> simp

theorem execHeldCommandTimeout_keeps (x0 x1 : ℕ) (x2 : State) : Keeps x2 (execHeldCommandTimeout x0 x1 x2) := by
  refine ⟨_, rfl, ?_, ?_⟩ <;> (repeat' split) <;> simp

theorem execDrvCancel_keeps (x0 : Req) (x1 : State) : Keeps x1 (execDrvCancel x0 x1) := by
  refine command_keeps (fun r s => ?_) fun r s => ?_ <;> dsimp only <;>
    repeat' first
      | (simp; done)
      | apply needLen_tb
      | apply needLen_pending
      | apply needForm_tb
      | apply needForm_pending
      | split
      | dsimp only

theorem execBlockLock_keeps (x0 x1 x2 : ℕ) (x3 : State) : Keeps x3 (execBlockLock x0 x1 x2 x3) := by
  refine ⟨_, rfl, ?_, ?_⟩ <;> simp

theorem execBusLockTimeout_keeps (x0 x1 : ℕ) (x2 : Bool) (x3 : State) : Keeps x3 (execBusLockTimeout x0 x1 x2 x3) := by
  refine ⟨_, rfl, ?_, ?_⟩ <;> simp

theorem execAudMeter_keeps (x0 : Req) (x1 : State) : Keeps x1 (execAudMeter x0 x1) := by
  refine command_keeps (fun r s => ?_) fun r s => ?_ <;> simp

theorem execKeyGenerate_keeps (x0 : Req) (x1 : State) : Keeps x1 (execKeyGenerate x0 x1) := by
  refine command_keeps (fun r s => ?_) fun r s => ?_ <;> dsimp only <;> (repeat' split) <;> simp

theorem execNtsKeHandshake_keeps (x0 x1 : ℕ) (x2 x3 : Bool) (x4 : Bytes) (x5 : State) : Keeps x5 (execNtsKeHandshake x0 x1 x2 x3
    x4 x5) := by
  refine ⟨_, rfl, ?_, ?_⟩ <;> dsimp only <;> (repeat' split) <;> simp

theorem execEvtRead_keeps (x0 : Req) (x1 : State) : Keeps x1 (execEvtRead x0 x1) := by
  refine command_keeps (fun r s => ?_) fun r s => ?_ <;> simp

theorem execGnsAid_keeps (r : Req) (s : State) : Keeps s (execGnsAid r s) := by
  refine command_keeps (fun r s => ?_) fun r s => ?_ <;> (split <;> [rfl; (split <;> simp)])

theorem execTimRead_keeps (x0 : Req) (x1 : State) : Keeps x1 (execTimRead x0 x1) := by
  refine command_keeps (fun r s => ?_) fun r s => ?_ <;> simp

theorem execFlockMessageReceive_keeps (x0 x1 : ℕ) (x2 x3 : Bytes) (x4 : State) : Keeps x4 (execFlockMessageReceive x0 x1 x2 x3
    x4) := by
  refine ⟨_, rfl, ?_, ?_⟩ <;> simp only [handleFlock_tb, handleFlock_pending]

theorem execAudioPacketDeembed_keeps (x0 x1 x2 : ℕ) (x3 : List (List ℤ)) (x4 : State) : Keeps x4 (execAudioPacketDeembed x0 x1
    x2 x3 x4) := by
  refine ⟨_, rfl, ?_, ?_⟩ <;> simp

theorem execLanCounters_keeps (x0 : Req) (x1 : State) : Keeps x1 (execLanCounters x0 x1) := by
  refine command_keeps (fun r s => ?_) fun r s => ?_ <;> dsimp only <;>
    repeat' first
      | (simp; done)
      | apply needLen_tb
      | apply needLen_pending
      | apply needForm_tb
      | apply needForm_pending
      | split
      | dsimp only

theorem execImpGet_keeps (x0 : Req) (x1 : State) : Keeps x1 (execImpGet x0 x1) := by
  refine command_keeps (fun r s => ?_) fun r s => ?_ <;> dsimp only <;> (repeat' split) <;> simp

theorem execTimBound_keeps (x0 : Req) (x1 : State) : Keeps x1 (execTimBound x0 x1) := by
  refine command_keeps (fun r s => ?_) fun r s => ?_ <;> simp

theorem execCasRead_keeps (x0 : Req) (x1 : State) : Keeps x1 (execCasRead x0 x1) := by
  refine command_keeps (fun r s => ?_) fun r s => ?_ <;> dsimp only <;> (repeat' split) <;> simp

theorem execHardwareFault_keeps (x0 : HwFault) (x1 : State) : Keeps x1 (execHardwareFault x0 x1) := by
  refine ⟨_, rfl, ?_, ?_⟩ <;> simp only [faultIn_tb, faultIn_pending]

theorem execBridgeLock_keeps (x0 : ℕ) (x1 : Bool) (x2 : State) : Keeps x2 (execBridgeLock x0 x1 x2) := by
  refine ⟨_, rfl, ?_, ?_⟩ <;> simp

theorem execFrameStatusSend_keeps (x0 x1 x2 : ℕ) (x3 : State) : Keeps x3 (execFrameStatusSend x0 x1 x2 x3) := by
  refine ⟨_, rfl, ?_, ?_⟩ <;> (repeat' split) <;> simp

theorem execAes3FrameSend_keeps (x0 x1 : ℕ) (x2 : State) : Keeps x2 (execAes3FrameSend x0 x1 x2) := by
  refine ⟨_, rfl, ?_, ?_⟩ <;> simp

theorem execFoldSlotSend_keeps (x0 : State) : Keeps x0 (execFoldSlotSend x0) := by
  refine ⟨_, rfl, ?_, ?_⟩ <;> simp

theorem execDestinationLineRead_keeps (x0 x1 x2 : ℕ) (x3 : State) : Keeps x3 (execDestinationLineRead x0 x1 x2 x3) := by
  refine ⟨_, rfl, ?_, ?_⟩ <;> simp

theorem execLineWrite_keeps (x0 x1 x2 x3 : ℕ) (x4 : List ℕ) (x5 : LineErr) (x6 : State) :
    Keeps x6 (execLineWrite x0 x1 x2 x3 x4 x5 x6) := by
  refine ⟨_, rfl, ?_, ?_⟩ <;> (repeat' split) <;> simp

theorem execKeyErase_keeps (r : Req) (s : State) : Keeps s (execKeyErase r s) := by
  refine ⟨_, rfl, ?_, ?_⟩
  · rw [sweepSessions_tb]
    refine command_tb _ _ _ _ fun r s => ?_
    apply needLen_tb
    apply needForm_tb
    split <;> rfl
  · rw [sweepSessions_pending]
    refine command_pending _ _ _ _ fun r s => ?_
    apply needLen_pending
    apply needForm_pending
    split <;> rfl

theorem execGnssHoldTimeout_keeps (x0 : State) : Keeps x0 (execGnssHoldTimeout x0) := by
  refine ⟨_, rfl, ?_, ?_⟩ <;> simp

theorem execFabricSignalDetect_keeps (x0 : ℕ) (x1 : State) : Keeps x1 (execFabricSignalDetect x0 x1) := by
  refine ⟨_, rfl, ?_, ?_⟩ <;> simp

theorem execPktLaunch_keeps (x0 : Req) (x1 : State) : Keeps x1 (execPktLaunch x0 x1) := by
  refine command_keeps (fun r s => ?_) fun r s => ?_ <;> dsimp only <;> (repeat' split) <;> simp

theorem execDestFormatComplete_keeps (x0 : ℕ) (x1 : State) : Keeps x1 (execDestFormatComplete x0 x1) := by
  refine ⟨_, rfl, ?_, ?_⟩ <;> (repeat' split) <;> simp

theorem execFlockHelloSend_keeps (x0 : State) : Keeps x0 (execFlockHelloSend x0) := by
  refine ⟨_, rfl, ?_, ?_⟩ <;> simp

theorem execMeasurementEpoch_keeps (x0 : GnssEpoch) (x1 : State) : Keeps x1 (execMeasurementEpoch x0 x1) := by
  refine ⟨_, rfl, ?_, ?_⟩ <;> simp

theorem execSynthRelock_keeps (x0 : ℕ) (x1 : State) : Keeps x1 (execSynthRelock x0 x1) := by
  refine ⟨_, rfl, ?_, ?_⟩ <;> simp

theorem execCellReceive_keeps (x0 : ℕ) (x1 : Bytes) (x2 : Bool) (x3 : State) : Keeps x3 (execCellReceive x0 x1 x2 x3) := by
  refine ⟨_, rfl, ?_, ?_⟩ <;> simp

theorem execLaunchHeadWrite_keeps (x0 : ℕ) (x1 : State) : Keeps x1 (execLaunchHeadWrite x0 x1) := by
  refine ⟨_, rfl, ?_, ?_⟩ <;> simp

theorem execQirRead_keeps (x0 : Req) (x1 : State) : Keeps x1 (execQirRead x0 x1) := by
  refine command_keeps (fun r s => ?_) fun r s => ?_ <;> dsimp only <;> (repeat' split) <;> simp

theorem execGnssNoClock_keeps (x0 : State) : Keeps x0 (execGnssNoClock x0) := by
  refine ⟨_, rfl, ?_, ?_⟩ <;> simp

theorem execAudioPortNoSignal_keeps (x0 : ℕ) (x1 : State) : Keeps x1 (execAudioPortNoSignal x0 x1) := by
  refine ⟨_, rfl, ?_, ?_⟩ <;> simp

theorem execLcsAdvance_keeps (r : Req) (s : State) : Keeps s (execLcsAdvance r s) := by
  refine ⟨_, rfl, ?_, ?_⟩
  · rw [sweepSessions_tb, refuseWaiting_tb]
    refine command_tb _ _ _ _ fun r s => ?_
    apply needLen_tb
    apply needForm_tb
    (repeat' split) <;> first | rfl | (apply needForm_tb; dsimp only; split <;> simp)
  · rw [sweepSessions_pending, refuseWaiting_pending]
    refine command_pending _ _ _ _ fun r s => ?_
    apply needLen_pending
    apply needForm_pending
    (repeat' split) <;> first | rfl | (apply needForm_pending; dsimp only; split <;> simp)

theorem execFlowAgeingCycle_keeps (x0 : State) : Keeps x0 (execFlowAgeingCycle x0) := by
  refine ⟨_, rfl, ?_, ?_⟩ <;> simp

theorem execMemTraining_keeps (x0 : Req) (x1 : State) : Keeps x1 (execMemTraining x0 x1) := by
  refine command_keeps (fun r s => ?_) fun r s => ?_ <;> dsimp only <;> (repeat' split) <;> simp

theorem execColRelease_keeps (x0 : Req) (x1 : State) : Keeps x1 (execColRelease x0 x1) := by
  refine command_keeps (fun r s => ?_) fun r s => ?_ <;> simp

theorem execGainNativeTimeout_keeps (x0 x1 : ℕ) (x2 : State) : Keeps x2 (execGainNativeTimeout x0 x1 x2) := by
  refine ⟨_, rfl, ?_, ?_⟩ <;> simp only [settleUse_tb, settleUse_pending]

theorem execLadderAdvance_keeps (x0 : State) : Keeps x0 (execLadderAdvance x0) := by
  refine ⟨_, rfl, ?_, ?_⟩ <;> dsimp only <;> (repeat' split) <;> simp

theorem execPortDown_keeps (x0 x1 : ℕ) (x2 : State) : Keeps x2 (execPortDown x0 x1 x2) := by
  refine ⟨_, rfl, ?_, ?_⟩ <;> simp

theorem execProgramBankExchange_keeps (x0 : State) : Keeps x0 (execProgramBankExchange x0) := by
  refine ⟨_, rfl, ?_, ?_⟩ <;> (repeat' split) <;> simp

theorem execMgtSessionAckTimeout_keeps (x0 : State) : Keeps x0 (execMgtSessionAckTimeout x0) := by
  refine ⟨_, rfl, ?_, ?_⟩ <;> simp only [setSessions_tb, setSessions_pending]

theorem execPtpSessions_keeps (x0 : Req) (x1 : State) : Keeps x1 (execPtpSessions x0 x1) := by
  refine command_keeps (fun r s => ?_) fun r s => ?_ <;> simp

theorem execStitchFrameReceive_keeps (x0 : Bytes) (x1 : State) : Keeps x1 (execStitchFrameReceive x0 x1) := by
  refine ⟨_, rfl, ?_, ?_⟩ <;> simp

theorem execTaiSecondEvaluation_keeps (x0 : List (ℕ × ℤ)) (x1 : State) : Keeps x1 (execTaiSecondEvaluation x0 x1) := by
  refine ⟨_, rfl, ?_, ?_⟩ <;> simp

theorem execRfcEventsWrite_keeps (x0 : ℕ) (x1 : State) : Keeps x1 (execRfcEventsWrite x0 x1) := by
  refine ⟨_, rfl, ?_, ?_⟩ <;> simp only [clearRfc_tb, clearRfc_pending]

theorem execRxLockLoss_keeps (x0 : ℕ) (x1 : Bool) (x2 : State) : Keeps x2 (execRxLockLoss x0 x1 x2) := by
  refine ⟨_, rfl, ?_, ?_⟩ <;> (repeat' split) <;> simp

theorem execPtpMessageReceive_keeps (x0 : ℕ) (x1 x2 : Bytes) (x3 : State) : Keeps x3 (execPtpMessageReceive x0 x1 x2 x3) := by
  refine ⟨_, rfl, ?_, ?_⟩ <;> dsimp only <;> (repeat' split) <;> simp

theorem execAudioChangeApply_keeps (x0 : ℕ) (x1 : State) : Keeps x1 (execAudioChangeApply x0 x1) := by
  refine ⟨_, rfl, ?_, ?_⟩ <;> simp

theorem execPauseExpiry_keeps (x0 : ℕ) (x1 : State) : Keeps x1 (execPauseExpiry x0 x1) := by
  refine ⟨_, rfl, ?_, ?_⟩ <;> simp

theorem execBlockLockLoss_keeps (x0 : ℕ) (x1 : State) : Keeps x1 (execBlockLockLoss x0 x1) := by
  refine ⟨_, rfl, ?_, ?_⟩ <;> simp

theorem execStagedItemStart_keeps (i : Nat) (s : State) : Keeps s (execStagedItemStart i s) := by
  unfold execStagedItemStart
  refine ⟨_, rfl, ?_, ?_⟩
  · split
    · dsimp only
      split
      · rfl
      · split
        · rename_i h; simp [beginItem_tb h]
        · simp
    · rfl
  · split
    · dsimp only
      split
      · rfl
      · split
        · rename_i h; simp [beginItem_pending h]
        · simp
    · rfl

theorem execFlkReport_keeps (x0 : Req) (x1 : State) : Keeps x1 (execFlkReport x0 x1) := by
  refine command_keeps (fun r s => ?_) fun r s => ?_ <;> simp

theorem execFoldFrameReceive_keeps (x0 : Bytes) (x1 : State) : Keeps x1 (execFoldFrameReceive x0 x1) := by
  refine ⟨_, rfl, ?_, ?_⟩ <;> dsimp only <;> (repeat' split) <;> simp

theorem execSwitchPoint_keeps (x0 x1 : ℕ) (x2 : State) : Keeps x2 (execSwitchPoint x0 x1 x2) := by
  refine ⟨_, rfl, ?_, ?_⟩ <;> simp

theorem execHstMboxGo_keeps (x0 : ℕ) (x1 : State) : Keeps x1 (execHstMboxGo x0 x1) := by
  refine ⟨_, rfl, ?_, ?_⟩ <;> simp only [mboxGo_tb, mboxGo_pending]

theorem execStiStatus_keeps (x0 : Req) (x1 : State) : Keeps x1 (execStiStatus x0 x1) := by
  refine command_keeps (fun r s => ?_) fun r s => ?_ <;> simp

theorem execStartingWaitExpiry_keeps (x0 : State) : Keeps x0 (execStartingWaitExpiry x0) := by
  refine ⟨_, rfl, ?_, ?_⟩ <;> simp

theorem execCommandReceipt_keeps (x0 : Endpoint) (x1 : Bytes) (x2 : State) : Keeps x2 (execCommandReceipt x0 x1 x2) := by
  refine ⟨_, rfl, ?_, ?_⟩ <;> simp only [receivePacket_tb, receivePacket_pending]

theorem execDebugMailboxWrite_keeps (x0 : ℕ) (x1 : State) : Keeps x1 (execDebugMailboxWrite x0 x1) := by
  refine ⟨_, rfl, ?_, ?_⟩ <;> simp

theorem execTdmFrame_keeps (x0 x1 x2 : ℕ) (x3 : Bool) (x4 : List ℤ) (x5 : Option ℕ) (x6 : State) : Keeps x6 (execTdmFrame x0 x1
    x2 x3 x4 x5 x6) := by
  refine ⟨_, rfl, ?_, ?_⟩ <;> simp

theorem execChannelAllocation_keeps (x0 : List Sat) (x1 : State) : Keeps x1 (execChannelAllocation x0 x1) := by
  refine ⟨_, rfl, ?_, ?_⟩ <;> simp

theorem execEvtPendWrite_keeps (x0 x1 : ℕ) (x2 : State) : Keeps x2 (execEvtPendWrite x0 x1 x2) := by
  refine ⟨_, rfl, ?_, ?_⟩ <;> simp

theorem execSupplyUndervoltage_kept (r m : Nat) (s : State) : Kept s (execSupplyUndervoltage r m s) := by
  refine kept_of (by dsimp only; (repeat' split) <;> simp) fun h => ?_
  dsimp only
  (repeat' split) <;> first | exact h | exact chipReset_sound _ _ _ | exact sound_of_tb (by simp) h

theorem execDiaLoopback_keeps (x0 : Req) (x1 : State) : Keeps x1 (execDiaLoopback x0 x1) := by
  refine command_keeps (fun r s => ?_) fun r s => ?_ <;> dsimp only <;> (repeat' split) <;> simp

theorem execPortWake_keeps (x0 : ℕ) (x1 : Option RxFrame) (x2 : State) : Keeps x2 (execPortWake x0 x1 x2) := by
  refine ⟨_, rfl, ?_, ?_⟩ <;> dsimp only <;> (repeat' split) <;> simp

theorem execDramAutoSelfRefresh_keeps (x0 : ℕ) (x1 : State) : Keeps x1 (execDramAutoSelfRefresh x0 x1) := by
  refine ⟨_, rfl, ?_, ?_⟩ <;> simp

theorem execThermalThreshold_keeps (x0 : List ℤ) (x1 : State) : Keeps x1 (execThermalThreshold x0 x1) := by
  refine ⟨_, rfl, ?_, ?_⟩ <;> simp

theorem execFoldSilenceTimeout_keeps (x0 : State) : Keeps x0 (execFoldSilenceTimeout x0) := by
  refine ⟨_, rfl, ?_, ?_⟩ <;> simp

theorem execShepherdChangeApply_keeps (x0 : ℕ) (x1 : State) : Keeps x1 (execShepherdChangeApply x0 x1) := by
  refine ⟨_, rfl, ?_, ?_⟩ <;> simp

theorem execGnssClockStamp_keeps (x0 : ℕ) (x1 : State) : Keeps x1 (execGnssClockStamp x0 x1) := by
  refine ⟨_, rfl, ?_, ?_⟩ <;> simp only [setGnss_tb, setGnss_pending]

theorem execTimSetApply_kept (s : State) : Kept s (execTimSetApply s) := by
  unfold execTimSetApply
  generalize catalogue 0x0D06 = c
  generalize s.time.pendingSet = l
  match l, c with
  | [], _ => exact kept_of rfl id
  | _ :: _, none => exact kept_of rfl id
  | p :: rest, some row =>
    refine kept_of ?_ fun h => ?_ <;> dsimp only
    · (repeat' split) <;> simp only [concludeLater_pending, refuse_pending, okay_pending, writeTimeBase_pending, setTime_pending]
    · split
      · exact h
      · split
        · exact sound_of_tb (by simp only [concludeLater_tb, refuse_tb, setTime_tb]) h
        · refine sound_of_tb (s := writeTimeBase _ _) (by simp only [concludeLater_tb, okay_tb]; rfl)
            (writeTimeBase_sound _ _ (sound_of_tb (setTime_tb _ _) h))

theorem execDpllPhaseUpdate_kept (e : Int) (c : Option DpllCopy) (s : State) : Kept s (execDpllPhaseUpdate e c s) := by
  unfold execDpllPhaseUpdate
  refine kept_of ?_ fun h => ?_
  · dsimp only
    (repeat' split) <;> first
      | rfl
      | rw [loopUpdate_pending]
  split
  · exact h
  · split
    · dsimp only
      split
      · exact loopUpdate_sound _ _ h
      · split
        · exact h
        · split <;> exact setRate_sound _ _ h
    · split
      · exact sound_of_tb (setTwin_tb _ _) h
      · rename_i c
        have hr := clampRho (c.rho + Config.freeInt (draw s).1)
        refine ⟨?_, ?_, ?_⟩
        · exact h.1
        · exact hr.1
        · exact hr.2

theorem execFabricMergeAgeing_keeps (x0 : State) : Keeps x0 (execFabricMergeAgeing x0) := by
  refine ⟨_, rfl, ?_, ?_⟩ <;> simp

theorem execTwnYield_keeps (r : Req) (s : State) : Keeps s (execTwnYield r s) := by
  refine command_keeps (fun r s => ?_) fun r s => ?_ <;> [apply needLen_tb; apply needLen_pending] <;> split <;> rfl

theorem execSysrefLoss_keeps (x0 : Bool) (x1 : State) : Keeps x1 (execSysrefLoss x0 x1) := by
  refine ⟨_, rfl, ?_, ?_⟩ <;> simp

theorem execBootStatusWrite_keeps (x0 : ℕ) (x1 : State) : Keeps x1 (execBootStatusWrite x0 x1) := by
  refine ⟨_, rfl, ?_, ?_⟩ <;> simp only [setBoot_tb, setBoot_pending]

theorem execPictureCellSend_keeps (x0 x1 x2 x3 : ℕ) (x4 : State) : Keeps x4 (execPictureCellSend x0 x1 x2 x3 x4) := by
  refine ⟨_, rfl, ?_, ?_⟩ <;> (repeat' split) <;> simp

theorem execFoldTenureEnd_keeps (x0 : State) : Keeps x0 (execFoldTenureEnd x0) := by
  refine ⟨_, rfl, ?_, ?_⟩ <;> simp

theorem execFlwStatus_keeps (x0 : Req) (x1 : State) : Keeps x1 (execFlwStatus x0 x1) := by
  refine command_keeps (fun r s => ?_) fun r s => ?_ <;> dsimp only <;>
    repeat' first
      | (simp; done)
      | apply needLen_tb
      | apply needLen_pending
      | apply needForm_tb
      | apply needForm_pending
      | split
      | dsimp only

theorem execSourceEvaluationCycle_keeps (x0 : ℕ) (x1 : State) : Keeps x1 (execSourceEvaluationCycle x0 x1) := by
  refine ⟨_, rfl, ?_, ?_⟩ <;> simp

theorem execChannelPullinDone_keeps (x0 : ℕ) (x1 : State) : Keeps x1 (execChannelPullinDone x0 x1) := by
  refine ⟨_, rfl, ?_, ?_⟩ <;> simp

theorem execQuireDigestDone_keeps (x0 : State) : Keeps x0 (execQuireDigestDone x0) := by
  refine ⟨_, rfl, ?_, ?_⟩ <;> simp

theorem execTxRelockEnd_keeps (x0 : ℕ) (x1 : State) : Keeps x1 (execTxRelockEnd x0 x1) := by
  refine ⟨_, rfl, ?_, ?_⟩ <;> simp

theorem execRomRemapWrite_keeps (x0 : State) : Keeps x0 (execRomRemapWrite x0) := by
  refine ⟨_, rfl, ?_, ?_⟩ <;> simp

theorem execAptStatus_keeps (x0 : Req) (x1 : State) : Keeps x1 (execAptStatus x0 x1) := by
  refine command_keeps (fun r s => ?_) fun r s => ?_ <;> simp

theorem execRateLimiterAgeing_keeps (x0 : State) : Keeps x0 (execRateLimiterAgeing x0) := by
  refine ⟨_, rfl, ?_, ?_⟩ <;> simp only [setNtp_tb, setNtp_pending]

theorem execDevPortState_keeps (x0 : Req) (x1 : State) : Keeps x1 (execDevPortState x0 x1) := by
  refine command_keeps (fun r s => ?_) fun r s => ?_ <;> simp

theorem execSessionKeyUpdate_keeps (x0 : State) : Keeps x0 (execSessionKeyUpdate x0) := by
  refine ⟨_, rfl, ?_, ?_⟩ <;> simp

theorem execUpdateActivationDue_keeps (x0 : State) : Keeps x0 (execUpdateActivationDue x0) := by
  refine ⟨_, rfl, ?_, ?_⟩ <;> (repeat' split) <;> simp

theorem execReacqTimeout_keeps (x0 : ℕ) (x1 : State) : Keeps x1 (execReacqTimeout x0 x1) := by
  refine ⟨_, rfl, ?_, ?_⟩ <;> simp

theorem execResyncPhaseEnd_keeps (x0 : Bool) (x1 : State) : Keeps x1 (execResyncPhaseEnd x0 x1) := by
  refine ⟨_, rfl, ?_, ?_⟩ <;> simp

theorem execPtpMessageSend_keeps (x0 x1 : ℕ) (x2 : Option ℕ) (x3 : State) : Keeps x3 (execPtpMessageSend x0 x1 x2 x3) := by
  refine ⟨_, rfl, ?_, ?_⟩ <;> dsimp only <;> (repeat' split) <;> simp

theorem execMediaPacketLaunch_keeps (x0 x1 x2 : ℕ) (x3 : State) : Keeps x3 (execMediaPacketLaunch x0 x1 x2 x3) := by
  refine ⟨_, rfl, ?_, ?_⟩ <;> (repeat' split) <;> simp

theorem execDiaRegRead_keeps (x0 : Req) (x1 : State) : Keeps x1 (execDiaRegRead x0 x1) := by
  refine command_keeps (fun r s => ?_) fun r s => ?_ <;> simp

theorem execUnicastGrantAgeing_keeps (x0 : State) : Keeps x0 (execUnicastGrantAgeing x0) := by
  refine ⟨_, rfl, ?_, ?_⟩ <;> simp only [setPtpSessions_tb, setPtpSessions_pending]

theorem execSubmissionFetch_keeps (x0 : ℕ) (x1 x2 : Option Bytes) (x3 : State) : Keeps x3 (execSubmissionFetch x0 x1 x2 x3) :=
    by
  refine ⟨_, rfl, ?_, ?_⟩ <;> (repeat' split) <;> simp

theorem execSpnRoute_keeps (x0 : Req) (x1 : State) : Keeps x1 (execSpnRoute x0 x1) := by
  refine command_keeps (fun r s => ?_) fun r s => ?_ <;> dsimp only <;> (repeat' split) <;> simp

theorem execSynthLockLoss_keeps (x0 : ℕ) (x1 : State) : Keeps x1 (execSynthLockLoss x0 x1) := by
  refine ⟨_, rfl, ?_, ?_⟩ <;> simp

theorem execEvtClear_keeps (x0 : Req) (x1 : State) : Keeps x1 (execEvtClear x0 x1) := by
  refine command_keeps (fun r s => ?_) fun r s => ?_ <;> simp

theorem execDroverEventApply_keeps (x0 : ℕ) (x1 : State) : Keeps x1 (execDroverEventApply x0 x1) := by
  refine ⟨_, rfl, ?_, ?_⟩ <;> (repeat' split) <;> simp

theorem execDramSelfRefreshExit_keeps (x0 : ℕ) (x1 : State) : Keeps x1 (execDramSelfRefreshExit x0 x1) := by
  refine ⟨_, rfl, ?_, ?_⟩ <;> simp

theorem execSupplyRestored_keeps (x0 : List ℕ) (x1 : State) : Keeps x1 (execSupplyRestored x0 x1) := by
  refine ⟨_, rfl, ?_, ?_⟩ <;> simp

theorem execFsyOutputLine_keeps (x0 x1 x2 : ℕ) (x3 : State) : Keeps x3 (execFsyOutputLine x0 x1 x2 x3) := by
  refine ⟨_, rfl, ?_, ?_⟩ <;> dsimp only <;> (repeat' split) <;> simp

theorem execUpdActivate_keeps (x0 : Req) (x1 : State) : Keeps x1 (execUpdActivate x0 x1) := by
  refine command_keeps (fun r s => ?_) fun r s => ?_ <;> dsimp only <;> (repeat' split) <;> simp

theorem execGnsMeas_keeps (x0 : Req) (x1 : State) : Keeps x1 (execGnsMeas x0 x1) := by
  refine command_keeps (fun r s => ?_) fun r s => ?_ <;> dsimp only <;> (repeat' split) <;> simp

theorem execDrvSubmit_keeps (x0 : Req) (x1 : State) : Keeps x1 (execDrvSubmit x0 x1) := by
  refine command_keeps (fun r s => ?_) fun r s => ?_ <;> dsimp only <;> (repeat' split) <;> simp

theorem execPortUp_keeps (x0 x1 : ℕ) (x2 : State) : Keeps x2 (execPortUp x0 x1 x2) := by
  refine ⟨_, rfl, ?_, ?_⟩ <;> simp

theorem execSpnCounters_keeps (x0 : Req) (x1 : State) : Keeps x1 (execSpnCounters x0 x1) := by
  refine command_keeps (fun r s => ?_) fun r s => ?_ <;> dsimp only <;>
    repeat' first
      | (simp; done)
      | apply needLen_tb
      | apply needLen_pending
      | apply needForm_tb
      | apply needForm_pending
      | split
      | dsimp only

theorem execCryptoChunkBoundary_keeps (x0 : List (ℕ × ℕ × ℕ)) (x1 : State) : Keeps x1 (execCryptoChunkBoundary x0 x1) := by
  refine ⟨_, rfl, ?_, ?_⟩ <;> dsimp only <;> (repeat' split) <;> simp

theorem execAcquisitionStep_kept (c : Option Int) (s : State) : Kept s (execAcquisitionStep c s) := by
  simp only [execAcquisitionStep]
  generalize (↑(s.tb.sec.toNat * incsPerSec + s.tb.inc) : Int) = old
  by_cases h1 : s.tb.acquired = true ∨ s.boot.inReset = true
  · rw [if_pos h1]; exact kept_of rfl id
  rw [if_neg h1]
  by_cases h2 : decidesRefs s = true
  · rw [if_pos h2]
    split
    · split
      · refine kept_of ?_ fun h => ?_
        · rw [setTime_pending, acquired_pending, writeTimeBase_pending]
        · exact sound_of_tb (setTime_tb _ _) (acquired_sound (writeTimeBase_sound _ _ h))
      · exact kept_of rfl id
    · exact kept_of rfl id
  · rw [if_neg h2]
    split
    · refine kept_of ?_ fun h => ?_
      · rw [setTime_pending, acquired_pending, writeTimeBase_pending]
      · exact sound_of_tb (setTime_tb _ _) (acquired_sound (writeTimeBase_sound _ _ h))
    · exact kept_of rfl id

theorem execPulseOutputEdge_keeps (x0 x1 : ℕ) (x2 : State) : Keeps x2 (execPulseOutputEdge x0 x1 x2) := by
  refine ⟨_, rfl, ?_, ?_⟩ <;> simp

theorem execCapsReceive_keeps (x0 : ℕ) (x1 : Bytes) (x2 : State) : Keeps x2 (execCapsReceive x0 x1 x2) := by
  refine ⟨_, rfl, ?_, ?_⟩ <;> simp

theorem execAudShepherdRead_keeps (x0 : Req) (x1 : State) : Keeps x1 (execAudShepherdRead x0 x1) := by
  refine command_keeps (fun r s => ?_) fun r s => ?_ <;> simp

theorem execDiaSelftest_keeps (x0 : Req) (x1 : State) : Keeps x1 (execDiaSelftest x0 x1) := by
  refine command_keeps (fun r s => ?_) fun r s => ?_ <;> dsimp only <;> (repeat' split) <;> simp

theorem execCrookClaim_keeps (x0 : State) : Keeps x0 (execCrookClaim x0) := by
  refine ⟨_, rfl, ?_, ?_⟩ <;> simp

theorem execTwnStatus_keeps (x0 : Req) (x1 : State) : Keeps x1 (execTwnStatus x0 x1) := by
  refine command_keeps (fun r s => ?_) fun r s => ?_ <;> simp

theorem execAes3FrameReceive_keeps (x0 x1 : ℕ) (x2 : AesFrame) (x3 : Option Bool) (x4 : State) : Keeps x4 (execAes3FrameReceive
    x0 x1 x2 x3 x4) := by
  refine ⟨_, rfl, ?_, ?_⟩ <;> simp

theorem execTrainingFrameReceive_keeps (x0 : ℕ) (x1 : Bool) (x2 x3 : ℕ) (x4 : State) : Keeps x4 (execTrainingFrameReceive x0 x1
    x2 x3 x4) := by
  refine ⟨_, rfl, ?_, ?_⟩ <;> simp

theorem execPrbsCheckerLock_keeps (x0 : ℕ) (x1 : State) : Keeps x1 (execPrbsCheckerLock x0 x1) := by
  refine ⟨_, rfl, ?_, ?_⟩ <;> simp

theorem execGovernorAdmission_keeps (x0 : State) : Keeps x0 (execGovernorAdmission x0) := by
  refine ⟨_, rfl, ?_, ?_⟩ <;> (repeat' split) <;> simp

theorem execDevBindRead_keeps (x0 : Req) (x1 : State) : Keeps x1 (execDevBindRead x0 x1) := by
  refine command_keeps (fun r s => ?_) fun r s => ?_ <;> simp

theorem execHostFrameLaunch_keeps (x0 : ℕ) (x1 : State) : Keeps x1 (execHostFrameLaunch x0 x1) := by
  refine ⟨_, rfl, ?_, ?_⟩ <;> dsimp only <;> (repeat' split) <;> simp

theorem execDramGroupOut_keeps (x0 x1 : ℕ) (x2 : State) : Keeps x2 (execDramGroupOut x0 x1 x2) := by
  refine ⟨_, rfl, ?_, ?_⟩ <;> simp only [groupOut_tb, groupOut_pending]

theorem execMemStatus_keeps (x0 : Req) (x1 : State) : Keeps x1 (execMemStatus x0 x1) := by
  refine command_keeps (fun r s => ?_) fun r s => ?_ <;> dsimp only <;>
    repeat' first
      | (simp; done)
      | apply needLen_tb
      | apply needLen_pending
      | apply needForm_tb
      | apply needForm_pending
      | split
      | dsimp only

theorem execDrbgReseed_keeps (s : State) : Keeps s (execDrbgReseed s) := by
  by_cases h : s.keys.reseedTime + ticksPerSec ≤ now s ∨ 65536 ≤ s.keys.requests
  · simp only [execDrbgReseed, h, if_true]
    exact ⟨_, rfl, setKeys_tb _ _, setKeys_pending _ _⟩
  · simp only [execDrbgReseed, h, if_false]
    exact ⟨_, rfl, rfl, rfl⟩

theorem execSourceStateEvaluation_keeps (x0 : ℕ) (x1 : State) : Keeps x1 (execSourceStateEvaluation x0 x1) := by
  refine ⟨_, rfl, ?_, ?_⟩ <;> simp

theorem execPktStatus_keeps (x0 : Req) (x1 : State) : Keeps x1 (execPktStatus x0 x1) := by
  refine command_keeps (fun r s => ?_) fun r s => ?_ <;> simp

theorem execAptCounters_keeps (x0 : Req) (x1 : State) : Keeps x1 (execAptCounters x0 x1) := by
  refine command_keeps (fun r s => ?_) fun r s => ?_ <;> dsimp only <;>
    repeat' first
      | (simp; done)
      | apply needLen_tb
      | apply needLen_pending
      | apply needForm_tb
      | apply needForm_pending
      | split
      | dsimp only

theorem execKeyRollover_keeps (x0 : ℕ) (x1 : State) : Keeps x1 (execKeyRollover x0 x1) := by
  refine ⟨_, rfl, ?_, ?_⟩ <;> simp

theorem execEntropyHealthFail_keeps (x0 : ℕ) (x1 : State) : Keeps x1 (execEntropyHealthFail x0 x1) := by
  refine ⟨_, rfl, ?_, ?_⟩ <;> simp only [raise_tb, raise_pending, setKeys_tb, setKeys_pending]

theorem execGnssClockReturn_keeps (x0 : State) : Keeps x0 (execGnssClockReturn x0) := by
  refine ⟨_, rfl, ?_, ?_⟩ <;> simp only [setGnss_tb, setGnss_pending, ite_tb, ite_pending]

theorem execFsyOwnDecision_keeps (x0 x1 : ℕ) (x2 : State) : Keeps x2 (execFsyOwnDecision x0 x1 x2) := by
  refine ⟨_, rfl, ?_, ?_⟩ <;> simp

theorem execStitchAckSend_keeps (x0 : State) : Keeps x0 (execStitchAckSend x0) := by
  refine ⟨_, rfl, ?_, ?_⟩ <;> simp

theorem execFoldPollResponseTimeout_keeps (x0 : State) : Keeps x0 (execFoldPollResponseTimeout x0) := by
  refine ⟨_, rfl, ?_, ?_⟩ <;> (repeat' split) <;> simp

theorem execAncPacketReceive_keeps (x0 : ℕ) (x1 : AncPkt) (x2 : State) : Keeps x2 (execAncPacketReceive x0 x1 x2) := by
  refine ⟨_, rfl, ?_, ?_⟩ <;> (repeat' split) <;> simp

theorem execRefSelect_keeps (x0 : Req) (x1 : State) : Keeps x1 (execRefSelect x0 x1) := by
  refine command_keeps (fun r s => ?_) fun r s => ?_ <;> dsimp only <;> (repeat' split) <;> simp

theorem execStitchLinkDown_keeps (x0 : State) : Keeps x0 (execStitchLinkDown x0) := by
  refine ⟨_, rfl, ?_, ?_⟩ <;> (repeat' split) <;> simp

theorem execHostFrameDeliver_keeps (x0 : ℕ) (x1 : State) : Keeps x1 (execHostFrameDeliver x0 x1) := by
  refine ⟨_, rfl, ?_, ?_⟩ <;> (repeat' split) <;> simp

theorem execPtpStatus_keeps (x0 : Req) (x1 : State) : Keeps x1 (execPtpStatus x0 x1) := by
  refine command_keeps (fun r s => ?_) fun r s => ?_ <;> dsimp only <;>
    repeat' first
      | (simp; done)
      | apply needLen_tb
      | apply needLen_pending
      | apply needForm_tb
      | apply needForm_pending
      | split
      | dsimp only

theorem execLayerFormatChangeEnd_keeps (x0 : ℕ) (x1 : State) : Keeps x1 (execLayerFormatChangeEnd x0 x1) := by
  refine ⟨_, rfl, ?_, ?_⟩ <;> dsimp only <;> (repeat' split) <;> simp

theorem execHstCqHead_keeps (x0 x1 : ℕ) (x2 : State) : Keeps x2 (execHstCqHead x0 x1 x2) := by
  refine ⟨_, rfl, ?_, ?_⟩ <;> simp only [completionHead_tb, completionHead_pending]

theorem execNtpRequest_keeps (x0 : ℕ) (x1 x2 : Bytes) (x3 : State) : Keeps x3 (execNtpRequest x0 x1 x2 x3) := by
  refine ⟨_, rfl, ?_, ?_⟩ <;> simp

theorem execLanPrbs_keeps (x0 : Req) (x1 : State) : Keeps x1 (execLanPrbs x0 x1) := by
  refine command_keeps (fun r s => ?_) fun r s => ?_ <;> dsimp only <;> (repeat' split) <;> simp

theorem execHstDoorbell_keeps (x0 x1 : ℕ) (x2 : State) : Keeps x2 (execHstDoorbell x0 x1 x2) := by
  refine ⟨_, rfl, ?_, ?_⟩ <;> simp only [doorbell_tb, doorbell_pending]

theorem execErrNMinimumHoldEnd_keeps (x0 : State) : Keeps x0 (execErrNMinimumHoldEnd x0) := by
  refine ⟨_, rfl, ?_, ?_⟩ <;> simp only [releaseErrN_tb, releaseErrN_pending]

theorem execPortBringUpComplete_keeps (x0 : ℕ) (x1 : State) : Keeps x1 (execPortBringUpComplete x0 x1) := by
  refine ⟨_, rfl, ?_, ?_⟩ <;> simp

theorem execKeyShareRerandomisation_keeps (x0 : State) : Keeps x0 (execKeyShareRerandomisation x0) := by
  refine ⟨_, rfl, ?_, ?_⟩ <;> simp only [rerandomise_tb, rerandomise_pending]

theorem execFoldTokenPhaseStart_keeps (x0 : State) : Keeps x0 (execFoldTokenPhaseStart x0) := by
  refine ⟨_, rfl, ?_, ?_⟩ <;> simp

theorem execClockReferenceActivityRestored_keeps (x0 : ℕ) (x1 : State) : Keeps x1 (execClockReferenceActivityRestored x0 x1) :=
    by
  refine ⟨_, rfl, ?_, ?_⟩ <;> simp

theorem execAvsRequest_keeps (x0 : Bool) (x1 : ℕ) (x2 : State) : Keeps x2 (execAvsRequest x0 x1 x2) := by
  refine ⟨_, rfl, ?_, ?_⟩ <;> simp

theorem execJtagInstruction_keeps (x0 : JtagFn) (x1 : State) : Keeps x1 (execJtagInstruction x0 x1) := by
  refine ⟨_, rfl, ?_, ?_⟩ <;> (repeat' split) <;> simp

theorem execFoldFrameDrop_keeps (x0 : State) : Keeps x0 (execFoldFrameDrop x0) := by
  refine ⟨_, rfl, ?_, ?_⟩ <;> simp only [setFold_tb, setFold_pending]

theorem execRegisterWrite_keeps (x0 x1 x2 : ℕ) (x3 : State) : Keeps x3 (execRegisterWrite x0 x1 x2 x3) := by
  refine ⟨_, rfl, ?_, ?_⟩ <;> simp

theorem execMboxFetchDone_keeps (x0 : Option Bytes) (x1 : List (ℕ × ℕ)) (x2 : List ℕ) (x3 : State) : Keeps x3 (execMboxFetchDone
    x0 x1 x2 x3) := by
  refine ⟨_, rfl, ?_, ?_⟩ <;> (repeat' split) <;> simp

theorem execReceiveHeadWrite_keeps (x0 : ℕ) (x1 : State) : Keeps x1 (execReceiveHeadWrite x0 x1) := by
  refine ⟨_, rfl, ?_, ?_⟩ <;> simp

theorem execDescriptorTailWrite_keeps (x0 : ℕ) (x1 : State) : Keeps x1 (execDescriptorTailWrite x0 x1) := by
  refine ⟨_, rfl, ?_, ?_⟩ <;> simp

theorem execHstQpCfgWrite_keeps (x0 x1 : ℕ) (x2 : State) : Keeps x2 (execHstQpCfgWrite x0 x1 x2) := by
  refine ⟨_, rfl, ?_, ?_⟩ <;> simp

theorem execCompletionWrite_keeps (x0 : ℕ) (x1 : State) : Keeps x1 (execCompletionWrite x0 x1) := by
  refine ⟨_, rfl, ?_, ?_⟩ <;> dsimp only <;> (repeat' split) <;> simp

theorem execDeepUpdatePhase_keeps (x0 : ℕ) (x1 : Bool) (x2 : State) : Keeps x2 (execDeepUpdatePhase x0 x1 x2) := by
  refine ⟨_, rfl, ?_, ?_⟩ <;> simp

theorem execConfirmTimerExpiry_keeps (x0 : State) : Keeps x0 (execConfirmTimerExpiry x0) := by
  refine ⟨_, rfl, ?_, ?_⟩ <;> dsimp only <;> (repeat' split) <;> simp

theorem execVegenRegister_keeps (x0 : State) : Keeps x0 (execVegenRegister x0) := by
  refine ⟨_, rfl, ?_, ?_⟩ <;> (repeat' split) <;> simp

theorem execControlPlaneRestart_keeps (x0 : State) : Keeps x0 (execControlPlaneRestart x0) := by
  refine ⟨_, rfl, ?_, ?_⟩ <;> (repeat' split) <;> simp

theorem execResetRelease_keeps (x0 : BootIn) (x1 : State) : Keeps x1 (execResetRelease x0 x1) := by
  refine ⟨_, rfl, ?_, ?_⟩ <;> simp

theorem execResetAssert_kept (n : Nat) (s : State) : Kept s (execResetAssert n s) := by
  refine kept_of (by split <;> simp) fun h => ?_
  split
  · exact h
  · exact chipReset_sound _ _ _

theorem execEvtBlkStatusRead_keeps (x0 : ℕ) (x1 : State) : Keeps x1 (execEvtBlkStatusRead x0 x1) := by
  refine ⟨_, rfl, ?_, ?_⟩ <;> simp

theorem execEvtSummaryWrite_keeps (x0 : ℕ) (x1 : State) : Keeps x1 (execEvtSummaryWrite x0 x1) := by
  refine ⟨_, rfl, ?_, ?_⟩ <;> simp only [clearSummary_tb, clearSummary_pending]

theorem execColophonWriteDone_kept (c : Option (Nat × Nat)) (s : State) : Kept s (execColophonWriteDone c s) := by
  refine kept_of (by split <;> simp) fun h => ?_
  split
  · exact chipReset_sound _ _ _
  · exact h

theorem execCoreWatchdog_keeps (x0 x1 : ℕ) (x2 : State) : Keeps x2 (execCoreWatchdog x0 x1 x2) := by
  refine ⟨_, rfl, ?_, ?_⟩ <;> simp

theorem execBlockResetRecovered_keeps (x0 x1 : ℕ) (x2 : State) : Keeps x2 (execBlockResetRecovered x0 x1 x2) := by
  refine ⟨_, rfl, ?_, ?_⟩ <;> (repeat' split) <;> simp

theorem execKeyUseRequest_keeps (x0 x1 x2 x3 : ℕ) (x4 : State) : Keeps x4 (execKeyUseRequest x0 x1 x2 x3 x4) := by
  refine ⟨_, rfl, ?_, ?_⟩ <;> simp only [keyUse_tb, keyUse_pending]

theorem execMemberAgeing_keeps (x0 : State) : Keeps x0 (execMemberAgeing x0) := by
  refine ⟨_, rfl, ?_, ?_⟩ <;> simp only [setFlock_tb, setFlock_pending]

theorem execSelftestRun_keeps (x0 : ℕ) (x1 : Bool) (x2 : State) : Keeps x2 (execSelftestRun x0 x1 x2) := by
  refine ⟨_, rfl, ?_, ?_⟩ <;> simp

theorem execNavMessageDecode_keeps (x0 x1 : ℕ) (x2 : Bytes) (x3 : State) : Keeps x3 (execNavMessageDecode x0 x1 x2 x3) := by
  refine ⟨_, rfl, ?_, ?_⟩ <;> simp

theorem execNtsKeTimeout_keeps (x0 : ℕ) (x1 : State) : Keeps x1 (execNtsKeTimeout x0 x1) := by
  refine ⟨_, rfl, ?_, ?_⟩ <;> simp

theorem execLeapSecond_keeps (x0 : State) : Keeps x0 (execLeapSecond x0) := by
  refine ⟨_, rfl, ?_, ?_⟩ <;> (repeat' split) <;> simp

theorem execAnnounceReceiptTimeout_keeps (x0 : ℕ) (x1 : State) : Keeps x1 (execAnnounceReceiptTimeout x0 x1) := by
  refine ⟨_, rfl, ?_, ?_⟩ <;> dsimp only <;> (repeat' split) <;> simp

theorem execHstTimeNsRead_keeps (x0 : State) : Keeps x0 (execHstTimeNsRead x0) := by
  refine ⟨_, rfl, ?_, ?_⟩ <;> simp only [emit_tb, emit_pending]

theorem execReferenceActivityFault_keeps (x0 : ℕ) (x1 : State) : Keeps x1 (execReferenceActivityFault x0 x1) := by
  refine ⟨_, rfl, ?_, ?_⟩ <;> (repeat' split) <;> simp

theorem execAtomCountCycle_keeps (x0 : ℤ) (x1 : State) : Keeps x1 (execAtomCountCycle x0 x1) := by
  refine ⟨_, rfl, ?_, ?_⟩ <;> simp

theorem execReferencePulse_keeps (x0 x1 : ℕ) (x2 : State) : Keeps x2 (execReferencePulse x0 x1 x2) := by
  refine ⟨_, rfl, ?_, ?_⟩ <;> simp

theorem execLayerOutputLine_keeps (x0 x1 x2 : ℕ) (x3 : State) : Keeps x3 (execLayerOutputLine x0 x1 x2 x3) := by
  refine ⟨_, rfl, ?_, ?_⟩ <;> dsimp only <;> (repeat' split) <;> simp

theorem execShepherdInsertFadeEnd_keeps (x0 : ℕ) (x1 : State) : Keeps x1 (execShepherdInsertFadeEnd x0 x1) := by
  refine ⟨_, rfl, ?_, ?_⟩ <;> simp only [setAudio_tb, setAudio_pending]

theorem execDomfreeClockChange_keeps (x0 x1 : ℕ) (x2 : State) : Keeps x2 (execDomfreeClockChange x0 x1 x2) := by
  refine ⟨_, rfl, ?_, ?_⟩ <;> simp

theorem execGainRampEnd_keeps (x0 x1 : ℕ) (x2 : State) : Keeps x2 (execGainRampEnd x0 x1 x2) := by
  refine ⟨_, rfl, ?_, ?_⟩ <;> simp only [settleUse_tb, settleUse_pending]

theorem execAudioSamplePeriod_keeps (x0 x1 : ℕ) (x2 : Option (List ℕ)) (x3 : State) : Keeps x3 (execAudioSamplePeriod x0 x1 x2
    x3) := by
  refine ⟨_, rfl, ?_, ?_⟩ <;> simp

theorem execFsyMoveRestart_keeps (x0 : ℕ) (x1 : State) : Keeps x1 (execFsyMoveRestart x0 x1) := by
  refine ⟨_, rfl, ?_, ?_⟩ <;> simp

theorem execFsyChoose_keeps (x0 x1 : ℕ) (x2 : Option ℕ) (x3 : State) : Keeps x3 (execFsyChoose x0 x1 x2 x3) := by
  refine ⟨_, rfl, ?_, ?_⟩ <;> (repeat' split) <;> simp

theorem execDramUncorrectableRead_keeps (x0 x1 : ℕ) (x2 : DramUser) (x3 : State) : Keeps x3 (execDramUncorrectableRead x0 x1 x2
    x3) := by
  refine ⟨_, rfl, ?_, ?_⟩ <;> simp

theorem execDramWckRetrain_keeps (x0 : ℕ) (x1 : ℤ) (x2 : State) : Keeps x2 (execDramWckRetrain x0 x1 x2) := by
  refine ⟨_, rfl, ?_, ?_⟩ <;> simp

theorem execStitchResendTimeout_keeps (x0 : State) : Keeps x0 (execStitchResendTimeout x0) := by
  refine ⟨_, rfl, ?_, ?_⟩ <;> (repeat' split) <;> simp

theorem execStitchReorderTimeout_keeps (x0 : State) : Keeps x0 (execStitchReorderTimeout x0) := by
  refine ⟨_, rfl, ?_, ?_⟩ <;> (repeat' split) <;> simp

theorem execLaneStateTimeout_keeps (x0 : ℕ) (x1 : State) : Keeps x1 (execLaneStateTimeout x0 x1) := by
  refine ⟨_, rfl, ?_, ?_⟩ <;> dsimp only <;> (repeat' split) <;> simp

theorem execMediaPacketLateDrop_keeps (p : Nat) (s : State) : Keeps s (execMediaPacketLateDrop p s) := by
  refine ⟨_, rfl, ?_, ?_⟩
  · rw [foldl_tb]
    · simp
    · intro s a; split <;> simp
  · rw [foldl_pending]
    · simp
    · intro s a; split <;> simp

theorem execMergeRecordAgeing_keeps (s : State) : Keeps s (execMergeRecordAgeing s) := by
  refine ⟨_, rfl, ?_, ?_⟩
  · rw [foldl_tb]
    intro s a; dsimp only; (repeat' split) <;> simp
  · rw [foldl_pending]
    intro s a; dsimp only; (repeat' split) <;> simp

theorem execMembershipReportSend_keeps (x0 : ℕ) (x1 : State) : Keeps x1 (execMembershipReportSend x0 x1) := by
  refine ⟨_, rfl, ?_, ?_⟩ <;> (repeat' split) <;> simp

theorem execFrameReceive_keeps (x0 : ℕ) (x1 : RxFrame) (x2 : State) : Keeps x2 (execFrameReceive x0 x1 x2) := by
  refine ⟨_, rfl, ?_, ?_⟩ <;> dsimp only <;> (repeat' split) <;> simp

theorem execPrbsCheckerUnlock_keeps (x0 x1 : ℕ) (x2 : State) : Keeps x2 (execPrbsCheckerUnlock x0 x1 x2) := by
  refine ⟨_, rfl, ?_, ?_⟩ <;> simp

theorem execAudioGroupAbsent_keeps (x0 x1 : ℕ) (x2 : State) : Keeps x2 (execAudioGroupAbsent x0 x1 x2) := by
  refine ⟨_, rfl, ?_, ?_⟩ <;> simp

theorem execGangDeskew_keeps (x0 x1 : ℕ) (x2 : State) : Keeps x2 (execGangDeskew x0 x1 x2) := by
  refine ⟨_, rfl, ?_, ?_⟩ <;> dsimp only <;> (repeat' split) <;> simp

theorem execHuntDwellExpiry_keeps (x0 : ℕ) (x1 : State) : Keeps x1 (execHuntDwellExpiry x0 x1) := by
  refine ⟨_, rfl, ?_, ?_⟩ <;> simp

theorem execRxAlign_keeps (x0 x1 x2 : ℕ) (x3 : State) : Keeps x3 (execRxAlign x0 x1 x2 x3) := by
  refine ⟨_, rfl, ?_, ?_⟩ <;> (repeat' split) <;> simp

theorem execRxLock_keeps (x0 : ℕ) (x1 : State) : Keeps x1 (execRxLock x0 x1) := by
  refine ⟨_, rfl, ?_, ?_⟩ <;> simp

theorem execStagedItemTimeout_keeps (x0 : ℕ) (x1 : State) : Keeps x1 (execStagedItemTimeout x0 x1) := by
  refine ⟨_, rfl, ?_, ?_⟩ <;> (repeat' split) <;> simp

theorem execSwapComplete_keeps (x0 : State) : Keeps x0 (execSwapComplete x0) := by
  refine ⟨_, rfl, ?_, ?_⟩ <;> (repeat' split) <;> simp

theorem execSpineScrubPass_keeps (x0 x1 : ℕ) (x2 : State) : Keeps x2 (execSpineScrubPass x0 x1 x2) := by
  refine ⟨_, rfl, ?_, ?_⟩ <;> simp

theorem execSourceFrameLoss_keeps (x0 : ℕ) (x1 : State) : Keeps x1 (execSourceFrameLoss x0 x1) := by
  refine ⟨_, rfl, ?_, ?_⟩ <;> simp

theorem execSessionIdleTimeout_keeps (x0 : State) : Keeps x0 (execSessionIdleTimeout x0) := by
  refine ⟨_, rfl, ?_, ?_⟩ <;> simp only [setSessions_tb, setSessions_pending]

theorem execMgtFrameReceive_keeps (x0 : ℕ) (x1 : MgtIn) (x2 : State) : Keeps x2 (execMgtFrameReceive x0 x1 x2) := by
  refine ⟨_, rfl, ?_, ?_⟩ <;> (repeat' split) <;> simp

theorem execSafetyUartFrame_keeps (x0 : Bytes) (x1 : State) : Keeps x1 (execSafetyUartFrame x0 x1) := by
  refine ⟨_, rfl, ?_, ?_⟩ <;> (repeat' split) <;> simp

theorem execCasWrite_keeps (x0 : Req) (x1 : State) : Keeps x1 (execCasWrite x0 x1) := by
  refine command_keeps (fun r s => ?_) fun r s => ?_ <;> dsimp only <;> (repeat' split) <;> simp

theorem execUpdStatus_keeps (x0 : Req) (x1 : State) : Keeps x1 (execUpdStatus x0 x1) := by
  refine command_keeps (fun r s => ?_) fun r s => ?_ <;> simp

theorem execUpdVerify_keeps (x0 : Req) (x1 : State) : Keeps x1 (execUpdVerify x0 x1) := by
  refine command_keeps (fun r s => ?_) fun r s => ?_ <;> dsimp only <;> (repeat' split) <;> simp

theorem execUpdWrite_keeps (x0 : Req) (x1 : State) : Keeps x1 (execUpdWrite x0 x1) := by
  refine command_keeps (fun r s => ?_) fun r s => ?_ <;> dsimp only <;> (repeat' split) <;> simp

theorem execUpdBegin_keeps (x0 : Req) (x1 : State) : Keeps x1 (execUpdBegin x0 x1) := by
  refine command_keeps (fun r s => ?_) fun r s => ?_ <;> dsimp only <;> (repeat' split) <;> simp

theorem execEvtInject_keeps (x0 : Req) (x1 : State) : Keeps x1 (execEvtInject x0 x1) := by
  refine command_keeps (fun r s => ?_) fun r s => ?_ <;> dsimp only <;>
    repeat' first
      | (simp; done)
      | apply needLen_tb
      | apply needLen_pending
      | apply needForm_tb
      | apply needForm_pending
      | split
      | dsimp only

theorem execColRead_keeps (x0 : Req) (x1 : State) : Keeps x1 (execColRead x0 x1) := by
  refine command_keeps (fun r s => ?_) fun r s => ?_ <;> dsimp only <;> (repeat' split) <;> simp

theorem execKeyLoad_keeps (x0 : Req) (x1 : State) : Keeps x1 (execKeyLoad x0 x1) := by
  refine command_keeps (fun r s => ?_) fun r s => ?_ <;> dsimp only <;> (repeat' split) <;> simp

theorem execKeyStatus_keeps (x0 : Req) (x1 : State) : Keeps x1 (execKeyStatus x0 x1) := by
  refine command_keeps (fun r s => ?_) fun r s => ?_ <;> simp

theorem execTwnSync_keeps (x0 : Req) (x1 : State) : Keeps x1 (execTwnSync x0 x1) := by
  refine command_keeps (fun r s => ?_) fun r s => ?_ <;> dsimp only <;> (repeat' split) <;> simp

theorem execTwnHealth_keeps (x0 : Req) (x1 : State) : Keeps x1 (execTwnHealth x0 x1) := by
  refine command_keeps (fun r s => ?_) fun r s => ?_ <;> simp

theorem execRefHoldover_keeps (x0 : Req) (x1 : State) : Keeps x1 (execRefHoldover x0 x1) := by
  refine command_keeps (fun r s => ?_) fun r s => ?_ <;> simp

theorem execLayShepherdRead_keeps (x0 : Req) (x1 : State) : Keeps x1 (execLayShepherdRead x0 x1) := by
  refine command_keeps (fun r s => ?_) fun r s => ?_ <;> simp

theorem execLayStatus_keeps (x0 : Req) (x1 : State) : Keeps x1 (execLayStatus x0 x1) := by
  refine command_keeps (fun r s => ?_) fun r s => ?_ <;> dsimp only <;>
    repeat' first
      | (simp; done)
      | apply needLen_tb
      | apply needLen_pending
      | apply needForm_tb
      | apply needForm_pending
      | split
      | dsimp only

theorem execAptChstat_keeps (x0 : Req) (x1 : State) : Keeps x1 (execAptChstat x0 x1) := by
  refine command_keeps (fun r s => ?_) fun r s => ?_ <;> dsimp only <;> (repeat' split) <;> simp

theorem execFsyStatus_keeps (x0 : Req) (x1 : State) : Keeps x1 (execFsyStatus x0 x1) := by
  refine command_keeps (fun r s => ?_) fun r s => ?_ <;> dsimp only <;>
    repeat' first
      | (simp; done)
      | apply needLen_tb
      | apply needLen_pending
      | apply needForm_tb
      | apply needForm_pending
      | split
      | dsimp only

theorem execFabStatus_keeps (x0 : Req) (x1 : State) : Keeps x1 (execFabStatus x0 x1) := by
  refine command_keeps (fun r s => ?_) fun r s => ?_ <;> simp

theorem execPktCounters_keeps (x0 : Req) (x1 : State) : Keeps x1 (execPktCounters x0 x1) := by
  refine command_keeps (fun r s => ?_) fun r s => ?_ <;> dsimp only <;>
    repeat' first
      | (simp; done)
      | apply needLen_tb
      | apply needLen_pending
      | apply needForm_tb
      | apply needForm_pending
      | split
      | dsimp only

theorem execLanEye_keeps (x0 : Req) (x1 : State) : Keeps x1 (execLanEye x0 x1) := by
  refine command_keeps (fun r s => ?_) fun r s => ?_ <;> dsimp only <;> (repeat' split) <;> simp

theorem execLanStatus_keeps (x0 : Req) (x1 : State) : Keeps x1 (execLanStatus x0 x1) := by
  refine command_keeps (fun r s => ?_) fun r s => ?_ <;> simp

theorem execSpnSourceStatus_keeps (x0 : Req) (x1 : State) : Keeps x1 (execSpnSourceStatus x0 x1) := by
  refine command_keeps (fun r s => ?_) fun r s => ?_ <;> simp

theorem execSpnRouteRead_keeps (x0 : Req) (x1 : State) : Keeps x1 (execSpnRouteRead x0 x1) := by
  refine command_keeps (fun r s => ?_) fun r s => ?_ <;> simp

theorem execDrvStatus_keeps (x0 : Req) (x1 : State) : Keeps x1 (execDrvStatus x0 x1) := by
  refine command_keeps (fun r s => ?_) fun r s => ?_ <;> simp

theorem execDrvResults_keeps (x0 : Req) (x1 : State) : Keeps x1 (execDrvResults x0 x1) := by
  refine command_keeps (fun r s => ?_) fun r s => ?_ <;> simp

theorem execQirStageRead_keeps (x0 : Req) (x1 : State) : Keeps x1 (execQirStageRead x0 x1) := by
  refine command_keeps (fun r s => ?_) fun r s => ?_ <;> simp

theorem execQirSwap_keeps (x0 : Req) (x1 : State) : Keeps x1 (execQirSwap x0 x1) := by
  refine command_keeps (fun r s => ?_) fun r s => ?_ <;> dsimp only <;> (repeat' split) <;> simp

theorem execDevPing_keeps (r : Req) (s : State) : Keeps s (execDevPing r s) := by
  refine command_keeps (fun r s => ?_) fun r s => ?_ <;> split <;> rfl

theorem execDevInfo_keeps (x0 : Req) (x1 : State) : Keeps x1 (execDevInfo x0 x1) := by
  refine command_keeps (fun r s => ?_) fun r s => ?_ <;> simp

end Sys2Proof.Laws
end

