-- ==== Sys2Proof/Laws/Items.lean ====
section
/-! SUPPORT. The differences of two quires: none between a quire and itself, so that a swap to the same content needs no
staging; and what the protection rules ask of a state that protects nothing. -/

namespace Sys2Proof.Machine

@[simp] theorem QItem.differs_self (a : Bytes) (x : QItem) : x.differs a a = false := by
  simp [QItem.differs]

theorem keyedDiffs_self (q : Quire) (ty key : Nat) : keyedDiffs q q ty key = [] := by
  unfold keyedDiffs
  cases qKeyed q ty key with
  | none => rfl
  | some x => simp

theorem folioDiffs_self (q : Quire) (ty : Nat) : folioDiffs q q ty = [] := by
  unfold folioDiffs
  cases (folioMeta ty).1 <;> simp [keyedDiffs_self]

/-- No item differs between a quire and itself. -/
theorem quireDiffs_self (q : Quire) : quireDiffs q q = [] := by
  simp [quireDiffs, folioDiffs_self]

/-- A swap to the same content needs no staging (R75). -/
theorem needsStaging_self (q : Quire) : needsStaging q q = false := by
  simp [needsStaging, quireDiffs_self]

/-- With no insert and no shepherd entry nothing is protected (R291, R344). -/
theorem protectedFault_none (s : State) (q : Quire) (h1 : s.audio.table = []) (h2 : s.layers.table = []) :
    protectedFault s q = none := by
  simp [protectedFault, h1, h2, firstFault]

end Sys2Proof.Machine
end

