-- ==== Sys2Proof/Laws/Keys.lean ====
section
/-! SUPPORT. The use of a key slot (R489). -/

namespace Sys2Proof.Machine

/-- An allowed use of an undamaged key is granted. -/
theorem keyUse_granted (s : State) (slot world alg requester : Nat) (h : keyAllowed s slot world alg requester = true)
    (hk : keyIdOf (keySlot s slot).alg (keySlot s slot).key (keySlot s slot).pub = (keySlot s slot).keyId) :
    keyUse slot world alg requester s = (rerandomise s, some (keySlot s slot)) := by
  simp [keyUse, h, hk]

end Sys2Proof.Machine
end

