-- ==== Sys2Proof/Laws/Table.lean ====
section
/-! SUPPORT. Sparse tables: a read after a write, and that every write keeps the canonical form. -/

namespace Sys2Proof.Laws

open Sys2Proof Sys2Proof.Machine Sys2Proof.Safety

variable {α : Type}

/-- A read after an insertion. -/
@[simp] theorem mget_mput (d : Nat → α) (m : List (Nat × α)) (k j : Nat) (v : α) :
    mget d (mput m k v) j = if j = k then v else mget d m j := by
  induction m with
  | nil => by_cases h : j = k <;> simp [mput, mget, h, Ne.symm]
  | cons p t ih =>
    obtain ⟨a, w⟩ := p
    by_cases h : j = k
    · subst h
      by_cases h1 : a = j
      · simp [mput, mget, h1]
      · by_cases h2 : j < a
        · simp [mput, mget, h1, h2]
        · simpa [mput, mget, h1, h2] using ih
    · have hk : ¬ k = j := fun e => h e.symm
      by_cases h1 : a = k
      · subst h1; simp [mput, mget, h, hk]
      · by_cases h2 : k < a
        · simp [mput, mget, h1, h2, h, hk]
        · by_cases h3 : a = j
          · subst h3; simp [mput, mget, h1, h2]
          · simpa [mput, mget, h1, h2, h3, h] using ih

/-- A read after a removal. -/
@[simp] theorem mget_mdel (d : Nat → α) (m : List (Nat × α)) (k j : Nat) :
    mget d (mdel m k) j = if j = k then d j else mget d m j := by
  induction m with
  | nil => simp [mdel, mget]
  | cons p t ih =>
    obtain ⟨a, w⟩ := p
    by_cases h1 : a = k
    · subst h1
      by_cases h : j = a
      · simp_all [mdel]
      · have : ¬ a = j := fun e => h e.symm
        simp_all [mdel, mget]
    · by_cases h3 : a = j
      · subst h3; simp [mdel, mget, h1]
      · simpa [mdel, mget, h1, h3] using ih

variable [DecidableEq α]

/-- A read after a write. -/
@[simp] theorem mget_mset (d : Nat → α) (m : List (Nat × α)) (k j : Nat) (v : α) :
    mget d (mset d m k v) j = if j = k then v else mget d m j := by
  unfold mset
  split
  · subst_vars; by_cases h : j = k <;> simp [h]
  · simp

/-- A read after a change. -/
@[simp] theorem mget_mmod (d : Nat → α) (m : List (Nat × α)) (k j : Nat) (f : α → α) :
    mget d (mmod d m k f) j = if j = k then f (mget d m k) else mget d m j := by
  simp [mmod]

/-- A later bound is a weaker claim. -/
theorem mwfFrom_mono {d : Nat → α} {a b : Nat} {m : List (Nat × α)} (hab : a ≤ b) (h : mwfFrom d b m = true) :
    mwfFrom d a m = true := by
  cases m with
  | nil => rfl
  | cons p t =>
    simp only [mwfFrom, Bool.and_eq_true, decide_eq_true_eq] at h ⊢
    exact ⟨⟨by omega, h.1.2⟩, h.2⟩

/-- A removal keeps the canonical form. -/
theorem mwfFrom_mdel {d : Nat → α} {lo k : Nat} {m : List (Nat × α)} (h : mwfFrom d lo m = true) :
    mwfFrom d lo (mdel m k) = true := by
  induction m generalizing lo with
  | nil => rfl
  | cons p t ih =>
    obtain ⟨a, w⟩ := p
    simp only [mwfFrom, Bool.and_eq_true, decide_eq_true_eq] at h
    by_cases h1 : a = k
    · simp only [mdel, h1, if_true]
      exact mwfFrom_mono (by omega) (ih h.2)
    · simp only [mdel, h1, if_false, mwfFrom, Bool.and_eq_true, decide_eq_true_eq]
      exact ⟨h.1, ih h.2⟩

/-- An insertion of a value that is no default keeps the canonical form. -/
theorem mwfFrom_mput {d : Nat → α} {lo k : Nat} {m : List (Nat × α)} {v : α} (hv : v ≠ d k) (hk : lo ≤ k)
    (h : mwfFrom d lo m = true) : mwfFrom d lo (mput m k v) = true := by
  induction m generalizing lo with
  | nil => simp [mput, mwfFrom, hv, hk]
  | cons p t ih =>
    obtain ⟨a, w⟩ := p
    simp only [mwfFrom, Bool.and_eq_true, decide_eq_true_eq] at h
    by_cases h1 : a = k
    · subst h1; simp [mput, mwfFrom, hv, hk, h.2]
    · by_cases h2 : k < a
      · have h3 : k + 1 ≤ a := h2
        simp [mput, h1, h2, mwfFrom, hv, hk, h, h3]
      · have h3 : a + 1 ≤ k := by omega
        simp only [mput, h1, h2, if_false, mwfFrom, Bool.and_eq_true, decide_eq_true_eq]
        exact ⟨h.1, ih h3 h.2⟩

/-- A write keeps the canonical form. -/
theorem mwf_mset {d : Nat → α} {m : List (Nat × α)} {k : Nat} {v : α} (h : mwf d m = true) :
    mwf d (mset d m k v) = true := by
  unfold mset
  split
  · exact mwfFrom_mdel h
  · exact mwfFrom_mput ‹_› (Nat.zero_le _) h

/-- A change keeps the canonical form. -/
theorem mwf_mmod {d : Nat → α} {m : List (Nat × α)} {k : Nat} {f : α → α} (h : mwf d m = true) :
    mwf d (mmod d m k f) = true := mwf_mset h

/-- What a slot's change leaves readable in every slot. -/
@[simp] theorem srcSlot_setSrc (i j : Nat) (f : SrcSlot → SrcSlot) (s : State) :
    srcSlot (setSrc i f s) j = if j = i then f (srcSlot s i) else srcSlot s j := by
  simp [srcSlot, setSrc]

/-- What a destination's change leaves readable in every destination. -/
@[simp] theorem dstSlot_setDst (i j : Nat) (f : DstSlot → DstSlot) (s : State) :
    dstSlot (setDst i f s) j = if j = i then f (dstSlot s i) else dstSlot s j := by
  simp [dstSlot, setDst]

/-- What a lane's change leaves readable in every lane. -/
@[simp] theorem laneAt_setLane (i j : Nat) (f : Lane → Lane) (s : State) :
    laneAt (setLane i f s) j = if j = i then f (laneAt s i) else laneAt s j := by
  simp [laneAt, setLane]

/-- What a queue pair's change leaves readable in every queue pair. -/
@[simp] theorem qpAt_setQp (i j : Nat) (f : Qp → Qp) (s : State) :
    qpAt (setQp i f s) j = if j = i then f (qpAt s i) else qpAt s j := by
  simp [qpAt, setQp, setHost]

/-- A change of one slot keeps the tables of the spine in their form. -/
theorem spineSound_setSrc {i : Nat} {f : SrcSlot → SrcSlot} {s : State} (h : spineSound s) : spineSound (setSrc i f s) :=
  ⟨mwf_mmod h.1, h.2⟩

/-- A change of one destination keeps the tables of the spine in their form. -/
theorem spineSound_setDst {i : Nat} {f : DstSlot → DstSlot} {s : State} (h : spineSound s) : spineSound (setDst i f s) :=
  ⟨h.1, mwf_mmod h.2⟩

end Sys2Proof.Laws
end

