-- ==== Sys2Proof/WellFormed.lean ====
section
/-! DEFINITION. Which commands are well formed: operands within the ranges that the device has for them. -/

namespace Sys2Proof

/-- An endpoint of Table 04.7 within its range. -/
def Endpoint.wf : Endpoint → Bool
  | .qp n => decide (n < 64)
  | .session p i => decide (p < 2 ∧ i < 128)
  | .fold n => decide (n < 64)
  | .forwarded n => decide (n < 65536)
  | .safety | .stitch | .debug => true
  | .copied => false

/-- A request whose header fields fit their widths (Table 04.1). -/
def Req.wf (r : Req) : Bool :=
  r.ep.wf && decide (r.port < 65536 ∧ r.flags < 256 ∧ r.seq < 2 ^ 64 ∧ r.notAfter < 2 ^ 64 ∧ r.crc < 2 ^ 32 ∧
    r.params.length ≤ 65504)

/-- A fault of an element the device has (Table 02.11). -/
def HwFault.wf : HwFault → Bool
  | .voted _ copy => decide (copy < 3)
  | .voteLost _ => true
  | .essence slot d _ line | .essenceBad slot d _ line => decide (slot < 1536 ∧ d < 1536 ∧ 1 ≤ line)
  | .rest slot line => decide (slot < 1536 ∧ 1 ≤ line)
  | .grant slot | .grantBad slot => decide (slot < 1536)
  | .fallbackBad pen j => decide (pen < 256 ∧ j < 8)
  | .ancBad slot _ line => decide (slot < 1536 ∧ 1 ≤ line)
  | .blackBad d line => decide (d < 1536 ∧ 1 ≤ line)
  | .evtFixed _ | .evtBad _ => true
  | .logBad _ serial => decide (serial < 2 ^ 32)
  | .source src inst detail => decide (src < 1280 ∧ inst < 65536 ∧ detail < 2 ^ 32)
  | .unfinished opcode port seq code => decide (opcode < 65536 ∧ port < 65536 ∧ seq < 2 ^ 64 ∧ code < 256)

/-- The words of a line are 10-bit words or wider samples of 16 bits at most. -/
def wordsOk (l : List Nat) : Bool := l.all fun w => decide (w < 65536)

/-- The checks of a line count at most two streams. -/
def LineErr.wf (e : LineErr) : Bool := decide (e.crc1 ≤ 1 ∧ e.crc2 ≤ 1 ∧ e.edh ≤ 2)

/-- An ST 291 packet of 10-bit words. -/
def AncPkt.wf (p : AncPkt) : Bool := p.words.all fun w => decide (w < 1024)

/-- A user of the memory names a line from 1 on. -/
def DramUser.wf : DramUser → Bool
  | .syncLine _ _ line | .layerLine _ _ _ line => decide (1 ≤ line)
  | .delay sec _ _ n => decide (sec < 7 ∧ 1 ≤ n)
  | .colophon half _ => decide (half < 2)
  | .mirror | .other => true

/-- The samples of an AES3 frame are signed 24-bit words (R304). -/
def AesFrame.wf (f : AesFrame) : Bool :=
  decide (-8388608 ≤ f.a.sample ∧ f.a.sample < 8388608 ∧ -8388608 ≤ f.b.sample ∧ f.b.sample < 8388608)

/-- A satellite of one of the four constellations, above or below the horizon. -/
def Sat.wf (x : Sat) : Bool := decide (x.con < 4 ∧ -9000 ≤ x.elevation ∧ x.elevation ≤ 9000 ∧ x.azimuth < 36000)

/-- An epoch whose records are of channels the receiver has. -/
def GnssEpoch.wf (e : GnssEpoch) : Bool :=
  decide (e.recs.length ≤ 96) && e.recs.all fun x => decide (x.channel < 96)

/-- Straps as they can be, and DRAM channels the package has. -/
def BootIn.wf (b : BootIn) : Bool :=
  decide (b.bootSrc < 4 ∧ b.side < 2 ∧ b.foldAddr < 64) && b.fails.all fun f => decide (f.1 < 32)

/-- A management port's input names a session it may have (R558). -/
def MgtIn.wf : MgtIn → Bool
  | .frame b => decide (14 ≤ b.length)
  | .connect p _ _ _ _ => decide (p < 65536)
  | .data i _ _ | .ack i | .close i => decide (i < 128)

/-- A network port number of R160: a packet lane, or 0x0100 plus a media lane. -/
def netPortOk (p : Nat) : Bool := decide (p < 64 ∨ (256 ≤ p ∧ p < 512))

/-- Whether a command is well formed. -/
def Instr.wf (i : Instr) : Bool :=
  match i with
  | .devInfo r => r.wf
  | .devPing r => r.wf
  | .devPortState r => r.wf
  | .devBind r => r.wf
  | .devBindRead r => r.wf
  | .qirOpen r => r.wf
  | .qirWrite r => r.wf
  | .qirSeal r => r.wf
  | .qirSwap r => r.wf
  | .qirStatus r => r.wf
  | .qirRead r => r.wf
  | .qirDiscard r => r.wf
  | .qirStageRead r => r.wf
  | .drvSubmit r => r.wf
  | .drvCancel r => r.wf
  | .drvQueueRead r => r.wf
  | .drvResults r => r.wf
  | .drvStatus r => r.wf
  | .spnRoute r => r.wf
  | .spnRouteRead r => r.wf
  | .spnSourceStatus r => r.wf
  | .spnGrant r => r.wf
  | .spnFallback r => r.wf
  | .spnCounters r => r.wf
  | .spnStore r => r.wf
  | .lanStatus r => r.wf
  | .lanCounters r => r.wf
  | .lanEq r => r.wf
  | .lanPrbs r => r.wf
  | .lanEye r => r.wf
  | .pktStatus r => r.wf
  | .pktCounters r => r.wf
  | .flwStatus r => r.wf
  | .pktLaunch r => r.wf
  | .pktWatch r => r.wf
  | .fabStatus r => r.wf
  | .fabCounters r => r.wf
  | .fabRetrain r => r.wf
  | .stiStatus r => r.wf
  | .memStatus r => r.wf
  | .memTraining r => r.wf
  | .fsyStatus r => r.wf
  | .audStatus r => r.wf
  | .audParamWrite r => r.wf
  | .audGain r => r.wf
  | .audMeter r => r.wf
  | .audShepherd r => r.wf
  | .audShepherdRead r => r.wf
  | .aptStatus r => r.wf
  | .aptChstat r => r.wf
  | .aptCounters r => r.wf
  | .layStatus r => r.wf
  | .laySet r => r.wf
  | .layShepherdWrite r => r.wf
  | .layShepherdShow r => r.wf
  | .layShepherdRead r => r.wf
  | .refStatus r => r.wf
  | .refSelect r => r.wf
  | .refHoldover r => r.wf
  | .clkStatus r => r.wf
  | .timRead r => r.wf
  | .timBound r => r.wf
  | .ptpStatus r => r.wf
  | .ptpSessions r => r.wf
  | .ntsStatus r => r.wf
  | .timSet r => r.wf
  | .gnsStatus r => r.wf
  | .gnsChannels r => r.wf
  | .gnsAid r => r.wf
  | .gnsMeas r => r.wf
  | .twnStatus r => r.wf
  | .twnHealth r => r.wf
  | .twnYield r => r.wf
  | .twnSync r => r.wf
  | .flkStatus r => r.wf
  | .flkReport r => r.wf
  | .flkMembers r => r.wf
  | .keyStatus r => r.wf
  | .keyLoad r => r.wf
  | .keyGenerate r => r.wf
  | .keyErase r => r.wf
  | .impGet r => r.wf
  | .lcsAdvance r => r.wf
  | .evtRead r => r.wf
  | .evtConfig r => r.wf
  | .evtClear r => r.wf
  | .colRead r => r.wf
  | .colRelease r => r.wf
  | .evtInject r => r.wf
  | .updBegin r => r.wf
  | .updWrite r => r.wf
  | .updVerify r => r.wf
  | .updActivate r => r.wf
  | .updConfirm r => r.wf
  | .updStatus r => r.wf
  | .casWrite r => r.wf
  | .casRead r => r.wf
  | .diaLoopback r => r.wf
  | .diaSelftest r => r.wf
  | .diaRegRead r => r.wf
  | .diaRegWrite r => r.wf
  | .commandReceipt ep packet => ep.wf && decide (packet.length ≤ 65536)
  | .heldCommandTimeout port seq => decide (port < 65536 ∧ seq < 2 ^ 64)
  | .safetyUartFrame _ => true
  | .mgtFrameReceive port input => decide (port < 2) && input.wf
  | .mgtSessionAckTimeout => true
  | .sessionIdleTimeout => true
  | .sessionKeyUpdate => true
  | .switchPoint d _ => decide (d < 1536)
  | .lineWrite slot line _ within data err => decide (slot < 1536 ∧ 1 ≤ line ∧ within < ticksPerStep) && wordsOk data && err.wf
  | .destinationLineRead d _ line => decide (d < 1536 ∧ 1 ≤ line)
  | .sourceStateEvaluation slot => decide (slot < 1536)
  | .sourceFrameLoss slot => decide (slot < 1536)
  | .sourceEvaluationCycle slot => decide (slot < 1536)
  | .spineScrubPass _ _ => true
  | .hardwareFault f => f.wf
  | .destFormatQuietPoint d => decide (d < 1536)
  | .destFormatComplete d => decide (d < 1536)
  | .droverEventApply serial => decide (serial < 2 ^ 32)
  | .quireSwapApply => true
  | .swapComplete => true
  | .quireDigestDone => true
  | .stagedItemStart _ => true
  | .stagedItemComplete _ => true
  | .stagedItemTimeout _ => true
  | .rxLock lane => decide (lane < 256)
  | .rxAlign lane _ level => decide (lane < 256 ∧ level < 2)
  | .rxLockLoss lane _ => decide (lane < 256)
  | .huntDwellExpiry lane => decide (lane < 256)
  | .gangDeskew lane _ => decide (lane < 256)
  | .ancPacketReceive lane pkt => decide (lane < 256) && pkt.wf
  | .audioPacketDeembed lane group _ samples => decide (lane < 256 ∧ 1 ≤ group ∧ group ≤ 8) &&
    samples.all fun l => decide (l.length = 4)
  | .audioGroupAbsent lane group => decide (lane < 256 ∧ 1 ≤ group ∧ group ≤ 8)
  | .txLineStart lane _ line _ => decide (lane < 256 ∧ 1 ≤ line)
  | .txRelockEnd lane => decide (lane < 256)
  | .prbsCheckerLock lane => decide (lane < 256)
  | .prbsCheckerUnlock lane _ => decide (lane < 256)
  | .portUp port _ => netPortOk port
  | .portDown port _ => netPortOk port
  | .frameReceive port frame => netPortOk port && decide (14 ≤ frame.bytes.length)
  | .pauseExpiry port => netPortOk port
  | .membershipReportSend _ => true
  | .flowAgeingCycle => true
  | .mergeRecordAgeing => true
  | .mediaPacketLaunch _ _ _ => true
  | .mediaPacketLateDrop port => netPortOk port
  | .frameTransmit port => netPortOk port
  | .hostFrameLaunch port => netPortOk port
  | .tcEntryAgeing => true
  | .portWake port _ => netPortOk port
  | .fabricSignalDetect lane => decide (lane < 68)
  | .trainingFrameReceive lane _ control status => decide (lane < 68 ∧ control < 65536 ∧ status < 65536)
  | .blockLock lane logical _ => decide (lane < 68 ∧ logical < 68)
  | .blockLockLoss lane => decide (lane < 68)
  | .capsReceive lane _ => decide (lane < 68)
  | .laneStateTimeout lane => decide (lane < 68)
  | .cellReceive lane _ _ => decide (lane < 68)
  | .fabricMergeAgeing => true
  | .pictureCellSend _ _ _ _ => true
  | .frameStatusSend _ _ _ => true
  | .audioCellSend _ _ => true
  | .stitchFrameReceive _ => true
  | .stitchReorderTimeout => true
  | .stitchAckSend => true
  | .stitchResendTimeout => true
  | .stitchLinkDown => true
  | .dramTempPoll group _ => decide (group < 4)
  | .dramWckRetrain chan _ => decide (chan < 32)
  | .dramUncorrectableRead chan _ user => decide (chan < 32) && user.wf
  | .dramGroupOut group _ => decide (group < 4)
  | .dramAccessRefused group _ _ => decide (group < 4)
  | .dramPatrolScrub chan _ => decide (chan < 32)
  | .dramAutoSelfRefresh chan => decide (chan < 32)
  | .dramSelfRefreshExit chan => decide (chan < 32)
  | .fsyChoose _ _ _ => true
  | .fsyOwnDecision _ _ => true
  | .fsyOutputLine _ _ line => decide (1 ≤ line)
  | .fsyMoveRestart _ => true
  | .audioSamplePeriod sec _ _ => decide (sec < 7)
  | .programBankExchange => true
  | .audioChangeApply sec => decide (sec < 7)
  | .gainNativeTimeout sec _ => decide (sec < 7)
  | .gainRampEnd sec _ => decide (sec < 7)
  | .domfreeClockChange st _ => decide (st < 4)
  | .bridgeLock b _ => decide (b < 256)
  | .shepherdInsertFadeEnd channel => decide (channel < 65536)
  | .aes3FrameReceive port _ frame _ => decide (port < 64) && frame.wf
  | .audioPortNoSignal port => decide (port < 73)
  | .aes3FrameSend port _ => decide (port < 64)
  | .tdmFrame port _ _ _ _ _ => decide (64 ≤ port ∧ port < 72)
  | .layerOutputLine e _ line => decide (e < 64 ∧ 1 ≤ line)
  | .layerFormatChangeStart e => decide (e < 64)
  | .layerFormatChangeEnd e => decide (e < 64)
  | .shepherdChangeApply e => decide (e < 64)
  | .taiSecondEvaluation meas => meas.all fun m => decide (m.1 < 15)
  | .referencePulse r _ => decide (r < 15)
  | .atomCountCycle _ => true
  | .referenceActivityFault r => decide (r < 15)
  | .referenceHoldExpiry r => decide (r < 15)
  | .dpllPhaseUpdate _ _ => true
  | .ladderAdvance => true
  | .synthLockLoss domain => decide (domain < 18)
  | .synthRelock domain => decide (domain < 18)
  | .sysrefLoss _ => true
  | .pulseOutputEdge o _ => decide (o < 6)
  | .acquisitionStep _ => true
  | .timSetApply => true
  | .hstTimeNsRead => true
  | .ptpMessageReceive _ _ _ => true
  | .ptpMessageSend _ _ _ => true
  | .announceReceiptTimeout _ => true
  | .unicastGrantAgeing => true
  | .leapSecond => true
  | .keyRollover _ => true
  | .ntpRequest _ _ _ => true
  | .ntsKeHandshake _ _ _ _ _ => true
  | .ntsKeTimeout _ => true
  | .rateLimiterAgeing => true
  | .gnssClockStamp _ => true
  | .gnssNoClock => true
  | .gnssStreamCheck stream extreme total _ => decide (stream < 4 ∧ extreme ≤ total)
  | .channelAllocation sats => sats.all Sat.wf
  | .searchDwell channel _ => decide (channel < 96)
  | .channelPullinDone channel => decide (channel < 96)
  | .channelLockLoss channel => decide (channel < 96)
  | .reacqTimeout channel => decide (channel < 96)
  | .navMessageDecode channel _ bits => decide (channel < 96 ∧ bits.length ≤ 40)
  | .measurementEpoch e => e.wf
  | .gnssHoldTimeout => true
  | .stitchCycleEnd => true
  | .crookClaim => true
  | .startingWaitExpiry => true
  | .restartOverrun => true
  | .selftestRun item _ => decide (item < 8)
  | .resyncPhaseEnd _ => true
  | .flockHelloSend => true
  | .flockMessageReceive _ station _ _ => decide (station < 64)
  | .memberAgeing => true
  | .keyUseRequest slot _ _ _ => decide (slot < 512)
  | .drbgReseed => true
  | .entropyHealthFail _ => true
  | .cryptoChunkBoundary arrived => arrived.all fun a => decide (a.1 < 6)
  | .blockResetRecovered _ _ => true
  | .coreWatchdog _ _ => true
  | .colophonWriteDone _ => true
  | .evtPendWrite n value => decide (n < 40 ∧ value < 2 ^ 32)
  | .evtSummaryWrite value => decide (value < 2 ^ 32)
  | .evtBlkStatusRead b => decide (b < 18)
  | .rfcEventsWrite value => decide (value < 2 ^ 32)
  | .bootStatusWrite value => decide (value < 2 ^ 32)
  | .resetAssert _ => true
  | .resetRelease b => b.wf
  | .chipReset _ => true
  | .controlPlaneRestart => true
  | .vegenRegister => true
  | .updateActivationDue => true
  | .confirmTimerExpiry => true
  | .deepUpdatePhase _ _ => true
  | .hstDoorbell q value => decide (q < 64 ∧ value < 2 ^ 32)
  | .hstCqHead q value => decide (q < 64 ∧ value < 2 ^ 32)
  | .submissionFetch q entry _ => decide (q < 64) && (match entry with
    | some e => decide (e.length = 32)
    | none => true)
  | .completionWrite q => decide (q < 64)
  | .hstQpCfgWrite q value => decide (q < 64 ∧ value < 2 ^ 32)
  | .interruptModerationTimeout q => decide (q < 64)
  | .descriptorTailWrite value => decide (value < 2 ^ 32)
  | .receiveHeadWrite value => decide (value < 2 ^ 32)
  | .launchHeadWrite value => decide (value < 2 ^ 32)
  | .hostFrameDeliver _ => true
  | .hstMboxGo value => decide (value < 2 ^ 32)
  | .mboxFetchDone _ fails _ => fails.all fun f => decide (f.1 < 32)
  | .registerWrite bar off value => decide ((bar = 0 ∨ bar = 4) ∧ off % 4 = 0 ∧ value < 2 ^ 32)
  | .perstAssert _ => true
  | .foldSlotSend => true
  | .foldFrameReceive _ => true
  | .foldTenureEnd => true
  | .foldFrameDrop => true
  | .foldSilenceTimeout => true
  | .busLockTimeout _ _ _ => true
  | .romRemapWrite => true
  | .debugMailboxWrite word => decide (word < 2 ^ 32)
  | .jtagInstruction _ => true
  | .avsRequest _ _ => true
  | .governorAdmission => true
  | .supplyUndervoltage rail _ => decide (rail < 10)
  | .supplyRestored readings => decide (readings.length = 10)
  | .powerUp => true
  | .thermalThreshold temps => decide (temps.length = 16)
  | .clockReferenceActivityRestored r => decide (r < 15)
  | .gnssClockReturn => true
  | .foldTokenPhaseStart => true
  | .foldPollResponseTimeout => true
  | .errNMinimumHoldEnd => true
  | .keyShareRerandomisation => true
  | .portBringUpComplete port => netPortOk port

end Sys2Proof
end

