-- ==== Sys2Proof/Tests/Slice0.lean ====
section
/-! SUPPORT. Tests: the checks of WellFormed refuse ill-formed commands; the step and the command queue; the manual's
worked numbers; and witnesses: for each statement with hypotheses, states and operands that meet them, given to the
statement itself. -/

namespace Sys2Proof.Tests

open Sys2Proof Sys2Proof.Machine Sys2Proof.Safety

set_option Elab.async false

/-- A device that is command-ready and has no partner, in life cycle OPERATIONAL. -/
def up : State := { boot := { ready := true, inReset := false, stage := 6 }, keys := { lifeCycle := 2 } }

/-- A command of queue pair 0 on port ROOT with parameter bytes, unscheduled. -/
def rq (p : List Nat) : Req := ⟨.qp 0, portRoot, 0, 0, 1, 0, 0, false, p.map (BitVec.ofNat 8)⟩

/-- The same, scheduled. -/
def rqAt (p : List Nat) : Req := ⟨.qp 0, portRoot, 0, 8, 1, 0, 0, false, p.map (BitVec.ofNat 8)⟩

/-- Zero bytes. -/
def zs (n : Nat) : List Nat := List.replicate n 0

/-- A little-endian field. -/
def w (n v : Nat) : List Nat := (le n v).map BitVec.toNat

/-- A command has a next state in a state. -/
abbrev Runs (c : Instr) (s : State) : Prop := ∃ t, exec c s = .next t

/-- The device with an active quire. -/
def upQ (q : Quire) : State := { up with quire := { active := q } }

/-- A destination 0 and a source 1 of 720p, both of pen 0 and enabled, the route set, and what the source is in. -/
def routed (loss : Nat) (st : SrcState) : State :=
  { upQ (qWrite (qWrite (qWrite {} fSources 16 (le 2 0x2260 ++ zeros 5 ++ [1#8])) fDests 0
      (le 2 0x2260 ++ le 2 1 ++ le 1 loss ++ zeros 1 ++ [1#8])) fPens 0 [1#8]) with
    spine := { src := [(1, { state := st })] } }

/-- The same, with the source in pen 1, which is disabled. -/
def disowned : State :=
  { routed 0 .valid with quire := { active := qWrite (routed 0 .valid).quire.active fSources 22 [1#8] } }

/-- The same destination bound, showing source 1, which holds one line of its frame 0. -/
def shown (ring : List RingEntry) : State :=
  { upQ (qUpsert (routed 0 .valid).quire.active fBindings 0x8000 (le 2 0x8000 ++ [1#8] ++ zeros 5)) with
    spine := { src := [(1, { state := .valid, ring := ring })], dst := [(0, { shown := 1, display := 0 })] } }

/-- The device of `routed` with source 1 bound to index 0 of a class: 1 a lane, 2 a flow. -/
def bindSrc (cls : Nat) : State :=
  { routed 0 .valid with
    quire := { active := qUpsert (routed 0 .valid).quire.active fBindings 1 (le 2 1 ++ [BitVec.ofNat 8 cls] ++ zeros 5) } }

/-- An enabled AUTO source 1, in ACQUIRING, with no format stable. -/
def autoSrc : State :=
  { upQ (qWrite {} fSources 16 (le 2 0xFF00 ++ zeros 5 ++ [1#8])) with spine := { src := [(1, { state := .acquiring })] } }

/-- An enabled opaque source 1, in ACQUIRING, that took packets in this cycle and the one before. -/
def opaqueSrc : State :=
  { upQ (qWrite {} fSources 16 (le 2 0xFE00 ++ zeros 5 ++ [1#8])) with
    spine := { src := [(1, { state := .acquiring, cycleWritten := true, cycles := 1, lastWrite := 1 })] } }

/-- A request packet: opcode and sequence, no parameters. -/
def packet (op seq : Nat) : Bytes :=
  let h := le 2 0x5E7A ++ [3#8, 0#8] ++ le 2 op ++ le 2 0 ++ le 8 seq ++ zeros 8 ++ le 4 0xFFFF
  h ++ le 4 (packetCrc (h ++ zeros 4))

/-- The device with one lane in a state. -/
def laned (l : Nat) (x : Lane) : State := { up with lanes := [(l, x)] }

/-- The device with one network port in a state, and a folio's bytes written. -/
def ported (p : Nat) (x : NetPort) : State :=
  { upQ (qWrite (qWrite {} fPacket 0 [3#8]) fPacket 192 [3#8]) with net := { ports := [(p, x)] } }

/-- The FLOWS entry of a flow: index, essence, port 0, pair. -/
def flow (i ess pair : Nat) : Bytes := le 2 i ++ [BitVec.ofNat 8 ess, 0#8] ++ le 2 0 ++ le 2 pair ++ zeros 72

/-- The device with one fabric lane in a state. -/
def fabbed (l : Nat) (x : FabLane) : State := { up with fabric := { lanes := [(l, x)] } }

/-- Destination 0 of 1080p, enabled, bound to fabric stream 0. -/
def streamed : Quire :=
  qWrite (qUpsert {} fBindings 0x8000 (le 2 0x8000 ++ [3#8] ++ zeros 5)) fDests 0 (le 2 0x2260 ++ le 2 1 ++ zeros 2 ++ [1#8])

/-- Synchroniser 0 enabled, its input slot 0 of 1080p and its output slot 5. -/
def synced : Quire :=
  qWrite (qWrite (qUpsert {} fBindings 5 (le 2 5 ++ [5#8] ++ zeros 5)) fSources 0 (le 2 0x2260 ++ zeros 5 ++ [1#8])) fDram 0x40
    [1#8]

/-- The device with synchroniser 0 in a state. -/
def sync (x : Sync) : State := { upQ synced with dram := { syncs := [(0, x)] } }

/-- The device with memory group 0 and its channel 0 in a state. -/
def grouped (g : DramGroup) (c : DramChan) : State := { up with dram := { groups := [(0, g)], chans := [(0, c)] } }

/-- A program with one parameter set: entry 0, of a kind, in section 0. -/
def audioed (kind : Nat) (a : Audio → Audio) : State :=
  { up with
    audio := a {
      prog := qWrite (qWrite {} fProgram 6 [1#8]) fProgram 0x258B0 (le 4 0 ++ le 4 1)
      params := qWrite {} fParams 16 [BitVec.ofNat 8 kind] } }

/-- An audio port enabled with flags, in a state. -/
def apted (p flags section_ : Nat) (x : AudioPort) : State :=
  { upQ (qWrite {} fAudioPorts (128 * p) [BitVec.ofNat 8 flags, BitVec.ofNat 8 section_]) with
    apt := [(p, x)], audio := { dom48 := 2, dom441 := 2 } }

/-- The device with its time service in a state. -/
def timed (t : TimeSvc) : State := { up with time := t }

/-- A follower: a twin without the crook, its quire from `q`. -/
def follower (q : Quire) : State :=
  { upQ (qWrite q fFabric 33792 [1#8]) with twin := { role := .standby } }

/-- PTP instance 0 enabled, delivering Sync to its port entry 0 over network port 0, entry and port in given states;
`flags` are those of the instance. -/
def clocked (flags st : Nat) (f : TimeSvc → TimeSvc) : State :=
  { upQ (qWrite (qWrite {} fTime 0x40 ([BitVec.ofNat 8 flags] ++ zeros 10 ++ [1#8])) fTime 0x243 [1#8]) with
    net := { ports := [(0, { state := 2 })] }
    time := f { ports := [(0, { state := st })] } }

/-- A PTP Announce of 64 bytes, domain 0, version 2, without TLVs. -/
def announce : Bytes := [0x0B#8, 2#8] ++ be 2 64 ++ zeros 60

/-- The device serving NTP and NTS on network port 0, with a key for each. -/
def served (f : Ntp → Ntp) : State :=
  { upQ (qWrite (qWrite (qWrite {} fTime 6 [3#8]) fTime 0x19 (zeros 1 ++ le 2 6 ++ le 2 5 ++ le 2 1)) fTime 0xA42 [3#8]) with
    net := { ports := [(0, { state := 2 })] }
    time := { ntp := f {} } }

/-- The satellite receiver enabled, at its rate, with a state of its own. -/
def skied (rate : Nat) (g : Gnss) : State :=
  { upQ (qWrite {} fGnss 2 ([1#8] ++ zeros 4 ++ [BitVec.ofNat 8 rate])) with time := { gnss := g } }

/-- What the rate limiter answers, by its parts. -/
theorem triple {a b : Bool} (p : Bool × Bool × State) (h : p.1 = a) (k : p.2.1 = b) : p = (a, b, p.2.2) := by
  subst h k; rfl

/-- A twin with the link to its partner active, in a state. -/
def twinned (x : Twin) : State :=
  { upQ (qWrite {} fFabric 33792 [1#8]) with twin := x, fabric := { stitch := { active := true } } }

/-- A stitch frame without a body. -/
def stitchFrame (seq kind : Nat) : Bytes :=
  let h := le 2 seq ++ zeros 2 ++ [BitVec.ofNat 8 kind] ++ zeros 7
  h ++ le 4 (crc32c (h ++ zeros 4)).toNat

/-- A key slot holding a key of its own identity. -/
def keyed (alg world master : Nat) : KeySlot :=
  { state := .loaded, alg := alg, world := world, lcsMask := 63, master := master, keyId := keyIdOf alg [] [] }

/-- A flock member whose flock key is in slot 0. -/
def flocked (x : Flock) : State :=
  { upQ (qWrite {} fFlock 2 [1#8]) with flock := x, keys := { lifeCycle := 2, slots := [(0, keyed 1 9 0xF004)] } }

/-! ### Well-formedness -/

/-- None of these commands is well formed. -/
def refusedAll (l : List Instr) : Bool := l.all fun i => !i.wf

/-- A line without errors. -/
def clean : LineErr := ⟨0, 0, 0, 0, false, false⟩

/-- A start with straps as they can be. -/
def straps : BootIn := ⟨0, 0, 0, 10000000, true, true, true, [], []⟩

/-- A record of an epoch for a channel. -/
def gnssRec (c : Nat) : GnssRec := ⟨c, 0, 0, 0, 0, 0, 0, 0, 0, none, none⟩

/-- An epoch with these records. -/
def epochOf (l : List GnssRec) : GnssEpoch := ⟨l, [], [], false, 0, 0, 0, [], 0, 0⟩

theorem test_wf_accepts :
    ([.devInfo (rq []), .switchPoint 1535 0, .rxLock 255, .portUp 511 0, .cellReceive 67 [] false, .keyUseRequest 511 0 0 0,
      .resetRelease straps, .registerWrite 4 8 1] : List Instr).all Instr.wf = true := by decide

theorem test_wf_requests :
    refusedAll [.devInfo { rq [] with ep := .qp 64 }, .devPing { rq [] with ep := .session 2 0 },
      .devPing { rq [] with ep := .session 0 128 }, .devBind { rq [] with ep := .fold 64 },
      .devBindRead { rq [] with ep := .forwarded 65536 }, .qirOpen { rq [] with port := 65536 },
      .qirSeal { rq [] with flags := 256 }, .qirSwap { rq [] with seq := 2 ^ 64 }, .drvSubmit { rq [] with notAfter := 2 ^ 64 },
      .spnRoute { rq [] with crc := 2 ^ 32 }, .heldCommandTimeout 65536 0, .heldCommandTimeout 0 (2 ^ 64),
      .commandReceipt (.qp 64) []] = true := by decide

theorem test_wf_request_length : (Instr.qirWrite (rq (zs 65505))).wf = false := by
  simp only [Instr.wf, Req.wf, rq, zs, List.length_map, List.length_replicate]
  decide

theorem test_wf_packet_length : (Instr.commandReceipt .safety (zeros 65537)).wf = false := by
  simp only [Instr.wf, zeros, List.length_replicate]
  decide

theorem test_wf_faults :
    refusedAll [.hardwareFault (.voted 0 3), .hardwareFault (.essence 1536 0 0 1), .hardwareFault (.essence 0 1536 0 1),
      .hardwareFault (.essenceBad 0 0 0 0), .hardwareFault (.rest 1536 1), .hardwareFault (.rest 0 0), .hardwareFault (.grant 1536),
      .hardwareFault (.grantBad 1536), .hardwareFault (.source 1280 0 0), .hardwareFault (.source 0 65536 0),
      .hardwareFault (.source 0 0 (2 ^ 32))] = true := by decide

theorem test_wf_spine :
    refusedAll [.switchPoint 1536 0, .lineWrite 1536 1 0 0 [] clean, .lineWrite 0 0 0 0 [] clean,
      .lineWrite 0 1 0 6615 [] clean, .lineWrite 0 1 0 0 [65536] clean, .lineWrite 0 1 0 0 [] ⟨2, 0, 0, 0, false, false⟩,
      .lineWrite 0 1 0 0 [] ⟨0, 2, 0, 0, false, false⟩, .lineWrite 0 1 0 0 [] ⟨0, 0, 3, 0, false, false⟩,
      .destinationLineRead 1536 0 1, .destinationLineRead 0 0 0, .sourceStateEvaluation 1536, .sourceFrameLoss 1536,
      .sourceEvaluationCycle 1536, .destFormatQuietPoint 1536, .destFormatComplete 1536, .droverEventApply (2 ^ 32)] = true := by
  decide

theorem test_wf_lanes :
    refusedAll [.rxLock 256, .rxAlign 256 0 0, .rxAlign 0 0 2, .rxLockLoss 256 0, .huntDwellExpiry 256, .gangDeskew 256 0,
      .ancPacketReceive 256 ⟨0, false, 0, 0, []⟩, .ancPacketReceive 0 ⟨0, false, 0, 0, [1024]⟩, .audioPacketDeembed 256 1 0 [],
      .audioPacketDeembed 0 0 0 [], .audioPacketDeembed 0 9 0 [], .audioPacketDeembed 0 1 0 [[0]], .audioGroupAbsent 256 1,
      .audioGroupAbsent 0 0, .audioGroupAbsent 0 9, .txLineStart 256 0 1 0, .txLineStart 0 0 0 0, .txRelockEnd 256,
      .prbsCheckerLock 256, .prbsCheckerUnlock 256 0] = true := by decide

theorem test_wf_ports :
    refusedAll [.portUp 64 0, .portDown 255 0, .frameReceive 512 ⟨zeros 14, true⟩, .frameReceive 0 ⟨zeros 13, true⟩, .pauseExpiry 64,
      .mediaPacketLateDrop 64, .frameTransmit 64, .hostFrameLaunch 64, .portWake 64 none, .portBringUpComplete 64] = true := by
  decide

theorem test_wf_fabric :
    refusedAll [.fabricSignalDetect 68, .trainingFrameReceive 68 false 0 0, .trainingFrameReceive 0 false 65536 0,
      .trainingFrameReceive 0 false 0 65536, .blockLock 68 0 0, .blockLock 0 68 0, .blockLockLoss 68, .capsReceive 68 [],
      .laneStateTimeout 68, .cellReceive 68 [] false] = true := by decide

theorem test_wf_memory :
    refusedAll [.dramTempPoll 4 [], .dramWckRetrain 32 0, .dramUncorrectableRead 32 0 .other,
      .dramUncorrectableRead 0 0 (.syncLine 0 0 0), .dramUncorrectableRead 0 0 (.layerLine 0 0 0 0),
      .dramUncorrectableRead 0 0 (.delay 7 0 0 1), .dramUncorrectableRead 0 0 (.delay 0 0 0 0),
      .dramUncorrectableRead 0 0 (.colophon 2 0), .dramGroupOut 4 0, .dramAccessRefused 4 0 0, .dramPatrolScrub 32 0,
      .dramAutoSelfRefresh 32, .dramSelfRefreshExit 32, .fsyOutputLine 0 0 0] = true := by decide

theorem test_wf_audio :
    refusedAll [.audioSamplePeriod 7 0 none, .audioChangeApply 7, .gainNativeTimeout 7 0, .gainRampEnd 7 0, .domfreeClockChange 4 0,
      .bridgeLock 256 true, .shepherdInsertFadeEnd 65536, .audioPortNoSignal 73, .aes3FrameSend 64 0,
      .aes3FrameReceive 64 0 ⟨false, 0, ⟨0, false, false, false, false⟩, ⟨0, false, false, false, false⟩⟩ none,
      .aes3FrameReceive 0 0 ⟨false, 0, ⟨8388608, false, false, false, false⟩, ⟨0, false, false, false, false⟩⟩ none,
      .aes3FrameReceive 0 0 ⟨false, 0, ⟨0, false, false, false, false⟩, ⟨-8388609, false, false, false, false⟩⟩ none,
      .tdmFrame 63 0 0 true [] none, .tdmFrame 72 0 0 true [] none] = true := by decide

theorem test_wf_layers :
    refusedAll [.layerOutputLine 64 0 1, .layerOutputLine 0 0 0, .layerFormatChangeStart 64, .layerFormatChangeEnd 64,
      .shepherdChangeApply 64] = true := by decide

theorem test_wf_time :
    refusedAll [.taiSecondEvaluation [(15, 0)], .referencePulse 15 0, .referenceActivityFault 15, .referenceHoldExpiry 15,
      .clockReferenceActivityRestored 15, .synthLockLoss 18, .synthRelock 18, .pulseOutputEdge 6 0,
      .gnssStreamCheck 4 0 0 false, .gnssStreamCheck 0 1 0 false, .channelAllocation [⟨4, 0, 0, 0⟩],
      .channelAllocation [⟨0, 0, 9001, 0⟩], .channelAllocation [⟨0, 0, -9001, 0⟩], .channelAllocation [⟨0, 0, 0, 36000⟩],
      .searchDwell 96 false, .channelPullinDone 96, .channelLockLoss 96, .reacqTimeout 96, .navMessageDecode 96 0 [],
      .navMessageDecode 0 0 (zeros 41), .measurementEpoch (epochOf [gnssRec 96]),
      .measurementEpoch (epochOf (List.replicate 97 (gnssRec 0)))] = true := by decide +kernel

theorem test_wf_control :
    refusedAll [.mgtFrameReceive 2 (.ack 0), .mgtFrameReceive 0 (.frame (zeros 13)), .mgtFrameReceive 0 (.connect 65536 true [] 0 0),
      .mgtFrameReceive 0 (.data 128 0 []), .mgtFrameReceive 0 (.ack 128), .mgtFrameReceive 0 (.close 128), .selftestRun 8 true,
      .flockMessageReceive 0 64 [] [], .keyUseRequest 512 0 0 0, .cryptoChunkBoundary [(6, 0, 0)], .evtPendWrite 40 0,
      .evtPendWrite 0 (2 ^ 32), .evtSummaryWrite (2 ^ 32), .evtBlkStatusRead 18, .rfcEventsWrite (2 ^ 32),
      .bootStatusWrite (2 ^ 32), .resetRelease { straps with bootSrc := 4 }, .resetRelease { straps with side := 2 },
      .resetRelease { straps with foldAddr := 64 }, .resetRelease { straps with fails := [(32, 0)] },
      .mboxFetchDone none [(32, 0)] []] = true := by decide

theorem test_wf_host :
    refusedAll [.hstDoorbell 64 0, .hstDoorbell 0 (2 ^ 32), .hstCqHead 64 0, .hstCqHead 0 (2 ^ 32), .submissionFetch 64 none none,
      .submissionFetch 0 (some (zeros 31)) none, .completionWrite 64, .hstQpCfgWrite 64 0, .hstQpCfgWrite 0 (2 ^ 32),
      .interruptModerationTimeout 64, .descriptorTailWrite (2 ^ 32), .receiveHeadWrite (2 ^ 32), .launchHeadWrite (2 ^ 32),
      .hstMboxGo (2 ^ 32), .registerWrite 1 0 0, .registerWrite 0 2 0, .registerWrite 0 0 (2 ^ 32), .debugMailboxWrite (2 ^ 32),
      .supplyUndervoltage 10 0, .supplyRestored [], .thermalThreshold []] = true := by decide

/-! ### The command queue -/

/-- The table spells no row by bits. -/
theorem test_table_word (n x : Nat) : decodeTableWord n x = none := rfl

/-- So nothing is put in front of the queue. -/
theorem test_fetch_word (s : State) (n x : Nat) : s.withFetchWord n x = s := rfl

/-- An idle step advances the time base by one increment. -/
theorem test_idle_step : (match step up with
    | .next t => t.tb.inc
    | _ => 0) = 1 := by decide +kernel

/-! ### Numbers the manual works out -/

/-- Chapter 00, reading header bytes: magic, version, flags, opcode and length of the eight bytes shown. -/
theorem test_header_bytes :
    let h : Bytes := [0x7A, 0x5E, 3, 8, 1, 3, 0x40, 0]
    rd h 0 2 = 0x5E7A ∧ rd h 2 1 = 3 ∧ bit (rd h 3 1) 3 = true ∧ rd h 4 2 = 0x0301 ∧ rd h 6 2 = 64 := by decide

/-- Chapter 02, locating a switch point: O = 8 and s = 7 put it 14 lines, 248,888 8/9 ns, into a 1080p50 frame; the
route due at 250 µs takes effect in the next frame, and the edge of line 7 is placed on step 199,111 of 1.25 ns. -/
theorem test_switch_point :
    9 * switchOffset {} 0x2260 = 2240000 * ticksPerNs ∧ edgeStep (switchOffset {} 0x2260) = 199111 ∧
      9 * switchAfter {} 0x2260 (1767225600000250000 * ticksPerNs) = (9 * 1767225600020000000 + 2240000) * ticksPerNs := by
  decide +kernel

/-- R283: the coefficient of −10.00 dB. -/
theorem test_gain : gainCoef (-1000) = 5305422 := by decide +kernel

/-- Chapter 11, one pixel of a picture-in-picture: chroma, blends and dither thresholds. -/
theorem test_pixel :
    let c (i : Nat) : Nat := [1600, 1616, 1648, 1680].getD (i - 35) 0
    chroma422 1920 c 72 = 1616 ∧ chroma422 1920 c 73 = 1631 ∧ blend1 2023 768 1200 = 1817 ∧ blend1 1624 768 2240 = 1778 ∧
      (List.range 4).map (fun i => ditherT (88361280000 + i) 4 100 60) = [0, 1, 2, 3] ∧
      (List.range 4).all (fun i => decide (8 ≤ ditherT i 4 101 60 ∧ ditherT i 4 101 60 ≤ 11)) = true ∧
      (List.range 4).all (fun i => decide (12 ≤ ditherT i 4 100 61)) = true ∧
      (List.range 4).all (fun i => decide (4 ≤ ditherT i 4 101 61 ∧ ditherT i 4 101 61 ≤ 7)) = true ∧
      outputSample 10 8 88361280000 100 60 1817 = 452 ∧ outputSample 10 8 88361280000 100 60 1778 = 444 := by decide

/-- Chapter 12, a rubidium holdover: the growth at 128,999.6 s and at 129,000.6 s, against 1,460 ns, in units of 10^-18 s. -/
theorem test_growth :
    growthOf 10000 20 10 (1289996 * ticksPerSec / 10) < 1460 * 1000000000 ∧
      1460 * 1000000000 < growthOf 10000 20 10 (1290006 * ticksPerSec / 10) := by decide +kernel

/-- Chapter 14, the same satellite found cold and aided: 2,046 by 85 cells, then 3 by 3. -/
theorem test_search :
    searchGrid 1 none none none 10000000 5000 = (2046, 85) ∧
      searchGrid 1 (some 150000) (some 1000) (some 10) 50000 10 = (3, 3) := by decide +kernel

/-! ### Witnesses: the spine -/

theorem witness_SpineCommands (h : Obligations.SpineCommands) :
    Runs (.spnRoute (rqAt (w 8 4000000 ++ w 2 1 ++ zs 6 ++ zs 8))) up ∧
    Runs (.spnRoute (rq (w 8 0 ++ w 2 1 ++ zs 6 ++ zs 8))) up ∧
    Runs (.spnRouteRead (rq (w 2 1535 ++ w 2 1))) up ∧
    Runs (.spnSourceStatus (rq (w 2 0 ++ w 2 1536))) up ∧
    Runs (.spnGrant (rq (w 2 1535 ++ [3, 0] ++ zs 44))) up ∧
    Runs (.spnGrant (rqAt (w 2 0 ++ [1, 0] ++ zs 4 ++ w 8 4000000 ++ zs 32))) up ∧
    Runs (.spnFallback (rq ([255, 7] ++ zs 2 ++ w 2 0xFFFF ++ zs 2))) up ∧
    Runs (.spnCounters (rq ([1, 0] ++ w 2 1280 ++ w 2 256 ++ zs 2))) up ∧
    Runs (.spnStore (rq [])) up :=
  ⟨⟨_, (h _ up).1 ⟨rfl, rfl, rfl⟩ rfl (by decide) (by decide) (by decide) rfl rfl (by decide) (by decide) rfl⟩,
   ⟨_, (h _ up).2.1 ⟨rfl, rfl, rfl⟩ rfl (by decide) (by decide) (by decide) rfl rfl rfl (by decide) rfl⟩,
   ⟨_, (h _ up).2.2.1 ⟨rfl, rfl, rfl⟩ rfl (by decide) (by decide) (by decide)⟩,
   ⟨_, (h _ up).2.2.2.1 ⟨rfl, rfl, rfl⟩ rfl (by decide) (by decide) (by decide)⟩,
   ⟨_, ((h _ up).2.2.2.2.1 ⟨rfl, rfl, rfl⟩ rfl (by decide) (by decide) (by decide) rfl rfl rfl).1 rfl rfl⟩,
   ⟨_, ((h _ up).2.2.2.2.1 ⟨rfl, rfl, rfl⟩ rfl (by decide) (by decide) (by decide) rfl rfl rfl).2 rfl (by decide) rfl⟩,
   ⟨_, (h _ up).2.2.2.2.2.1 ⟨rfl, rfl, rfl⟩ rfl (by decide) rfl rfl rfl (Or.inl rfl)⟩,
   ⟨_, (h _ up).2.2.2.2.2.2.1 _ rfl ⟨rfl, rfl, rfl⟩ rfl (by decide) (by decide) (by decide) (by decide) (by decide) (by decide) rfl⟩,
   ⟨_, (h _ up).2.2.2.2.2.2.2 ⟨rfl, rfl, rfl⟩ rfl⟩⟩

theorem witness_SwitchPointDecision (h : Obligations.SwitchPointDecision) :
    Runs (.switchPoint 0 9) (routed 0 .valid) ∧
    Runs (.switchPoint 0 9) (routed 0 .valid) ∧
    (permitted (routed 0 .valid) (routed 0 .valid).quire.active 0 1 = true ∧ penEnabled (routed 0 .valid).quire.active (srcPen (routed 0 .valid).quire.active 1) = true ∧ (srcSlot (routed 0 .valid) 1).state = .valid ∧ formatNow (routed 0 .valid) 1 = dstFormat (routed 0 .valid).quire.active 0) ∧
    ((srcSlot (routed 1 .lost) 1).state ≠ .valid ∧ dstLoss (routed 1 .lost).quire.active 0 = 1) ∧
    (permitted up up.quire.active 1 1 = false ∧ dstEnabled up.quire.active 0 = false) :=
  ⟨⟨_, (h 0 9 (routed 0 .valid) rfl).1 _ rfl (by decide +kernel)⟩,
   ((h 0 9 (routed 0 .valid) rfl).2 rfl rfl (by decide +kernel)).elim fun _ q => ⟨_, q.1⟩,
   (by decide),
   (by decide),
   (by decide)⟩

theorem witness_DestinationLines (h : Obligations.DestinationLines) :
    Runs (.destinationLineRead 0 0 42) (upQ (qWrite {} fDests 0 (le 2 0x2260))) ∧
    Runs (.destinationLineRead 0 0 42) (shown [⟨0, 42, [5], false⟩]) ∧
    Runs (.destinationLineRead 0 0 42) (shown [⟨0, 42, [5], true⟩]) ∧
    Runs (.destinationLineRead 0 0 1121) (shown []) :=
  ⟨⟨_, (h 0 0 42 (upQ (qWrite {} fDests 0 (le 2 0x2260))) 0x2260 rfl (by decide)).1 rfl⟩,
   ⟨_, (h 0 0 42 (shown [⟨0, 42, [5], false⟩]) 0x2260 rfl (by decide)).2 1 ⟨false, false, false, [5]⟩ _ _ false rfl rfl rfl (by decide) rfl rfl (by intro e he _; obtain rfl := Option.some.inj (show some (⟨0, 42, [5], false⟩ : RingEntry) = some e from he); rfl) (by intro e he hb; obtain rfl := Option.some.inj (show some (⟨0, 42, [5], false⟩ : RingEntry) = some e from he); cases hb) nofun rfl (fun _ => rfl) nofun⟩,
   ⟨_, (h 0 0 42 (shown [⟨0, 42, [5], true⟩]) 0x2260 rfl (by decide)).2 1 ⟨true, true, true, blackLine 0x2260⟩ _ _ false rfl rfl rfl (by decide) rfl rfl (by intro e he hb; obtain rfl := Option.some.inj (show some (⟨0, 42, [5], true⟩ : RingEntry) = some e from he); cases hb) (by intro e _ _; rfl) nofun rfl nofun (fun _ => rfl)⟩,
   ⟨_, (h 0 0 1121 (shown []) 0x2260 rfl (by decide)).2 1 ⟨true, true, false, blackLine 0x2260⟩ _ _ true rfl rfl rfl (by decide) rfl rfl nofun nofun (fun _ => rfl) rfl (fun _ => rfl) nofun⟩⟩

theorem witness_SourceSlots (h : Obligations.SourceSlots) :
    Runs (.lineWrite 1 42 0x2260 6614 [] ⟨0, 0, 0, 0, false, false⟩) (bindSrc 2) ∧
    Runs (.lineWrite 1 42 0x2260 6614 [] ⟨0, 0, 0, 0, false, false⟩) (routed 0 .valid) ∧
    Runs (.lineWrite 1 42 0x2260 6614 [] ⟨0, 0, 0, 0, false, false⟩) ({ bindSrc 1 with lanes := [(0, { rx := 4 })] }) ∧
    Runs (.lineWrite 1 42 0x2260 6614 [] ⟨0, 0, 0, 0, false, false⟩) (bindSrc 1) ∧
    ((srcSlot (writeSlot 1 42 0x2260 0 [7] (routed 0 .valid)) 1).ring.getLast? = some ⟨frameCount 0x2260 42 0, 42, [7], false⟩) ∧
    Runs (.sourceStateEvaluation 1) (routed 0 .acquiring) ∧
    Runs (.sourceStateEvaluation 1) autoSrc ∧
    Runs (.sourceEvaluationCycle 1) autoSrc ∧
    Runs (.sourceFrameLoss 1) ({ routed 0 .valid with tb := { sec := 1 } }) ∧
    Runs (.sourceEvaluationCycle 1) opaqueSrc ∧
    Runs (.switchPoint 0 9) disowned :=
  ⟨⟨_, (h 1 (bindSrc 2)).1 42 0x2260 6614 [] _ (by decide +kernel) rfl rfl⟩,
   ⟨_, (h 1 (routed 0 .valid)).2.1 42 0x2260 6614 [] _ rfl⟩,
   ⟨_, ((h 1 { bindSrc 1 with lanes := [(0, { rx := 4 })] }).2.2.1 0 42 0x2260 6614 [] _ (by decide +kernel) rfl (by decide)).1 rfl⟩,
   ⟨_, ((h 1 (bindSrc 1)).2.2.1 0 42 0x2260 6614 [] _ (by decide +kernel) rfl (by decide)).2 (by decide)⟩,
   (h 1 (routed 0 .valid)).2.2.2.1 42 0x2260 0 [7] rfl rfl rfl rfl,
   ⟨_, ((h 1 (routed 0 .acquiring)).2.2.2.2.1 rfl rfl).1 (Or.inl rfl)⟩,
   ⟨_, (((h 1 autoSrc).2.2.2.2.1 rfl rfl).2 rfl rfl).1⟩,
   ⟨_, (((h 1 autoSrc).2.2.2.2.1 rfl rfl).2 rfl rfl).2 rfl⟩,
   ⟨_, (h 1 { routed 0 .valid with tb := { sec := 1 } }).2.2.2.2.2.1 rfl⟩,
   ⟨_, (h 1 opaqueSrc).2.2.2.2.2.2.1 rfl rfl rfl rfl rfl (by decide)⟩,
   ((h 1 disowned).2.2.2.2.2.2.2 0 9 (by decide) rfl rfl rfl (by decide +kernel)).elim fun _ q => ⟨_, q.1⟩⟩

theorem witness_SpineProtection (h : Obligations.SpineProtection) :
    (∃ t, exec (.hardwareFault (.grantBad 0)) up = .next t ∧ permitted t {} 1 0 = false) ∧
    Runs (.hardwareFault (.fallbackBad 0 0)) up ∧
    Runs (.hardwareFault (.essenceBad 1 0x2260 0 42)) (shown [⟨0, 42, [5], false⟩]) :=
  ⟨(h up).2.2.2.2.2.2.1 0 {} 1 (by decide),
   ((h up).2.2.2.2.2.2.2.1 0 0 (qWrite {} fPens 8 (le 2 0x2260 ++ le 2 5)) 0x2260 (by decide) rfl (by decide)).elim fun _ q => ⟨_, q.1⟩,
   ((h (shown [⟨0, 42, [5], false⟩])).2.2.2.2.2.2.2.2 1 0x2260 0 42 (by decide)).elim fun _ q => ⟨_, q.1⟩⟩

/-! ### Witnesses: quires and the drover -/

/-- The device with a shadow quire in a state, and its digest. -/
def shadowed (st : ShadowState) (dg : Option Bytes) : State :=  { up with quire := { shadowState := st, shadowDigest := dg } }

/-- A queued event of port ROOT, sequence 1: its kind, flags and time. -/
def ev (kind time : Nat) (sched : Bool) : DrvEvent :=  ⟨time, kind, 0, 0, 0, 0, zeros 32, portRoot, 1, 0, 1, sched, false, false, zeros 48, 0, some 0⟩

/-- A ROUTE of destination 0 to source 1 that is not scheduled. -/
def late : DrvEvent := { ev kRoute 0 false with payload := [1#8, 0#8] }

/-- A staging item of a folio, in a state. -/
def item (folio : Nat) (st : ItemState) : StageItem := ⟨3, folio, 0, st, 0, 0, 5292, 0⟩

theorem witness_QuireCommands (h : Obligations.QuireCommands) :
    Runs (.qirOpen (rq ([1] ++ zs 7))) up ∧
    Runs (.qirWrite (rq ([21, 1, 0, 0] ++ w 4 134217727 ++ zs 8 ++ [9]))) (shadowed .opened none) ∧
    Runs (.qirSwap (rqAt (w 8 4000000 ++ zs 64))) (shadowed .sealed (some (zeros 48))) ∧
    Runs (.qirWrite (rq ([3, 2, 0, 0] ++ zs 12))) (shadowed .opened none) ∧
    Runs (.qirStatus (rq [])) up ∧
    Runs (.qirRead (rq ([0, 1, 0, 0] ++ w 4 24575 ++ w 4 65504))) up ∧
    Runs (.qirDiscard (rq [])) (shadowed .sealed none) ∧
    Runs (.qirStageRead (rq (w 2 0 ++ w 2 512))) up :=
  ⟨⟨_, (h _ up).1 ⟨rfl, rfl, rfl⟩ rfl (by decide) rfl (by decide)⟩,
   ⟨_, (h _ (shadowed .opened none)).2.1 ⟨rfl, rfl, rfl⟩ (by decide) (by decide) (by decide) rfl rfl (by decide) rfl rfl (by decide)⟩,
   ((h (rqAt (w 8 4000000 ++ zs 64)) (shadowed .sealed (some (zeros 48)))).2.2.2.2.1 ⟨rfl, rfl, rfl⟩ rfl rfl rfl (by decide) rfl (by simp [swapRefusal, shadowed, needsStaging_self, pendingSwap, up, begun, unwait, setPort, stagingNow, rqAt]; decide) rfl).elim fun _ q => ⟨_, q.1⟩,
   ⟨_, (h _ (shadowed .opened none)).2.2.1 ⟨rfl, rfl, rfl⟩ rfl (by decide) (by decide) rfl rfl rfl (by decide) rfl (by decide) [] rfl rfl⟩,
   ⟨_, (h _ up).2.2.2.2.2.1 ⟨rfl, rfl, rfl⟩ rfl⟩,
   ⟨_, (h _ up).2.2.2.2.2.2.1 ⟨rfl, rfl, rfl⟩ rfl rfl (by decide) (by decide) rfl (by decide) (by decide)⟩,
   ⟨_, (h _ (shadowed .sealed none)).2.2.2.2.2.2.2.1 ⟨rfl, rfl, rfl⟩ rfl (by decide)⟩,
   ⟨_, (h _ up).2.2.2.2.2.2.2.2 ⟨rfl, rfl, rfl⟩ rfl (by decide) (by decide)⟩⟩

theorem witness_QuireSwap (h : Obligations.QuireSwap) :
    Runs .quireSwapApply ({ up with drv := { queue := [ev kSwap 0 false] } }) ∧
    Runs .quireSwapApply ({ shadowed .locked (some (zeros 48)) with drv := { queue := [ev kSwap 0 false] } }) ∧
    Runs .swapComplete ({ up with quire := { swapping := some ⟨ev kSwap 0 false, {}, 0, []⟩ } }) ∧
    Runs .quireDigestDone (shadowed .locked none) :=
  ⟨(((h { up with drv := { queue := [ev kSwap 0 false] } }).1 (ev kSwap 0 false) 0 rfl (by decide +kernel) (by decide +kernel)).2 (Or.inr (Or.inl (by simp [up])))).elim fun _ q => ⟨_, q.1⟩,
   (((h { shadowed .locked (some (zeros 48)) with drv := { queue := [ev kSwap 0 false] } }).1 (ev kSwap 0 false) 0 rfl (by decide +kernel) (by decide +kernel)).1 (by decide) rfl (Or.inr (needsStaging_self _)) (by decide) (protectedFault_none _ _ rfl rfl)).elim fun _ q => ⟨_, q.1⟩,
   ⟨_, (h { up with quire := { swapping := some ⟨ev kSwap 0 false, {}, 0, []⟩ } }).2.1 ⟨ev kSwap 0 false, {}, 0, []⟩ _ rfl (by simp [swapDone, quireDiffs_self]) rfl⟩,
   ⟨_, (h (shadowed .locked none)).2.2 rfl rfl rfl⟩⟩

theorem witness_StagedItems (h : Obligations.StagedItems) :
    Runs (.stagedItemStart 0) ({ up with quire := { staging := [item 11 .waiting] } }) ∧
    Runs (.stagedItemStart 0) ({ upQ {} with quire := { target := qWrite {} fSources 0 (le 2 0xFE00 ++ zeros 5 ++ [1#8, 0#8, 0xFF#8, 1#8]), staging := [item 1 .waiting] } }) ∧
    Runs (.stagedItemComplete 0) ({ up with quire := { staging := [item 3 .inProgress] } }) ∧
    Runs (.stagedItemTimeout 0) ({ up with tb := { inc := 1 }, quire := { staging := [item 3 .inProgress] } }) ∧
    Runs (.destFormatQuietPoint 0) ({ up with quire := { staging := [item 2 .inProgress] } }) ∧
    Runs (.destFormatQuietPoint 0) ({ upQ (qUpsert {} fBindings 0x8000 (le 2 0x8000 ++ [1#8] ++ zeros 5)) with quire := { active := qUpsert {} fBindings 0x8000 (le 2 0x8000 ++ [1#8] ++ zeros 5), staging := [item 2 .inProgress] } }) ∧
    Runs (.destFormatComplete 0) ({ routed 0 .valid with quire := { active := (routed 0 .valid).quire.active, target := (routed 0 .valid).quire.active, staging := [item 2 .inProgress] }, spine := { dst := [(0, { transit := true })] } }) :=
  ⟨⟨_, ((h 0 (item 11 .waiting) { up with quire := { staging := [item 11 .waiting] } } rfl rfl).1 (by decide +kernel) (by decide +kernel) _ rfl).1 (startDram 0 (setItem 0 (fun y => { y with state := .inProgress, started := 0 }) { up with quire := { staging := [item 11 .waiting] } })) rfl⟩,
   ⟨_, ((h 0 (item 1 .waiting) { upQ {} with quire := { target := qWrite {} fSources 0 (le 2 0xFE00 ++ zeros 5 ++ [1#8, 0#8, 0xFF#8, 1#8]), staging := [item 1 .waiting] } } rfl rfl).1 (by decide +kernel) (by decide +kernel) _ rfl).2 (by decide +kernel)⟩,
   ⟨_, (h 0 (item 3 .inProgress) { up with quire := { staging := [item 3 .inProgress] } } rfl rfl).2.1 _ rfl rfl rfl (by decide +kernel)⟩,
   ((h 0 (item 3 .inProgress) { up with tb := { inc := 1 }, quire := { staging := [item 3 .inProgress] } } rfl rfl).2.2.1 rfl (by decide +kernel) 0 rfl (by decide +kernel)).elim fun _ q => ⟨_, q.1⟩,
   ⟨_, ((h 0 (item 2 .inProgress) { up with quire := { staging := [item 2 .inProgress] } } rfl rfl).2.2.2.1 0 rfl rfl).2 (by decide +kernel)⟩,
   ⟨_, ((h 0 (item 2 .inProgress) { upQ (qUpsert {} fBindings 0x8000 (le 2 0x8000 ++ [1#8] ++ zeros 5)) with quire := { active := qUpsert {} fBindings 0x8000 (le 2 0x8000 ++ [1#8] ++ zeros 5), staging := [item 2 .inProgress] } } rfl rfl).2.2.2.1 0 rfl rfl).1 (by decide +kernel)⟩,
   ⟨_, (h 0 (item 2 .inProgress) { routed 0 .valid with quire := { active := (routed 0 .valid).quire.active, target := (routed 0 .valid).quire.active, staging := [item 2 .inProgress] }, spine := { dst := [(0, { transit := true })] } } rfl rfl).2.2.2.2 0 _ rfl rfl rfl (by decide +kernel) (by decide +kernel)⟩⟩

theorem witness_DroverCommands (h : Obligations.DroverCommands) :
    Runs (.drvSubmit (rq (zs 8 ++ [0x7F] ++ zs 55))) up ∧
    Runs (.drvSubmit (rqAt (w 8 604800000000000 ++ [0x7F] ++ zs 55))) up ∧
    Runs (.drvCancel (rq (w 2 0x100 ++ w 2 0xFFFF ++ zs 4 ++ w 8 1))) ({ up with drv := { queue := [ev kMarker (2 * ticksPerMs) true] } }) ∧
    Runs (.drvQueueRead (rq (zs 8 ++ w 4 512))) up ∧
    Runs (.drvResults (rq (zs 4 ++ w 2 1 ++ zs 2))) up ∧
    Runs (.drvStatus (rq [])) up :=
  ⟨⟨_, (h (rq (zs 8 ++ [0x7F] ++ zs 55)) up).1 _ _ _ _ rfl rfl rfl ⟨rfl, rfl, rfl⟩ rfl rfl (by decide +kernel) rfl rfl rfl (by decide +kernel) rfl (by decide +kernel) (by decide +kernel) (by decide +kernel) rfl rfl rfl⟩,
   ⟨_, (h (rqAt (w 8 604800000000000 ++ [0x7F] ++ zs 55)) up).1 _ _ _ _ rfl rfl rfl ⟨rfl, rfl, rfl⟩ rfl rfl (by decide +kernel) rfl rfl rfl (by decide +kernel) rfl (by decide +kernel) (by decide +kernel) (by decide +kernel) rfl rfl rfl⟩,
   ⟨_, (h (rq (w 2 0x100 ++ w 2 0xFFFF ++ zs 4 ++ w 8 1)) { up with drv := { queue := [ev kMarker (2 * ticksPerMs) true] } }).2.1 _ _ _ _ ⟨rfl, rfl, rfl⟩ rfl rfl (Or.inl rfl) rfl (by decide +kernel) rfl rfl rfl⟩,
   ⟨_, (h _ up).2.2.1 ⟨rfl, rfl, rfl⟩ rfl (by decide +kernel) rfl (by decide +kernel) (by decide +kernel)⟩,
   ⟨_, (h _ up).2.2.2.1 ⟨rfl, rfl, rfl⟩ rfl (by decide +kernel) (by decide +kernel) rfl⟩,
   ⟨_, (h _ up).2.2.2.2 ⟨rfl, rfl, rfl⟩ rfl⟩⟩

theorem witness_EventApplied (h : Obligations.EventApplied) :
    Runs (.droverEventApply 1) ({ up with drv := { queue := [ev kMarker 0 true] } }) ∧
    Runs (.droverEventApply 1) ({ up with drv := { queue := [ev kMarker 0 true] } }) ∧
    (applyEvent (ev kMarker 0 true) 0 { up with drv := { queue := [ev kMarker 0 true], fenced := true } } = ({ up with drv := { queue := [ev kMarker 0 true], fenced := true } }, stFenced, false)) ∧
    ((applyEvent late (destPoint { routed 0 .valid with drv := { queue := [late] }, tb := { sec := 1 } } 0 1 0) { routed 0 .valid with drv := { queue := [late] }, tb := { sec := 1 } }).2 = (stOk, false)) :=
  ⟨⟨_, (h (ev kMarker 0 true) 0 { up with drv := { queue := [ev kMarker 0 true] } } (show _ by decide +kernel) (by decide +kernel) (by decide +kernel) (by decide +kernel) (show _ by decide +kernel)).1⟩,
   ⟨_, (h (ev kMarker 0 true) 0 { up with drv := { queue := [ev kMarker 0 true] } } (show _ by decide +kernel) (by decide +kernel) (by decide +kernel) (by decide +kernel) (show _ by decide +kernel)).2.1 (by decide +kernel) (by decide +kernel)⟩,
   (h (ev kMarker 0 true) 0 { up with drv := { queue := [ev kMarker 0 true], fenced := true } } (show _ by decide +kernel) (by decide +kernel) (by decide +kernel) (by decide +kernel) (show _ by decide +kernel)).2.2.1 rfl rfl,
   congrArg Prod.snd ((h late (destPoint { routed 0 .valid with drv := { queue := [late] }, tb := { sec := 1 } } 0 1 0) { routed 0 .valid with drv := { queue := [late] }, tb := { sec := 1 } } (show _ by decide +kernel) (by decide +kernel) (by decide +kernel) (by decide +kernel) (show _ by decide +kernel)).2.2.2 rfl (by decide +kernel) rfl (by decide +kernel) (by decide +kernel))⟩

/-! ### Witnesses: commands, ports and media lanes -/

theorem witness_CommandAdmission (h : Obligations.CommandAdmission) :
    Runs (.devPing (rq [])) State.reset ∧
    Runs (.spnStore { rq [] with port := 0x7F00 }) up ∧
    Runs (.timSet { rq [] with flags := 16 }) up :=
  ⟨⟨_, (h (.devPing (rq [])) 0x0102 (rq []) (State.reset) rfl).1 rfl⟩,
   ⟨_, (h (.spnStore { rq [] with port := 0x7F00 }) 0x0407 { rq [] with port := 0x7F00 } up rfl).2 rfl rfl stLifecycle 2 rfl⟩,
   ⟨_, (h (.timSet { rq [] with flags := 16 }) 0x0D06 { rq [] with flags := 16 } up rfl).2 rfl rfl stBadParam 0x8003 rfl⟩⟩

theorem witness_CommandEnds (h : Obligations.CommandEnds) :
    ((answered 0x0102 (rq []) (okay (begun 0x0102 (rq []) up) [])).out = [.reply (mkReply (begun 0x0102 (rq []) up) 0x0102 (rq []) stOk 0 [])] ∧ Out.reply (mkReply (begun 0x0102 (rq []) up) 0x0102 (rq []) stOk 0 []) ∈ (answered 0x0102 (rq []) (okay (begun 0x0102 (rq []) up) [])).out) ∧
    ((rowOf 0x0404).c = true ∧ holdsReplies { upQ (qWrite {} fFabric 33792 [1#8]) with twin := { role := .holder }, fabric := { stitch := { active := true } } } = true) ∧
    (∀ e ∈ (portOf (answered 0x0102 (rq []) (okay (begun 0x0102 (rq []) up) [])) portRoot).held, e.complete = true) :=
  ⟨⟨(by decide +kernel), (h 0x0102 (rq []) (okay (begun 0x0102 (rq []) up) []) rfl rfl).2.2.1 (.inl rfl) rfl⟩,
   (by decide +kernel),
   fun e m => ((h 0x0102 (rq []) (okay (begun 0x0102 (rq []) up) []) rfl rfl).2.1 e m (by revert e; decide +kernel)).1⟩

theorem witness_CommandReceived (h : Obligations.CommandReceived) :
    Runs (.commandReceipt .safety []) up ∧
    Runs (.commandReceipt .debug ((packet 0x0102 1).take 31)) up ∧
    Runs (.commandReceipt .safety ((packet 0x0102 1).take 28 ++ zeros 4)) (upQ (qWrite {} fMgmt 2 [1#8])) ∧
    Runs (.commandReceipt (.session 0 0) (packet 0x0102 1)) up ∧
    Runs (.commandReceipt .debug (packet 0x0102 1)) up ∧
    Runs (.commandReceipt .debug (packet 0x0102 1)) ({ up with cmds := { ports := [(portDebug, { floor := 1 })] } }) ∧
    Runs (.commandReceipt .debug (packet 0x0102 1)) ({ up with cmds := { ports := [(portDebug, { held := [⟨1, 0x0102, packetCrc (packet 0x0102 1), false, false, 0, 0, []⟩] })] } }) :=
  ⟨⟨_, (h .safety [] up rfl (fun n => by simp)).1 (.inl (by decide +kernel))⟩,
   ⟨_, (h .debug ((packet 0x0102 1).take 31) up rfl (fun n => by simp)).1 (.inr (.inr (by decide +kernel)))⟩,
   ⟨_, ((h .safety ((packet 0x0102 1).take 28 ++ zeros 4) (upQ (qWrite {} fMgmt 2 [1#8])) rfl (fun n => by simp)).2 (by decide +kernel) (by decide +kernel) (by decide +kernel)).1 0x101 (by decide +kernel) (by decide +kernel)⟩,
   ⟨_, ((h (.session 0 0) (packet 0x0102 1) up rfl (fun n => by simp)).2 (by decide +kernel) (by decide +kernel) (by decide +kernel)).2 (by decide +kernel) _ rfl |>.1 rfl⟩,
   ⟨_, ((((((h .debug (packet 0x0102 1) up rfl (fun n => by simp)).2 (by decide +kernel) (by decide +kernel) (by decide +kernel)).2 (by decide +kernel) _ rfl).2 portDebug (show _ by decide +kernel) (by decide +kernel) (by decide +kernel) (by decide +kernel) (show _ by decide +kernel) (by decide +kernel) (by decide +kernel)).2 (by decide +kernel) (by decide +kernel)).2 (by decide +kernel) (by decide +kernel) (by decide +kernel) (by decide +kernel))⟩,
   ⟨_, ((((((h .debug (packet 0x0102 1) ({ up with cmds := { ports := [(portDebug, { floor := 1 })] } }) rfl (fun n => by simp)).2 (by decide +kernel) (by decide +kernel) (by decide +kernel)).2 (by decide +kernel) _ rfl).2 portDebug (show _ by decide +kernel) (by decide +kernel) (by decide +kernel) (by decide +kernel) (show _ by decide +kernel) (by decide +kernel) (by decide +kernel)).2 (by decide +kernel) (by decide +kernel)).1 (by decide +kernel))⟩,
   ⟨_, (((((h .debug (packet 0x0102 1) ({ up with cmds := { ports := [(portDebug, { held := [⟨1, 0x0102, packetCrc (packet 0x0102 1), false, false, 0, 0, []⟩] })] } }) rfl (fun n => by simp)).2 (by decide +kernel) (by decide +kernel) (by decide +kernel)).2 (by decide +kernel) _ rfl).2 portDebug (show _ by decide +kernel) (by decide +kernel) (by decide +kernel) (by decide +kernel) (show _ by decide +kernel) (by decide +kernel) (by decide +kernel)).1 _ rfl rfl (by decide +kernel)).1 rfl⟩⟩

theorem witness_HeldSet (h : Obligations.HeldSet) :
    (⟨2, 0, 0, false, false, 0, 0, []⟩ ∈ (heldStart ⟨2, 0, 0, false, false, 0, 0, []⟩ { held := List.replicate 64 ⟨1, 0, 0, true, false, 0, 0, []⟩ }).held) :=
  (h ⟨2, 0, 0, false, false, 0, 0, []⟩ { held := List.replicate 64 ⟨1, 0, 0, true, false, 0, 0, []⟩ } (by decide +kernel) rfl).2.1

theorem witness_DeviceCommands (h : Obligations.DeviceCommands) :
    Runs (.devInfo (rq [])) up ∧
    Runs (.devPing (rq (zs 256))) up ∧
    Runs (.devPortState (rq [])) up ∧
    Runs (.devBind (rq ([63, 1, 0, 1] ++ zs 4))) up ∧
    Runs (.devBindRead (rq [])) up ∧
    Runs (.safetyUartFrame [9#8]) up ∧
    (exec (.safetyUartFrame (33#8 :: List.replicate 32 1#8)) up = exec (.commandReceipt .safety (List.replicate 32 1#8)) up) ∧
    Runs (.heldCommandTimeout portRoot 1) ({ up with tb := { inc := 1200000 }, twin := { role := .standby }, cmds := { waiting := [⟨0x0102, rq []⟩] } }) :=
  ⟨⟨_, (h _ up).1 ⟨rfl, rfl, rfl⟩ rfl⟩,
   ⟨_, (h _ up).2.1 ⟨rfl, rfl, rfl⟩ (by decide +kernel)⟩,
   ⟨_, (h _ up).2.2.1 ⟨rfl, rfl, rfl⟩ rfl⟩,
   ⟨_, (h _ up).2.2.2.1 ⟨rfl, rfl, rfl⟩ rfl (by decide +kernel) (by decide +kernel) (by decide +kernel) rfl rfl⟩,
   ⟨_, (h _ up).2.2.2.2.1 ⟨rfl, rfl, rfl⟩ rfl⟩,
   ⟨_, (h (rq []) up).2.2.2.2.2.1 [9#8] (by decide +kernel)⟩,
   (h (rq []) up).2.2.2.2.2.2.1 _ _ (by decide +kernel) (by decide +kernel),
   ⟨_, (h (rq []) ({ up with tb := { inc := 1200000 }, twin := { role := .standby }, cmds := { waiting := [⟨0x0102, rq []⟩] } })).2.2.2.2.2.2.2 ⟨0x0102, rq []⟩ (by decide +kernel) rfl rfl (by decide +kernel)⟩⟩

theorem witness_LaneCommands (h : Obligations.LaneCommands) :
    Runs (.lanStatus (rq (w 2 255 ++ w 2 1))) up ∧
    Runs (.lanCounters (rq ([0, 0] ++ w 2 0 ++ w 2 256))) up ∧
    Runs (.lanEq (rq (w 2 255 ++ zs 14))) up ∧
    (∃ t, ∃ p, exec (.lanEq (rq (w 2 0 ++ [1, 0, 16, 2, 15, 8, 12] ++ zs 7))) up = .next (answered 0x0503 (rq (w 2 0 ++ [1, 0, 16, 2, 15, 8, 12] ++ zs 7)) (okay t p))) ∧
    Runs (.lanPrbs (rq (w 2 255 ++ [2, 5, 0x16, 0, 0, 0]))) up ∧
    ((laneAt (prbsApply 255 2 5 3 0 0 up) 255).rx = 5) ∧
    Runs (.lanEye (rq (w 2 0 ++ [12, 0]))) (laned 0 { rx := 4 }) :=
  ⟨⟨_, (h _ up).1 ⟨rfl, rfl, rfl⟩ rfl (by decide +kernel) (by decide +kernel) (by decide +kernel)⟩,
   ⟨_, (h _ up).2.1 ⟨rfl, rfl, rfl⟩ rfl (by decide +kernel) rfl (by decide +kernel) (by decide +kernel) (by decide +kernel)⟩,
   (((h (rq (w 2 255 ++ zs 14)) up).2.2.1 ⟨rfl, rfl, rfl⟩ rfl (by decide +kernel) rfl rfl _ _ rfl rfl).1 rfl).elim fun _ q => ⟨_, q⟩,
   ((h (rq (w 2 0 ++ [1, 0, 16, 2, 15, 8, 12] ++ zs 7)) up).2.2.1 ⟨rfl, rfl, rfl⟩ rfl (by decide +kernel) rfl rfl _ _ rfl rfl).2 rfl (by decide +kernel) |>.imp fun _ q => q.1,
   ⟨_, (h _ up).2.2.2.1 _ _ _ _ rfl rfl rfl rfl ⟨rfl, rfl, rfl⟩ rfl (by decide +kernel) (by decide +kernel) (Or.inr ⟨by decide +kernel, by decide +kernel, by decide +kernel, Or.inl (by decide +kernel)⟩) (by decide +kernel) (by decide +kernel) (by decide +kernel)⟩,
   ((h (rq []) up).2.2.2.2.1 255 5 3 (by decide +kernel) rfl).elim fun _ q => q.1 ▸ q.2.1,
   ((h (rq (w 2 0 ++ [12, 0])) (laned 0 { rx := 4 })).2.2.2.2.2 ⟨rfl, rfl, rfl⟩ rfl (by decide +kernel) (by decide +kernel) (by decide +kernel) rfl (by decide +kernel) (by decide +kernel)).elim fun _ q => q.elim fun _ q => ⟨_, q⟩⟩

theorem witness_LaneEvents (h : Obligations.LaneEvents) :
    Runs (.rxLock 0) (laned 0 { rx := 1 }) ∧
    Runs (.rxAlign 0 0x2260 0) (laned 0 { rx := 2 }) ∧
    Runs (.rxLockLoss 0 true) (laned 0 { rx := 4 }) ∧
    Runs (.huntDwellExpiry 0) ({ upQ (qWrite {} fLanes 0 [2#8]) with tb := { inc := 1600000 }, lanes := [(0, { rx := 1 })] }) ∧
    Runs (.gangDeskew 0 8000) ({ upQ (qWrite {} fLanes 4 [1#8]) with lanes := [(0, { rx := 3 }), (1, { rx := 4 })] }) ∧
    Runs (.ancPacketReceive 0 ⟨1, false, 0, 0, []⟩) (laned 0 { rx := 4 }) ∧
    Runs (.ancPacketReceive 0 ⟨1, false, 0, 0, [0x1F4, 0x200, 0x200, 0x1F4]⟩) (laned 0 { rx := 4, rxRate := 1 }) ∧
    Runs (.ancPacketReceive 0 ⟨1, false, 0, 0, [0x241, 0x205, 0x200, 0x246]⟩) ({ upQ (qWrite (bindSrc 1).quire.active fSources 16 (le 2 0x2260 ++ zeros 3 ++ [1#8] ++ zeros 1 ++ [1#8])) with lanes := [(0, { rx := 4, rxRate := 3 })] }) ∧
    Runs (.audioPacketDeembed 0 4 0 [[1, 2, 3, 4]]) ({ upQ (qWrite {} fLanes 7 [4#8, 0#8, 0#8, 16#8]) with lanes := [(0, { rx := 4, rxRate := 3 })] }) ∧
    Runs (.audioGroupAbsent 0 1) ({ upQ (qWrite {} fLanes 7 [4#8, 0#8, 0#8, 16#8]) with tb := { inc := 1600000 } }) ∧
    Runs (.txLineStart 0 0 42 0) ({ upQ (qWrite (qWrite (qUpsert {} fBindings 0x8000 (le 2 0x8000 ++ [1#8] ++ zeros 5)) fDests 0 (le 2 0x2260 ++ le 2 1 ++ zeros 2 ++ [1#8])) fLanes 0 [0#8, 1#8]) with lanes := [(0, { tx := 2 })], time := { synth := (List.range 20).map fun d => (d, 2) } }) ∧
    Runs (.txRelockEnd 255) (laned 255 { tx := 1 }) ∧
    Runs (.prbsCheckerLock 0) (laned 0 { chk := true }) ∧
    Runs (.prbsCheckerUnlock 0 3) (laned 0 { chk := true, locked := true }) :=
  ⟨⟨_, (h 0 (laned 0 { rx := 1 })).1 rfl⟩,
   ⟨_, (h 0 (laned 0 { rx := 2 })).2.1 0x2260 (.inl rfl) (by decide +kernel) rfl⟩,
   ⟨_, (h 0 (laned 0 { rx := 4 })).2.2.1 true (by decide +kernel) (by decide +kernel) (by decide +kernel) (by decide +kernel)⟩,
   ⟨_, (h 0 ({ upQ (qWrite {} fLanes 0 [2#8]) with tb := { inc := 1600000 }, lanes := [(0, { rx := 1 })] })).2.2.2.1 rfl rfl (by decide +kernel)⟩,
   ⟨_, (h 0 ({ upQ (qWrite {} fLanes 4 [1#8]) with lanes := [(0, { rx := 3 }), (1, { rx := 4 })] })).2.2.2.2.1 8000 rfl (by decide +kernel) (by decide +kernel) (by decide +kernel) rfl⟩,
   ⟨_, (h 0 (laned 0 { rx := 4 })).2.2.2.2.2.1 ⟨1, false, 0, 0, []⟩ rfl |>.1 rfl⟩,
   ⟨_, (h 0 (laned 0 { rx := 4, rxRate := 1 })).2.2.2.2.2.1 ⟨1, false, 0, 0, [0x1F4, 0x200, 0x200, 0x1F4]⟩ rfl |>.2.1 (by decide +kernel) (by decide +kernel)⟩,
   ⟨_, (h 0 ({ upQ (qWrite (bindSrc 1).quire.active fSources 16 (le 2 0x2260 ++ zeros 3 ++ [1#8] ++ zeros 1 ++ [1#8])) with lanes := [(0, { rx := 4, rxRate := 3 })] })).2.2.2.2.2.1 ⟨1, false, 0, 0, [0x241, 0x205, 0x200, 0x246]⟩ rfl |>.2.2 1 (show _ by decide +kernel) (by decide +kernel) (by decide +kernel) (by decide +kernel) (show _ by decide +kernel)⟩,
   ⟨_, (h 0 ({ upQ (qWrite {} fLanes 7 [4#8, 0#8, 0#8, 16#8]) with lanes := [(0, { rx := 4, rxRate := 3 })] })).2.2.2.2.2.2.1 4 [[1, 2, 3, 4]] rfl (by decide +kernel) rfl (by decide +kernel) (by decide +kernel) |>.1⟩,
   ⟨_, (h 0 ({ upQ (qWrite {} fLanes 7 [4#8, 0#8, 0#8, 16#8]) with tb := { inc := 1600000 } })).2.2.2.2.2.2.2.1 1 (by decide +kernel) (by decide +kernel) rfl (by decide +kernel)⟩,
   ⟨_, (h 0 ({ upQ (qWrite (qWrite (qUpsert {} fBindings 0x8000 (le 2 0x8000 ++ [1#8] ++ zeros 5)) fDests 0 (le 2 0x2260 ++ le 2 1 ++ zeros 2 ++ [1#8])) fLanes 0 [0#8, 1#8]) with lanes := [(0, { tx := 2 })], time := { synth := (List.range 20).map fun d => (d, 2) } })).2.2.2.2.2.2.2.2.1 0 0 42 0 _ _ 0x2260 _ _ none (by decide +kernel) (by decide +kernel) rfl rfl rfl (by decide +kernel) (by decide +kernel) rfl rfl (fun _ => rfl) (fun e => absurd e (by decide +kernel))⟩,
   ((h 255 (laned 255 { tx := 1 })).2.2.2.2.2.2.2.2.2.1 rfl).elim fun _ q => ⟨_, q.1⟩,
   ⟨_, (h 0 (laned 0 { chk := true })).2.2.2.2.2.2.2.2.2.2.1 rfl rfl⟩,
   ⟨_, (h 0 (laned 0 { chk := true, locked := true })).2.2.2.2.2.2.2.2.2.2.2 3 rfl rfl⟩⟩

/-! ### Witnesses: network ports and flows -/

theorem witness_PacketCommands (h : Obligations.PacketCommands) :
    Runs (.pktStatus (rq ([1, 0] ++ w 2 0 ++ w 2 256))) up ∧
    Runs (.pktCounters (rq ([0, 0] ++ w 2 63 ++ w 2 1))) up ∧
    Runs (.flwStatus (rq (w 2 16383 ++ w 2 1 ++ zs 4))) up ∧
    Runs (.flwStatus (rq (w 2 0 ++ w 2 256 ++ [1, 0, 0, 0]))) up ∧
    Runs (.pktLaunch (rq (w 2 63 ++ zs 14 ++ w 2 60 ++ zs 66))) ({ up with net := { ports := [(63, { state := 2 })] } }) ∧
    Runs (.pktWatch (rq (w 2 1 ++ [1, 1, 15] ++ zs 291))) ({ up with net := { ports := [(1, { state := 1 })] } }) ∧
    Runs (.pktWatch (rq (w 2 1 ++ [1] ++ zs 293))) ({ up with net := { ports := [(1, { state := 2 })] } }) ∧
    Runs (.pktWatch (rq (w 2 1 ++ zs 294))) ({ up with net := { ports := [(1, { state := 3 })] } }) ∧
    Runs (.pktWatch (rq (w 2 511 ++ zs 294))) up :=
  ⟨⟨_, (h _ up).1 ⟨rfl, rfl, rfl⟩ rfl (by decide +kernel)⟩,
   ((h (rq ([0, 0] ++ w 2 63 ++ w 2 1)) up).2.1 ⟨rfl, rfl, rfl⟩ rfl (by decide +kernel)).elim fun t q => q.elim fun _ q => ⟨_, q.1⟩,
   ⟨_, ((h _ up).2.2.1 ⟨rfl, rfl, rfl⟩ rfl (by decide +kernel) (by decide +kernel) (by decide +kernel) (by decide +kernel) rfl).1 rfl⟩,
   (((h (rq (w 2 0 ++ w 2 256 ++ [1, 0, 0, 0])) up).2.2.1 ⟨rfl, rfl, rfl⟩ rfl (by decide +kernel) (by decide +kernel) (by decide +kernel) (by decide +kernel) rfl).2 rfl).elim fun t q => q.elim fun _ q => ⟨_, q.1⟩,
   ((h (rq (w 2 63 ++ zs 14 ++ w 2 60 ++ zs 66)) ({ up with net := { ports := [(63, { state := 2 })] } })).2.2.2.1 ⟨rfl, rfl, rfl⟩ 63 60 _ rfl rfl rfl rfl rfl (by decide +kernel) rfl (by decide +kernel) (by decide +kernel) rfl (Or.inl rfl) (by decide +kernel) (by decide +kernel) (by decide +kernel) rfl).elim fun _ q => ⟨_, q.1⟩,
   (((h (rq (w 2 1 ++ [1, 1, 15] ++ zs 291)) ({ up with net := { ports := [(1, { state := 1 })] } })).2.2.2.2 ⟨rfl, rfl, rfl⟩ (by decide +kernel) 1 rfl rfl (by decide +kernel) (by decide +kernel) rfl).1 rfl (by decide +kernel) rfl |>.1 rfl).elim fun _ q => ⟨_, q.1⟩,
   (((h (rq (w 2 1 ++ [1] ++ zs 293)) ({ up with net := { ports := [(1, { state := 2 })] } })).2.2.2.2 ⟨rfl, rfl, rfl⟩ (by decide +kernel) 1 rfl rfl (by decide +kernel) (by decide +kernel) rfl).1 rfl (by decide +kernel) rfl |>.2 rfl).elim fun _ q => ⟨_, q.1⟩,
   ⟨_, ((h _ ({ up with net := { ports := [(1, { state := 3 })] } })).2.2.2.2 ⟨rfl, rfl, rfl⟩ (by decide +kernel) 1 rfl rfl (by decide +kernel) (by decide +kernel) rfl).2.1 rfl rfl⟩,
   ⟨_, ((h _ (up)).2.2.2.2 ⟨rfl, rfl, rfl⟩ (by decide +kernel) 511 rfl rfl (by decide +kernel) (by decide +kernel) rfl).2.2 (by decide +kernel) rfl⟩⟩

theorem witness_PortEvents (h : Obligations.PortEvents) :
    Runs (.portUp 0 0) (ported 0 { state := 1 }) ∧
    Runs (.portDown 0 1) (ported 0 { state := 2 }) ∧
    Runs (.frameReceive 0 ⟨zeros 59, true⟩) (ported 0 { state := 2 }) ∧
    Runs (.frameReceive 0 ⟨zeros 60, false⟩) (ported 0 { state := 2 }) ∧
    Runs (.frameReceive 0 ⟨zeros 12 ++ [0x88#8, 8#8, 0#8, 1#8] ++ zeros 44, true⟩) (ported 0 { state := 2 }) ∧
    Runs (.frameReceive 0 ⟨zeros 12 ++ [0x88#8, 0xF7#8] ++ zeros 46, true⟩) ({ upQ (qWrite {} fPacket 24 [4#8]) with net := { ports := [(0, { state := 2 })] } }) ∧
    (toClass 1 0 ⟨0, 0, 0, false, [], 64, false, false⟩ up = setClass 1 (classQueue up 1 ++ [⟨0, 0, 0, false, [], 64, false, false⟩]) up) ∧
    ((netPort (pauseReceive 0 1 (ported 0 { state := 2 })) 0).pauseEnd = 512 * 5292 / 100) ∧
    Runs (.pauseExpiry 0) ({ ported 0 { pausedFrom := some 0, pauseEnd := 6615 } with tb := { inc := 1 } }) ∧
    Runs (.portWake 0 (some ⟨zeros 60, true⟩)) (ported 0 { state := 3, patterns := [([], 0)] }) ∧
    Runs (.portWake 0 (some ⟨zeros 60, false⟩)) (ported 0 { state := 3 }) ∧
    Runs (.portBringUpComplete 0) (ported 0 { state := 4 }) ∧
    (exec .flowAgeingCycle up = .next up ∧ exec .mergeRecordAgeing up = .next up) ∧
    Runs .flowAgeingCycle ({ upQ (qUpsert {} fFlows 0 (flow 0 3 0xFFFF)) with tb := { sec := 700 }, net := { flows := [(0, { active := true })] } }) ∧
    Runs .flowAgeingCycle ({ upQ (qUpsert {} fFlows 0 (flow 0 3 0xFFFF)) with net := { flows := [(0, { hit := true })] } }) ∧
    Runs .mergeRecordAgeing (upQ (qUpsert {} fFlows 0 (flow 0 3 1))) ∧
    Runs .mergeRecordAgeing (upQ (qUpsert {} fFlows 0 (flow 0 1 1))) ∧
    Runs .mergeRecordAgeing (upQ (qUpsert (qUpsert {} fFlows 0 (flow 0 1 1)) fBindings 5 (le 2 5 ++ [2#8] ++ zeros 5))) ∧
    Runs .mergeRecordAgeing (upQ (qUpsert (qUpsert {} fFlows 0 (flow 0 6 1)) fBindings 5 (le 2 5 ++ [2#8] ++ zeros 5))) :=
  ⟨((h 0 (ported 0 { state := 1 })).1 0 (by decide +kernel) (.inl rfl) rfl).elim fun _ q => ⟨_, q.1⟩,
   ⟨_, (h 0 (ported 0 { state := 2 })).2.1 1 rfl rfl⟩,
   ⟨_, (h 0 (ported 0 { state := 2 })).2.2.1 ⟨zeros 59, true⟩ rfl (.inl (by decide +kernel))⟩,
   ⟨_, (h 0 (ported 0 { state := 2 })).2.2.1 ⟨zeros 60, false⟩ rfl (.inr ⟨rfl, (by decide +kernel)⟩)⟩,
   ⟨_, (h 0 (ported 0 { state := 2 })).2.2.2.1 ⟨zeros 12 ++ [0x88#8, 8#8, 0#8, 1#8] ++ zeros 44, true⟩ rfl rfl (by decide +kernel) rfl rfl⟩,
   ⟨_, (h 0 ({ upQ (qWrite {} fPacket 24 [4#8]) with net := { ports := [(0, { state := 2 })] } })).2.2.2.2.1 ⟨zeros 12 ++ [0x88#8, 0xF7#8] ++ zeros 46, true⟩ 1 _ rfl rfl (show _ by decide +kernel) (by decide +kernel) (by decide +kernel) (by decide +kernel) (show _ by decide +kernel) (by decide +kernel) (by decide +kernel) rfl⟩,
   (h 0 up).2.2.2.2.2.1 1 0 ⟨0, 0, 0, false, [], 64, false, false⟩ up rfl (by decide +kernel) (by decide +kernel),
   (h 0 (ported 0 { state := 2 })).2.2.2.2.2.2.1 1 rfl (by decide +kernel) (by decide +kernel),
   ⟨_, (h 0 ({ ported 0 { pausedFrom := some 0, pauseEnd := 6615 } with tb := { inc := 1 } })).2.2.2.2.2.2.2.1 0 rfl (by decide +kernel) (by decide +kernel)⟩,
   ⟨_, (h 0 (ported 0 { state := 3, patterns := [([], 0)] })).2.2.2.2.2.2.2.2.1 ⟨zeros 60, true⟩ 0 rfl rfl (by decide +kernel) (by decide +kernel)⟩,
   ⟨_, (h 0 (ported 0 { state := 3 })).2.2.2.2.2.2.2.2.2.1 ⟨zeros 60, false⟩ rfl rfl⟩,
   ⟨_, (h 0 (ported 0 { state := 4 })).2.2.2.2.2.2.2.2.2.2.1 rfl rfl (by decide +kernel)⟩,
   (h 0 up).2.2.2.2.2.2.2.2.2.2.2.1 rfl,
   ⟨_, (h 0 ({ upQ (qUpsert {} fFlows 0 (flow 0 3 0xFFFF)) with tb := { sec := 700 }, net := { flows := [(0, { active := true })] } })).2.2.2.2.2.2.2.2.2.2.2.2.1 (flow 0 3 0xFFFF) (by decide +kernel) rfl rfl (by decide +kernel)⟩,
   ⟨_, ((h 0 ({ upQ (qUpsert {} fFlows 0 (flow 0 3 0xFFFF)) with net := { flows := [(0, { hit := true })] } })).2.2.2.2.2.2.2.2.2.2).2.2.2.1 (flow 0 3 0xFFFF) (by decide +kernel) rfl⟩,
   ⟨_, (((h 0 (upQ (qUpsert {} fFlows 0 (flow 0 3 1)))).2.2.2.2.2.2.2.2.2.2).2.2.2.2 (flow 0 3 1) _ (by decide +kernel) (by decide +kernel) (by decide +kernel) rfl).1 (by decide +kernel) (by decide +kernel)⟩,
   ⟨_, (((h 0 (upQ (qUpsert {} fFlows 0 (flow 0 1 1)))).2.2.2.2.2.2.2.2.2.2).2.2.2.2 (flow 0 1 1) _ (by decide +kernel) (by decide +kernel) (by decide +kernel) rfl).2.1 (by decide +kernel)⟩,
   ⟨_, (((h 0 (upQ (qUpsert (qUpsert {} fFlows 0 (flow 0 1 1)) fBindings 5 (le 2 5 ++ [2#8] ++ zeros 5)))).2.2.2.2.2.2.2.2.2.2).2.2.2.2 (flow 0 1 1) _ (by decide +kernel) (by decide +kernel) (by decide +kernel) rfl).2.2 5 (by decide +kernel) |>.1 (by decide +kernel)⟩,
   ⟨_, (((h 0 (upQ (qUpsert (qUpsert {} fFlows 0 (flow 0 6 1)) fBindings 5 (le 2 5 ++ [2#8] ++ zeros 5)))).2.2.2.2.2.2.2.2.2.2).2.2.2.2 (flow 0 6 1) _ (by decide +kernel) (by decide +kernel) (by decide +kernel) rfl).2.2 5 (by decide +kernel) |>.2 (by decide +kernel)⟩⟩

theorem witness_SeamlessMerge (h : Obligations.SeamlessMerge) :
    ((mergeStep true 16384 16 5 0 { high := some 4 }).2 = .accept 5 ∧ (mergeStep true 16384 16 5 0 { high := some 4 }).1.high = some 5) ∧
    ((mergeStep true 16384 16 3 0 { high := some 4, low := 3, lateRun := 15 }).2 = .late) ∧
    ((mergeStep true 16384 16 4 0 { high := some 4, low := 3, recs := [(4, 0)] }).2 = .duplicate) ∧
    ((mergeStep true 16384 16 4 0 { high := some 4, low := 3 }).2 = .accept 4) :=
  ⟨(h 16 5 0 4 { high := some 4 } rfl (by decide +kernel)).1 (by decide +kernel),
   ((h 16 3 0 4 { high := some 4, low := 3, lateRun := 15 } rfl (by decide +kernel)).2.1 (by decide +kernel) (by decide +kernel)).1,
   ((h 16 4 0 4 { high := some 4, low := 3, recs := [(4, 0)] } rfl (by decide +kernel)).2.2.1 (by decide +kernel) (by decide +kernel) ⟨(4, 0), (by decide +kernel), rfl⟩).1,
   ((h 16 4 0 4 { high := some 4, low := 3 } rfl (by decide +kernel)).2.2.2.1 (by decide +kernel) (by decide +kernel) (by decide +kernel)).1⟩

theorem witness_PortTransmission (h : Obligations.PortTransmission) :
    Runs (.mediaPacketLaunch 8192 0 0) ({ upQ (qWrite (qUpsert (qUpsert {} fFlows 8192 (flow 8192 1 0xFFFF)) fBindings 0x8000 (le 2 0x8000 ++ [2#8, 0#8] ++ le 2 8192 ++ zeros 2)) fDests 0 (le 2 0x2260 ++ le 2 1 ++ zeros 2 ++ [1#8])) with net := { ports := [(0, { state := 2 })] } }) ∧
    Runs (.mediaPacketLaunch 8191 0 0) up ∧
    Runs (.mediaPacketLateDrop 0) (ported 0 { egress := [⟨2, 1, [], none, none, none⟩] }) ∧
    Runs (.mediaPacketLateDrop 0) up ∧
    Runs (.frameTransmit 0) (ported 0 { state := 2, egress := [⟨2, 0, [], none, none, none⟩] }) ∧
    Runs (.frameTransmit 0) (ported 0 { state := 2, egress := [⟨1, 0, [], none, some 5, none⟩] }) ∧
    Runs (.frameTransmit 0) (ported 0 { state := 2, egress := [⟨2, 0, [], some 9, none, none⟩] }) ∧
    Runs (.hostFrameLaunch 0) ({ ported 0 { hostQ := [⟨0, 1, true, 0, false, []⟩] } with tb := { inc := 1 } }) ∧
    Runs (.hostFrameLaunch 0) (ported 0 { state := 2, hostQ := [⟨0, 0, false, 0, false, []⟩] }) ∧
    Runs (.membershipReportSend 0) ({ upQ (qUpsert {} fFlows 0 (flow 0 3 0xFFFF)) with net := { ports := [(0, { state := 2 })], reports := [⟨0, 0, 0⟩] } }) ∧
    Runs .tcEntryAgeing up :=
  ⟨((h 0 ({ upQ (qWrite (qUpsert (qUpsert {} fFlows 8192 (flow 8192 1 0xFFFF)) fBindings 0x8000 (le 2 0x8000 ++ [2#8, 0#8] ++ le 2 8192 ++ zeros 2)) fDests 0 (le 2 0x2260 ++ le 2 1 ++ zeros 2 ++ [1#8])) with net := { ports := [(0, { state := 2 })] } })).1 8192 0 0 (flow 8192 1 0xFFFF) (flow 8192 1 0xFFFF) 0 0x2260 1200 _ _ _ (by decide +kernel) (by decide +kernel) (by decide +kernel) rfl (show _ by decide +kernel) (by decide +kernel) (by decide +kernel) (by decide +kernel) (show _ by decide +kernel) rfl (by decide +kernel) (by decide +kernel) rfl rfl rfl).elim fun _ q => q.elim fun _ q => ⟨_, q⟩,
   ⟨_, (h 0 up).2.1 8191 0 0 (by decide +kernel)⟩,
   ((h 0 (ported 0 { egress := [⟨2, 1, [], none, none, none⟩] })).2.2.1 (by decide +kernel)).elim fun _ q => ⟨_, q.1⟩,
   ((h 0 up).2.2.2.1).elim fun _ q => ⟨_, q.1⟩,
   ⟨_, (h 0 (ported 0 { state := 2, egress := [⟨2, 0, [], none, none, none⟩] })).2.2.2.2.1 ⟨2, 0, [], none, none, none⟩ rfl rfl (by decide +kernel) rfl rfl rfl⟩,
   ((h 0 (ported 0 { state := 2, egress := [⟨1, 0, [], none, some 5, none⟩] })).2.2.2.2.2.1 ⟨1, 0, [], none, some 5, none⟩ 5 rfl rfl (by decide +kernel) rfl).elim fun _ q => ⟨_, q.1⟩,
   ⟨_, (h 0 (ported 0 { state := 2, egress := [⟨2, 0, [], some 9, none, none⟩] })).2.2.2.2.2.2.1 ⟨2, 0, [], some 9, none, none⟩ 9 rfl rfl (by decide +kernel) rfl rfl rfl⟩,
   ⟨_, (h 0 ({ ported 0 { hostQ := [⟨0, 1, true, 0, false, []⟩] } with tb := { inc := 1 } })).2.2.2.2.2.2.2.1 ⟨0, 1, true, 0, false, []⟩ [] rfl rfl (by decide +kernel) (by decide +kernel)⟩,
   ⟨_, (h 0 (ported 0 { state := 2, hostQ := [⟨0, 0, false, 0, false, []⟩] })).2.2.2.2.2.2.2.2.1 ⟨0, 0, false, 0, false, []⟩ [] rfl rfl rfl (by decide +kernel) rfl rfl rfl⟩,
   ⟨_, (h 0 ({ upQ (qUpsert {} fFlows 0 (flow 0 3 0xFFFF)) with net := { ports := [(0, { state := 2 })], reports := [⟨0, 0, 0⟩] } })).2.2.2.2.2.2.2.2.2.1 0 ⟨0, 0, 0⟩ (flow 0 3 0xFFFF) rfl (by decide +kernel) (by decide +kernel)⟩,
   ((h 0 up).2.2.2.2.2.2.2.2.2.2).elim fun _ q => ⟨_, q.1⟩⟩

/-! ### Witnesses: fabric lanes, in-package memory and synchronisers -/

theorem witness_FabricCommands (h : Obligations.FabricCommands) :
    Runs (.fabStatus (rq (w 2 4 ++ w 2 64))) up ∧
    Runs (.fabCounters (rq ([0, 0] ++ w 2 67 ++ w 2 1 ++ zs 2))) up ∧
    Runs (.fabCounters (rq ([1, 1] ++ w 2 4032 ++ w 2 64 ++ zs 2))) up ∧
    Runs (.fabRetrain (rq (w 2 67 ++ [1] ++ zs 5))) up ∧
    Runs (.fabRetrain (rq (w 2 0 ++ [0] ++ zs 5))) ({ upQ (qWrite {} fFabric 0 [1#8]) with fabric := { lanes := [(0, { state := 5 })] } }) ∧
    Runs (.fabRetrain (rq (w 2 0 ++ [2] ++ zs 5))) ({ upQ (qWrite {} fFabric 0 [1#8]) with fabric := { lanes := [(0, { hold := true })] } }) ∧
    Runs (.stiStatus (rq [])) up :=
  ⟨⟨_, (h _ up).1 ⟨rfl, rfl, rfl⟩ rfl (by decide +kernel) (by decide +kernel) (by decide +kernel) (by decide +kernel)⟩,
   ((h (rq ([0, 0] ++ w 2 67 ++ w 2 1 ++ zs 2)) up).2.1 ⟨rfl, rfl, rfl⟩ rfl (show _ by decide +kernel) (by decide +kernel) (by decide +kernel) (by decide +kernel) (show _ by decide +kernel) rfl).elim fun t q => q.elim fun _ q => ⟨_, q.1⟩,
   ((h (rq ([1, 1] ++ w 2 4032 ++ w 2 64 ++ zs 2)) up).2.1 ⟨rfl, rfl, rfl⟩ rfl (show _ by decide +kernel) (by decide +kernel) (by decide +kernel) (by decide +kernel) (show _ by decide +kernel) rfl).elim fun t q => q.elim fun _ q => ⟨_, q.1⟩,
   ⟨_, ((h _ up).2.2.1 ⟨rfl, rfl, rfl⟩ rfl _ _ rfl rfl (by decide +kernel) rfl rfl).1 rfl⟩,
   ⟨_, ((h _ ({ upQ (qWrite {} fFabric 0 [1#8]) with fabric := { lanes := [(0, { state := 5 })] } })).2.2.1 ⟨rfl, rfl, rfl⟩ rfl _ _ rfl rfl (by decide +kernel) rfl rfl).2.1 rfl (by decide +kernel) rfl (by decide +kernel)⟩,
   ⟨_, ((h _ ({ upQ (qWrite {} fFabric 0 [1#8]) with fabric := { lanes := [(0, { hold := true })] } })).2.2.1 ⟨rfl, rfl, rfl⟩ rfl _ _ rfl rfl (by decide +kernel) rfl rfl).2.2 rfl (by decide +kernel) rfl⟩,
   (((h (rq []) up).2.2.2 ⟨rfl, rfl, rfl⟩ rfl).imp fun _ q => q.1).elim fun _ q => ⟨_, q⟩⟩

theorem witness_FabricBringUp (h : Obligations.FabricBringUp) :
    Runs (.fabricSignalDetect 0) (fabbed 0 { state := 1 }) ∧
    Runs (.trainingFrameReceive 0 true 0 0) (fabbed 0 { state := 2 }) ∧
    Runs (.trainingFrameReceive 0 false 0 0) (fabbed 0 { state := 2, ready := 3, extra := 15 }) ∧
    Runs (.blockLock 0 0 0) (fabbed 0 { state := 3 }) ∧
    Runs (.blockLock 64 1 4000) (fabbed 64 { state := 3 }) ∧
    Runs (.blockLock 64 1 4001) (fabbed 64 { state := 3 }) ∧
    Runs (.blockLockLoss 0) (fabbed 0 { state := 5 }) ∧
    Runs (.blockLockLoss 0) (fabbed 0 { state := 3, locked := true }) ∧
    Runs (.capsReceive 0 []) (fabbed 0 { state := 4 }) ∧
    Runs (.capsReceive 63 ([0#8, 1#8, 0#8, 0#8] ++ zeros 7 ++ [1#8, 0#8, 1#8])) (fabbed 63 { state := 4, ownAck := true, ackRun := 2 }) ∧
    Runs (.capsReceive 0 []) (fabbed 0 { state := 5, agreed := [] }) ∧
    Runs (.capsReceive 0 (zeros 14)) (fabbed 0 { state := 5 }) ∧
    Runs (.laneStateTimeout 0) ({ fabbed 0 { state := 5 } with tb := { inc := 4000000 } }) ∧
    Runs (.laneStateTimeout 0) ({ fabbed 0 { state := 3, fromActive := true } with tb := { inc := 1600000 } }) :=
  ⟨⟨_, (h 0 (fabbed 0 { state := 1 })).1 rfl (by decide +kernel)⟩,
   ⟨_, (h 0 (fabbed 0 { state := 2 })).2.1 true 0 0 rfl (by decide +kernel)⟩,
   ((h 0 (fabbed 0 { state := 2, ready := 3, extra := 15 })).2.2.1 false 0 0 rfl rfl).elim fun _ q => ⟨_, q.1⟩,
   ⟨_, (h 0 (fabbed 0 { state := 3 })).2.2.2.1 0 0 rfl (by decide +kernel)⟩,
   ⟨_, ((h 64 (fabbed 64 { state := 3 })).2.2.2.2.1 1 4000 rfl (by decide +kernel)).1 (by decide +kernel)⟩,
   ⟨_, ((h 64 (fabbed 64 { state := 3 })).2.2.2.2.1 1 4001 rfl (by decide +kernel)).2 (by decide +kernel)⟩,
   ⟨_, (h 0 (fabbed 0 { state := 5 })).2.2.2.2.2.1 rfl⟩,
   ⟨_, (h 0 (fabbed 0 { state := 3, locked := true })).2.2.2.2.2.2.1 rfl rfl⟩,
   ⟨_, (h 0 (fabbed 0 { state := 4 })).2.2.2.2.2.2.2.1 [] rfl (by decide +kernel)⟩,
   ⟨_, (h 63 (fabbed 63 { state := 4, ownAck := true, ackRun := 2 })).2.2.2.2.2.2.2.2.1 ([0#8, 1#8, 0#8, 0#8] ++ zeros 7 ++ [1#8, 0#8, 1#8]) rfl (by decide +kernel) (by decide +kernel) (by decide +kernel) rfl (by decide +kernel)⟩,
   ⟨_, (h 0 (fabbed 0 { state := 5, agreed := [] })).2.2.2.2.2.2.2.2.2.1 [] rfl (by decide +kernel)⟩,
   ⟨_, (h 0 (fabbed 0 { state := 5 })).2.2.2.2.2.2.2.2.2.2.1 (zeros 14) rfl (by decide +kernel)⟩,
   ⟨_, (h 0 ({ fabbed 0 { state := 5 } with tb := { inc := 4000000 } })).2.2.2.2.2.2.2.2.2.2.2 (.inr (.inr (.inr ⟨rfl, (by decide +kernel)⟩)))⟩,
   ⟨_, (h 0 ({ fabbed 0 { state := 3, fromActive := true } with tb := { inc := 1600000 } })).2.2.2.2.2.2.2.2.2.2.2 (.inr (.inl ⟨rfl, (by decide +kernel)⟩))⟩⟩

theorem witness_FabricCells (h : Obligations.FabricCells) :
    Runs (.cellReceive 0 [] false) (fabbed 0 { state := 5 }) ∧
    Runs (.cellReceive 63 (mkCell 1 0 7 42 0 0 0 []) false) ({ upQ (qUpsert {} fBindings 5 (le 2 5 ++ [3#8, 0#8] ++ le 2 7 ++ zeros 2)) with fabric := { lanes := [(63, { state := 5 })] } }) ∧
    Runs .fabricMergeAgeing up ∧
    Runs .fabricMergeAgeing ({ up with fabric := { rx := [(4095, {})] } }) ∧
    Runs (.pictureCellSend 0 0 42 0) ({ upQ streamed with spine := { src := [(1, { ring := [⟨0, 42, [], false⟩] })], dst := [(0, { shown := 1 })] } }) ∧
    (exec (.pictureCellSend 0 0 42 0) up = .next up ∧ exec (.frameStatusSend 0 0 0) up = .next up) ∧
    Runs (.frameStatusSend 0 0 0) (upQ streamed) ∧
    Runs (.audioCellSend 0 0) ({ upQ (qWrite (qWrite {} fFabric 0 [1#8]) fFabric 16 (le 2 0 ++ [2#8, 80#8] ++ zeros 4)) with tb := { sec := 1 } }) :=
  ⟨⟨_, (h (fabbed 0 { state := 5 })).1 0 [] false rfl (by decide +kernel) (.inr (.inl (by decide +kernel)))⟩,
   ⟨_, (h ({ upQ (qUpsert {} fBindings 5 (le 2 5 ++ [3#8, 0#8] ++ le 2 7 ++ zeros 2)) with fabric := { lanes := [(63, { state := 5 })] } })).2.1 63 (mkCell 1 0 7 42 0 0 0 []) 5 rfl (by decide +kernel) (by decide +kernel) (cellCrc_sealed _ (by decide +kernel)) (by decide +kernel) (by decide +kernel)⟩,
   ⟨_, (h up).2.2.1 rfl⟩,
   ⟨_, (h ({ up with fabric := { rx := [(4095, {})] } })).2.2.2.1 4095 {} rfl⟩,
   ⟨_, (h ({ upQ streamed with spine := { src := [(1, { ring := [⟨0, 42, [], false⟩] })], dst := [(0, { shown := 1 })] } })).2.2.2.2.1 0 0 42 0 0 0x2260 (show _ by decide +kernel) (by decide +kernel) (by decide +kernel) (by decide +kernel) (show _ by decide +kernel)⟩,
   (h up).2.2.2.2.2.1 0 0 42 0 (by decide +kernel) |>.1 |> fun a => ⟨a, ((h up).2.2.2.2.2.1 0 0 0 0 (by decide +kernel)).2⟩,
   ⟨_, (h (upQ streamed)).2.2.2.2.2.2.1 0 0 0 0x2260 (by decide +kernel) (by decide +kernel)⟩,
   (((h ({ upQ (qWrite (qWrite {} fFabric 0 [1#8]) fFabric 16 (le 2 0 ++ [2#8, 80#8] ++ zeros 4)) with tb := { sec := 1 } })).2.2.2.2.2.2.2 0 0 (le 2 0 ++ [2#8, 80#8] ++ zeros 4) 1 (by decide +kernel) (by decide +kernel) (by decide +kernel) (by decide +kernel) rfl (by decide +kernel)).imp fun _ q => q.1).elim fun _ q => ⟨_, q⟩⟩

theorem witness_MemoryCommands (h : Obligations.MemoryCommands) :
    Runs (.memStatus (rq [1, 0, 0, 0])) up ∧
    Runs (.memTraining (rq [3, 0, 0, 0])) ({ up with dram := { groups := [(3, { state := 2 })] } }) ∧
    Runs (.fsyStatus (rq (w 2 95 ++ w 2 1 ++ [1, 0, 0, 0]))) up :=
  ⟨((h (rq [1, 0, 0, 0]) up).1 ⟨rfl, rfl, rfl⟩ rfl (by decide +kernel) rfl).elim fun t q => q.elim fun _ q => ⟨_, q.1⟩,
   ⟨_, (h _ ({ up with dram := { groups := [(3, { state := 2 })] } })).2.1 ⟨rfl, rfl, rfl⟩ rfl (by decide +kernel) rfl (by decide +kernel)⟩,
   ((h (rq (w 2 95 ++ w 2 1 ++ [1, 0, 0, 0])) up).2.2 ⟨rfl, rfl, rfl⟩ rfl (by decide +kernel) (by decide +kernel) (by decide +kernel) rfl).elim fun _ q => ⟨_, q.1⟩⟩

theorem witness_SynchroniserChoice (h : Obligations.SynchroniserChoice) :
    ((chooseFrame 0x2260 0 (2 * linePeriod 0x2260) { last := some 0 } ⟨1, 0, [], [], []⟩) = (1, 0)) ∧
    ((chooseFrame 0x2260 0 (2 * linePeriod 0x2260 - 1) { last := some 0 } ⟨1, 0, [], [], []⟩) = (0, 2)) ∧
    ((chooseFrame 0x2260 0 (2 * framePeriod 0x2260) { last := some 0 } ⟨1, 0, [], [], []⟩) = (2, 3)) ∧
    ((chooseFrame 0x2260 0 (2 * linePeriod 0x2260) { realign := true } ⟨1, 0, [], [], []⟩).2 = 1) :=
  ⟨((h 0x2260 0 (2 * linePeriod 0x2260) 0 { last := some 0 } ⟨1, 0, [], [], []⟩ (by decide +kernel)).1 rfl rfl).1 (by decide +kernel),
   (((h 0x2260 0 (2 * linePeriod 0x2260 - 1) 0 { last := some 0 } ⟨1, 0, [], [], []⟩ (by decide +kernel)).1 rfl rfl).2.1 (by decide +kernel)).1,
   (((h 0x2260 0 (2 * framePeriod 0x2260) 0 { last := some 0 } ⟨1, 0, [], [], []⟩ (by decide +kernel)).1 rfl rfl).2.2 (by decide +kernel)).1,
   ((h 0x2260 0 (2 * linePeriod 0x2260) 0 { realign := true } ⟨1, 0, [], [], []⟩ (by decide +kernel)).2 (.inl rfl) (by decide +kernel)).1⟩

theorem witness_Synchronisers (h : Obligations.Synchronisers) :
    ((syncAt (syDue 0 { sync { state := 1, restartAt := some 0 } with quire := { active := synced, target := synced } }) 0).state = 1) ∧
    Runs (.fsyChoose 0 0 none) up ∧
    Runs (.fsyChoose 0 0 none) (sync { state := 1 }) ∧
    (exec (.fsyChoose 0 0 none) { sync { state := 1 } with twin := { role := .standby } } = .next { sync { state := 1 } with twin := { role := .standby } }) ∧
    Runs (.fsyOwnDecision 0 0) ({ sync { state := 2 } with twin := { role := .standby } }) ∧
    Runs (.fsyOwnDecision 0 0) up ∧
    Runs (.fsyOutputLine 0 0 42) (sync { state := 2, choices := [⟨0, 0, 3⟩], frames := [⟨3, 0, [(42, [])], [], []⟩] }) ∧
    Runs (.fsyOutputLine 0 0 1121) (sync { state := 2, choices := [⟨0, 1, 0⟩] }) ∧
    Runs (.fsyMoveRestart 0) (sync { state := 4 }) :=
  ⟨(((h 0 0 { sync { state := 1, restartAt := some 0 } with quire := { active := synced, target := synced } } _ rfl).2.1 0 rfl).2 (by decide +kernel)).2.2.2.2.trans rfl,
   ⟨_, (h 0 0 up _ rfl).2.2.1 none (by decide +kernel)⟩,
   ⟨_, (h 0 0 (sync { state := 1 }) _ rfl).2.2.2.1 none (by decide +kernel) (by decide +kernel)⟩,
   ((h 0 0 { sync { state := 1 } with twin := { role := .standby } } _ rfl).2.2.2.2.1 3 (by decide +kernel) rfl).2,
   ⟨_, (h 0 0 ({ sync { state := 2 } with twin := { role := .standby } }) _ rfl).2.2.2.2.2.1 rfl (by decide +kernel)⟩,
   ⟨_, (h 0 0 (up) _ rfl).2.2.2.2.2.2.1 (by decide +kernel)⟩,
   ⟨_, (h 0 0 (sync { state := 2, choices := [⟨0, 0, 3⟩], frames := [⟨3, 0, [(42, [])], [], []⟩] }) _ rfl).2.2.2.2.2.2.2.1 5 ⟨0, 0, 3⟩ ⟨3, 0, [(42, [])], [], []⟩ 42 0x2260 (42, []) (by decide +kernel) (by decide +kernel) (by decide +kernel) rfl (show _ by decide +kernel) (by decide +kernel) (by decide +kernel) (by decide +kernel) (show _ by decide +kernel) (by decide +kernel)⟩,
   ⟨_, (h 0 0 (sync { state := 2, choices := [⟨0, 1, 0⟩] }) _ rfl).2.2.2.2.2.2.2.2.1 5 ⟨0, 1, 0⟩ 1121 0x2260 (by decide +kernel) (by decide +kernel) (by decide +kernel) rfl (by decide +kernel) (by decide +kernel) (by decide +kernel) (by decide +kernel)⟩,
   ⟨_, (h 0 0 (sync { state := 4 }) _ rfl).2.2.2.2.2.2.2.2.2 rfl⟩⟩

theorem witness_MemoryEvents (h : Obligations.MemoryEvents) :
    Runs (.dramTempPoll 3 [20]) up ∧
    Runs (.dramWckRetrain 0 50) (grouped { state := 2, temps := [25] } { measured := [20] }) ∧
    Runs (.dramWckRetrain 0 (-51)) (grouped { state := 2, temps := [25] } { measured := [20] }) ∧
    Runs (.dramUncorrectableRead 0 9 .other) (grouped { state := 2 } { uncorrected := List.replicate 15 0 }) ∧
    Runs (.dramUncorrectableRead 0 9 .other) (grouped { state := 2 } { uncorrected := List.replicate 16 0 }) ∧
    Runs (.dramGroupOut 0 3) up ∧
    (groupOut 0 3 up = up) ∧
    Runs (.dramAccessRefused 0 1 2) up ∧
    (burstLost 0 4 .mirror (grouped { state := 2 } {}) = { grouped { state := 2 } {} with dram := { (grouped { state := 2 } {}).dram with mirrorBad := [(0, 4)] } }) ∧
    Runs (.dramPatrolScrub 0 3) ({ upQ (qWrite {} fDram 8 [1#8]) with dram := {} }) ∧
    Runs (.dramPatrolScrub 8 3) ({ upQ (qWrite {} fDram 8 [1#8]) with dram := { groups := [(1, { state := 2 })] } }) ∧
    Runs (.dramPatrolScrub 8 3) ({ upQ (qWrite {} fDram 8 [1#8]) with dram := { groups := [(1, { state := 2 })] }, tb := { sec := 60 } }) ∧
    Runs (.dramAutoSelfRefresh 0) ({ upQ (qWrite {} fDram 5 [1#8]) with dram := { groups := [(0, { state := 2 })] } }) ∧
    Runs (.dramAutoSelfRefresh 0) ({ sync { group := 0 } with dram := { syncs := [(0, { group := 0 })] } }) ∧
    Runs (.dramSelfRefreshExit 0) (grouped {} { selfRefresh := true }) :=
  ⟨⟨_, (h 3 0 up).1 [20] (by decide +kernel)⟩,
   ⟨_, (h 0 0 (grouped { state := 2, temps := [25] } { measured := [20] })).2.1 50 (by decide +kernel) (by decide +kernel) (by decide +kernel) (by decide +kernel)⟩,
   ⟨_, (h 0 0 (grouped { state := 2, temps := [25] } { measured := [20] })).2.2.1 (-51) (by decide +kernel) (by decide +kernel) (.inl (by decide +kernel))⟩,
   ⟨_, (h 0 0 (grouped { state := 2 } { uncorrected := List.replicate 15 0 })).2.2.2.1 9 .other (by decide +kernel) (by decide +kernel)⟩,
   (((h 0 0 (grouped { state := 2 } { uncorrected := List.replicate 16 0 })).2.2.2.2.1 9 .other 0 (List.replicate 15 0) (by decide +kernel) (by decide +kernel) (by decide +kernel) (by decide +kernel))).elim fun _ q => ⟨_, q⟩,
   ⟨_, (h 0 0 up).2.2.2.2.2.1 3⟩,
   (h 0 0 up).2.2.2.2.2.2.1 3 (by decide +kernel),
   ⟨_, (h 0 0 up).2.2.2.2.2.2.2.1 1 2⟩,
   (h 0 0 up).2.2.2.2.2.2.2.2.1 4 (grouped { state := 2 } {}) |>.trans rfl,
   ⟨_, ((h 0 0 ({ upQ (qWrite {} fDram 8 [1#8]) with dram := {} })).2.2.2.2.2.2.2.2.2.1 3 (by decide +kernel)).1 fun _ _ => .inl rfl⟩,
   (((h 1 8 ({ upQ (qWrite {} fDram 8 [1#8]) with dram := { groups := [(1, { state := 2 })] } })).2.2.2.2.2.2.2.2.2.1 3 (by decide +kernel)).2 0 (by decide +kernel) (by decide +kernel) (by decide +kernel)).elim fun _ q => ⟨_, q.1⟩,
   ((h 1 8 ({ upQ (qWrite {} fDram 8 [1#8]) with dram := { groups := [(1, { state := 2 })] }, tb := { sec := 60 } })).2.2.2.2.2.2.2.2.2.2.1 0 3 (by decide +kernel) (by decide +kernel) (by decide +kernel)).elim fun _ q => ⟨_, q.1⟩,
   ⟨_, (h 0 0 ({ upQ (qWrite {} fDram 5 [1#8]) with dram := { groups := [(0, { state := 2 })] } })).2.2.2.2.2.2.2.2.2.2.2.1 (by decide +kernel) (by decide +kernel) (by decide +kernel)⟩,
   ⟨_, (h 0 0 ({ sync { group := 0 } with dram := { syncs := [(0, { group := 0 })] } })).2.2.2.2.2.2.2.2.2.2.2.2.1 (by decide +kernel)⟩,
   ⟨_, ((h 0 0 (grouped {} { selfRefresh := true })).2.2.2.2.2.2.2.2.2.2).2.2.2 rfl (by decide +kernel)⟩⟩

/-! ### Witnesses: audio -/

theorem witness_AudioCommands (h : Obligations.AudioCommands) :
    Runs (.audStatus (rq [1, 0, 0, 0])) up ∧
    Runs (.audParamWrite (rq (zs 8 ++ w 4 1 ++ zs 4 ++ [2] ++ zs 23))) (audioed 2 id) ∧
    Runs (.audGain (rq (w 2 1 ++ zs 6 ++ w 4 0 ++ w 2 2400 ++ zs 2))) (audioed 1 id) ∧
    Runs (.audMeter (rq ([1, 0, 0, 0] ++ w 2 28672 ++ w 2 4096))) up ∧
    Runs (.audShepherd { rq (zs 4 ++ w 2 100 ++ w 2 0) with port := portSafety }) up ∧
    Runs (.audShepherdRead (rq [])) up :=
  ⟨((h (rq [1, 0, 0, 0]) up).1 ⟨rfl, rfl, rfl⟩ rfl (by decide +kernel) rfl).elim fun t q => q.elim fun _ q => ⟨_, q.1⟩,
   ⟨_, ((h (rq (zs 8 ++ w 4 1 ++ zs 4 ++ [2] ++ zs 23)) (audioed 2 id)).2.1 ⟨rfl, rfl, rfl⟩ 0 0 1 _ _ rfl rfl rfl rfl rfl rfl (by decide +kernel) (by decide +kernel) rfl (by decide +kernel) (by decide +kernel) rfl (by decide +kernel) (.inl rfl) rfl).1 rfl⟩,
   ((h (rq (w 2 1 ++ zs 6 ++ w 4 0 ++ w 2 2400 ++ zs 2)) (audioed 1 id)).2.2.1 ⟨rfl, rfl, rfl⟩ 1 rfl rfl (by decide +kernel) (by decide +kernel) rfl _ _ rfl rfl (fun | 0, _ => ⟨rfl, .inr (by decide +kernel), ⟨0, (by decide +kernel), .inl rfl⟩, (by decide +kernel)⟩ | i + 1, hi => absurd hi (by omega))).elim fun _ q => ⟨_, q.1⟩,
   ((h (rq ([1, 0, 0, 0] ++ w 2 28672 ++ w 2 4096)) up).2.2.2.1 ⟨rfl, rfl, rfl⟩ rfl (by decide +kernel) (by decide +kernel) rfl (by decide +kernel) (by decide +kernel) (by decide +kernel)).elim fun _ q => ⟨_, q.1⟩,
   ((h { rq (zs 4 ++ w 2 100 ++ w 2 0) with port := portSafety } up).2.2.2.2.1 ⟨rfl, rfl, rfl⟩ 0 _ rfl rfl (by decide +kernel) rfl (by decide +kernel) (by decide +kernel) (by decide +kernel) (fun i hi => absurd hi (by omega)) rfl).elim fun _ q => ⟨_, q.1⟩,
   ⟨_, (h _ up).2.2.2.2.2 ⟨rfl, rfl, rfl⟩ rfl⟩⟩

theorem witness_GainBehaviour (h : Obligations.GainBehaviour) :
    ((gainStep 1 5 (gainStart 1 48000 100 1 1 ⟨0, 0, 0, 0, .still, 0⟩)).level = 2) ∧
    ((gainStep 2 0 (gainStep 1 5 (gainStart 1 48000 100 0 0 ⟨0, 0, 0, 0, .still, 1⟩))).level = 100) ∧
    ((gainStep 1 5 (gainStart 1 48000 100 0 0 ⟨0, 0, 0, 0, .still, 1⟩)).level = 0) ∧
    ((gainCoefNow ⟨{}, qWrite {} fParams 16 [1#8, 1#8, 24#8, 0xFC#8, 10#8, 0#8], 0, 48000, fun _ => 0, fun _ => 0⟩ 7 0 5 ⟨{ gains := [(7, ⟨0, 0, 0, 0, .still, 0⟩)] }, 0, []⟩).1 = gainCoef (-2)) :=
  ⟨((h ⟨0, 0, 0, 0, .still, 0⟩ (fun _ => 5) 1 48000 1 100 (by decide +kernel)).1.1 (by decide +kernel)).1 1 (by decide +kernel) (by decide +kernel) |>.trans (by decide +kernel),
   ((h ⟨0, 0, 0, 0, .still, 1⟩ (fun i => if i = 0 then 5 else 0) 1 48000 0 100 (by decide +kernel)).1.2 rfl 1).1 ⟨1, (by decide +kernel), .inl (by decide +kernel)⟩,
   ((h ⟨0, 0, 0, 0, .still, 1⟩ (fun _ => 5) 1 48000 0 100 (by decide +kernel)).1.2 rfl 0).2 (fun | 0, _ => (by decide +kernel) | i + 1, hi => absurd hi (by omega)),
   (((h ⟨0, 0, 0, 0, .still, 0⟩ (fun _ => 5) 0 48000 0 1 (by decide +kernel)).2.2 ⟨{}, qWrite {} fParams 16 [1#8, 1#8, 24#8, 0xFC#8, 10#8, 0#8], 0, 48000, fun _ => 0, fun _ => 0⟩ 7 0 5 ⟨{ gains := [(7, ⟨0, 0, 0, 0, .still, 0⟩)] }, 0, []⟩ _ rfl rfl).2 (by decide +kernel)).trans (congrArg gainCoef (by decide +kernel))⟩

theorem witness_AudioEvents (h : Obligations.AudioEvents) :
    Runs (.audioSamplePeriod 2 0 none) (apted 0 0 0 {}) ∧
    ((stampEdge 6 0 up).audio.edgesFree = [0]) ∧
    (wordClockOut 0 (apted 72 2 0 {}) = emit (.wordClock 0) (apted 72 2 0 {})) ∧
    Runs (.audioSamplePeriod 2 0 none) up ∧
    Runs .programBankExchange ({ up with audio := { exchangeDue := some 0 } }) ∧
    Runs (.audioChangeApply 5) (apted 0 0 0 {}) ∧
    Runs (.audioChangeApply 0) ({ up with audio := { dom48 := 2, changes := [⟨0, 0, 0, 0, .gain 0 0⟩] } }) ∧
    (exec (.gainNativeTimeout 0 0) up = .next (settleUse 0 0 up) ∧ exec (.gainRampEnd 0 0) up = .next (settleUse 0 0 up)) ∧
    Runs (.domfreeClockChange 2 48000000) ({ upQ (qWrite {} fAudioPorts 9217 [1#8]) with audio := { prog := qWrite {} fProgram 0x30 (le 4 48000) } }) ∧
    Runs (.bridgeLock 0 true) ({ up with audio := { prog := qWrite {} fProgram 0x250B0 [1#8] } }) ∧
    Runs (.shepherdInsertFadeEnd 0) up :=
  ⟨⟨_, (h 2 0 (apted 0 0 0 {})).1 none (by decide +kernel) rfl (by decide +kernel) _ rfl⟩,
   (h 6 0 up).2.1 rfl (by decide +kernel),
   ((h 0 0 (apted 72 2 0 {})).2.2.1 _ (by decide +kernel) (by decide +kernel) rfl).trans rfl,
   ⟨_, (h 2 0 up).2.2.2.1 none rfl⟩,
   ((h 0 0 ({ up with audio := { exchangeDue := some 0 } })).2.2.2.2.1 0 rfl (by decide +kernel)).elim fun _ q => ⟨_, q.1⟩,
   ⟨_, (h 5 0 (apted 0 0 0 {})).2.2.2.2.2.1 (by decide +kernel) rfl (by decide +kernel) (by decide +kernel)⟩,
   ⟨_, (h 0 0 ({ up with audio := { dom48 := 2, changes := [⟨0, 0, 0, 0, .gain 0 0⟩] } })).2.2.2.2.2.2.1 ⟨0, 0, 0, 0, .gain 0 0⟩ [] (by decide +kernel) rfl (by decide +kernel) rfl rfl (by decide +kernel) (by decide +kernel)⟩,
   (h 0 0 up).2.2.2.2.2.2.2.1 0,
   ⟨_, (h 0 0 ({ upQ (qWrite {} fAudioPorts 9217 [1#8]) with audio := { prog := qWrite {} fProgram 0x30 (le 4 48000) } })).2.2.2.2.2.2.2.2.1 2 48000000 (by decide +kernel) (by decide +kernel) (by decide +kernel) (by decide +kernel)⟩,
   ⟨_, (h 0 0 ({ up with audio := { prog := qWrite {} fProgram 0x250B0 [1#8] } })).2.2.2.2.2.2.2.2.2.1 0 true (by decide +kernel) (by decide +kernel)⟩,
   ⟨_, (h 0 0 up).2.2.2.2.2.2.2.2.2.2 0⟩⟩

theorem witness_AudioPortCommands (h : Obligations.AudioPortCommands) :
    Runs (.aptStatus (rq [72, 1, 0, 0])) up ∧
    Runs (.aptChstat (rq [63, 0, 0, 0])) up ∧
    Runs (.aptChstat { rq [0, 0, 0, 0] with port := 0 }) up ∧
    Runs (.aptCounters (rq [1, 0, 73, 0])) up ∧
    Runs (.aes3FrameReceive 31 0 ⟨false, 0, ⟨0, false, false, false, false⟩, ⟨0, false, false, false, false⟩⟩ none) (apted 31 1 0 { state := 1 }) ∧
    Runs (.audioPortNoSignal 71) ({ apted 71 1 0 { state := 3 } with tb := { sec := 1 } }) ∧
    ((portAt (bufIn 0 [] none (apted 0 1 0 {})) 0).buf = [[]]) ∧
    (bufIn 0 [] none (apted 0 1 0 { buf := List.replicate 14 [] }) = slipped 0 2 false (apted 0 1 0 { buf := List.replicate 14 [] })) ∧
    ((portAt (bufIn 0 [] none { upQ (qWrite (qWrite {} fAudioPorts 1 [6#8]) fAudioPorts 9217 [1#8]) with apt := [(0, { buf := List.replicate 15 [] })] }) 0).buf = List.replicate 16 []) ∧
    Runs (.aes3FrameSend 63 0) ({ apted 63 1 0 { state := 5 } with tb := { sec := 1 } }) ∧
    Runs (.tdmFrame 64 0 0 true [] none) ({ apted 64 3 0 { state := 5 } with tb := { sec := 1 } }) :=
  ⟨⟨_, (h _ 0 up).1 ⟨rfl, rfl, rfl⟩ rfl (by decide +kernel) (by decide +kernel) rfl⟩,
   ((((h (rq [63, 0, 0, 0]) 0 up).2.1 ⟨rfl, rfl, rfl⟩ rfl (by decide +kernel) rfl).1 (.inl rfl)).imp fun _ q => q.1).elim fun _ q => ⟨_, q⟩,
   ⟨_, ((h _ 0 up).2.1 ⟨rfl, rfl, rfl⟩ rfl (by decide +kernel) rfl).2 rfl (by decide +kernel)⟩,
   ((h (rq [1, 0, 73, 0]) 0 up).2.2.1 ⟨rfl, rfl, rfl⟩ rfl (by decide +kernel) (by decide +kernel) (by decide +kernel) rfl).elim fun _ q => ⟨_, q.1⟩,
   ⟨_, (h (rq []) 31 (apted 31 1 0 { state := 1 })).2.2.2.1 0 _ none (by decide +kernel) (by decide +kernel) (by decide +kernel) (by decide +kernel)⟩,
   ⟨_, (h (rq []) 71 ({ apted 71 1 0 { state := 3 } with tb := { sec := 1 } })).2.2.2.2.1 (show _ by decide +kernel) (by decide +kernel) (by decide +kernel) (by decide +kernel) (show _ by decide +kernel) (by decide +kernel)⟩,
   ((h (rq []) 0 (apted 0 1 0 {})).2.2.2.2.2.1 [] none (by decide +kernel)).1 (by decide +kernel),
   ((h (rq []) 0 (apted 0 1 0 { buf := List.replicate 14 [] })).2.2.2.2.2.1 [] none (by decide +kernel)).2.1 (by decide +kernel) (by decide +kernel),
   ((h (rq []) 0 { upQ (qWrite (qWrite {} fAudioPorts 1 [6#8]) fAudioPorts 9217 [1#8]) with apt := [(0, { buf := List.replicate 15 [] })] }).2.2.2.2.2.1 [] none (by decide +kernel)).2.2 (by decide +kernel),
   (((h (rq []) 63 ({ apted 63 1 0 { state := 5 } with tb := { sec := 1 } })).2.2.2.2.2.2.1 0 (show _ by decide +kernel) (by decide +kernel) (by decide +kernel) (by decide +kernel) (show _ by decide +kernel) (by decide +kernel))).elim fun _ q => q.elim fun _ q => q.elim fun _ q => ⟨_, q.1⟩,
   ((h (rq []) 64 ({ apted 64 3 0 { state := 5 } with tb := { sec := 1 } })).2.2.2.2.2.2.2 0 0 true [] none (show _ by decide +kernel) (by decide +kernel) (by decide +kernel) (by decide +kernel) (show _ by decide +kernel) (by decide +kernel) (by decide +kernel)).elim fun _ q => ⟨_, q.1⟩⟩

/-! ### Witnesses: layer engines -/

/-- A committed card of one pixel: its fixed part, one row's offset and one run. -/
def onePixel : Card :=  { length := 0x96, data := ((le 2 1 ++ le 2 1 ++ le 4 1 ++ zeros 8 ++ zeros 128 ++ le 4 0x94 ++ [0#8, 0#8]).zipIdx.map fun p => (p.2, p.1)) }

/-- The device with layer engine 0 bound to source slot 5, in a state. -/
def lay (x : Engine) : State :=  { upQ (qUpsert {} fBindings 5 (le 2 5 ++ [4#8] ++ zeros 5)) with layers := { engines := [(0, x)] } }

theorem witness_LayerCommands (h : Obligations.LayerCommands) :
    Runs (.layStatus (rq [63, 1, 1, 0])) up ∧
    Runs (.laySet (rq ([63, 1, 0, 0, 7] ++ zs 131))) up ∧
    Runs (.laySet (rq ([0, 2, 0, 1, 0, 0, 0, 0, 0, 1] ++ zs 126))) up ∧
    Runs (.layShepherdWrite { rq ([63, 1] ++ zs 6 ++ w 4 8388608 ++ zs 4) with port := portSafety }) up ∧
    Runs (.layShepherdWrite { rq ([0, 2] ++ zs 6 ++ w 4 1 ++ zs 4 ++ [7]) with port := portSafety }) ({ up with layers := { cards := [(0, { length := 1 })] } }) ∧
    Runs (.layShepherdWrite { rq ([0, 3] ++ zs 14) with port := portSafety }) up ∧
    Runs (.layShepherdWrite { rq ([0, 3] ++ zs 14) with port := portSafety }) ({ up with layers := { cards := [(0, onePixel)] } }) ∧
    Runs (.layShepherdWrite { rq ([0, 4] ++ zs 14) with port := portSafety }) up ∧
    Runs (.layShepherdShow { rq ([0, 30] ++ zs 6) with port := portSafety }) up ∧
    Runs (.layShepherdRead (rq [])) up :=
  ⟨((h (rq [63, 1, 1, 0]) up).1 ⟨rfl, rfl, rfl⟩ rfl (by decide +kernel) (by decide +kernel) (by decide +kernel) rfl).elim fun _ q => ⟨_, q.1⟩,
   ⟨_, ((h _ up).2.1 ⟨rfl, rfl, rfl⟩ _ 63 _ rfl rfl rfl (by decide +kernel) (by decide +kernel) (by decide +kernel) (by decide +kernel) rfl rfl (by decide +kernel) rfl).1 rfl rfl (by decide +kernel) (by decide +kernel) rfl⟩,
   ⟨_, ((h _ up).2.1 ⟨rfl, rfl, rfl⟩ _ 0 _ rfl rfl rfl (by decide +kernel) (by decide +kernel) (by decide +kernel) (by decide +kernel) rfl rfl (by decide +kernel) rfl).2 rfl rfl (by decide +kernel) (by decide +kernel) rfl⟩,
   ⟨_, ((h _ up).2.2.1 ⟨rfl, rfl, rfl⟩ 63 8388608 rfl rfl (by decide +kernel) rfl rfl).1 rfl rfl rfl (by decide +kernel) (by decide +kernel)⟩,
   ⟨_, ((h _ ({ up with layers := { cards := [(0, { length := 1 })] } })).2.2.1 ⟨rfl, rfl, rfl⟩ 0 1 rfl rfl (by decide +kernel) rfl rfl).2.1 rfl rfl rfl (by decide +kernel)⟩,
   ⟨_, (((h _ up).2.2.1 ⟨rfl, rfl, rfl⟩ 0 0 rfl rfl (by decide +kernel) rfl rfl).2.2.1 rfl rfl rfl rfl).2 0 (by decide +kernel)⟩,
   ⟨_, (((h _ ({ up with layers := { cards := [(0, onePixel)] } })).2.2.1 ⟨rfl, rfl, rfl⟩ 0 0 rfl rfl (by decide +kernel) rfl rfl).2.2.1 rfl rfl rfl rfl).1 (by decide +kernel)⟩,
   ⟨_, ((h _ up).2.2.1 ⟨rfl, rfl, rfl⟩ 0 0 rfl rfl (by decide +kernel) rfl rfl).2.2.2 rfl rfl rfl rfl (by decide +kernel)⟩,
   ((h { rq ([0, 30] ++ zs 6) with port := portSafety } up).2.2.2.1 ⟨rfl, rfl, rfl⟩ 0 rfl rfl (by decide +kernel) (by decide +kernel) (by decide +kernel) (by decide +kernel) rfl (by decide +kernel)).elim fun _ q => q.elim fun _ q => ⟨_, q.2.1⟩,
   (((h (rq []) up).2.2.2.2 ⟨rfl, rfl, rfl⟩ rfl).imp fun _ q => q.1).elim fun _ q => ⟨_, q⟩⟩

theorem witness_LayerEngines (h : Obligations.LayerEngines) :
    Runs (.layerOutputLine 0 0 1121) (lay { running := true }) ∧
    Runs (.layerOutputLine 0 0 1121) (lay { running := true, mode := some 1 }) ∧
    Runs (.layerOutputLine 0 0 1121) (lay { running := true, mode := some (framePeriod 0x2260) }) ∧
    Runs (.layerOutputLine 0 0 42) up ∧
    Runs (.layerFormatChangeStart 0) ({ lay { running := true, waiting := true } with tb := { sec := 1 } }) ∧
    Runs (.layerFormatChangeStart 0) up ∧
    Runs (.layerFormatChangeEnd 0) (lay { mode := some 0 }) ∧
    Runs (.shepherdChangeApply 0) up ∧
    Runs (.shepherdChangeApply 0) ({ up with tb := { sec := 1 }, layers := { changes := [⟨0, [], 1, 0, [0]⟩] } }) :=
  ⟨⟨_, (h 0 0 1121 (lay { running := true }) _ rfl).1 5 0x2260 _ rfl (by decide +kernel) (by decide +kernel) (by decide +kernel) (by decide +kernel) rfl⟩,
   ⟨_, ((h 0 0 1121 (lay { running := true, mode := some 1 }) _ rfl).2.1 5 0x2260 1 rfl (show _ by decide +kernel) (by decide +kernel) (by decide +kernel) (by decide +kernel) (show _ by decide +kernel)).1 (by decide +kernel)⟩,
   ⟨_, ((h 0 0 1121 (lay { running := true, mode := some (framePeriod 0x2260) }) _ rfl).2.1 5 0x2260 (framePeriod 0x2260) rfl (show _ by decide +kernel) (by decide +kernel) (by decide +kernel) (by decide +kernel) (show _ by decide +kernel)).2 (by decide +kernel)⟩,
   ⟨_, (h 0 0 42 up _ rfl).2.2.1 rfl⟩,
   ⟨_, (h 0 0 0 ({ lay { running := true, waiting := true } with tb := { sec := 1 } }) _ rfl).2.2.2.1 _ rfl rfl rfl (by decide +kernel) (by decide +kernel)⟩,
   ⟨_, (h 0 0 0 (up) _ rfl).2.2.2.2.1 (.inl (by decide +kernel))⟩,
   ⟨_, (h 0 0 0 (lay { mode := some 0 }) _ rfl).2.2.2.2.2.1 0 0x2260 (by decide +kernel) (by decide +kernel) (by decide +kernel) (fun | 0, hi => absurd rfl hi | i + 1, _ => by simp [engineAt, lay, upQ, mget]) (by decide +kernel)⟩,
   ⟨_, (h 0 0 0 up _ rfl).2.2.2.2.2.2.1 (by decide +kernel)⟩,
   ((h 0 0 0 ({ up with tb := { sec := 1 }, layers := { changes := [⟨0, [], 1, 0, [0]⟩] } }) _ rfl).2.2.2.2.2.2.2 ⟨0, [], 1, 0, [0]⟩ 0x2260 (by decide +kernel) rfl (by decide +kernel) rfl (by decide +kernel)).elim fun _ q => ⟨_, q.1⟩⟩

theorem witness_DitherExact (h : Obligations.DitherExact) :
    ((([(0, 0), (1, 0), (0, 1), (1, 1)].flatMap fun p : Nat × Nat => (List.range 4).map fun i => (i, p)).map fun c => (1817 + ditherT (0 + c.1) 4 (0 + c.2.1) (0 + c.2.2)) / 16).sum = 1817) :=
  (h 0 0 0 1817 rfl rfl).2.1

/-! ### Witnesses: references, clocks and the time service -/

theorem witness_ReferenceCommands (h : Obligations.ReferenceCommands) :
    Runs (.refStatus (rq [1, 0, 0, 0])) up ∧
    Runs (.refSelect (rq ([1, 14] ++ zs 6))) (timed { refs := [(14, { q := 4 })] }) ∧
    Runs (.refSelect (rq ([2, 0] ++ zs 6))) up ∧
    Runs (.refHoldover (rq [])) up ∧
    Runs (.clkStatus (rq [1, 0, 0, 0])) up :=
  ⟨((h (rq [1, 0, 0, 0]) up).1 ⟨rfl, rfl, rfl⟩ rfl (by decide +kernel) rfl).elim fun _ q => ⟨_, q.1⟩,
   ⟨_, ((h _ (timed { refs := [(14, { q := 4 })] })).2.1 ⟨rfl, rfl, rfl⟩ 1 14 rfl rfl rfl (by decide +kernel) rfl (by decide +kernel)).1 (fun _ => rfl) (fun e => absurd e (by decide +kernel))⟩,
   ⟨_, ((h _ up).2.1 ⟨rfl, rfl, rfl⟩ 2 0 rfl rfl rfl (by decide +kernel) rfl (by decide +kernel)).2 (.inr ⟨rfl, rfl⟩)⟩,
   ⟨_, (h _ up).2.2.1 ⟨rfl, rfl, rfl⟩ rfl⟩,
   ⟨_, (h _ up).2.2.2 ⟨rfl, rfl, rfl⟩ rfl (by decide +kernel) rfl⟩⟩

theorem witness_ReferenceEvents (h : Obligations.ReferenceEvents) :
    Runs (.taiSecondEvaluation []) up ∧
    Runs (.taiSecondEvaluation []) (follower {}) ∧
    ((holdExpiry up).time.dpll.holdExpire = true) ∧
    ((holdExpiry (timed { dpll := { bound := some 0, holdExpire := false } })).time.dpll.holdExpire = false) ∧
    ((holdExpiry (timed { dpll := { bound := some 0, holdExpire := true, lowEvals := 1 } })).time.dpll.holdExpire = false) ∧
    Runs (.taiSecondEvaluation []) (timed { dpll := { evalSec := some 0 } }) ∧
    Runs (.referencePulse 8 0) ({ upQ (qWrite {} fRef 0x142 [1#8, 3#8]) with time := { refs := [(8, { active := true })] } }) ∧
    Runs (.referencePulse 8 20000000) ({ upQ (qWrite {} fRef 0x142 [1#8, 3#8]) with time := { refs := [(8, { active := true, pulses := [0] })] } }) ∧
    Runs (.atomCountCycle 3) (upQ (qWrite {} fRef 0x1C2 [1#8])) ∧
    Runs (.clockReferenceActivityRestored 0) (upQ (qWrite {} fRef 0x42 [1#8, 1#8])) ∧
    Runs (.referenceActivityFault 11) up ∧
    ((activityFault 14 (timed { refs := [(14, { q := 4, active := true })] })) = reselect (refEnter 14 1 (setRef 14 (fun y => { y with active := false, faults := satInc y.faults, pulses := [] }) (timed { refs := [(14, { q := 4, active := true })] })))) ∧
    Runs (.referenceHoldExpiry 14) ({ timed { refs := [(14, { q := 5 })] } with tb := { sec := 4 } }) ∧
    Runs (.referenceHoldExpiry 0) up ∧
    (fenceEvaluation up = { up with drv := { up.drv with fenced := true, belowSince := none } }) ∧
    (fenceEvaluation { timed { dpll := { bound := some (950 * 1000000000) } } with tb := { acquired := true } } = { timed { dpll := { bound := some (950 * 1000000000) } } with tb := { acquired := true } }) ∧
    (fenceEvaluation { timed { dpll := { bound := some 0 } } with tb := { acquired := true, sec := 1 }, drv := { belowSince := some 0, fenced := true } } = raise 162 0 0 { timed { dpll := { bound := some 0 } } with tb := { acquired := true, sec := 1 }, drv := { belowSince := some 0, fenced := false } }) :=
  ⟨⟨_, (h 0 up).1 [] rfl (by decide +kernel) (by decide +kernel)⟩,
   ⟨_, (h 0 (follower {})).2.1 [] rfl (by decide +kernel) (by decide +kernel)⟩,
   ((h 0 up).2.2.1 _ rfl).1 (.inl rfl),
   ((h 0 (timed { dpll := { bound := some 0, holdExpire := false } })).2.2.1 _ rfl).2.1 0 rfl (by decide +kernel) rfl,
   (((h 0 (timed { dpll := { bound := some 0, holdExpire := true, lowEvals := 1 } })).2.2.1 _ rfl).2.2 0 rfl (by decide +kernel) rfl).2 (by decide +kernel),
   ⟨_, (h 0 (timed { dpll := { evalSec := some 0 } })).2.2.2.1 [] rfl⟩,
   ⟨_, ((h 8 ({ upQ (qWrite {} fRef 0x142 [1#8, 3#8]) with time := { refs := [(8, { active := true })] } })).2.2.2.2.1 0 0 (by decide +kernel) (by decide +kernel) (by decide +kernel) rfl (by decide +kernel)).1 (by decide +kernel)⟩,
   ⟨_, ((h 8 ({ upQ (qWrite {} fRef 0x142 [1#8, 3#8]) with time := { refs := [(8, { active := true, pulses := [0] })] } })).2.2.2.2.1 20000000 105840000000 (by decide +kernel) (by decide +kernel) (by decide +kernel) rfl (by decide +kernel)).2 (by decide +kernel)⟩,
   ⟨_, (h 0 (upQ (qWrite {} fRef 0x1C2 [1#8]))).2.2.2.2.2.1 3 (by decide +kernel)⟩,
   ⟨_, (h 0 (upQ (qWrite {} fRef 0x42 [1#8, 1#8]))).2.2.2.2.2.2.1 (by decide +kernel) (by decide +kernel) (by decide +kernel) (by decide +kernel)⟩,
   ⟨_, (h 11 up).2.2.2.2.2.2.2.1 (by decide +kernel)⟩,
   ((h 14 (timed { refs := [(14, { q := 4, active := true })] })).2.2.2.2.2.2.2.2.1 (by decide +kernel) (by decide +kernel) (by decide +kernel) (by decide +kernel)).trans rfl,
   ⟨_, (h 14 ({ timed { refs := [(14, { q := 5 })] } with tb := { sec := 4 } })).2.2.2.2.2.2.2.2.2.1 (by decide +kernel) (by decide +kernel) (by decide +kernel) (by decide +kernel)⟩,
   ⟨_, (h 0 up).2.2.2.2.2.2.2.2.2.2.1 (by decide +kernel)⟩,
   ((h 0 up).2.2.2.2.2.2.2.2.2.2.2 _ rfl).1 (.inl rfl),
   ((h 0 { timed { dpll := { bound := some (950 * 1000000000) } } with tb := { acquired := true } }).2.2.2.2.2.2.2.2.2.2.2 _ rfl).2.1 _ rfl (by decide +kernel) (by decide +kernel),
   (((h 0 { timed { dpll := { bound := some 0 } } with tb := { acquired := true, sec := 1 }, drv := { belowSince := some 0, fenced := true } }).2.2.2.2.2.2.2.2.2.2.2 _ rfl).2.2.1 _ 0 rfl (by decide +kernel) rfl rfl).1 (by decide +kernel)⟩

theorem witness_ClockEvents (h : Obligations.ClockEvents) :
    Runs (.dpllPhaseUpdate 5 none) (timed { dpll := { state := 3 } }) ∧
    Runs (.dpllPhaseUpdate 5 none) (timed { dpll := { state := 4 } }) ∧
    Runs (.dpllPhaseUpdate 5 none) (timed { dpll := { state := 5 } }) ∧
    Runs (.dpllPhaseUpdate 5 none) (timed { dpll := { state := 0 } }) ∧
    Runs (.dpllPhaseUpdate 5 none) (follower {}) ∧
    Runs (.dpllPhaseUpdate 5 (some ⟨2, 0, none, 0, 0, 0, none⟩)) (follower {}) ∧
    Runs .ladderAdvance ({ timed { dpll := { selected := some 0, within := some 0, state := 2 } } with tb := { sec := 3 } }) ∧
    Runs .ladderAdvance ({ timed { dpll := { selected := some 0, within := some 0, state := 1, rung := 0 } } with tb := { sec := 3600 } }) ∧
    Runs .ladderAdvance ({ timed { dpll := { selected := some 0, within := some 0, state := 1, rung := 4 } } with tb := { sec := 3600 } }) ∧
    Runs .ladderAdvance up ∧
    Runs (.synthLockLoss 13) (timed { synth := [(13, 2)] }) ∧
    Runs (.synthRelock 9) (timed { synth := [(9, 3)] }) ∧
    Runs (.sysrefLoss true) up ∧
    Runs (.pulseOutputEdge 3 0) (upQ (qWrite {} fRef 0x320 [1#8, 0#8, 0x60#8, 0x22#8, 1#8])) ∧
    Runs (.pulseOutputEdge 0 0) up :=
  ⟨⟨_, ((h 5 0 (timed { dpll := { state := 3 } })).1 none rfl (by decide +kernel)).1 (by decide +kernel) (by decide +kernel)⟩,
   ⟨_, ((h 5 0 (timed { dpll := { state := 4 } })).1 none rfl (by decide +kernel)).2.1 rfl⟩,
   ⟨_, ((h 5 0 (timed { dpll := { state := 5 } })).1 none rfl (by decide +kernel)).2.2.1 rfl⟩,
   ⟨_, ((h 5 0 (timed { dpll := { state := 0 } })).1 none rfl (by decide +kernel)).2.2.2 rfl⟩,
   ⟨_, (h 5 0 (follower {})).2.1 rfl (by decide +kernel)⟩,
   ((h 5 0 (follower {})).2.2.1 ⟨2, 0, none, 0, 0, 0, none⟩ rfl (by decide +kernel)).elim fun _ q => ⟨_, q.1⟩,
   ⟨_, ((h 0 0 ({ timed { dpll := { selected := some 0, within := some 0, state := 2 } } with tb := { sec := 3 } })).2.2.2.1 0 0 rfl rfl (show _ by decide +kernel) (by decide +kernel) (by decide +kernel) (by decide +kernel) (show _ by decide +kernel)).1 (by decide +kernel) (by decide +kernel)⟩,
   ⟨_, ((h 0 0 ({ timed { dpll := { selected := some 0, within := some 0, state := 1, rung := 0 } } with tb := { sec := 3600 } })).2.2.2.1 0 0 rfl rfl (show _ by decide +kernel) (by decide +kernel) (by decide +kernel) (by decide +kernel) (show _ by decide +kernel)).2.1 (by decide +kernel) rfl⟩,
   ⟨_, ((h 0 0 ({ timed { dpll := { selected := some 0, within := some 0, state := 1, rung := 4 } } with tb := { sec := 3600 } })).2.2.2.1 0 0 rfl rfl (show _ by decide +kernel) (by decide +kernel) (by decide +kernel) (by decide +kernel) (show _ by decide +kernel)).2.2 (by decide +kernel) rfl⟩,
   ⟨_, (h 0 0 up).2.2.2.2.1 rfl⟩,
   ⟨_, (h 0 13 (timed { synth := [(13, 2)] })).2.2.2.2.2.1 (by decide +kernel) (by decide +kernel) rfl⟩,
   ⟨_, (h 0 9 (timed { synth := [(9, 3)] })).2.2.2.2.2.2.1 (by decide +kernel) (by decide +kernel) rfl (by decide +kernel)⟩,
   ⟨_, (h 0 0 up).2.2.2.2.2.2.2.1 true rfl⟩,
   ⟨_, (h 0 0 (upQ (qWrite {} fRef 0x320 [1#8, 0#8, 0x60#8, 0x22#8, 1#8]))).2.2.2.2.2.2.2.2.1 3 0 1 (by decide +kernel) (by decide +kernel) rfl rfl (by decide +kernel) rfl (by decide +kernel)⟩,
   ⟨_, (h 0 0 up).2.2.2.2.2.2.2.2.2 0 0 rfl⟩⟩

theorem witness_RateWithinLimits (h : Obligations.RateWithinLimits) :
    ((setRate 7 up).tb.rho - 0 ≤ 28147497) :=
  ((h 7 up).2.2 28147497 [0] (by decide +kernel) (by decide +kernel) (by decide +kernel) (by decide +kernel) 0 (by decide +kernel)).1

theorem witness_TimeCommands (h : Obligations.TimeCommands) :
    Runs (.timRead (rq [])) up ∧
    Runs (.timBound (rq [])) up ∧
    Runs (.ptpStatus (rq [1, 0, 0, 0])) up ∧
    Runs (.ptpSessions (rq (zs 4 ++ w 2 1000 ++ [255, 0]))) up ∧
    Runs (.ntsStatus (rq [1, 0, 0, 0])) up ∧
    Runs (.timSet (rq (w 8 281474976710656 ++ zs 8))) up ∧
    Runs (.timSet (rq (zs 16))) ({ up with tb := { acquired := true } }) ∧
    Runs (.timSet (rq (w 8 281474976710655 ++ w 4 999999999 ++ zs 4))) up :=
  ⟨⟨_, (h _ up).1 ⟨rfl, rfl, rfl⟩ rfl⟩,
   ⟨_, (h _ up).2.1 ⟨rfl, rfl, rfl⟩ rfl⟩,
   ((h (rq [1, 0, 0, 0]) up).2.2.1 ⟨rfl, rfl, rfl⟩ rfl (by decide +kernel) rfl).elim fun t q => q.elim fun _ q => ⟨_, q.1⟩,
   ⟨_, (h _ up).2.2.2.1 ⟨rfl, rfl, rfl⟩ 1000 255 _ _ rfl rfl rfl (by decide +kernel) (by decide +kernel) (.inr rfl) rfl rfl rfl⟩,
   ⟨_, (h _ up).2.2.2.2.1 ⟨rfl, rfl, rfl⟩ rfl (by decide +kernel) rfl⟩,
   ⟨_, ((h (rq (w 8 281474976710656 ++ zs 8)) up).2.2.2.2.2 ⟨rfl, rfl, rfl⟩ rfl).1 (by decide +kernel)⟩,
   ⟨_, (((h (rq (zs 16)) ({ up with tb := { acquired := true } })).2.2.2.2.2 ⟨rfl, rfl, rfl⟩ rfl).2 (by decide +kernel) (by decide +kernel) (by decide +kernel)).1 rfl⟩,
   ⟨_, (((h (rq (w 8 281474976710655 ++ w 4 999999999 ++ zs 4)) up).2.2.2.2.2 ⟨rfl, rfl, rfl⟩ rfl).2 (by decide +kernel) (by decide +kernel) (by decide +kernel)).2 rfl⟩⟩

theorem witness_TimeBaseEvents (h : Obligations.TimeBaseEvents) :
    Runs (.acquisitionStep none) ({ up with tb := { acquired := true } }) ∧
    Runs (.acquisitionStep none) (timed { stepDue := some 0, dpll := { selected := some 8 }, refs := [(8, { phase := -2500 })] }) ∧
    Runs (.acquisitionStep (some 3)) (follower {}) ∧
    Runs .timSetApply (timed { pendingSet := [⟨5, 999999999, 0, rq []⟩] }) ∧
    Runs .timSetApply up ∧
    Runs .leapSecond ({ upQ (qWrite {} fTime 0x10 (le 8 1 ++ zeros 0 ++ [1#8])) with tb := { sec := 1 } }) ∧
    Runs .leapSecond up ∧
    Runs (.keyRollover 7) (upQ (qWrite {} fTime 0x200 [1#8])) :=
  ⟨⟨_, (h ({ up with tb := { acquired := true } }) _ rfl).1 none rfl⟩,
   (((h (timed { stepDue := some 0, dpll := { selected := some 8 }, refs := [(8, { phase := -2500 })] }) _ rfl).2.1 none 0 8 rfl rfl (by decide +kernel) rfl (by decide +kernel) rfl (by decide +kernel) (by decide +kernel))).elim fun _ q => ⟨_, q.1⟩,
   (((h (follower {}) _ rfl).2.2.1 3 rfl rfl (by decide +kernel) (by decide +kernel) (by decide +kernel))).elim fun _ q => ⟨_, q.1⟩,
   (((h (timed { pendingSet := [⟨5, 999999999, 0, rq []⟩] }) _ rfl).2.2.2.1 ⟨5, 999999999, 0, rq []⟩ rfl (by decide +kernel) (by decide +kernel) rfl (by decide +kernel) (by decide +kernel))).elim fun _ q => ⟨_, q.1⟩,
   ⟨_, (h up _ rfl).2.2.2.2.1 rfl⟩,
   ⟨_, (h ({ upQ (qWrite {} fTime 0x10 (le 8 1 ++ zeros 0 ++ [1#8])) with tb := { sec := 1 } }) _ rfl).2.2.2.2.2.2.1 5292 1 (by decide +kernel) (by decide +kernel) (by decide +kernel)⟩,
   ⟨_, (h up _ rfl).2.2.2.2.2.2.2.1 (by decide +kernel)⟩,
   ⟨_, ((h (upQ (qWrite {} fTime 0x200 [1#8])) _ rfl).2.2.2.2.2.2.2.2 7 (by decide +kernel) (by decide +kernel)).1⟩⟩

theorem witness_TimeBaseAdvance (h : Obligations.TimeBaseAdvance) :
    ((tickBase { inc := 799999999, acc := 281474976710655, rho := 5629499534 }).inc < incsPerSec) :=
  (h.1 { inc := 799999999, acc := 281474976710655, rho := 5629499534 } _ (by decide +kernel) (by decide +kernel) (by decide +kernel) (by decide +kernel) rfl).2.2.2.2.1

/-! ### Witnesses: PTP, NTP and the satellite receiver -/

theorem witness_PtpEvents (h : Obligations.PtpEvents) :
    Runs (.ptpMessageReceive 0 [] announce) (clocked 3 4 id) ∧
    Runs (.ptpMessageReceive 0 [] announce) (clocked 0x41 4 id) ∧
    Runs (.ptpMessageReceive 0 [] []) up ∧
    (handlePtp 0 0 [] [13#8] false up = setInst 0 (fun x => { x with managed := satInc x.managed }) up) ∧
    Runs (.ptpMessageSend 0 11 none) (clocked 0x11 6 id) ∧
    Runs (.ptpMessageSend 0 0 (some 0)) (clocked 1 6 (fun t => { t with sessions := [⟨0, 0, 0, false, false, false, [], [], 1, none, some ⟨0, 5⟩, none, none, 0, 0⟩] })) ∧
    Runs (.ptpMessageSend 0 0 (some 0)) (clocked 1 6 (fun t => { t with sessions := [⟨0, 0, 0, false, false, false, [], [], 1, none, none, none, none, 0, 0⟩] })) ∧
    Runs (.ptpMessageSend 0 1 none) (clocked 1 9 id) ∧
    Runs (.ptpMessageSend 0 12 none) (clocked 1 9 id) ∧
    Runs (.announceReceiptTimeout 0) (clocked 1 9 (fun t => { t with insts := [(0, { slavePort := some 0, master := some ⟨[], 1, [], 0, 0, 0, 0, 0, none, 0, none, [], []⟩ })] })) ∧
    Runs (.announceReceiptTimeout 0) (clocked 1 6 id) :=
  ⟨⟨_, ((h 0 0 (clocked 3 4 id)).1 [] announce (clocked 3 4 id) none (show _ by decide +kernel) (by decide +kernel) (by decide +kernel) (by decide +kernel) (show _ by decide +kernel) (by decide +kernel) (by decide +kernel) (by decide +kernel)).2 (.inr ⟨rfl, (by decide +kernel)⟩)⟩,
   ⟨_, ((h 0 0 (clocked 0x41 4 id)).1 [] announce (clocked 0x41 4 id) none (show _ by decide +kernel) (by decide +kernel) (by decide +kernel) (by decide +kernel) (show _ by decide +kernel) (by decide +kernel) (by decide +kernel) (by decide +kernel)).1 (.inr ⟨rfl, (by decide +kernel)⟩)⟩,
   ⟨_, (h 0 0 up).2.1 [] [] (by decide +kernel)⟩,
   (h 0 0 up).2.2.1 [] [13#8] false (by decide +kernel),
   ⟨_, (((h 0 0 (clocked 0x11 6 id)).2.2.2.1 (by decide +kernel) rfl).1 rfl (by decide +kernel)).1⟩,
   ⟨_, (((h 0 0 (clocked 1 6 (fun t => { t with sessions := [⟨0, 0, 0, false, false, false, [], [], 1, none, some ⟨0, 5⟩, none, none, 0, 0⟩] }))).2.2.2.1 (by decide +kernel) rfl).2.1 0 _ rfl rfl).1 ⟨0, 5⟩ rfl⟩,
   ⟨_, (((h 0 0 (clocked 1 6 (fun t => { t with sessions := [⟨0, 0, 0, false, false, false, [], [], 1, none, none, none, none, 0, 0⟩] }))).2.2.2.1 (by decide +kernel) rfl).2.1 0 _ rfl rfl).2.2 rfl⟩,
   ⟨_, ((h 0 0 (clocked 1 9 id)).2.2.2.1 (by decide +kernel) rfl).2.2.1 none (by decide +kernel)⟩,
   ⟨_, ((h 0 0 (clocked 1 9 id)).2.2.2.1 (by decide +kernel) rfl).2.2.2 none (by decide +kernel) (by decide +kernel)⟩,
   ⟨_, (h 0 0 (clocked 1 9 (fun t => { t with insts := [(0, { slavePort := some 0, master := some ⟨[], 1, [], 0, 0, 0, 0, 0, none, 0, none, [], []⟩ })] }))).2.2.2.2.1 _ (by decide +kernel) rfl (by decide +kernel) rfl rfl (by decide +kernel)⟩,
   ⟨_, (h 0 0 (clocked 1 6 id)).2.2.2.2.2.1 rfl⟩⟩

theorem witness_NtpEvents (h : Obligations.NtpEvents) :
    Runs (.ntpRequest 0 [] []) (served id) ∧
    Runs (.ntpRequest 0 [] ([0x23#8] ++ zeros 47)) (served id) ∧
    Runs (.ntpRequest 0 [] ([0x23#8] ++ zeros 47)) (served (fun n => { n with limits := [⟨clientOf [], 0, 0, 0, none⟩] })) ∧
    Runs (.ntpRequest 0 [] ([0x23#8] ++ zeros 47)) (served (fun n => { n with limits := [⟨clientOf [], 0, 0, 0, some 0⟩] })) ∧
    Runs (.ntpRequest 0 [] ([0x23#8] ++ zeros 47 ++ be 2 0x0404 ++ be 2 28 ++ zeros 24)) (served id) ∧
    Runs (.ntpRequest 0 [] ([0x23#8] ++ zeros 47 ++ be 2 0x0104 ++ be 2 8 ++ zeros 4 ++ be 2 0x0204 ++ be 2 8 ++ zeros 4 ++ be 2 0x0404 ++ be 2 8 ++ zeros 4)) (served id) ∧
    Runs (.ntpRequest 0 [] ([0x23#8] ++ zeros 47)) ({ served (fun n => { n with served := 8388608 }) with tb := {} }) ∧
    Runs (.ntpRequest 0 [] []) up ∧
    Runs (.ntsKeHandshake 0 7 true true []) (served id) ∧
    Runs (.ntsKeTimeout 7) ({ served (fun n => { n with conns := [(7, 0)] }) with tb := { sec := 5 } }) ∧
    Runs (.ntsKeTimeout 7) up :=
  ⟨⟨_, ((h 0 [] [] (served id)).1 (by decide +kernel) rfl).1 (.inl (by decide +kernel))⟩,
   ⟨_, (((((h 0 [] ([0x23#8] ++ zeros 47) (served id)).1 (by decide +kernel) rfl).2 false (show _ by decide +kernel) (by decide +kernel) (by decide +kernel) (by decide +kernel) (show _ by decide +kernel)).2 (.inl rfl)).2 _ _ _ (by decide +kernel) rfl).1 rfl rfl⟩,
   ⟨_, (((((h 0 [] ([0x23#8] ++ zeros 47) (served (fun n => { n with limits := [⟨clientOf [], 0, 0, 0, none⟩] }))).1 (by decide +kernel) rfl).2 false (show _ by decide +kernel) (by decide +kernel) (by decide +kernel) (by decide +kernel) (show _ by decide +kernel)).2 (.inl rfl)).2 _ _ false (by decide +kernel) rfl).2.2.1 (triple _ (by decide +kernel) (by decide +kernel))⟩,
   ⟨_, (((((h 0 [] ([0x23#8] ++ zeros 47) (served (fun n => { n with limits := [⟨clientOf [], 0, 0, 0, some 0⟩] }))).1 (by decide +kernel) rfl).2 false (show _ by decide +kernel) (by decide +kernel) (by decide +kernel) (by decide +kernel) (show _ by decide +kernel)).2 (.inl rfl)).2 _ _ false (by decide +kernel) rfl).2.2.2 (triple _ (by decide +kernel) (by decide +kernel))⟩,
   ⟨_, (((h 0 [] ([0x23#8] ++ zeros 47 ++ be 2 0x0404 ++ be 2 28 ++ zeros 24) (served id)).1 (by decide +kernel) rfl).2 true (show _ by decide +kernel) (by decide +kernel) (by decide +kernel) (by decide +kernel) (show _ by decide +kernel)).1 rfl (by decide +kernel)⟩,
   ⟨_, (((((h 0 [] ([0x23#8] ++ zeros 47 ++ be 2 0x0104 ++ be 2 8 ++ zeros 4 ++ be 2 0x0204 ++ be 2 8 ++ zeros 4 ++ be 2 0x0404 ++ be 2 8 ++ zeros 4) (served id)).1 (by decide +kernel) rfl).2 true (show _ by decide +kernel) (by decide +kernel) (by decide +kernel) (by decide +kernel) (show _ by decide +kernel)).2 (.inr (by decide +kernel))).2 _ _ _ (by decide +kernel) rfl).2.1 rfl rfl⟩,
   ⟨_, ((((h 0 [] ([0x23#8] ++ zeros 47) ({ served (fun n => { n with served := 8388608 }) with tb := {} })).1 (by decide +kernel) rfl).2 false (show _ by decide +kernel) (by decide +kernel) (by decide +kernel) (by decide +kernel) (show _ by decide +kernel)).2 (.inl rfl)).1 (by decide +kernel)⟩,
   ⟨_, (h 0 [] [] up).2.1 (by decide +kernel)⟩,
   ⟨_, (h 0 [] [] (served id)).2.2.1 7 true [] (by decide +kernel) (by decide +kernel) rfl rfl (by decide +kernel)⟩,
   ⟨_, (h 0 [] [] ({ served (fun n => { n with conns := [(7, 0)] }) with tb := { sec := 5 } })).2.2.2.2.1 7 (by decide +kernel)⟩,
   ⟨_, (h 0 [] [] up).2.2.2.2.2.1 7 (by decide +kernel)⟩⟩

theorem witness_GnssCommands (h : Obligations.GnssCommands) :
    Runs (.gnsStatus (rq [1, 0, 0, 0])) up ∧
    Runs (.gnsChannels (rq [0, 96, 0, 0])) up ∧
    Runs (.gnsAid (rq (zs 8))) up ∧
    Runs (.gnsAid (rq ([1, 0] ++ zs 18))) ({ up with tb := { acquired := true } }) ∧
    Runs (.gnsAid (rq ([1, 0] ++ zs 18))) up ∧
    Runs (.gnsAid (rq ([6, 0] ++ zs 6))) (skied 1 { state := 6 }) ∧
    Runs (.gnsAid { rq ([6, 0] ++ zs 6) with port := 0x102 }) up ∧
    Runs (.gnsMeas (rq (zs 9 ++ [96] ++ zs 6))) (skied 1 { epochs := [(0, [(95, [])])] }) ∧
    Runs (.gnsMeas (rq (zs 9 ++ [96] ++ zs 6))) up :=
  ⟨⟨_, (h _ up).1 ⟨rfl, rfl, rfl⟩ rfl (by decide +kernel) rfl⟩,
   ⟨_, (h _ up).2.1 ⟨rfl, rfl, rfl⟩ rfl (by decide +kernel) (by decide +kernel) (by decide +kernel) rfl⟩,
   ⟨_, ((h _ up).2.2.1 ⟨rfl, rfl, rfl⟩ (by decide +kernel)).1 _ _ rfl⟩,
   ⟨_, ((h _ ({ up with tb := { acquired := true } })).2.2.2.1 ⟨rfl, rfl, rfl⟩ rfl rfl rfl rfl).1 rfl⟩,
   ⟨_, ((h _ up).2.2.2.1 ⟨rfl, rfl, rfl⟩ rfl rfl rfl rfl).2 rfl⟩,
   ⟨_, ((h _ (skied 1 { state := 6 })).2.2.2.2.1 ⟨rfl, rfl, rfl⟩ rfl rfl rfl rfl).1 rfl rfl⟩,
   ⟨_, ((h { rq ([6, 0] ++ zs 6) with port := 0x102 } up).2.2.2.2.1 ⟨rfl, rfl, rfl⟩ rfl rfl rfl rfl).2 (by decide +kernel)⟩,
   ⟨_, ((h _ (skied 1 { epochs := [(0, [(95, [])])] })).2.2.2.2.2 ⟨rfl, rfl, rfl⟩ rfl (by decide +kernel) (by decide +kernel) (by decide +kernel) rfl).1 _ _ rfl rfl⟩,
   ⟨_, ((h _ up).2.2.2.2.2 ⟨rfl, rfl, rfl⟩ rfl (by decide +kernel) (by decide +kernel) (by decide +kernel) rfl).2 rfl⟩⟩

theorem witness_GnssChannels (h : Obligations.GnssChannels) :
    Runs .gnssNoClock (skied 1 { goodClock := true }) ∧
    Runs .gnssNoClock up ∧
    Runs (.gnssStreamCheck 3 100 80 false) up ∧
    Runs (.gnssStreamCheck 3 100 80 true) up ∧
    Runs (.channelAllocation []) (skied 1 { goodClock := true }) ∧
    Runs (.searchDwell 95 true) (skied 1 { channels := [(95, { state := 1 })] }) ∧
    Runs (.searchDwell 95 true) (skied 1 { channels := [(95, { state := 4, detected := true })] }) ∧
    Runs (.channelPullinDone 3) ({ skied 1 { channels := [(3, { state := 2 })] } with tb := { sec := 1 } }) ∧
    Runs (.channelLockLoss 3) (skied 1 { channels := [(3, { state := 3 })] }) ∧
    Runs (.reacqTimeout 3) ({ skied 1 { channels := [(3, { state := 4 })] } with tb := { sec := 10 } }) :=
  ⟨⟨_, (h 0 (skied 1 { goodClock := true })).2.1 rfl rfl⟩,
   ⟨_, (h 0 up).2.2.1 rfl⟩,
   ⟨_, (h 0 up).2.2.2.2.1 3 100 80 (by decide +kernel)⟩,
   ((h 0 up).2.2.2.2.2.1 3 100 80 (by decide +kernel)).elim fun _ q => ⟨_, q.1⟩,
   ⟨_, (h 0 (skied 1 { goodClock := true })).2.2.2.2.2.2.1 [] rfl rfl⟩,
   ⟨_, ((h 95 (skied 1 { channels := [(95, { state := 1 })] })).2.2.2.2.2.2.2.2.1 (by decide +kernel) (.inl rfl)).1 rfl⟩,
   ⟨_, ((h 95 (skied 1 { channels := [(95, { state := 4, detected := true })] })).2.2.2.2.2.2.2.2.1 (by decide +kernel) (.inr rfl)).2.1 rfl⟩,
   ⟨_, (h 3 ({ skied 1 { channels := [(3, { state := 2 })] } with tb := { sec := 1 } })).2.2.2.2.2.2.2.2.2.1 rfl (by decide +kernel)⟩,
   ⟨_, (h 3 (skied 1 { channels := [(3, { state := 3 })] })).2.2.2.2.2.2.2.2.2.2.1 rfl⟩,
   ⟨_, (h 3 ({ skied 1 { channels := [(3, { state := 4 })] } with tb := { sec := 10 } })).2.2.2.2.2.2.2.2.2.2.2 rfl (by decide +kernel)⟩⟩

theorem witness_GnssSolutions (h : Obligations.GnssSolutions) :
    Runs (.navMessageDecode 0 1 []) up ∧
    Runs (.measurementEpoch ⟨[], [], [], false, 0, 0, 0, [], 0, 0⟩) up ∧
    Runs (.measurementEpoch ⟨[], [], [], false, 0, 0, 0, [], 0, 0⟩) (skied 1 { state := 1 }) ∧
    Runs (.measurementEpoch ⟨[], [], [], false, 0, 0, 0, [], 0, 0⟩) ({ skied 10 { state := 2 } with tb := { inc := 80000000 } }) ∧
    Runs (.measurementEpoch ⟨[], [], [], false, 0, 0, 0, [], 0, 0⟩) (skied 1 { state := 2 }) ∧
    Runs .gnssHoldTimeout ({ skied 1 { state := 5 } with tb := { sec := 1000000 } }) ∧
    Runs .gnssHoldTimeout up ∧
    (suspectOn 0 (skied 1 { state := 6, clean := 3 }) = suspectOn 0 (skied 1 { state := 6, clean := 3 }) ∧ (suspectOn 0 (skied 1 { state := 6, clean := 3 })).time.gnss.clean = 0) :=
  ⟨⟨_, (h up).2.1 0 1 [] (by decide +kernel)⟩,
   ⟨_, (h up).2.2.1 _ rfl⟩,
   ⟨_, (h (skied 1 { state := 1 })).2.2.2.1 ⟨[], [], [], false, 0, 0, 0, [], 0, 0⟩ rfl (by decide +kernel)⟩,
   ((h ({ skied 10 { state := 2 } with tb := { inc := 80000000 } })).2.2.2.2.1 ⟨[], [], [], false, 0, 0, 0, [], 0, 0⟩ 100000000 (by decide +kernel) (by decide +kernel) (by decide +kernel) (by decide +kernel)).elim fun _ q => ⟨_, q.1⟩,
   ((h (skied 1 { state := 2 })).2.2.2.2.2.1 ⟨[], [], [], false, 0, 0, 0, [], 0, 0⟩ (by decide +kernel) (by decide +kernel) (by decide +kernel)).elim fun _ q => ⟨_, q.1⟩,
   ⟨_, (h ({ skied 1 { state := 5 } with tb := { sec := 1000000 } })).2.2.2.2.2.2.1 rfl (by decide +kernel)⟩,
   ⟨_, (h up).2.2.2.2.2.2.2.1 (by decide +kernel)⟩,
   ⟨rfl, congrArg Gnss.clean (((h (skied 1 { state := 6, clean := 3 })).2.2.2.2.2.2.2.2 0 ⟨[], [], [], false, 0, 0, 0, [], 0, 0⟩ ⟨[], [], [], none, false⟩ true true).2.1 0 rfl)⟩⟩

/-! ### Witnesses: twins and flocks -/

theorem witness_TwinCommands (h : Obligations.TwinCommands) :
    Runs (.twnStatus (rq [])) up ∧
    Runs (.twnHealth (rq [1, 0, 0, 0])) up ∧
    Runs (.twnYield (rq [])) (twinned { role := .holder, partnerRole := some .standby }) ∧
    Runs (.twnYield (rq [])) up ∧
    Runs (.twnYield (rq [])) (twinned { role := .holder, partnerRole := some .standby, conflict := true }) ∧
    Runs (.twnSync { rq ([2, 5] ++ zs 6) with port := 0x103 }) (twinned { role := .holder, partnerRole := some .syncing }) ∧
    Runs (.twnSync { rq ([1, 3] ++ zs 6) with port := 0x103 }) (twinned { role := .holder, partnerRole := some .syncing }) ∧
    Runs (.twnSync { rq ([1, 1] ++ zs 6) with port := 0x103 }) ({ twinned { role := .holder, partnerRole := some .syncing } with quire := { staging := [⟨0, 0, 0, .waiting, 0, 0, 0, 0⟩] } }) ∧
    Runs (.twnSync { rq ([1, 1] ++ zs 6) with port := 0x103 }) up ∧
    Runs (.flkStatus (rq [])) up ∧
    Runs (.flkReport { rq ([1, 1] ++ w 2 64 ++ zs 12) with port := 0x102 }) up ∧
    Runs (.flkMembers (rq (zs 4 ++ w 2 512 ++ zs 2))) up :=
  ⟨((h (rq []) up).1 ⟨rfl, rfl, rfl⟩ rfl).elim fun _ q => ⟨_, q.1⟩,
   ⟨_, (h _ up).2.1 ⟨rfl, rfl, rfl⟩ rfl (by decide +kernel) rfl⟩,
   ⟨_, ((h (rq []) (twinned { role := .holder, partnerRole := some .standby })).2.2.1 ⟨rfl, rfl, rfl⟩ rfl).1 rfl rfl rfl⟩,
   ⟨_, ((h (rq []) up).2.2.1 ⟨rfl, rfl, rfl⟩ rfl).2 (by decide +kernel)⟩,
   ⟨_, ((h (rq []) (twinned { role := .holder, partnerRole := some .standby, conflict := true })).2.2.1 ⟨rfl, rfl, rfl⟩ rfl).2 (.inr (.inl rfl))⟩,
   (((h { rq ([2, 5] ++ zs 6) with port := 0x103 } (twinned { role := .holder, partnerRole := some .syncing })).2.2.2.1 ⟨rfl, rfl, rfl⟩ rfl (by decide +kernel) (by decide +kernel) (by decide +kernel) (by decide +kernel) rfl rfl).1 rfl rfl |>.2 (by decide +kernel)).elim fun _ q => ⟨_, q.1⟩,
   (((h { rq ([1, 3] ++ zs 6) with port := 0x103 } (twinned { role := .holder, partnerRole := some .syncing })).2.2.2.1 ⟨rfl, rfl, rfl⟩ rfl (by decide +kernel) (by decide +kernel) (by decide +kernel) (by decide +kernel) rfl rfl).1 rfl rfl |>.1 (by decide +kernel) (by decide +kernel) _ rfl).elim fun _ q => ⟨_, q.1⟩,
   ⟨_, ((h { rq ([1, 1] ++ zs 6) with port := 0x103 } ({ twinned { role := .holder, partnerRole := some .syncing } with quire := { staging := [⟨0, 0, 0, .waiting, 0, 0, 0, 0⟩] } })).2.2.2.1 ⟨rfl, rfl, rfl⟩ rfl (by decide +kernel) (by decide +kernel) (by decide +kernel) (by decide +kernel) rfl rfl).2.1 rfl rfl⟩,
   ⟨_, ((h { rq ([1, 1] ++ zs 6) with port := 0x103 } up).2.2.2.1 ⟨rfl, rfl, rfl⟩ rfl (by decide +kernel) (by decide +kernel) (by decide +kernel) (by decide +kernel) rfl rfl).2.2 (by decide +kernel)⟩,
   ⟨_, (h _ up).2.2.2.2.1 ⟨rfl, rfl, rfl⟩ rfl⟩,
   ⟨_, (h { rq ([1, 1] ++ w 2 64 ++ zs 12) with port := 0x102 } up).2.2.2.2.2.1 ⟨rfl, rfl, rfl⟩ _ _ _ rfl rfl rfl rfl (by decide +kernel) (by decide +kernel) (by decide +kernel) (by decide +kernel) rfl⟩,
   ⟨_, (h _ up).2.2.2.2.2.2 ⟨rfl, rfl, rfl⟩ _ _ rfl rfl (by decide +kernel) (by decide +kernel) rfl rfl⟩⟩

theorem witness_TwinEvents (h : Obligations.TwinEvents) :
    Runs .crookClaim up ∧
    (isTwin (twinned { role := .standby, lastHeard := some 0 }) = true) ∧
    Runs .crookClaim ({ twinned { role := .standby, lastHeard := some 0 } with tb := { sec := 1 } }) ∧
    (∃ f, f < cycleTicks) ∧
    Runs .stitchCycleEnd up ∧
    Runs .stitchCycleEnd ({ up with tb := { sec := 1 } }) ∧
    Runs .stitchCycleEnd ({ twinned { role := .solo } with tb := { sec := 1 } }) ∧
    Runs .startingWaitExpiry ({ twinned { role := .starting } with tb := { sec := 1000 } }) ∧
    Runs .startingWaitExpiry up ∧
    Runs .restartOverrun ({ up with boot := { ready := true, inReset := false, stage := 7, restart := some ⟨0, none, false⟩ }, tb := { sec := 5 } }) ∧
    Runs .restartOverrun up ∧
    Runs (.stitchFrameReceive []) (twinned {}) ∧
    Runs (.stitchFrameReceive (stitchFrame 0 0)) (twinned {}) ∧
    Runs (.stitchFrameReceive (stitchFrame 0 1)) (twinned {}) ∧
    Runs (.stitchFrameReceive (stitchFrame 65535 1)) (twinned {}) ∧
    Runs (.stitchFrameReceive (stitchFrame 32767 1)) (twinned {}) ∧
    Runs (.stitchFrameReceive (stitchFrame 1 1)) ({ twinned {} with fabric := { stitch := { active := true, reorder := [⟨1, [], 0⟩] } } }) ∧
    Runs .stitchReorderTimeout ({ up with fabric := { stitch := { gapSince := some 0 } }, tb := { sec := 1 } }) ∧
    Runs .stitchReorderTimeout up ∧
    Runs .stitchAckSend ({ up with fabric := { stitch := { active := true, ackDue := true } } }) ∧
    Runs .stitchResendTimeout ({ up with fabric := { stitch := { replay := [⟨0, 0, [], 0⟩] } }, tb := { sec := 1 } }) ∧
    Runs .stitchLinkDown ({ up with fabric := { stitch := { replay := [⟨0, 0, [], 0⟩] } }, tb := { sec := 1 } }) ∧
    Runs .stitchLinkDown ({ up with fabric := { stitch := { replay := [⟨0, 0, [], 0⟩] } } }) ∧
    Runs (.selftestRun 2 true) (twinned { role := .solo }) ∧
    (Runs (.selftestRun 7 false) (twinned { role := .standby })) ∧
    Runs (.resyncPhaseEnd true) (twinned { role := .syncing, syncPhase := 2 }) ∧
    Runs (.resyncPhaseEnd true) (twinned { role := .syncing, syncPhase := 3, snapshotBytes := 1 }) ∧
    Runs (.resyncPhaseEnd true) (twinned { role := .syncing, syncPhase := 3 }) ∧
    Runs (.resyncPhaseEnd true) (twinned { role := .syncing, syncPhase := 4 }) ∧
    Runs (.resyncPhaseEnd false) (twinned { role := .syncing, syncPhase := 2 }) ∧
    Runs (.resyncPhaseEnd true) (twinned { role := .syncing, syncPhase := 5, clean := 4000 }) ∧
    Runs (.resyncPhaseEnd true) (twinned { role := .syncing, syncPhase := 5, clean := 3999 }) :=
  ⟨⟨_, (h up).1 rfl⟩,
   ((h { twinned { role := .standby, lastHeard := some 0 } with tb := { sec := 1 } }).2.1 (by decide +kernel)).2.1,
   ⟨_, ((h ({ twinned { role := .standby, lastHeard := some 0 } with tb := { sec := 1 } })).2.1 (by decide +kernel)).2.2.2 (by decide +kernel) _ _ rfl rfl _ rfl⟩,
   ((h (twinned { role := .standby, lastHeard := some 0 })).2.2.1 cycleTicks (by decide +kernel)).elim fun f q => ⟨f, q.2.1⟩,
   ⟨_, (h up).2.2.2.1 (by decide +kernel)⟩,
   ((h ({ up with tb := { sec := 1 } })).2.2.2.2.1 (by decide +kernel) (by decide +kernel) rfl).elim fun _ q => ⟨_, q.1⟩,
   ((h ({ twinned { role := .solo } with tb := { sec := 1 } })).2.2.2.2.2.1 (by decide +kernel) (by decide +kernel) rfl (by decide +kernel) rfl).elim fun _ q => ⟨_, q.1⟩,
   ⟨_, (h ({ twinned { role := .starting } with tb := { sec := 1000 } })).2.2.2.2.2.2.1 _ rfl rfl rfl (by decide +kernel)⟩,
   ⟨_, (h up).2.2.2.2.2.2.2.1 (by decide +kernel)⟩,
   ⟨_, (h ({ up with boot := { ready := true, inReset := false, stage := 7, restart := some ⟨0, none, false⟩ }, tb := { sec := 5 } })).2.2.2.2.2.2.2.2.1 _ rfl (by decide +kernel) rfl⟩,
   ⟨_, (h up).2.2.2.2.2.2.2.2.2.1 rfl⟩,
   ⟨_, (h (twinned {})).2.2.2.2.2.2.2.2.2.2.1 _ rfl (by decide +kernel)⟩,
   ⟨_, (h (twinned {})).2.2.2.2.2.2.2.2.2.2.2.1 (stitchFrame 0 0) _ _ rfl (by decide +kernel) rfl rfl (by decide +kernel)⟩,
   ⟨_, ((h (twinned {})).2.2.2.2.2.2.2.2.2.2.2.2.1 (stitchFrame 0 1) _ _ _ rfl (by decide +kernel) (by decide +kernel) rfl rfl rfl).1 (by decide +kernel)⟩,
   ⟨_, ((h (twinned {})).2.2.2.2.2.2.2.2.2.2.2.2.1 (stitchFrame 65535 1) _ _ _ rfl (by decide +kernel) (by decide +kernel) rfl rfl rfl).2.1 (by decide +kernel)⟩,
   ⟨_, (((h (twinned {})).2.2.2.2.2.2.2.2.2.2.2.2.1 (stitchFrame 32767 1) _ _ _ rfl (by decide +kernel) (by decide +kernel) rfl rfl rfl).2.2.2 (by decide +kernel) (by decide +kernel) (by decide +kernel)).1 (by decide +kernel)⟩,
   ⟨_, ((h ({ twinned {} with fabric := { stitch := { active := true, reorder := [⟨1, [], 0⟩] } } })).2.2.2.2.2.2.2.2.2.2.2.2.1 (stitchFrame 1 1) _ _ _ rfl (by decide +kernel) (by decide +kernel) rfl rfl rfl).2.2.1 (by decide +kernel) (by decide +kernel) (by decide +kernel)⟩,
   ⟨_, ((h ({ up with fabric := { stitch := { gapSince := some 0 } }, tb := { sec := 1 } })).2.2.2.2.2.2.2.2.2.2).2.2.2.1 0 rfl (by decide +kernel) _ rfl⟩,
   ⟨_, ((h (up)).2.2.2.2.2.2.2.2.2.2).2.2.2.2.1 rfl⟩,
   ⟨_, ((h ({ up with fabric := { stitch := { active := true, ackDue := true } } })).2.2.2.2.2.2.2.2.2.2).2.2.2.2.2.1 rfl rfl⟩,
   ⟨_, (((h ({ up with fabric := { stitch := { replay := [⟨0, 0, [], 0⟩] } }, tb := { sec := 1 } })).2.2.2.2.2.2.2.2.2.2).2.2.2.2.2.2.1 _ _ rfl).1 (by decide +kernel)⟩,
   ⟨_, (((h ({ up with fabric := { stitch := { replay := [⟨0, 0, [], 0⟩] } }, tb := { sec := 1 } })).2.2.2.2.2.2.2.2.2.2).2.2.2.2.2.2.1 _ _ rfl).2.1 (by decide +kernel)⟩,
   ⟨_, (((h ({ up with fabric := { stitch := { replay := [⟨0, 0, [], 0⟩] } } })).2.2.2.2.2.2.2.2.2.2).2.2.2.2.2.2.1 _ _ rfl).2.2 (by decide +kernel)⟩,
   ⟨_, ((h (twinned { role := .solo })).2.2.2.2.2.2.2.2.2.2).2.2.2.2.2.2.2.1 2 (by decide +kernel) true⟩,
   (((h (twinned { role := .standby })).2.2.2.2.2.2.2.2.2.2).2.2.2.2.2.2.2.2.1 7 (by decide +kernel) rfl).1.elim fun _ q => ⟨_, q.1⟩,
   ⟨_, (((h (twinned { role := .syncing, syncPhase := 2 })).2.2.2.2.2.2.2.2.2.2).2.2.2.2.2.2.2.2.2 rfl rfl).1 (by decide +kernel)⟩,
   ⟨_, ((((h (twinned { role := .syncing, syncPhase := 3, snapshotBytes := 1 })).2.2.2.2.2.2.2.2.2.2).2.2.2.2.2.2.2.2.2 rfl rfl).2.1 rfl).1 (by decide +kernel)⟩,
   ⟨_, ((((h (twinned { role := .syncing, syncPhase := 3 })).2.2.2.2.2.2.2.2.2.2).2.2.2.2.2.2.2.2.2 rfl rfl).2.1 rfl).2 (by decide +kernel)⟩,
   ⟨_, ((((h (twinned { role := .syncing, syncPhase := 4 })).2.2.2.2.2.2.2.2.2.2).2.2.2.2.2.2.2.2.2 rfl rfl).2.2.1 rfl).2 (by decide +kernel)⟩,
   ⟨_, (((h (twinned { role := .syncing, syncPhase := 2 })).2.2.2.2.2.2.2.2.2.2).2.2.2.2.2.2.2.2.2 rfl rfl).2.2.2.1 rfl⟩,
   ⟨_, (((h (twinned { role := .syncing, syncPhase := 5, clean := 4000 })).2.2.2.2.2.2.2.2.2.2).2.2.2.2.2.2.2.2.2 rfl rfl).2.2.2.2.1 rfl (by decide +kernel)⟩,
   ⟨_, (((h (twinned { role := .syncing, syncPhase := 5, clean := 3999 })).2.2.2.2.2.2.2.2.2.2).2.2.2.2.2.2.2.2.2 rfl rfl).2.2.2.2.2 rfl (by decide +kernel)⟩⟩

theorem witness_FlockEvents (h : Obligations.FlockEvents) :
    Runs .flockHelloSend (flocked {}) ∧
    Runs .flockHelloSend up ∧
    (Runs (.flockMessageReceive 0 0 [] (zeros 48)) up) ∧
    (acceptFlock 0 0 [] (zeros 48) (flocked { accepted := [(0, [], 0)] }) = { flocked { accepted := [(0, [], 0)] } with flock := { accepted := [(0, [], 0)], replays := 1 } }) ∧
    (acceptFlock 0 0 [] (zeros 6 ++ [255#8] ++ zeros 41) (flocked {}) = { flocked {} with flock := { unknown := 1 } }) ∧
    (∃ t, acceptFlock 0 0 [] (zeros 3 ++ [2#8] ++ zeros 44) (flocked {}) = t) :=
  ⟨⟨_, (h (flocked {})).1 (by decide +kernel)⟩,
   ⟨_, ((h up).2.1 (by decide +kernel)).1⟩,
   ⟨_, ((h up).2.1 (by decide +kernel)).2 _ _ _ _⟩,
   ((h (flocked { accepted := [(0, [], 0)] })).2.2.2.2 0 0 [] (zeros 48) _ rfl).1 _ rfl (by decide +kernel),
   (((h (flocked {})).2.2.2.2 0 0 [] (zeros 6 ++ [255#8] ++ zeros 41) _ rfl).2 rfl).1 (by decide +kernel),
   ((((h (flocked {})).2.2.2.2 0 0 [] (zeros 3 ++ [2#8] ++ zeros 44) _ rfl).2 rfl).2 (by decide +kernel) (by decide +kernel)).elim fun t q => ⟨t, q.1⟩⟩

/-! ### Witnesses: the key store and the event collector -/

theorem witness_KeyStore (h : Obligations.KeyStore) :
    Runs (.keyStatus (rq (zs 2 ++ w 2 512 ++ zs 4))) up ∧
    Runs (.keyLoad (rq (w 2 511 ++ [0, 0, 5, 6, 4, 0] ++ w 2 0x100 ++ zs 6 ++ w 2 97 ++ zs 215))) up ∧
    (keyLoad (zeros 4) (flocked {}) = refuse (flocked {}) stBusy 0) ∧
    (∃ a, keyLoad (le 2 16 ++ zeros 2 ++ [5#8, 6#8, 4#8]) up = okay a []) ∧
    Runs (.keyGenerate (rq (w 2 511 ++ [1, 4, 8, 4] ++ w 2 0xF005 ++ zs 8))) ({ up with keys := { lifeCycle := 2, healthy := false } }) ∧
    Runs (.keyGenerate (rq (w 2 511 ++ [1, 4, 8, 4] ++ w 2 0xF005 ++ zs 8))) up ∧
    Runs (.keyErase (rq (w 2 511 ++ zs 6))) up ∧
    (∃ b, exec (.impGet (rq (zs 40))) { up with keys := { lifeCycle := 2, slots := [(3, keyed 4 2 0xF002)] } } = .next b) ∧
    (Runs (.lcsAdvance (rq (w 4 0x4E4B544C ++ [2, 3] ++ zs 250))) up) ∧
    ((0 : Nat) < 5) ∧
    (keyUse 0 9 1 0xF004 up = (raise 1168 0 0xF004 { up with keys := { lifeCycle := 2, refused := 1 } }, none)) ∧
    (bit (keyed 1 9 0xF004).lcsMask (lifeCycle (flocked {})) = true) ∧
    Runs .drbgReseed ({ up with keys := { requests := 65536 } }) ∧
    Runs .drbgReseed up ∧
    Runs (.cryptoChunkBoundary [(1, 2, 3)]) up ∧
    Runs (.cryptoChunkBoundary []) ({ up with keys := { serving := some ⟨0, 0, 0, 2⟩ } }) :=
  ⟨⟨_, (h _ up).1 ⟨rfl, rfl, rfl⟩ rfl (by decide +kernel) (by decide +kernel) (by decide +kernel) rfl⟩,
   ⟨_, (h _ up).2.1 ⟨rfl, rfl, rfl⟩ (by decide +kernel) (by decide +kernel) (by decide +kernel) (by decide +kernel)⟩,
   ((h (rq []) (flocked {})).2.2.1 (zeros 4) rfl rfl).1 (by decide +kernel),
   ⟨_, ((h (rq []) up).2.2.1 (le 2 16 ++ zeros 2 ++ [5#8, 6#8, 4#8]) rfl rfl).2 _ rfl rfl rfl rfl⟩,
   ⟨_, ((h _ ({ up with keys := { lifeCycle := 2, healthy := false } })).2.2.2.1 ⟨rfl, rfl, rfl⟩ _ _ _ rfl rfl rfl rfl (by decide +kernel) (by decide +kernel) (by decide +kernel) (.inl rfl) (by decide +kernel) (by decide +kernel) (by decide +kernel) rfl rfl).1 rfl⟩,
   ⟨_, ((h _ (up)).2.2.2.1 ⟨rfl, rfl, rfl⟩ _ _ _ rfl rfl rfl rfl (by decide +kernel) (by decide +kernel) (by decide +kernel) (.inl rfl) (by decide +kernel) (by decide +kernel) (by decide +kernel) rfl rfl).2 rfl rfl (by decide +kernel) _ _ rfl rfl⟩,
   ⟨_, (h _ up).2.2.2.2.1 ⟨rfl, rfl, rfl⟩ rfl (by decide +kernel) (by decide +kernel) rfl (by decide +kernel) rfl⟩,
   ((h (rq (zs 40)) { up with keys := { lifeCycle := 2, slots := [(3, keyed 4 2 0xF002)] } }).2.2.2.2.2.1 ⟨rfl, rfl, rfl⟩ _ _ rfl rfl rfl (keyUse_granted _ 3 2 4 0xF002 (by decide +kernel) rfl)).elim fun _ q => ⟨_, q.1⟩,
   (Bool.eq_false_or_eq_true _).elim (fun e => ⟨_, ((h (rq (w 4 0x4E4B544C ++ [2, 3] ++ zs 250)) up).2.2.2.2.2.2.1 ⟨rfl, rfl, rfl⟩ _ _ rfl (show _ by decide +kernel) (by decide +kernel) (by decide +kernel) (by decide +kernel) (show _ by decide +kernel) (by decide +kernel) (by decide +kernel) (by decide +kernel) (show _ by decide +kernel) rfl).1 e⟩) (fun e => ⟨_, ((h (rq (w 4 0x4E4B544C ++ [2, 3] ++ zs 250)) up).2.2.2.2.2.2.1 ⟨rfl, rfl, rfl⟩ _ _ rfl (show _ by decide +kernel) (by decide +kernel) (by decide +kernel) (by decide +kernel) (show _ by decide +kernel) (by decide +kernel) (by decide +kernel) (by decide +kernel) (show _ by decide +kernel) rfl).2 e⟩),
   ((h (rq []) up).2.2.2.2.2.2.2.2.1 0 5 portRoot true (by decide +kernel)).1,
   ((h (rq []) up).2.2.2.2.2.2.2.2.2.1 0 9 1 0xF004).2.1 (by decide +kernel),
   (((h (rq []) (flocked {})).2.2.2.2.2.2.2.2.2.1 0 9 1 0xF004).2.2 (keyed 1 9 0xF004) (congrArg Prod.snd (keyUse_granted _ 0 9 1 0xF004 (by decide +kernel) rfl))).2.2.2.1,
   ⟨_, (h (rq []) ({ up with keys := { requests := 65536 } })).2.2.2.2.2.2.2.2.2.2.1 (.inr (by decide +kernel))⟩,
   ⟨_, (h (rq []) up).2.2.2.2.2.2.2.2.2.2.2.1 (by decide +kernel) (by decide +kernel)⟩,
   ⟨_, ((h (rq []) up).2.2.2.2.2.2.2.2.2.2).2.2.2.2.1 _ _ _ _ rfl rfl rfl⟩,
   ⟨_, ((h (rq []) ({ up with keys := { serving := some ⟨0, 0, 0, 2⟩ } })).2.2.2.2.2.2.2.2.2.2).2.2.2.2.2 _ rfl (by decide +kernel) rfl⟩⟩

theorem witness_EventCollector (h : Obligations.EventCollector) :
    Runs (.evtRead (rq (zs 4 ++ w 2 1024 ++ w 2 17))) up ∧
    Runs (.evtConfig (rq (w 2 64 ++ [1, 1] ++ zs 4))) up ∧
    Runs (.evtConfig (rq (w 2 3 ++ [1, 1] ++ zs 4))) up ∧
    (entryAllowed 3 1 1 = false) ∧
    Runs (.evtClear (rq (w 2 1279 ++ w 2 1 ++ zs 4))) up ∧
    Runs (.colRead (rq ([1, 0, 0, 0] ++ w 4 3 ++ w 4 1))) ({ up with ev := { half1 := { held := true, bytes := zeros 4 } } }) ∧
    Runs (.colRead (rq ([0, 0, 0, 0] ++ w 4 3 ++ w 4 1))) up ∧
    Runs (.colRelease (rq ([1] ++ zs 7))) up ∧
    Runs (.evtInject { rq ([0, 1] ++ w 2 64 ++ zs 12) with port := 0x104 }) ({ up with keys := { lifeCycle := 1 } }) ∧
    Runs (.blockResetRecovered 7 3) ({ up with ev := { resetting := [⟨7, 3, 0⟩] }, tb := { sec := 1 } }) ∧
    Runs (.blockResetRecovered 6 3) ({ up with ev := { resetting := [⟨6, 3, 0⟩] } }) ∧
    Runs (.coreWatchdog 1 2) up ∧
    Runs (.evtPendWrite 39 1) up ∧
    Runs (.evtBlkStatusRead 17) up ∧
    Runs (.evtBlkStatusRead 17) ({ up with ev := { sameAt := some 0, sameOcc := [(17, 2, 1)], blkOcc := [(17, 3)] } }) ∧
    Runs (.rfcEventsWrite 63) up ∧
    Runs (.colophonWriteDone none) up :=
  ⟨((h (rq (zs 4 ++ w 2 1024 ++ w 2 17)) up).1 ⟨rfl, rfl, rfl⟩ _ _ _ rfl rfl rfl (by decide +kernel) (by decide +kernel) (.inl (by decide +kernel)) rfl).elim fun _ q => ⟨_, q⟩,
   ⟨_, ((h _ up).2.1 ⟨rfl, rfl, rfl⟩ rfl (by decide +kernel) (by decide +kernel) (by decide +kernel) rfl).1 (by decide +kernel)⟩,
   ⟨_, ((h _ up).2.1 ⟨rfl, rfl, rfl⟩ rfl (by decide +kernel) (by decide +kernel) (by decide +kernel) rfl).2 (by decide +kernel)⟩,
   (h (rq []) up).2.2.1 3 1 1 (by decide +kernel) (.inr (by decide +kernel)),
   ((h (rq (w 2 1279 ++ w 2 1 ++ zs 4)) up).2.2.2.1 ⟨rfl, rfl, rfl⟩ _ _ rfl rfl rfl (by decide +kernel) (by decide +kernel) (by decide +kernel) rfl (by decide +kernel)).elim fun _ q => ⟨_, q.1⟩,
   ⟨_, ((h _ ({ up with ev := { half1 := { held := true, bytes := zeros 4 } } })).2.2.2.2.1 ⟨rfl, rfl, rfl⟩ _ _ _ _ rfl rfl rfl rfl (by decide +kernel) rfl (by decide +kernel) (by decide +kernel) rfl).1 rfl (by decide +kernel)⟩,
   ⟨_, ((h _ up).2.2.2.2.1 ⟨rfl, rfl, rfl⟩ _ _ _ _ rfl rfl rfl rfl (by decide +kernel) rfl (by decide +kernel) (by decide +kernel) rfl).2 (.inl rfl)⟩,
   ⟨_, (h _ up).2.2.2.2.2.1 ⟨rfl, rfl, rfl⟩ rfl (by decide +kernel) rfl⟩,
   ⟨_, (h { rq ([0, 1] ++ w 2 64 ++ zs 12) with port := 0x104 } ({ up with keys := { lifeCycle := 1 } })).2.2.2.2.2.2.1 ⟨rfl, rfl, rfl⟩ _ rfl (by decide +kernel) rfl⟩,
   ⟨_, ((h (rq []) ({ up with ev := { resetting := [⟨7, 3, 0⟩] }, tb := { sec := 1 } })).2.2.2.2.2.2.2.1 7 3 _ rfl).1 (by decide +kernel)⟩,
   ⟨_, ((h (rq []) ({ up with ev := { resetting := [⟨6, 3, 0⟩] } })).2.2.2.2.2.2.2.1 6 3 _ rfl).2 (by decide +kernel)⟩,
   ⟨_, (h (rq []) up).2.2.2.2.2.2.2.2.1 1 2 rfl rfl⟩,
   ((h (rq []) up).2.2.2.2.2.2.2.2.2.1 39 1 (by decide +kernel)).elim fun _ q => ⟨_, q.1⟩,
   ⟨_, ((h (rq []) up).2.2.2.2.2.2.2.2.2.2.2.1 17 (by decide +kernel)).1 (by decide +kernel)⟩,
   ((((h (rq []) ({ up with ev := { sameAt := some 0, sameOcc := [(17, 2, 1)], blkOcc := [(17, 3)] } })).2.2.2.2.2.2.2.2.2.2.2.1 17 (by decide +kernel)).2 2 1 rfl rfl)).elim fun _ q => q.elim fun _ q => ⟨_, q.1⟩,
   ⟨_, ((h (rq []) up).2.2.2.2.2.2.2.2.2.2.2.2.1 63).1 (by decide +kernel)⟩,
   ⟨_, ((h (rq []) up).2.2.2.2.2.2.2.2.2.2).2.2.2.2.2 none rfl⟩⟩

/-! ### Witnesses: updates, start-up and the host interface -/

/-- The device with its boot unit in a state: a slot running, not in recovery. -/
def booted (f : Boot → Boot) : State := { up with boot := f { ready := true, inReset := false, stage := 6, running := 1 } }

/-- The device in reset. -/
def held : State := { ({} : State) with boot := { inReset := true } }

/-- What a start meets when nothing is wrong: SYSREF of 10 MHz. -/
def bootIn : BootIn := ⟨0, 0, 0, 10000000, true, true, true, [], []⟩

/-- Queue pair 0 in a state. -/
def paired (x : Qp) : State := { up with host := { qps := [(0, x)] } }

/-- A submission entry: where the packet is, and its length. -/
def entry (len : Nat) : Bytes := zeros 8 ++ le 4 len ++ zeros 20

theorem witness_UpdateCommands (h : Obligations.UpdateCommands) :
    Runs (.updBegin (rq (zs 4 ++ w 4 41943040))) (booted id) ∧
    Runs (.updBegin (rq ([1, 0, 0, 0] ++ w 4 1))) (booted id) ∧
    Runs (.updWrite (rq (zs 4 ++ w 4 1 ++ [7]))) (booted (fun b => { b with openSlot := some 0, slotA := { total := 2 } })) ∧
    Runs (.updWrite (rq (zs 4 ++ w 4 1 ++ [7]))) (booted (fun b => { b with openSlot := some 0, slotA := { total := 1 } })) ∧
    Runs (.updWrite (rq (zs 4 ++ w 4 1 ++ [7]))) (booted (fun b => { b with openSlot := some 0, slotA := { total := 0 } })) ∧
    Runs (.updVerify (rq [0, 0, 0, 0])) up ∧
    Runs (.updVerify (rq [0, 0, 0, 0])) (booted (fun b => { b with slotA := { state := .written } })) ∧
    Runs (.updActivate (rq (zs 16))) up ∧
    Runs (.updActivate (rq ([0, 0, 60] ++ zs 13))) (booted (fun b => { b with slotA := { state := .verified, epoch := 1 } })) ∧
    Runs (.updConfirm (rq ([1] ++ zs 7))) (booted (fun b => { b with slotB := { state := .trial } })) ∧
    Runs (.updConfirm (rq ([1] ++ zs 7))) up ∧
    Runs (.updStatus (rq [])) up ∧
    Runs (.casWrite (rq ([1, 1] ++ zs 6 ++ w 4 16777216))) up ∧
    Runs (.casWrite (rq ([1, 1] ++ zs 6 ++ w 4 16777217))) up ∧
    Runs (.casWrite (rq ([1, 2] ++ zs 6 ++ w 4 1 ++ [9]))) (booted (fun b => { b with building := some ⟨1, 1, []⟩ })) ∧
    Runs (.casWrite (rq ([0, 1] ++ zs 6 ++ w 4 1))) up ∧
    Runs (.casRead (rq ([1, 0, 0, 0] ++ w 4 3 ++ w 4 1))) (booted (fun b => { b with userCase := zeros 4 })) ∧
    Runs (.casRead (rq ([1, 0, 0, 0] ++ w 4 3 ++ w 4 1))) up :=
  ⟨⟨_, ((h _ (booted id)).1 ⟨rfl, rfl, rfl⟩ _ rfl (by decide +kernel) rfl rfl (by decide +kernel) (by decide +kernel)).1 rfl rfl rfl rfl (by decide +kernel) rfl⟩,
   ⟨_, ((h _ (booted id)).1 ⟨rfl, rfl, rfl⟩ _ rfl (by decide +kernel) rfl rfl (by decide +kernel) (by decide +kernel)).2 (.inl rfl)⟩,
   ⟨_, ((h _ (booted (fun b => { b with openSlot := some 0, slotA := { total := 2 } }))).2.1 ⟨rfl, rfl, rfl⟩ _ _ 0 _ rfl rfl rfl (by decide +kernel) (by decide +kernel) rfl rfl).1 (by decide +kernel) (by decide +kernel)⟩,
   ⟨_, ((h _ (booted (fun b => { b with openSlot := some 0, slotA := { total := 1 } }))).2.1 ⟨rfl, rfl, rfl⟩ _ _ 0 _ rfl rfl rfl (by decide +kernel) (by decide +kernel) rfl rfl).2.1 (by decide +kernel) (by decide +kernel)⟩,
   ⟨_, ((h _ (booted (fun b => { b with openSlot := some 0, slotA := { total := 0 } }))).2.1 ⟨rfl, rfl, rfl⟩ _ _ 0 _ rfl rfl rfl (by decide +kernel) (by decide +kernel) rfl rfl).2.2 (by decide +kernel)⟩,
   ⟨_, ((h _ up).2.2.1 ⟨rfl, rfl, rfl⟩ _ rfl rfl (by decide +kernel) rfl).1 (by decide +kernel)⟩,
   ⟨_, ((h _ (booted (fun b => { b with slotA := { state := .written } }))).2.2.1 ⟨rfl, rfl, rfl⟩ _ rfl rfl (by decide +kernel) rfl).2.1 rfl _ _ rfl⟩,
   ⟨_, ((h _ up).2.2.2.1 ⟨rfl, rfl, rfl⟩ _ rfl rfl (by decide +kernel) (by decide +kernel) (.inl rfl) rfl rfl rfl).1 _ _ rfl⟩,
   ⟨_, ((h _ (booted (fun b => { b with slotA := { state := .verified, epoch := 1 } }))).2.2.2.1 ⟨rfl, rfl, rfl⟩ _ rfl rfl (by decide +kernel) (by decide +kernel) (.inr (by decide +kernel)) rfl rfl rfl).2 rfl⟩,
   (((h (rq ([1] ++ zs 7)) (booted (fun b => { b with slotB := { state := .trial } }))).2.2.2.2.1 ⟨rfl, rfl, rfl⟩ _ rfl rfl (by decide +kernel) rfl).1 rfl rfl).elim fun _ q => ⟨_, q.1⟩,
   ⟨_, ((h _ up).2.2.2.2.1 ⟨rfl, rfl, rfl⟩ _ rfl rfl (by decide +kernel) rfl).2 (by decide +kernel)⟩,
   ((h (rq []) up).2.2.2.2.2.1 ⟨rfl, rfl, rfl⟩ rfl).elim fun _ q => ⟨_, q.1⟩,
   ⟨_, ((h _ up).2.2.2.2.2.2.1 ⟨rfl, rfl, rfl⟩ _ _ rfl rfl rfl rfl).1 rfl rfl rfl (by decide +kernel) |>.1 (by decide +kernel)⟩,
   ⟨_, ((h _ up).2.2.2.2.2.2.1 ⟨rfl, rfl, rfl⟩ _ _ rfl rfl rfl rfl).1 rfl rfl rfl (by decide +kernel) |>.2 (by decide +kernel)⟩,
   ⟨_, ((h _ (booted (fun b => { b with building := some ⟨1, 1, []⟩ }))).2.2.2.2.2.2.1 ⟨rfl, rfl, rfl⟩ _ _ rfl rfl rfl rfl).2.1 _ rfl rfl (by decide +kernel) rfl rfl (by decide +kernel)⟩,
   ⟨_, (h _ up).2.2.2.2.2.2.2.1 ⟨rfl, rfl, rfl⟩ rfl (by decide +kernel) rfl rfl rfl rfl (by decide +kernel)⟩,
   ⟨_, ((h _ (booted (fun b => { b with userCase := zeros 4 }))).2.2.2.2.2.2.2.2 ⟨rfl, rfl, rfl⟩ _ rfl rfl (by decide +kernel) rfl (by decide +kernel) (by decide +kernel)).1 (by decide +kernel) (by decide +kernel)⟩,
   ⟨_, ((h _ up).2.2.2.2.2.2.2.2 ⟨rfl, rfl, rfl⟩ _ rfl rfl (by decide +kernel) rfl (by decide +kernel) (by decide +kernel)).2 rfl⟩⟩

theorem witness_StartAndUpdate (h : Obligations.StartAndUpdate) :
    Runs (.resetAssert 999) up ∧
    Runs (.resetAssert 1000) up ∧
    ((chipReset false true (up)).ev.errn = up.ev.errn ∧ (chipReset true true up).boot.bootCount = 0) ∧
    Runs (.chipReset none) (booted (fun b => { b with plannedReset := some 1 })) ∧
    Runs (.chipReset none) up ∧
    (∃ i : BootIn, startUp i held = bootHalt 8 (sampleStraps i held)) ∧
    (startUp { bootIn with sysref := 0 } held = bootHalt 1 (sampleStraps { bootIn with sysref := 0 } held)) ∧
    (startUp { bootIn with mdll := false } held = bootHalt 2 (sampleStraps { bootIn with mdll := false } held)) ∧
    (startUp { bootIn with entropy := false } held = bootHalt 4 (readFuses false (sampleStraps { bootIn with entropy := false } held))) ∧
    Runs (.resetRelease bootIn) up ∧
    Runs (.mboxFetchDone none [] []) ({ held with host := { mbox := { busy := true } } }) ∧
    Runs .controlPlaneRestart (booted (fun b => { b with restartDue := some (0, false) })) ∧
    Runs .controlPlaneRestart ({ up with ev := { trap := true } }) ∧
    Runs .controlPlaneRestart up ∧
    Runs .vegenRegister (booted (fun b => { b with restart := some ⟨0, none, false⟩ })) ∧
    Runs .vegenRegister ({ booted (fun b => { b with restart := some ⟨0, none, false⟩ }) with tb := { sec := 5 } }) ∧
    Runs .updateActivationDue (booted (fun b => { b with armed := some ⟨0, false, 600, 1, false, false⟩ })) ∧
    Runs .updateActivationDue ({ booted (fun b => { b with armed := some ⟨0, false, 600, 0, false, false⟩ }) with quire := { staging := [⟨0, 0, 0, .waiting, 0, 0, 0, 0⟩] } }) ∧
    Runs .updateActivationDue (booted (fun b => { b with armed := some ⟨0, false, 600, 0, false, false⟩, slotA := { state := .armed, epoch := 1 } })) ∧
    Runs .updateActivationDue (booted (fun b => { b with armed := some ⟨0, false, 600, 0, false, false⟩ })) ∧
    Runs .confirmTimerExpiry (booted (fun b => { b with confirmEnd := some 0, slotB := { state := .trial, cls := some 0 } })) ∧
    Runs .confirmTimerExpiry up ∧
    Runs (.deepUpdatePhase 1 true) ({ booted (fun b => { b with deepPhase := 1 }) with twin := { role := .solo } }) ∧
    Runs (.deepUpdatePhase 1 false) (booted (fun b => { b with deepPhase := 1 })) :=
  ⟨⟨_, (h up).1 999 (by decide +kernel)⟩,
   ⟨_, (h up).2.1 1000 (by decide +kernel)⟩,
   ⟨((h up).2.2.1 false true _ rfl).2.2.2.2.2.2.2.2.2.2.2.1 rfl |>.2.2.2.1, ((h up).2.2.1 true true _ rfl).2.2.2.2.2.2.2.2.2.2.2.2 rfl |>.2.2.2.2⟩,
   ⟨_, (h (booted (fun b => { b with plannedReset := some 1 }))).2.2.2.1 1 rfl⟩,
   ⟨_, (h up).2.2.2.2.1 rfl rfl⟩,
   ⟨{ bootIn with bootSrc := 3 }, ((h held).2.2.2.2.2.1 { bootIn with bootSrc := 3 } rfl rfl rfl).2.1 rfl⟩,
   ((h held).2.2.2.2.2.1 { bootIn with sysref := 0 } rfl rfl rfl).2.2.1 (by decide +kernel) (by decide +kernel),
   ((h held).2.2.2.2.2.1 { bootIn with mdll := false } rfl rfl rfl).2.2.2.1 (by decide +kernel) (by decide +kernel) rfl,
   (((h held).2.2.2.2.2.1 { bootIn with entropy := false } rfl rfl rfl).2.2.2.2 _ (by decide +kernel) (by decide +kernel) rfl rfl).1 rfl,
   ⟨_, (h up).2.2.2.2.2.2.1 _ rfl⟩,
   ⟨_, (h ({ held with host := { mbox := { busy := true } } })).2.2.2.2.2.2.2.2.1 [] [] rfl⟩,
   ((h (booted (fun b => { b with restartDue := some (0, false) }))).2.2.2.2.2.2.2.2.2.2.1 0 rfl rfl).elim fun _ q => ⟨_, q.1⟩,
   ((h ({ up with ev := { trap := true } })).2.2.2.2.2.2.2.2.2.2.2.1 rfl rfl rfl).elim fun _ q => ⟨_, q.1⟩,
   ⟨_, (h up).2.2.2.2.2.2.2.2.2.2.2.2.1 rfl rfl rfl⟩,
   ⟨_, ((h (booted (fun b => { b with restart := some ⟨0, none, false⟩ }))).2.2.2.2.2.2.2.2.2.2).2.2.2.1 _ _ rfl rfl rfl (by decide +kernel) rfl⟩,
   ⟨_, ((h ({ booted (fun b => { b with restart := some ⟨0, none, false⟩ }) with tb := { sec := 5 } })).2.2.2.2.2.2.2.2.2.2).2.2.2.2.1 _ rfl (by decide +kernel)⟩,
   ⟨_, (((h (booted (fun b => { b with armed := some ⟨0, false, 600, 1, false, false⟩ }))).2.2.2.2.2.2.2.2.2.2).2.2.2.2.2.1 _ rfl rfl).1 (by decide +kernel)⟩,
   ⟨_, (((h ({ booted (fun b => { b with armed := some ⟨0, false, 600, 0, false, false⟩ }) with quire := { staging := [⟨0, 0, 0, .waiting, 0, 0, 0, 0⟩] } })).2.2.2.2.2.2.2.2.2.2).2.2.2.2.2.1 _ rfl rfl).2.1 (by decide +kernel) rfl rfl⟩,
   ⟨_, (((h (booted (fun b => { b with armed := some ⟨0, false, 600, 0, false, false⟩, slotA := { state := .armed, epoch := 1 } }))).2.2.2.2.2.2.2.2.2.2).2.2.2.2.2.1 _ rfl rfl).2.2.1 (by decide +kernel) rfl rfl⟩,
   ⟨_, (((h (booted (fun b => { b with armed := some ⟨0, false, 600, 0, false, false⟩ }))).2.2.2.2.2.2.2.2.2.2).2.2.2.2.2.1 _ rfl rfl).2.2.2 _ _ (by decide +kernel) rfl rfl⟩,
   ((((h (booted (fun b => { b with confirmEnd := some 0, slotB := { state := .trial, cls := some 0 } }))).2.2.2.2.2.2.2.2.2.2).2.2.2.2.2.2.1 0 rfl (by decide +kernel) rfl rfl rfl rfl).imp fun _ q => q.1).elim fun _ q => ⟨_, q⟩,
   ⟨_, ((h up).2.2.2.2.2.2.2.2.2.2).2.2.2.2.2.2.2.1 rfl⟩,
   ⟨_, ((h ({ booted (fun b => { b with deepPhase := 1 }) with twin := { role := .solo } })).2.2.2.2.2.2.2.2.2.2).2.2.2.2.2.2.2.2.1 1 rfl (by decide +kernel) (by decide +kernel) rfl⟩,
   ⟨_, ((h (booted (fun b => { b with deepPhase := 1 }))).2.2.2.2.2.2.2.2.2.2).2.2.2.2.2.2.2.2.2 1 rfl (by decide +kernel)⟩⟩

theorem witness_HostInterface (h : Obligations.HostInterface) :
    Runs (.hstDoorbell 0 15) (paired { enable := true, sqLog2 := 4, cqLog2 := 4 }) ∧
    Runs (.hstDoorbell 0 16) (paired { enable := true, sqLog2 := 4, cqLog2 := 4 }) ∧
    Runs (.hstCqHead 0 15) (paired { enable := true, sqLog2 := 4, cqLog2 := 4 }) ∧
    Runs (.hstDoorbell 0 15) up ∧
    Runs (.hstQpCfgWrite 63 1) up ∧
    ((qpConfigure 0 {}).enable = false ∧ (qpConfigure 0x441 {}).enable = true ∧ (qpConfigure 0x451 { enable := true, sqLog2 := 4, cqLog2 := 4 }).fault = true) ∧
    Runs (.submissionFetch 0 none none) (paired { enable := true, sqLog2 := 4, cqLog2 := 4, sqTail := 1 }) ∧
    Runs (.submissionFetch 0 (some (entry 31)) none) (paired { enable := true, sqLog2 := 4, cqLog2 := 4, sqTail := 1 }) ∧
    Runs (.submissionFetch 0 (some (entry 32)) (some (packet 1 1))) (paired { enable := true, sqLog2 := 4, cqLog2 := 4, sqTail := 1 }) ∧
    Runs (.submissionFetch 0 none none) up ∧
    Runs (.completionWrite 0) (paired { enable := true, sqLog2 := 4, cqLog2 := 4, entries := [⟨0, 0, 0, 0, 0, .refused, 0⟩] }) ∧
    Runs (.interruptModerationTimeout 0) ({ paired { unsignalled := 1 } with tb := { sec := 1 } }) ∧
    Runs (.interruptModerationTimeout 0) up ∧
    Runs (.descriptorTailWrite 15) ({ up with host := { ringDesc := { log2 := 4 } } }) ∧
    Runs (.receiveHeadWrite 15) ({ up with host := { ringRecv := { log2 := 4 } } }) ∧
    Runs (.launchHeadWrite 15) ({ up with host := { ringLaunch := { log2 := 4 } } }) ∧
    Runs (.hstMboxGo 1) (booted (fun b => { b with recovery := true, stage := 2 })) ∧
    Runs (.hstMboxGo 0) up ∧
    Runs (.registerWrite 0 0x4144 1) up ∧
    Runs (.registerWrite 0 0x1000 0) (paired { enable := true, sqLog2 := 4, cqLog2 := 4 }) ∧
    Runs (.registerWrite 4 0x5F8 1) up :=
  ⟨⟨_, ((h 0 (paired { enable := true, sqLog2 := 4, cqLog2 := 4 })).1 15 rfl (by decide +kernel) rfl).1 (by decide +kernel) (by decide +kernel)⟩,
   ⟨_, ((h 0 (paired { enable := true, sqLog2 := 4, cqLog2 := 4 })).1 16 rfl (by decide +kernel) rfl).2.1 (by decide +kernel) (by decide +kernel)⟩,
   ⟨_, ((h 0 (paired { enable := true, sqLog2 := 4, cqLog2 := 4 })).1 15 rfl (by decide +kernel) rfl).2.2 (by decide +kernel) (by decide +kernel)⟩,
   ⟨_, ((h 0 up).2.1 15 rfl).1⟩,
   ⟨_, (h 63 up).2.2.1 1 rfl (by decide +kernel)⟩,
   ⟨(((h 0 up).2.2.2.1 0 {}).1 rfl).1, (((h 0 up).2.2.2.1 0x441 {}).2.1 rfl rfl).elim fun _ q => q.1 ▸ q.2.1, (((h 0 up).2.2.2.1 0x451 { enable := true, sqLog2 := 4, cqLog2 := 4 }).2.2 rfl rfl rfl (.inl (by decide +kernel))).1⟩,
   ⟨_, (h 0 (paired { enable := true, sqLog2 := 4, cqLog2 := 4, sqTail := 1 })).2.2.2.2.1 none (by decide +kernel)⟩,
   ⟨_, (h 0 (paired { enable := true, sqLog2 := 4, cqLog2 := 4, sqTail := 1 })).2.2.2.2.2.1 (entry 31) none (by decide +kernel) (.inl (by decide +kernel))⟩,
   ⟨_, (h 0 (paired { enable := true, sqLog2 := 4, cqLog2 := 4, sqTail := 1 })).2.2.2.2.2.2.1 (entry 32) (packet 1 1) (by decide +kernel) (by decide +kernel) (by decide +kernel) (.inl (by decide +kernel)) (by decide +kernel)⟩,
   ⟨_, (h 0 up).2.2.2.2.2.2.2.1 none none rfl⟩,
   ⟨_, ((h 0 (paired { enable := true, sqLog2 := 4, cqLog2 := 4, entries := [⟨0, 0, 0, 0, 0, .refused, 0⟩] })).2.2.2.2.2.2.2.2.1 _ _ _ rfl rfl rfl rfl rfl rfl).choose_spec.1⟩,
   ⟨_, (h 0 ({ paired { unsignalled := 1 } with tb := { sec := 1 } })).2.2.2.2.2.2.2.2.2.2.1 (by decide +kernel) (by decide +kernel)⟩,
   ⟨_, (h 0 up).2.2.2.2.2.2.2.2.2.2.2.1 rfl⟩,
   ⟨_, (((h 0 ({ up with host := { ringDesc := { log2 := 4 } } })).2.2.2.2.2.2.2.2.2.2).2.2.2.2.1 15 rfl (by decide +kernel)).1 (by decide +kernel)⟩,
   ⟨_, (((h 0 ({ up with host := { ringRecv := { log2 := 4 } } })).2.2.2.2.2.2.2.2.2.2).2.2.2.2.1 15 rfl (by decide +kernel)).2.1 (by decide +kernel)⟩,
   ⟨_, (((h 0 ({ up with host := { ringLaunch := { log2 := 4 } } })).2.2.2.2.2.2.2.2.2.2).2.2.2.2.1 15 rfl (by decide +kernel)).2.2 (by decide +kernel) rfl⟩,
   ⟨_, (((h 0 (booted (fun b => { b with recovery := true, stage := 2 }))).2.2.2.2.2.2.2.2.2.2).2.2.2.2.2.2.1 1).1 rfl rfl rfl rfl rfl rfl⟩,
   ⟨_, (((h 0 up).2.2.2.2.2.2.2.2.2.2).2.2.2.2.2.2.1 0).2 (.inl rfl)⟩,
   ⟨_, (((h 0 up).2.2.2.2.2.2.2.2.2.2).2.2.2.2.2.2.2 0x4144 1 (by decide +kernel) rfl rfl).2.1 (.inr (.inl (by decide +kernel)))⟩,
   ((((h 0 (paired { enable := true, sqLog2 := 4, cqLog2 := 4 })).2.2.2.2.2.2.2.2.2.2).2.2.2.2.2.2.2 0x1000 0 (by decide +kernel) rfl rfl).2.2.1 (by decide +kernel) rfl rfl rfl).elim fun _ q => ⟨_, q.1⟩,
   ⟨_, (((h 0 up).2.2.2.2.2.2.2.2.2.2).2.2.2.2.2.2.2 0x5F8 1 (by decide +kernel) rfl rfl).2.2.2 (by decide +kernel) (by decide +kernel)⟩⟩

/-! ### Witnesses: the control plane, power and the step -/

/-- The device at an instant of TAI second 0, in increments of 1.25 ns, its fold bus in a state. -/
def folded (inc : Nat) (f : FoldBus) : State := { up with tb := { inc := inc }, host := { fold := f } }

/-- A SLOT frame without a body from station 1. -/
def slotFrame (dest kind crc : Nat) : Bytes :=  let p := [BitVec.ofNat 8 dest, 1#8, BitVec.ofNat 8 kind, 0#8] ++ zeros 4; p ++ le 4 ((crc32c p).toNat + crc)

/-- An ARP request for 10.0.0.1 sent to the all-zero address. -/
def arp : Bytes := zeros 12 ++ be 2 0x0806 ++ zeros 6 ++ be 2 1 ++ zeros 16 ++ [10#8, 0#8, 0#8, 1#8]

/-- Management port 1 enabled at 10.0.0.1 with the all-zero address. -/
def managed : State := upQ (qWrite {} fMgmt 0x80 ([1#8] ++ zeros 15 ++ [10#8, 0#8, 0#8, 1#8]))

theorem witness_ControlPlane (h : Obligations.ControlPlane) :
    Runs .foldSlotSend (folded 1600 {}) ∧
    Runs .foldSlotSend (folded 0 { slotSent := some 0 }) ∧
    Runs (.foldFrameReceive (slotFrame 0 1 1)) up ∧
    Runs (.foldFrameReceive (slotFrame 0 1 0)) (folded 104000 {}) ∧
    Runs .foldTenureEnd (folded 104000 { token := true }) ∧
    ((passToken (folded 104000 { heardSlot := [(5, 0)] })).host.fold.token = false) ∧
    Runs .foldTenureEnd up ∧
    Runs .foldTokenPhaseStart (folded 104000 { token := true }) ∧
    Runs .foldSilenceTimeout (folded 184000 {}) ∧
    Runs .foldSilenceTimeout (folded 0 { token := true }) ∧
    Runs .foldPollResponseTimeout (folded 104000 { polls := [1] }) ∧
    Runs .foldPollResponseTimeout up ∧
    (∃ f, exec (.mgtFrameReceive 1 (.frame arp)) managed = .next (emit (.mgt 1 f) managed)) ∧
    Runs (.mgtFrameReceive 1 (.frame [1])) managed ∧
    Runs (.diaRegRead { rq (w 8 0x20000000 ++ w 2 256 ++ zs 6) with port := 0x104 }) ({ up with keys := { lifeCycle := 1 } }) ∧
    Runs (.diaRegWrite { rq (w 8 0x20000000 ++ w 2 1 ++ zs 10) with port := 0x104 }) ({ up with keys := { lifeCycle := 1 } }) ∧
    Runs (.diaLoopback (rq ([0, 255, 1, 1] ++ zs 4))) up ∧
    Runs (.diaLoopback (rq ([3, 3, 0, 0] ++ zs 4))) up ∧
    Runs (.diaSelftest (rq ([7, 0] ++ zs 6))) up ∧
    Runs (.busLockTimeout 1 2 false) up ∧
    Runs .romRemapWrite up ∧
    Runs (.jtagInstruction (.halt 0)) up ∧
    Runs (.jtagInstruction .mailbox) up ∧
    Runs (.debugMailboxWrite 1) up ∧
    Runs (.debugMailboxWrite 0) up :=
  ⟨⟨_, (h (rq []) (folded 1600 {})).1 (by decide +kernel) (by decide +kernel) (by decide +kernel) (by decide +kernel)⟩,
   ⟨_, (h (rq []) (folded 0 { slotSent := some 0 })).2.1 (by decide +kernel)⟩,
   ⟨_, ((h (rq []) up).2.2.1 (slotFrame 0 1 1) (by decide +kernel)).1 (.inr (.inr (by decide +kernel)))⟩,
   ⟨_, ((h (rq []) (folded 104000 {})).2.2.1 (slotFrame 0 1 0) (by decide +kernel)).2 _ (show _ by decide +kernel) (by decide +kernel) (by decide +kernel) (by decide +kernel) (show _ by decide +kernel) (by decide +kernel) (by decide +kernel) (by decide +kernel) rfl rfl rfl⟩,
   ⟨_, (h (rq []) (folded 104000 { token := true })).2.2.2.1 (by decide +kernel) (by decide +kernel) rfl (by decide +kernel) rfl⟩,
   (h (rq []) (folded 104000 { heardSlot := [(5, 0)] })).2.2.2.2.1 5 rfl (by decide +kernel),
   ⟨_, ((h (rq []) up).2.2.2.2.2.1 rfl).1⟩,
   ⟨_, (h (rq []) (folded 104000 { token := true })).2.2.2.2.2.2.1 (by decide +kernel) (by decide +kernel) rfl⟩,
   ⟨_, (h (rq []) (folded 184000 {})).2.2.2.2.2.2.2.2.1 (by decide +kernel) (by decide +kernel) rfl rfl (by decide +kernel)⟩,
   ⟨_, (h (rq []) (folded 0 { token := true })).2.2.2.2.2.2.2.2.2.1 rfl⟩,
   ⟨_, (h (rq []) (folded 104000 { polls := [1] })).2.2.2.2.2.2.2.2.2.2.1 _ _ rfl (by decide +kernel) rfl⟩,
   ⟨_, (h (rq []) up).2.2.2.2.2.2.2.2.2.2.2.1 rfl⟩,
   ((((h (rq []) managed).2.2.2.2.2.2.2.2.2.2).2.2.2.2.2.1 1 arp _ (by decide +kernel) (by decide +kernel) rfl rfl).1 (show _ by decide +kernel) (by decide +kernel) (by decide +kernel) (by decide +kernel) (show _ by decide +kernel)).imp fun _ q => q.1,
   ⟨_, (((h (rq []) managed).2.2.2.2.2.2.2.2.2.2).2.2.2.2.2.1 1 [1] _ (by decide +kernel) (by decide +kernel) rfl rfl).2.1 (by decide +kernel) (by decide +kernel) (by decide +kernel)⟩,
   (((h { rq (w 8 0x20000000 ++ w 2 256 ++ zs 6) with port := 0x104 } ({ up with keys := { lifeCycle := 1 } })).2.2.2.2.2.2.2.2.2.2).2.2.2.2.2.2.1 ⟨rfl, rfl, rfl⟩ _ _ rfl rfl rfl (by decide +kernel) (by decide +kernel) (by decide +kernel) (by decide +kernel) rfl).elim fun _ q => ⟨_, q⟩,
   ⟨_, ((h { rq (w 8 0x20000000 ++ w 2 1 ++ zs 10) with port := 0x104 } ({ up with keys := { lifeCycle := 1 } })).2.2.2.2.2.2.2.2.2.2).2.2.2.2.2.2.2.2.1 ⟨rfl, rfl, rfl⟩ _ _ rfl rfl rfl (by decide +kernel) (by decide +kernel) (by decide +kernel) (by decide +kernel) rfl⟩,
   ⟨_, (((h _ up).2.2.2.2.2.2.2.2.2.2).2.2.2.2.2.2.2.2.2.1 ⟨rfl, rfl, rfl⟩ _ _ _ _ rfl rfl rfl rfl rfl (by decide +kernel) (by decide +kernel) (by decide +kernel) (.inr (by decide +kernel)) rfl rfl).1 rfl⟩,
   (((((h (rq ([3, 3, 0, 0] ++ zs 4)) up).2.2.2.2.2.2.2.2.2.2).2.2.2.2.2.2.2.2.2.1 ⟨rfl, rfl, rfl⟩ _ _ _ _ rfl rfl rfl rfl rfl (by decide +kernel) (by decide +kernel) (by decide +kernel) (.inl rfl) rfl rfl).2 (by decide +kernel)).imp fun _ q => q.imp fun _ q => q.1).elim fun _ q => q.elim fun _ q => ⟨_, q⟩,
   (((((h (rq ([7, 0] ++ zs 6)) up).2.2.2.2.2.2.2.2.2.2).2.2.2.2.2.2.2.2.2.2.1 ⟨rfl, rfl, rfl⟩ _ _ rfl rfl rfl (by decide +kernel) (by decide +kernel) rfl).1 (.inl (by decide +kernel))).imp fun _ q => q.imp fun _ q => And.intro q.2.2 trivial).elim fun _ q => q.elim fun _ q => ⟨_, q.1⟩,
   ⟨_, ((((h (rq []) up).2.2.2.2.2.2.2.2.2.2).2.2.2.2.2.2.2.2.2.2).2.1 1 2).2 (by decide +kernel)⟩,
   ⟨_, (((h (rq []) up).2.2.2.2.2.2.2.2.2.2).2.2.2.2.2.2.2.2.2.2).2.2.1 rfl⟩,
   ⟨_, (((h (rq []) up).2.2.2.2.2.2.2.2.2.2).2.2.2.2.2.2.2.2.2.2).2.2.2.1 (.halt 0) rfl⟩,
   ((((h (rq []) up).2.2.2.2.2.2.2.2.2.2).2.2.2.2.2.2.2.2.2.2).2.2.2.2.1 .mailbox rfl).elim fun _ q => ⟨_, q.1⟩,
   ⟨_, ((((h (rq []) up).2.2.2.2.2.2.2.2.2.2).2.2.2.2.2.2.2.2.2.2).2.2.2.2.2.2 1 rfl).1 (by decide +kernel)⟩,
   ⟨_, ((((h (rq []) up).2.2.2.2.2.2.2.2.2.2).2.2.2.2.2.2.2.2.2.2).2.2.2.2.2.2 0 rfl).2 (by decide +kernel)⟩⟩

theorem witness_PowerEvents (h : Obligations.PowerEvents) :
    Runs (.avsRequest true 0) ({ up with power := { requestedMv := 0 } }) ∧
    Runs (.avsRequest false 0) ({ up with power := { requestedMv := 0, attempts := 1 } }) ∧
    Runs (.avsRequest false 0) ({ up with power := { requestedMv := 0, attempts := 2 } }) ∧
    Runs (.avsRequest true 0) ({ up with power := { avsFailed := true } }) ∧
    Runs .governorAdmission ({ up with power := { waiting := [⟨0, 0, 0, 1, 0⟩] } }) ∧
    Runs .governorAdmission up ∧
    Runs .governorAdmission ({ up with power := { slewUntil := some 0 } }) ∧
    Runs (.supplyUndervoltage 8 0) up ∧
    Runs (.supplyUndervoltage 8 1000) up ∧
    Runs (.supplyUndervoltage 9 759) up ∧
    Runs (.supplyRestored [800, 850, 900, 1200, 1800, 1800, 1050, 900, 500, 800]) up ∧
    Runs (.thermalThreshold [80]) up ∧
    Runs (.thermalThreshold [100]) up ∧
    Runs (.thermalThreshold [115]) ({ up with power := { temps := [(0, 100)] } }) :=
  ⟨⟨_, ((h ({ up with power := { requestedMv := 0 } })).1 true 0 rfl rfl (fun _ e => nomatch e) rfl (by simp [nextMv, wantedMv, fusedMv])).choose_spec.2.1 rfl⟩,
   ⟨_, ((h ({ up with power := { requestedMv := 0, attempts := 1 } })).1 false 0 rfl rfl (fun _ e => nomatch e) rfl (by simp [nextMv, wantedMv, fusedMv])).choose_spec.2.2.1 rfl (by decide +kernel)⟩,
   ⟨_, ((h ({ up with power := { requestedMv := 0, attempts := 2 } })).1 false 0 rfl rfl (fun _ e => nomatch e) rfl (by simp [nextMv, wantedMv, fusedMv])).choose_spec.2.2.2 rfl (by decide +kernel)⟩,
   ⟨_, (h ({ up with power := { avsFailed := true } })).2.2.1 true 0 (.inl rfl)⟩,
   (((h ({ up with power := { waiting := [⟨0, 0, 0, 1, 0⟩] } })).2.2.2.1 ⟨0, 0, 0, 1, 0⟩ rfl (by decide +kernel) (by simp [nextLoad, up, slewing]; decide)).imp fun _ q => q.1).elim fun _ q => ⟨_, q⟩,
   ⟨_, (h up).2.2.2.2.1 (by simp [nextLoad, up])⟩,
   ⟨_, (h ({ up with power := { slewUntil := some 0 } })).2.2.2.2.2.1 0 rfl (by decide +kernel)⟩,
   ((h up).2.2.2.2.2.2.1 8 0 (by decide +kernel) (by decide +kernel) rfl).elim fun _ q => ⟨_, q.1⟩,
   ⟨_, (h up).2.2.2.2.2.2.2.1 8 1000 (by decide +kernel) (by decide +kernel)⟩,
   ((h up).2.2.2.2.2.2.2.2.2.1 759 (by decide +kernel)).elim fun _ q => ⟨_, q.1⟩,
   ((h up).2.2.2.2.2.2.2.2.2.2.1 _ (by decide +kernel)).elim fun _ q => ⟨_, q.1⟩,
   (((h up).2.2.2.2.2.2.2.2.2.2.2.2 [80] _ rfl rfl).imp fun _ q => q.2.1 (by unfold upperLimit; split <;> decide)).elim fun _ q => ⟨_, q⟩,
   (((h up).2.2.2.2.2.2.2.2.2.2.2.2 [100] _ rfl rfl).imp fun _ q => q.2.2.1 (by unfold upperLimit; split <;> decide) (by unfold upperLimit; split <;> decide) (by unfold upperLimit; split <;> decide)).elim fun _ q => ⟨_, q⟩,
   (((h ({ up with power := { temps := [(0, 100)] } })).2.2.2.2.2.2.2.2.2.2.2.2 [115] _ rfl rfl).imp fun _ q => q.2.2.2 (by unfold upperLimit; split <;> decide) (by unfold upperLimit; split <;> decide) (by unfold upperLimit; split <;> decide)).elim fun _ q => ⟨_, q⟩⟩

theorem witness_StepRunsFront (h : Obligations.StepRunsFront) :
    (step { up with pending := [.resetAssert 0] } = exec (.resetAssert 0) up) ∧
    (step up = .next { up with tb := tickBase up.tb } ∧ step held = .next held) :=
  ⟨h.1 _ [] { up with pending := [.resetAssert 0] } rfl,
   ⟨(h.2 up rfl).1 rfl, (h.2 held rfl).2 rfl⟩⟩

theorem witness_QueueAndTimeKept (h : Obligations.QueueAndTimeKept) :
    (∀ t, step { up with pending := [.resetAssert 0] } = .next t → timeSound t) :=
  fun t e => (h _ t e).2 ⟨(by decide +kernel), (by decide +kernel), (by decide +kernel)⟩

end Sys2Proof.Tests
end

section
/-! SUPPORT. The decision at a switch point (R42, R43): what its parts do where no swap is under way and no drover change is due,
and what the display decision gives in each of its cases. -/

namespace Sys2Proof.Proofs

open Sys2Proof Sys2Proof.Machine Sys2Proof.Laws

variable {s : State} {d : Nat} {q : Quire}

/-! ### With no swap under way and nothing due -/

theorem inForce_of_no_swap (h : s.quire.swapping = none) (k : Nat) : inForce s k = s.quire.active := by
  simp [inForce, h]

theorem takeSwap_of_no_swap (h : s.quire.swapping = none) (k t : Nat) : takeSwap k t s = s := by
  simp [takeSwap, h]

theorem applyDue_of_nothing_due {t : Nat} (hswap : pendingSwap s = none) (hdue : dueEvents t s = []) :
    applyDue t s = s := by
  simp [applyDue, hswap, hdue, applyAll, reportAll]

/-- With no swap under way, a decision is one change of the destination's record. -/
theorem decideAt_of_no_swap (h : s.quire.swapping = none) (t : Nat) :
    decideAt d t s =
      setDst d (applyDecision (dstEnabled s.quire.active d) t (chooseShown s d).1 (chooseShown s d).2) s := by
  simp only [decideAt, takeSwap_of_no_swap h, inForce_of_no_swap h]

theorem decideAt_changes_only_dst (h : s.quire.swapping = none) (t : Nat) :
    decideAt d t s = { s with spine := { s.spine with dst := (decideAt d t s).spine.dst } } := by
  rw [decideAt_of_no_swap h]
  rfl

theorem dstSlot_decideAt_other (h : s.quire.swapping = none) (t : Nat) {e : Nat} (he : e ≠ d) :
    dstSlot (decideAt d t s) e = dstSlot s e := by
  simp [decideAt_of_no_swap h, he]

theorem dstSlot_decideAt_same (h : s.quire.swapping = none) (t : Nat) :
    dstSlot (decideAt d t s) d =
      applyDecision (dstEnabled s.quire.active d) t (chooseShown s d).1 (chooseShown s d).2 (dstSlot s d) := by
  simp [decideAt_of_no_swap h]

/-- A destination that is not between two formats, before and after the changes due, takes them and decides (R42). -/
theorem execSwitchPoint_decides (k : Nat) {u : State} (hs : formatMoving s d = false)
    (hu : u = if reached s (switchTime s d k) then applyDue (switchTime s d k) s else s)
    (hm : formatMoving u d = false) :
    execSwitchPoint d k s = .next (decideAt d (switchTime s d k) u) := by
  subst hu
  simp [execSwitchPoint, hs, hm]

/-- With nothing due, a destination that is not between two formats decides on the state as it stands. -/
theorem execSwitchPoint_nothing_due (k : Nat) (hs : formatMoving s d = false) (hswap : pendingSwap s = none)
    (hdue : dueEvents (switchTime s d k) s = []) :
    execSwitchPoint d k s = .next (decideAt d (switchTime s d k) s) :=
  execSwitchPoint_decides k hs (by rw [applyDue_of_nothing_due hswap hdue, ite_self]) hs

/-! ### The display decision (R42, R43), on the quire `q` in force at the destination -/

theorem showable_iff (i f : Nat) :
    showable s i f = true ↔
      penEnabled s.quire.active (srcPen s.quire.active i) = true ∧ (srcSlot s i).state = .valid ∧ formatNow s i = f := by
  simp [showable]

/-- A destination that has nothing to show: it or its pen is disabled, or it has no route. -/
def NothingRouted (s : State) (q : Quire) (d : Nat) : Prop :=
  dstEnabled q d = false ∨ penEnabled s.quire.active (dstPen q d) = false ∨ 1536 ≤ dstRoute q d

/-- The one step of fallback (R43): the fallback source `fb` for format `f` under display state `code` where it can be shown,
else black under `black`. -/
def fallbackOrBlack (s : State) (fb : Option Nat) (f code black : Nat) : Nat × Nat :=
  match fb with
  | some g => if showable s g f then (code, g) else (black, 0xFFFF)
  | none => (black, 0xFFFF)

/-- A decision that comes to the step of fallback shows the fallback source, or black where that cannot be shown either. -/
theorem fallback_or_black {fb : Option Nat} {f code black : Nat} {c : Nat × Nat} (h : c = fallbackOrBlack s fb f code black) :
    (∀ g, fb = some g → showable s g f = true → c.1 = code ∧ c.2 = g) ∧
      ((∀ g, fb = some g → ¬ showable s g f = true) → c.1 = black ∧ c.2 = 0xFFFF) := by
  subst h
  cases fb with
  | none => simp [fallbackOrBlack]
  | some g => by_cases hg : showable s g f = true <;> simp [fallbackOrBlack, hg]

theorem chooseShown_of_nothingRouted (hq : inForce s d = q) (h : NothingRouted s q d) : chooseShown s d = (1, 0xFFFF) := by
  subst hq
  unfold chooseShown
  obtain hen | hpen | hroute := h
  · simp [hen]
  · simp [hpen]
  · simp [hroute]

/-- A destination that has a route asks for permission, then for the route's source, then for its loss action. -/
theorem chooseShown_of_routed (hq : inForce s d = q) (h : ¬ NothingRouted s q d) :
    chooseShown s d =
      if permitted s q (dstPen q d) (dstRoute q d) = false then
        fallbackOrBlack s (fallbackNow s q (dstPen q d) (dstFormat q d)) (dstFormat q d) 4 5
      else if showable s (dstRoute q d) (dstFormat q d) = true then (0, dstRoute q d)
      else if dstLoss q d = 1 then
        fallbackOrBlack s (fallbackNow s q (dstPen q d) (dstFormat q d)) (dstFormat q d) 3 2
      else (2, 0xFFFF) := by
  subst hq
  simp only [NothingRouted, not_or, Bool.not_eq_false] at h
  obtain ⟨hen, hpen, hroute⟩ := h
  simp only [chooseShown, hen, hpen, hroute, fallbackOrBlack, not_true_eq_false, or_self, if_false,
    Bool.not_eq_true] <;>
    rfl

end Sys2Proof.Proofs
end

section
/-! The statement about the decision at a switch point. -/

namespace Sys2Proof.Proofs

open Sys2Proof Sys2Proof.Machine Sys2Proof.Laws

/-- Settles O2: with nothing due the switch point is one decision on the state as it stands, and each clause about what is shown
is one case of the display decision. -/
theorem switchPointDecision : Obligations.SwitchPointDecision := by
  unfold Obligations.SwitchPointDecision
  intro d k s hs
  refine ⟨fun u hu hm => execSwitchPoint_decides k hs hu hm, fun hno hswap hdue => ?_⟩
  have hslot := dstSlot_decideAt_same (d := d) hno (switchTime s d k)
  refine ⟨_, execSwitchPoint_nothing_due k hs hswap hdue, decideAt_changes_only_dst hno _,
    fun e he => dstSlot_decideAt_other hno _ he, congrArg DstSlot.transit hslot, ?_⟩
  have hq := inForce_of_no_swap hno d
  simp only [hslot, applyDecision, ← showable_iff]
  refine ⟨fun hoff => ?nothingRouted, fun hon hmay => ?notPermitted, fun hon hmay hgood => ?shown,
    fun hon hmay hbad hloss => ?lossFallback, fun hon hmay hbad hloss => ?lossBlack⟩
  case nothingRouted => simp [chooseShown_of_nothingRouted hq hoff]
  case notPermitted => exact fallback_or_black ((chooseShown_of_routed hq hon).trans (by simp [hmay]))
  case shown => simp [chooseShown_of_routed hq hon, hmay, hgood]
  case lossFallback => exact fallback_or_black ((chooseShown_of_routed hq hon).trans (by simp [hmay, hbad, hloss]))
  case lossBlack => simp [chooseShown_of_routed hq hon, hmay, hbad, hloss]

end Sys2Proof.Proofs
end

section
/-! SUPPORT. A gain's behaviour, sample by sample (R282, R283): what its start and one step of it do, and where a run of steps
stands. -/

namespace Sys2Proof.Proofs

open Sys2Proof Sys2Proof.Machine

variable {u : GainUse} {n : Nat} {w : Int}

/-! ### The start of a behaviour -/

theorem gainStart_native_run {rate time : Nat} {target : Int} (hlevel : target ≠ u.level) (hrun : u.run = .still) :
    (gainStart n rate target 0 time u).run = .native (n + nativeTimeout time rate) := by
  simp [gainStart, hlevel, hrun]

theorem gainStart_ramp_run {rate time : Nat} {target : Int} (hlevel : target ≠ u.level) :
    (gainStart n rate target 1 time u).run = .ramp (rampLevel u.level) n (rampLength time rate) := by
  simp [gainStart, hlevel]

/-! ### One step, by what is in progress -/

theorem gainStep_still (h : u.run = .still) : gainStep n w u = { u with prev := w } := by
  simp [gainStep, h]

theorem gainStep_native_due {d : Nat} (h : u.run = .native d) (hdue : crosses w u.prev = true ∨ d ≤ n) :
    gainStep n w u = { u with level := u.target, run := .still, prev := w } := by
  simp [gainStep, h, hdue]

theorem gainStep_native_waiting {d : Nat} (h : u.run = .native d) (hcross : crosses w u.prev = false) (hd : n < d) :
    gainStep n w u = { u with prev := w } := by
  simp [gainStep, h, hcross, Nat.not_le.mpr hd]

theorem gainStep_ramp_within {l0 : Int} {n0 len : Nat} (h : u.run = .ramp l0 n0 len) (hi : n + 1 - n0 ≤ len) :
    gainStep n w u =
      { u with level := l0 + truncDiv ((rampLevel u.target - l0) * (n + 1 - n0 : Nat)) len, prev := w } := by
  simp [gainStep, h, hi]

theorem gainStep_ramp_past {l0 : Int} {n0 len : Nat} (h : u.run = .ramp l0 n0 len) (hi : len < n + 1 - n0) :
    gainStep n w u = { u with level := u.target, run := .still, prev := w } := by
  simp [gainStep, h, Nat.not_le.mpr hi]

@[simp] theorem gainStep_prev : (gainStep n w u).prev = w := rfl

@[simp] theorem gainStep_target : (gainStep n w u).target = u.target := by
  unfold gainStep
  cases u.run with
  | still => rfl
  | native d => dsimp only; split <;> rfl
  | ramp l0 n0 len => dsimp only; split <;> rfl

/-! ### A run of steps -/

/-- The use after `m` samples from sample `n0` on, `x` its input words. -/
def gainRun (n0 : Nat) (x : Nat → Int) (u : GainUse) (m : Nat) : GainUse :=
  (List.range m).foldl (fun v i => gainStep (n0 + i) (x i) v) u

variable {n0 : Nat} {x : Nat → Int}

@[simp] theorem gainRun_zero : gainRun n0 x u 0 = u := rfl

theorem gainRun_succ (m : Nat) : gainRun n0 x u (m + 1) = gainStep (n0 + m) (x m) (gainRun n0 x u m) := by
  simp [gainRun, List.range_succ]

@[simp] theorem gainRun_target (m : Nat) : (gainRun n0 x u m).target = u.target := by
  induction m with
  | zero => rfl
  | succ m ih => simp [gainRun_succ, ih]

theorem gainRun_prev (m : Nat) : (gainRun n0 x u m).prev = if m = 0 then u.prev else x (m - 1) := by
  cases m with
  | zero => rfl
  | succ m => simp [gainRun_succ]

/-- No behaviour in progress, and the target in force. -/
def Settled (u : GainUse) : Prop := u.run = .still ∧ u.level = u.target

theorem gainStep_settled (h : Settled u) : Settled (gainStep n w u) := by
  rw [gainStep_still h.1]
  exact h

theorem gainRun_settled_of_le {i m : Nat} (h : Settled (gainRun n0 x u i)) (him : i ≤ m) : Settled (gainRun n0 x u m) := by
  induction m, him using Nat.le_induction with
  | base => exact h
  | succ m _ ih => exact gainRun_succ m ▸ gainStep_settled ih

theorem gainRun_level_of_settled {i m : Nat} (h : Settled (gainRun n0 x u i)) (him : i ≤ m) :
    (gainRun n0 x u m).level = u.target :=
  (gainRun_settled_of_le h him).2.trans (gainRun_target m)

/-! ### A ramp (R283) -/

section Ramp

variable {l0 : Int} {len : Nat}

theorem gainRun_ramp_run (h : u.run = .ramp l0 n0 len) {m : Nat} (hm : m ≤ len) :
    (gainRun n0 x u m).run = .ramp l0 n0 len := by
  induction m with
  | zero => exact h
  | succ m ih =>
    have hrun := ih (by omega)
    rw [gainRun_succ, gainStep_ramp_within hrun (by omega)]
    exact hrun

theorem gainRun_ramp_level (h : u.run = .ramp l0 n0 len) {i : Nat} (h1 : 1 ≤ i) (hi : i ≤ len) :
    (gainRun n0 x u i).level = l0 + truncDiv ((rampLevel u.target - l0) * i) len := by
  obtain ⟨m, rfl⟩ := Nat.exists_eq_add_of_le' h1
  have hindex : n0 + m + 1 - n0 = m + 1 := by omega
  rw [gainRun_succ, gainStep_ramp_within (gainRun_ramp_run h (by omega)) (by omega), hindex, gainRun_target]

theorem gainRun_ramp_settled (h : u.run = .ramp l0 n0 len) : Settled (gainRun n0 x u (len + 1)) := by
  rw [gainRun_succ, gainStep_ramp_past (gainRun_ramp_run h le_rfl) (by omega)]
  exact ⟨rfl, rfl⟩

end Ramp

/-! ### A native step (R282) -/

section Native

variable {limit : Nat}

theorem gainRun_native_waiting (h : u.run = .native (n0 + limit)) {m : Nat}
    (hwait : ∀ i, i < m → crosses (x i) (if i = 0 then u.prev else x (i - 1)) = false ∧ i < limit) :
    (gainRun n0 x u m).run = .native (n0 + limit) ∧ (gainRun n0 x u m).level = u.level := by
  induction m with
  | zero => exact ⟨h, rfl⟩
  | succ m ih =>
    obtain ⟨hcross, hlimit⟩ := hwait m (by omega)
    have hbefore := ih fun i hi => hwait i (by omega)
    rw [← gainRun_prev (n0 := n0)] at hcross
    rw [gainRun_succ, gainStep_native_waiting hbefore.1 hcross (by omega)]
    exact hbefore

theorem gainRun_native_or_settled (h : u.run = .native (n0 + limit)) (m : Nat) :
    (gainRun n0 x u m).run = .native (n0 + limit) ∨ Settled (gainRun n0 x u m) := by
  induction m with
  | zero => exact .inl h
  | succ m ih =>
    rw [gainRun_succ]
    obtain hrun | hsettled := ih
    · by_cases hdue : crosses (x m) (gainRun n0 x u m).prev = true ∨ n0 + limit ≤ n0 + m
      · rw [gainStep_native_due hrun hdue]
        exact .inr ⟨rfl, rfl⟩
      · obtain ⟨hcross, hlimit⟩ := not_or.mp hdue
        rw [gainStep_native_waiting hrun (by simpa using hcross) (by omega)]
        exact .inl hrun
    · exact .inr (gainStep_settled hsettled)

theorem gainRun_native_settled (h : u.run = .native (n0 + limit)) {i : Nat}
    (hdue : crosses (x i) (if i = 0 then u.prev else x (i - 1)) = true ∨ limit ≤ i) :
    Settled (gainRun n0 x u (i + 1)) := by
  rw [← gainRun_prev (n0 := n0)] at hdue
  rw [gainRun_succ]
  obtain hrun | hsettled := gainRun_native_or_settled h i
  · rw [gainStep_native_due hrun (hdue.imp_right (by omega))]
    exact ⟨rfl, rfl⟩
  · exact gainStep_settled hsettled

end Native

/-! ### The coefficient an element uses -/

/-- A use that is already there goes on when its entry is as last seen, and starts towards the entry otherwise. -/
theorem gainCoefNow_of_use {v : ElemEnv} {key entry : Nat} {r : ElemRun} {e : Bytes} (he : e = paramEntry v.params entry)
    (hu : (r.sec.gains.find? fun p => decide (p.1 = key)).map (·.2) = some u) :
    (gainCoefNow v key entry w r).1 = gainCoef (gainStep v.n w
      (if u.target = rdI e 2 2 ∧ u.behaviour = rd e 1 1 ∧ u.time = rd e 4 2 then u
        else gainStart v.n v.rate (rdI e 2 2) (rd e 1 1) (rd e 4 2) u)).level := by
  simp only [gainCoefNow, hu, Option.getD_some, he]

end Sys2Proof.Proofs
end

section
/-! The statement about the level of every sample of a gain's behaviour. -/

namespace Sys2Proof.Proofs

open Sys2Proof Sys2Proof.Machine

/-- Settles O30: a ramp stays in progress for its N samples and settles at the next; a native step waits until its first due
sample and is settled from it; an element's coefficient is that of its use's next step. -/
theorem gainBehaviour : Obligations.GainBehaviour := by
  unfold Obligations.GainBehaviour
  intro u x n0 rate time target hlevel
  refine ⟨⟨fun _ => ?ramp, fun hstill m => ?native⟩, rfl, fun v key entry w r e he hu => ⟨?unchanged, ?changed⟩⟩
  case ramp =>
    have hrun := gainStart_ramp_run (n := n0) (rate := rate) (time := time) hlevel
    exact ⟨fun i h1 hi => gainRun_ramp_level hrun h1 hi,
      fun i hi => gainRun_level_of_settled (gainRun_ramp_settled hrun) hi⟩
  case native =>
    have hrun := gainStart_native_run (n := n0) (rate := rate) (time := time) hlevel hstill
    exact ⟨fun ⟨i, him, hdue⟩ => gainRun_level_of_settled (gainRun_native_settled hrun hdue) (Nat.succ_le_succ him),
      fun hwait => (gainRun_native_waiting hrun fun i hi => hwait i (Nat.le_of_lt_succ hi)).2⟩
  case unchanged =>
    intro htarget hbehaviour htime
    rw [gainCoefNow_of_use he hu, if_pos ⟨htarget, hbehaviour, htime⟩]
  case changed =>
    intro htarget
    rw [gainCoefNow_of_use he hu, if_neg fun hsame => htarget hsame.1]

end Sys2Proof.Proofs
end

section
/-! SUPPORT. One TIME cycle of the time base, and the limit of its rate word (R382). -/

namespace Sys2Proof.Proofs

open Sys2Proof Sys2Proof.Machine Sys2Proof.Laws

variable {b : TimeBase} {n : Nat}

/-! ### One TIME cycle -/

/-- A rate word within its limit keeps the accumulator's sum between nothing and three increments. -/
theorem accSum_bounds (hlo : -rhoLimit ≤ b.rho) (hhi : b.rho ≤ rhoLimit) :
    0 ≤ (b.acc.toNat : Int) + 2 ^ 48 + b.rho ∧ (b.acc.toNat : Int) + 2 ^ 48 + b.rho < 3 * 2 ^ 48 := by
  have hacc := b.acc.isLt
  simp only [rhoLimit] at hlo hhi
  omega

/-- A TIME cycle in whole numbers, for a sum `n` of the accumulator, the nominal rate and the rate word. -/
theorem tickBase_eq (hn : (n : Int) = b.acc.toNat + 2 ^ 48 + b.rho) :
    tickBase b = { b with
      acc := BitVec.ofNat 48 n
      inc := (b.inc + n / 2 ^ 48) % incsPerSec
      sec := b.sec + BitVec.ofNat 48 ((b.inc + n / 2 ^ 48) / incsPerSec) } := by
  simp only [tickBase, ← hn, Int.toNat_natCast]

/-- What the accumulator keeps is the sum's remainder. -/
theorem tickBase_acc_toNat (hn : (n : Int) = b.acc.toNat + 2 ^ 48 + b.rho) :
    (tickBase b).acc.toNat = n % 2 ^ 48 := by
  rw [tickBase_eq hn, BitVec.toNat_ofNat]

/-- Seconds that carry without wrapping gain exactly the whole seconds of the increments. -/
theorem tickBase_sec_toNat (hn : (n : Int) = b.acc.toNat + 2 ^ 48 + b.rho)
    (hwrap : b.sec.toNat + (b.inc + n / 2 ^ 48) / incsPerSec < 2 ^ 48) :
    (tickBase b).sec.toNat = b.sec.toNat + (b.inc + n / 2 ^ 48) / incsPerSec := by
  rw [tickBase_eq hn, BitVec.toNat_add, BitVec.toNat_ofNat, Nat.add_mod_mod, Nat.mod_eq_of_lt hwrap]

/-- The time in increments advances by what carries out of the accumulator. -/
theorem tickBase_total (hn : (n : Int) = b.acc.toNat + 2 ^ 48 + b.rho)
    (hwrap : b.sec.toNat + (b.inc + n / 2 ^ 48) / incsPerSec < 2 ^ 48) :
    (tickBase b).sec.toNat * incsPerSec + (tickBase b).inc = b.sec.toNat * incsPerSec + b.inc + n / 2 ^ 48 := by
  have hinc : (tickBase b).inc = (b.inc + n / 2 ^ 48) % incsPerSec := by rw [tickBase_eq hn]
  rw [tickBase_sec_toNat hn hwrap, hinc, Nat.add_mul, Nat.add_assoc, Nat.div_add_mod', Nat.add_assoc]

theorem tickBase_inc_lt (b : TimeBase) : (tickBase b).inc < incsPerSec := Nat.mod_lt _ (by decide)

/-! ### The rate word -/

theorem setRate_rho (want : Int) (s : State) : (setRate want s).tb.rho = slewTo s want := rfl

theorem slewTo_within_rhoLimit (want : Int) (s : State) : -rhoLimit ≤ slewTo s want ∧ slewTo s want ≤ rhoLimit :=
  clampRho _

end Sys2Proof.Proofs
end

section
/-! The statement about the time base's own advance. -/

namespace Sys2Proof.Proofs

open Sys2Proof Sys2Proof.Machine

/-- Settles O42: the sum of a cycle lies below three increments, so at most 2 carry out of it, the increments carry at most
one second, and below the last second none of it wraps. -/
theorem timeBaseAdvance : Obligations.TimeBaseAdvance := by
  unfold Obligations.TimeBaseAdvance
  refine ⟨fun b a hlo hhi hinc hsec ha => ?cycle, rfl, rfl, fun want s => ?rate⟩
  case cycle =>
    obtain ⟨hnonneg, hlt⟩ := accSum_bounds hlo hhi
    rw [← ha] at hnonneg hlt
    obtain ⟨n, rfl⟩ := Int.eq_ofNat_of_zero_le hnonneg
    have hcarry : n / 2 ^ 48 ≤ 2 := by omega
    have hwrap : b.sec.toNat + (b.inc + n / 2 ^ 48) / incsPerSec < 2 ^ 48 := by
      simp only [incsPerSec] at hinc ⊢
      omega
    refine ⟨by positivity, mod_cast hcarry, mod_cast tickBase_acc_toNat ha, mod_cast tickBase_total ha hwrap,
      tickBase_inc_lt b, rfl, rfl⟩
  case rate =>
    rw [setRate_rho]
    exact slewTo_within_rhoLimit want s

end Sys2Proof.Proofs
end

section
/-! SUPPORT. What a step keeps: the queue's rest, and a sound time base. -/

namespace Sys2Proof.Proofs

open Sys2Proof Sys2Proof.Machine Sys2Proof.Safety Sys2Proof.Laws

/-- Every command's meaning answers a next state, leaves the queue as it was and keeps the time base sound. -/
theorem exec_kept : ∀ (c : Instr) (s : State), Kept s (exec c s)
  | .devInfo .., _ => (execDevInfo_keeps ..).kept
  | .devPing .., _ => (execDevPing_keeps ..).kept
  | .devPortState .., _ => (execDevPortState_keeps ..).kept
  | .devBind .., _ => (execDevBind_keeps ..).kept
  | .devBindRead .., _ => (execDevBindRead_keeps ..).kept
  | .qirOpen .., _ => (execQirOpen_keeps ..).kept
  | .qirWrite .., _ => (execQirWrite_keeps ..).kept
  | .qirSeal .., _ => (execQirSeal_keeps ..).kept
  | .qirSwap .., _ => (execQirSwap_keeps ..).kept
  | .qirStatus .., _ => (execQirStatus_keeps ..).kept
  | .qirRead .., _ => (execQirRead_keeps ..).kept
  | .qirDiscard .., _ => (execQirDiscard_keeps ..).kept
  | .qirStageRead .., _ => (execQirStageRead_keeps ..).kept
  | .drvSubmit .., _ => (execDrvSubmit_keeps ..).kept
  | .drvCancel .., _ => (execDrvCancel_keeps ..).kept
  | .drvQueueRead .., _ => (execDrvQueueRead_keeps ..).kept
  | .drvResults .., _ => (execDrvResults_keeps ..).kept
  | .drvStatus .., _ => (execDrvStatus_keeps ..).kept
  | .spnRoute .., _ => (execSpnRoute_keeps ..).kept
  | .spnRouteRead .., _ => (execSpnRouteRead_keeps ..).kept
  | .spnSourceStatus .., _ => (execSpnSourceStatus_keeps ..).kept
  | .spnGrant .., _ => (execSpnGrant_keeps ..).kept
  | .spnFallback .., _ => (execSpnFallback_keeps ..).kept
  | .spnCounters .., _ => (execSpnCounters_keeps ..).kept
  | .spnStore .., _ => (execSpnStore_keeps ..).kept
  | .lanStatus .., _ => (execLanStatus_keeps ..).kept
  | .lanCounters .., _ => (execLanCounters_keeps ..).kept
  | .lanEq .., _ => (execLanEq_keeps ..).kept
  | .lanPrbs .., _ => (execLanPrbs_keeps ..).kept
  | .lanEye .., _ => (execLanEye_keeps ..).kept
  | .pktStatus .., _ => (execPktStatus_keeps ..).kept
  | .pktCounters .., _ => (execPktCounters_keeps ..).kept
  | .flwStatus .., _ => (execFlwStatus_keeps ..).kept
  | .pktLaunch .., _ => (execPktLaunch_keeps ..).kept
  | .pktWatch .., _ => (execPktWatch_keeps ..).kept
  | .fabStatus .., _ => (execFabStatus_keeps ..).kept
  | .fabCounters .., _ => (execFabCounters_keeps ..).kept
  | .fabRetrain .., _ => (execFabRetrain_keeps ..).kept
  | .stiStatus .., _ => (execStiStatus_keeps ..).kept
  | .memStatus .., _ => (execMemStatus_keeps ..).kept
  | .memTraining .., _ => (execMemTraining_keeps ..).kept
  | .fsyStatus .., _ => (execFsyStatus_keeps ..).kept
  | .audStatus .., _ => (execAudStatus_keeps ..).kept
  | .audParamWrite .., _ => (execAudParamWrite_keeps ..).kept
  | .audGain .., _ => (execAudGain_keeps ..).kept
  | .audMeter .., _ => (execAudMeter_keeps ..).kept
  | .audShepherd .., _ => (execAudShepherd_keeps ..).kept
  | .audShepherdRead .., _ => (execAudShepherdRead_keeps ..).kept
  | .aptStatus .., _ => (execAptStatus_keeps ..).kept
  | .aptChstat .., _ => (execAptChstat_keeps ..).kept
  | .aptCounters .., _ => (execAptCounters_keeps ..).kept
  | .layStatus .., _ => (execLayStatus_keeps ..).kept
  | .laySet .., _ => (execLaySet_keeps ..).kept
  | .layShepherdWrite .., _ => (execLayShepherdWrite_keeps ..).kept
  | .layShepherdShow .., _ => (execLayShepherdShow_keeps ..).kept
  | .layShepherdRead .., _ => (execLayShepherdRead_keeps ..).kept
  | .refStatus .., _ => (execRefStatus_keeps ..).kept
  | .refSelect .., _ => (execRefSelect_keeps ..).kept
  | .refHoldover .., _ => (execRefHoldover_keeps ..).kept
  | .clkStatus .., _ => (execClkStatus_keeps ..).kept
  | .timRead .., _ => (execTimRead_keeps ..).kept
  | .timBound .., _ => (execTimBound_keeps ..).kept
  | .ptpStatus .., _ => (execPtpStatus_keeps ..).kept
  | .ptpSessions .., _ => (execPtpSessions_keeps ..).kept
  | .ntsStatus .., _ => (execNtsStatus_keeps ..).kept
  | .timSet .., _ => (execTimSet_keeps ..).kept
  | .gnsStatus .., _ => (execGnsStatus_keeps ..).kept
  | .gnsChannels .., _ => (execGnsChannels_keeps ..).kept
  | .gnsAid .., _ => (execGnsAid_keeps ..).kept
  | .gnsMeas .., _ => (execGnsMeas_keeps ..).kept
  | .twnStatus .., _ => (execTwnStatus_keeps ..).kept
  | .twnHealth .., _ => (execTwnHealth_keeps ..).kept
  | .twnYield .., _ => (execTwnYield_keeps ..).kept
  | .twnSync .., _ => (execTwnSync_keeps ..).kept
  | .flkStatus .., _ => (execFlkStatus_keeps ..).kept
  | .flkReport .., _ => (execFlkReport_keeps ..).kept
  | .flkMembers .., _ => (execFlkMembers_keeps ..).kept
  | .keyStatus .., _ => (execKeyStatus_keeps ..).kept
  | .keyLoad .., _ => (execKeyLoad_keeps ..).kept
  | .keyGenerate .., _ => (execKeyGenerate_keeps ..).kept
  | .keyErase .., _ => (execKeyErase_keeps ..).kept
  | .impGet .., _ => (execImpGet_keeps ..).kept
  | .lcsAdvance .., _ => (execLcsAdvance_keeps ..).kept
  | .evtRead .., _ => (execEvtRead_keeps ..).kept
  | .evtConfig .., _ => (execEvtConfig_keeps ..).kept
  | .evtClear .., _ => (execEvtClear_keeps ..).kept
  | .colRead .., _ => (execColRead_keeps ..).kept
  | .colRelease .., _ => (execColRelease_keeps ..).kept
  | .evtInject .., _ => (execEvtInject_keeps ..).kept
  | .updBegin .., _ => (execUpdBegin_keeps ..).kept
  | .updWrite .., _ => (execUpdWrite_keeps ..).kept
  | .updVerify .., _ => (execUpdVerify_keeps ..).kept
  | .updActivate .., _ => (execUpdActivate_keeps ..).kept
  | .updConfirm .., _ => (execUpdConfirm_keeps ..).kept
  | .updStatus .., _ => (execUpdStatus_keeps ..).kept
  | .casWrite .., _ => (execCasWrite_keeps ..).kept
  | .casRead .., _ => (execCasRead_keeps ..).kept
  | .diaLoopback .., _ => (execDiaLoopback_keeps ..).kept
  | .diaSelftest .., _ => (execDiaSelftest_keeps ..).kept
  | .diaRegRead .., _ => (execDiaRegRead_keeps ..).kept
  | .diaRegWrite .., _ => (execDiaRegWrite_keeps ..).kept
  | .commandReceipt .., _ => (execCommandReceipt_keeps ..).kept
  | .heldCommandTimeout .., _ => (execHeldCommandTimeout_keeps ..).kept
  | .safetyUartFrame .., _ => (execSafetyUartFrame_keeps ..).kept
  | .mgtFrameReceive .., _ => (execMgtFrameReceive_keeps ..).kept
  | .mgtSessionAckTimeout, _ => (execMgtSessionAckTimeout_keeps ..).kept
  | .sessionIdleTimeout, _ => (execSessionIdleTimeout_keeps ..).kept
  | .sessionKeyUpdate, _ => (execSessionKeyUpdate_keeps ..).kept
  | .switchPoint .., _ => (execSwitchPoint_keeps ..).kept
  | .lineWrite .., _ => (execLineWrite_keeps ..).kept
  | .destinationLineRead .., _ => (execDestinationLineRead_keeps ..).kept
  | .sourceStateEvaluation .., _ => (execSourceStateEvaluation_keeps ..).kept
  | .sourceFrameLoss .., _ => (execSourceFrameLoss_keeps ..).kept
  | .sourceEvaluationCycle .., _ => (execSourceEvaluationCycle_keeps ..).kept
  | .spineScrubPass .., _ => (execSpineScrubPass_keeps ..).kept
  | .hardwareFault .., _ => (execHardwareFault_keeps ..).kept
  | .destFormatQuietPoint .., _ => (execDestFormatQuietPoint_keeps ..).kept
  | .destFormatComplete .., _ => (execDestFormatComplete_keeps ..).kept
  | .droverEventApply .., _ => (execDroverEventApply_keeps ..).kept
  | .quireSwapApply, _ => (execQuireSwapApply_keeps ..).kept
  | .swapComplete, _ => (execSwapComplete_keeps ..).kept
  | .quireDigestDone, _ => (execQuireDigestDone_keeps ..).kept
  | .stagedItemStart .., _ => (execStagedItemStart_keeps ..).kept
  | .stagedItemComplete .., _ => (execStagedItemComplete_keeps ..).kept
  | .stagedItemTimeout .., _ => (execStagedItemTimeout_keeps ..).kept
  | .rxLock .., _ => (execRxLock_keeps ..).kept
  | .rxAlign .., _ => (execRxAlign_keeps ..).kept
  | .rxLockLoss .., _ => (execRxLockLoss_keeps ..).kept
  | .huntDwellExpiry .., _ => (execHuntDwellExpiry_keeps ..).kept
  | .gangDeskew .., _ => (execGangDeskew_keeps ..).kept
  | .ancPacketReceive .., _ => (execAncPacketReceive_keeps ..).kept
  | .audioPacketDeembed .., _ => (execAudioPacketDeembed_keeps ..).kept
  | .audioGroupAbsent .., _ => (execAudioGroupAbsent_keeps ..).kept
  | .txLineStart .., _ => (execTxLineStart_keeps ..).kept
  | .txRelockEnd .., _ => (execTxRelockEnd_keeps ..).kept
  | .prbsCheckerLock .., _ => (execPrbsCheckerLock_keeps ..).kept
  | .prbsCheckerUnlock .., _ => (execPrbsCheckerUnlock_keeps ..).kept
  | .portUp .., _ => (execPortUp_keeps ..).kept
  | .portDown .., _ => (execPortDown_keeps ..).kept
  | .frameReceive .., _ => (execFrameReceive_keeps ..).kept
  | .pauseExpiry .., _ => (execPauseExpiry_keeps ..).kept
  | .membershipReportSend .., _ => (execMembershipReportSend_keeps ..).kept
  | .flowAgeingCycle, _ => (execFlowAgeingCycle_keeps ..).kept
  | .mergeRecordAgeing, _ => (execMergeRecordAgeing_keeps ..).kept
  | .mediaPacketLaunch .., _ => (execMediaPacketLaunch_keeps ..).kept
  | .mediaPacketLateDrop .., _ => (execMediaPacketLateDrop_keeps ..).kept
  | .frameTransmit .., _ => (execFrameTransmit_keeps ..).kept
  | .hostFrameLaunch .., _ => (execHostFrameLaunch_keeps ..).kept
  | .tcEntryAgeing, _ => (execTcEntryAgeing_keeps ..).kept
  | .portWake .., _ => (execPortWake_keeps ..).kept
  | .fabricSignalDetect .., _ => (execFabricSignalDetect_keeps ..).kept
  | .trainingFrameReceive .., _ => (execTrainingFrameReceive_keeps ..).kept
  | .blockLock .., _ => (execBlockLock_keeps ..).kept
  | .blockLockLoss .., _ => (execBlockLockLoss_keeps ..).kept
  | .capsReceive .., _ => (execCapsReceive_keeps ..).kept
  | .laneStateTimeout .., _ => (execLaneStateTimeout_keeps ..).kept
  | .cellReceive .., _ => (execCellReceive_keeps ..).kept
  | .fabricMergeAgeing, _ => (execFabricMergeAgeing_keeps ..).kept
  | .pictureCellSend .., _ => (execPictureCellSend_keeps ..).kept
  | .frameStatusSend .., _ => (execFrameStatusSend_keeps ..).kept
  | .audioCellSend .., _ => (execAudioCellSend_keeps ..).kept
  | .stitchFrameReceive .., _ => (execStitchFrameReceive_keeps ..).kept
  | .stitchReorderTimeout, _ => (execStitchReorderTimeout_keeps ..).kept
  | .stitchAckSend, _ => (execStitchAckSend_keeps ..).kept
  | .stitchResendTimeout, _ => (execStitchResendTimeout_keeps ..).kept
  | .stitchLinkDown, _ => (execStitchLinkDown_keeps ..).kept
  | .dramTempPoll .., _ => (execDramTempPoll_keeps ..).kept
  | .dramWckRetrain .., _ => (execDramWckRetrain_keeps ..).kept
  | .dramUncorrectableRead .., _ => (execDramUncorrectableRead_keeps ..).kept
  | .dramGroupOut .., _ => (execDramGroupOut_keeps ..).kept
  | .dramAccessRefused .., _ => (execDramAccessRefused_keeps ..).kept
  | .dramPatrolScrub .., _ => (execDramPatrolScrub_keeps ..).kept
  | .dramAutoSelfRefresh .., _ => (execDramAutoSelfRefresh_keeps ..).kept
  | .dramSelfRefreshExit .., _ => (execDramSelfRefreshExit_keeps ..).kept
  | .fsyChoose .., _ => (execFsyChoose_keeps ..).kept
  | .fsyOwnDecision .., _ => (execFsyOwnDecision_keeps ..).kept
  | .fsyOutputLine .., _ => (execFsyOutputLine_keeps ..).kept
  | .fsyMoveRestart .., _ => (execFsyMoveRestart_keeps ..).kept
  | .audioSamplePeriod .., _ => (execAudioSamplePeriod_keeps ..).kept
  | .programBankExchange, _ => (execProgramBankExchange_keeps ..).kept
  | .audioChangeApply .., _ => (execAudioChangeApply_keeps ..).kept
  | .gainNativeTimeout .., _ => (execGainNativeTimeout_keeps ..).kept
  | .gainRampEnd .., _ => (execGainRampEnd_keeps ..).kept
  | .domfreeClockChange .., _ => (execDomfreeClockChange_keeps ..).kept
  | .bridgeLock .., _ => (execBridgeLock_keeps ..).kept
  | .shepherdInsertFadeEnd .., _ => (execShepherdInsertFadeEnd_keeps ..).kept
  | .aes3FrameReceive .., _ => (execAes3FrameReceive_keeps ..).kept
  | .audioPortNoSignal .., _ => (execAudioPortNoSignal_keeps ..).kept
  | .aes3FrameSend .., _ => (execAes3FrameSend_keeps ..).kept
  | .tdmFrame .., _ => (execTdmFrame_keeps ..).kept
  | .layerOutputLine .., _ => (execLayerOutputLine_keeps ..).kept
  | .layerFormatChangeStart .., _ => (execLayerFormatChangeStart_keeps ..).kept
  | .layerFormatChangeEnd .., _ => (execLayerFormatChangeEnd_keeps ..).kept
  | .shepherdChangeApply .., _ => (execShepherdChangeApply_keeps ..).kept
  | .taiSecondEvaluation .., _ => (execTaiSecondEvaluation_keeps ..).kept
  | .referencePulse .., _ => (execReferencePulse_keeps ..).kept
  | .atomCountCycle .., _ => (execAtomCountCycle_keeps ..).kept
  | .referenceActivityFault .., _ => (execReferenceActivityFault_keeps ..).kept
  | .referenceHoldExpiry .., _ => (execReferenceHoldExpiry_keeps ..).kept
  | .dpllPhaseUpdate .., _ => execDpllPhaseUpdate_kept ..
  | .ladderAdvance, _ => (execLadderAdvance_keeps ..).kept
  | .synthLockLoss .., _ => (execSynthLockLoss_keeps ..).kept
  | .synthRelock .., _ => (execSynthRelock_keeps ..).kept
  | .sysrefLoss .., _ => (execSysrefLoss_keeps ..).kept
  | .pulseOutputEdge .., _ => (execPulseOutputEdge_keeps ..).kept
  | .acquisitionStep .., _ => execAcquisitionStep_kept ..
  | .timSetApply, _ => execTimSetApply_kept ..
  | .hstTimeNsRead, _ => (execHstTimeNsRead_keeps ..).kept
  | .ptpMessageReceive .., _ => (execPtpMessageReceive_keeps ..).kept
  | .ptpMessageSend .., _ => (execPtpMessageSend_keeps ..).kept
  | .announceReceiptTimeout .., _ => (execAnnounceReceiptTimeout_keeps ..).kept
  | .unicastGrantAgeing, _ => (execUnicastGrantAgeing_keeps ..).kept
  | .leapSecond, _ => (execLeapSecond_keeps ..).kept
  | .keyRollover .., _ => (execKeyRollover_keeps ..).kept
  | .ntpRequest .., _ => (execNtpRequest_keeps ..).kept
  | .ntsKeHandshake .., _ => (execNtsKeHandshake_keeps ..).kept
  | .ntsKeTimeout .., _ => (execNtsKeTimeout_keeps ..).kept
  | .rateLimiterAgeing, _ => (execRateLimiterAgeing_keeps ..).kept
  | .gnssClockStamp .., _ => (execGnssClockStamp_keeps ..).kept
  | .gnssNoClock, _ => (execGnssNoClock_keeps ..).kept
  | .gnssStreamCheck .., _ => (execGnssStreamCheck_keeps ..).kept
  | .channelAllocation .., _ => (execChannelAllocation_keeps ..).kept
  | .searchDwell .., _ => (execSearchDwell_keeps ..).kept
  | .channelPullinDone .., _ => (execChannelPullinDone_keeps ..).kept
  | .channelLockLoss .., _ => (execChannelLockLoss_keeps ..).kept
  | .reacqTimeout .., _ => (execReacqTimeout_keeps ..).kept
  | .navMessageDecode .., _ => (execNavMessageDecode_keeps ..).kept
  | .measurementEpoch .., _ => (execMeasurementEpoch_keeps ..).kept
  | .gnssHoldTimeout, _ => (execGnssHoldTimeout_keeps ..).kept
  | .stitchCycleEnd, _ => (execStitchCycleEnd_keeps ..).kept
  | .crookClaim, _ => (execCrookClaim_keeps ..).kept
  | .startingWaitExpiry, _ => (execStartingWaitExpiry_keeps ..).kept
  | .restartOverrun, _ => (execRestartOverrun_keeps ..).kept
  | .selftestRun .., _ => (execSelftestRun_keeps ..).kept
  | .resyncPhaseEnd .., _ => (execResyncPhaseEnd_keeps ..).kept
  | .flockHelloSend, _ => (execFlockHelloSend_keeps ..).kept
  | .flockMessageReceive .., _ => (execFlockMessageReceive_keeps ..).kept
  | .memberAgeing, _ => (execMemberAgeing_keeps ..).kept
  | .keyUseRequest .., _ => (execKeyUseRequest_keeps ..).kept
  | .drbgReseed, _ => (execDrbgReseed_keeps ..).kept
  | .entropyHealthFail .., _ => (execEntropyHealthFail_keeps ..).kept
  | .cryptoChunkBoundary .., _ => (execCryptoChunkBoundary_keeps ..).kept
  | .blockResetRecovered .., _ => (execBlockResetRecovered_keeps ..).kept
  | .coreWatchdog .., _ => (execCoreWatchdog_keeps ..).kept
  | .colophonWriteDone .., _ => execColophonWriteDone_kept ..
  | .evtPendWrite .., _ => (execEvtPendWrite_keeps ..).kept
  | .evtSummaryWrite .., _ => (execEvtSummaryWrite_keeps ..).kept
  | .evtBlkStatusRead .., _ => (execEvtBlkStatusRead_keeps ..).kept
  | .rfcEventsWrite .., _ => (execRfcEventsWrite_keeps ..).kept
  | .bootStatusWrite .., _ => (execBootStatusWrite_keeps ..).kept
  | .resetAssert .., _ => execResetAssert_kept ..
  | .resetRelease .., _ => (execResetRelease_keeps ..).kept
  | .chipReset .., _ => execChipReset_kept ..
  | .controlPlaneRestart, _ => (execControlPlaneRestart_keeps ..).kept
  | .vegenRegister, _ => (execVegenRegister_keeps ..).kept
  | .updateActivationDue, _ => (execUpdateActivationDue_keeps ..).kept
  | .confirmTimerExpiry, _ => (execConfirmTimerExpiry_keeps ..).kept
  | .deepUpdatePhase .., _ => (execDeepUpdatePhase_keeps ..).kept
  | .hstDoorbell .., _ => (execHstDoorbell_keeps ..).kept
  | .hstCqHead .., _ => (execHstCqHead_keeps ..).kept
  | .submissionFetch .., _ => (execSubmissionFetch_keeps ..).kept
  | .completionWrite .., _ => (execCompletionWrite_keeps ..).kept
  | .hstQpCfgWrite .., _ => (execHstQpCfgWrite_keeps ..).kept
  | .interruptModerationTimeout .., _ => (execInterruptModerationTimeout_keeps ..).kept
  | .descriptorTailWrite .., _ => (execDescriptorTailWrite_keeps ..).kept
  | .receiveHeadWrite .., _ => (execReceiveHeadWrite_keeps ..).kept
  | .launchHeadWrite .., _ => (execLaunchHeadWrite_keeps ..).kept
  | .hostFrameDeliver .., _ => (execHostFrameDeliver_keeps ..).kept
  | .hstMboxGo .., _ => (execHstMboxGo_keeps ..).kept
  | .mboxFetchDone .., _ => (execMboxFetchDone_keeps ..).kept
  | .registerWrite .., _ => (execRegisterWrite_keeps ..).kept
  | .perstAssert .., _ => (execPerstAssert_keeps ..).kept
  | .foldSlotSend, _ => (execFoldSlotSend_keeps ..).kept
  | .foldFrameReceive .., _ => (execFoldFrameReceive_keeps ..).kept
  | .foldTenureEnd, _ => (execFoldTenureEnd_keeps ..).kept
  | .foldFrameDrop, _ => (execFoldFrameDrop_keeps ..).kept
  | .foldSilenceTimeout, _ => (execFoldSilenceTimeout_keeps ..).kept
  | .busLockTimeout .., _ => (execBusLockTimeout_keeps ..).kept
  | .romRemapWrite, _ => (execRomRemapWrite_keeps ..).kept
  | .debugMailboxWrite .., _ => (execDebugMailboxWrite_keeps ..).kept
  | .jtagInstruction .., _ => (execJtagInstruction_keeps ..).kept
  | .avsRequest .., _ => (execAvsRequest_keeps ..).kept
  | .governorAdmission, _ => (execGovernorAdmission_keeps ..).kept
  | .supplyUndervoltage .., _ => execSupplyUndervoltage_kept ..
  | .supplyRestored .., _ => (execSupplyRestored_keeps ..).kept
  | .powerUp, _ => execPowerUp_kept ..
  | .thermalThreshold .., _ => (execThermalThreshold_keeps ..).kept
  | .clockReferenceActivityRestored .., _ => (execClockReferenceActivityRestored_keeps ..).kept
  | .gnssClockReturn, _ => (execGnssClockReturn_keeps ..).kept
  | .foldTokenPhaseStart, _ => (execFoldTokenPhaseStart_keeps ..).kept
  | .foldPollResponseTimeout, _ => (execFoldPollResponseTimeout_keeps ..).kept
  | .errNMinimumHoldEnd, _ => (execErrNMinimumHoldEnd_keeps ..).kept
  | .keyShareRerandomisation, _ => (execKeyShareRerandomisation_keeps ..).kept
  | .portBringUpComplete .., _ => (execPortBringUpComplete_keeps ..).kept

/-- The tick of a TIME cycle keeps the time base sound: increments are taken modulo a second, the rate word stays. -/
theorem tick_sound {s : State} (h : timeSound s) : timeSound (tick s) := by
  obtain ⟨hinc, hrho⟩ := h
  unfold tick
  split
  · exact ⟨hinc, hrho⟩
  · exact ⟨tickBase_inc_lt s.tb, hrho⟩

theorem step_of_pending_nil {s : State} (h : s.pending = []) : step s = .next (tick s) := by
  simp [step, h]

theorem step_of_pending_cons {s : State} {c : Instr} {rest : List Instr} (h : s.pending = c :: rest) :
    step s = exec c { s with pending := rest } := by
  simp [step, h]

end Sys2Proof.Proofs
end

section
/-! The statements about the whole device. -/

namespace Sys2Proof.Proofs

open Sys2Proof Sys2Proof.Machine Sys2Proof.Safety Sys2Proof.Laws

/-- Settles O59: an empty queue ticks, and the meaning of the front command keeps the queue's rest and a sound time base. -/
theorem queueAndTimeKept : Obligations.QueueAndTimeKept := by
  unfold Obligations.QueueAndTimeKept
  intro s t hstep
  cases hq : s.pending with
  | nil =>
    obtain rfl : tick s = t := by simpa [step_of_pending_nil hq] using hstep
    exact ⟨(tick_pending s).trans hq, tick_sound⟩
  | cons c rest =>
    obtain ⟨u, hu, hpending, hsound⟩ := exec_kept c { s with pending := rest }
    obtain rfl : u = t := by simpa [step_of_pending_cons hq, hu] using hstep
    exact ⟨hpending, hsound⟩

/-- Settles O58: the first clause is `step` on a queue with a front; on an empty one `tick` is read off, in reset and out of it. -/
theorem stepRunsFront : Obligations.StepRunsFront := by
  unfold Obligations.StepRunsFront
  refine ⟨fun c rest s h => step_of_pending_cons h, fun s h => ⟨fun hr => ?_, fun hr => ?_⟩⟩
  · simp [step_of_pending_nil h, tick, hr]
  · simp [step_of_pending_nil h, tick, hr]

/-- Settles O60: the reset state is given field by field. -/
theorem resetState : Obligations.ResetState := by
  unfold Obligations.ResetState
  refine ⟨rfl, rfl, rfl, rfl, rfl, rfl, rfl, rfl, rfl, fun q => ⟨rfl, rfl⟩, ?_, rfl, rfl⟩
  exact ⟨by decide, by decide, by decide⟩

end Sys2Proof.Proofs
end

section
/-! SUPPORT. How a command that starts ends, by the answer of its body: what the statements about commands cite. -/

namespace Sys2Proof.Proofs

open Sys2Proof Sys2Proof.Machine Sys2Proof.Safety Sys2Proof.Laws

variable {op : Nat} {r : Req} {s : State} {body : Req → State → Ans}

/-- A command that starts, whose body answers at once, ends with that answer. -/
theorem command_answers (h : Starts op r s) {a : Ans} (ha : body r (begun op r s) = a) (hnow : a.later = none := by rfl)
    (hc : (catalogue op).isSome = true := by rfl) :
    (.next (command op body r s) : Host.Outcome State Fault Refusal) = .next (answered op r a) := by
  rw [command_starts hc h, ha, hnow]

/-- A command that starts, whose body answers later, is deferred with what the body kept. -/
theorem command_defers (h : Starts op r s) {a : Ans} {info : List Nat} (ha : body r (begun op r s) = a)
    (hlater : a.later = some info := by rfl) (hc : (catalogue op).isSome = true := by rfl) :
    (.next (command op body r s) : Host.Outcome State Fault Refusal) = .next (deferredBy op r info a.st) := by
  rw [command_starts hc h, ha, hlater]

/-- Parameters of the right length and of good form pass both checks. -/
theorem checks_ok {n : Nat} {l : List (Bool × Nat)} {k : Unit → Ans} (hlen : r.params.length = n)
    (hform : ∀ x ∈ l, x.1 = true) : (needLen n r s fun _ => needForm l s k) = k () :=
  (needLen_ok hlen).trans (needForm_ok hform)

theorem timeCheck_unscheduled (h : isScheduled r = false) (t o : Nat) : timeCheck r s t o = none := by
  simp [timeCheck, h]

end Sys2Proof.Proofs
end

section
/-! SUPPORT. The SPN commands (R53 to R59). -/

namespace Sys2Proof.Proofs

open Sys2Proof Sys2Proof.Machine Sys2Proof.Safety Sys2Proof.Laws

theorem bit_zero_of_le_one {n : Nat} (h : n ≤ 1) : bit n 0 = decide (n = 1) := by
  interval_cases n <;> rfl

@[simp] theorem inForce_begun (op : Nat) (r : Req) (s : State) (d : Nat) : inForce (begun op r s) d = inForce s d := rfl

/-! ### SPN_ROUTE -/

theorem routeEntries_length (r : Req) (t : Nat) (l : List Bytes) (i : Nat) (s : State) :
    (routeEntries r t l i s).1.length = l.length := by
  induction l generalizing i s with
  | nil => rfl
  | cons e rest ih => simp [routeEntries, ih]

theorem routeList_length (r : Req) : (routeList r).length = rd r.params 8 2 := by
  simp [routeList]

/-- Where every entry passed all its checks, no step before the last refuses the whole. -/
theorem wholeRefusal_of_all_pass {l : List (Nat × Nat)} {lo hi : Nat} (h : ∀ x ∈ l, x = (stOk, 8)) (hi8 : hi < 8) :
    wholeRefusal lo hi l = none := by
  unfold wholeRefusal
  rw [List.findSome?_eq_none_iff]
  intro k _
  split
  · next hk =>
    rw [Option.map_eq_none_iff, List.find?_eq_none]
    intro x hx
    have hpass := h x.1 (List.fst_mem_of_mem_zipIdx hx)
    simp [hpass]
    omega
  · rfl

theorem routeStatuses_of_all_pass {r : Req} {t : Nat} {s : State}
    (h : ∀ x ∈ (routeEntries r t (routeList r) 0 s).1, x = (stOk, 8)) :
    (routeEntries r t (routeList r) 0 s).1.map (·.1) = List.replicate (rd r.params 8 2) stOk := by
  rw [List.eq_replicate_of_mem h, routeEntries_length, routeList_length, List.map_replicate]

/-- What SPN_ROUTE answers where its form is good and every entry passes: ACCEPTED if scheduled, else later. -/
theorem execSpnRoute_all_pass {r : Req} {s : State} (h : Starts 0x0401 r s)
    (hlen : r.params.length = 16 + 8 * rd r.params 8 2) (hn1 : 1 ≤ rd r.params 8 2) (hn : rd r.params 8 2 ≤ 256)
    (hopt : rd r.params 0xA 2 ≤ 1) (hzero : isZero r.params 0xC 4 = true)
    (hsched : isScheduled r = true ∨ rd r.params 0 8 = 0)
    (htime : timeCheck r (begun 0x0401 r s) (rd r.params 0 8) 0 = none)
    (hpass : ∀ x ∈ (routeEntries r (rd r.params 0 8) (routeList r) 0 (begun 0x0401 r s)).1, x = (stOk, 8))
    (hroom : queueFull (begun 0x0401 r s) (rd r.params 8 2) = false) :
    execSpnRoute r s = .next (
      let t := (routeEntries r (rd r.params 0 8) (routeList r) 0 (begun 0x0401 r s)).2
      if isScheduled r then answered 0x0401 r { st := t, status := stAccepted }
      else deferredBy 0x0401 r (List.replicate (rd r.params 8 2) stOk) t) := by
  have hwhole (lo hi : Nat) (hi8 : hi < 8) := wholeRefusal_of_all_pass (lo := lo) hpass hi8
  have hstatus := routeStatuses_of_all_pass hpass
  have hfew : ¬ (r.params.length < 16 ∨ r.params.length ≠ 16 + 8 * rd r.params 8 2) := by omega
  have hne : rd r.params 8 2 ≠ 0 := by omega
  have hform : ∀ x ∈ [(isScheduled r || decide (rd r.params 0 8 = 0), 0),
      (decide (1 ≤ rd r.params 8 2 ∧ rd r.params 8 2 ≤ 256), 8), (decide (rd r.params 0xA 2 ≤ 1), 0xA),
      (isZero r.params 0xC 4, 0xC)], x.1 = true := by
    simp [hsched, hn1, hn, hopt, hzero]
  simp only [execSpnRoute, command_starts (op := 0x0401) rfl h, if_neg hfew, needForm_ok hform, htime, hstatus,
    hwhole 2 3 (by omega), hwhole 6 7 (by omega), ite_self]
  cases hs : isScheduled r <;> simp [hroom, hne]

end Sys2Proof.Proofs
end

section
/-! The statement about the SPN commands. -/

namespace Sys2Proof.Proofs

open Sys2Proof Sys2Proof.Machine Sys2Proof.Safety Sys2Proof.Laws

/-- Settles O1: each command passes its checks and answers what its table states. -/
theorem spineCommands : Obligations.SpineCommands := by
  unfold Obligations.SpineCommands
  intro r s
  refine ⟨?routeScheduled, ?routeNow, ?routeRead, ?sourceStatus, ?grant, ?fallback, ?counters, ?store⟩
  case routeScheduled =>
    intro h hlen hn1 hn hopt hzero hs htime hpass hroom
    refine (execSpnRoute_all_pass h hlen hn1 hn hopt hzero (.inl hs) htime hpass hroom).trans ?_
    rw [if_pos hs]
  case routeNow =>
    intro h hlen hn1 hn hopt hzero hs ht hpass hroom
    refine (execSpnRoute_all_pass h hlen hn1 hn hopt hzero (.inr ht) (timeCheck_unscheduled hs _ _)
      (by rwa [ht]) hroom).trans ?_
    simp [hs, ht]
  case routeRead =>
    intro h hlen hfirst hn hrange
    exact command_answers h (checks_ok hlen (by simp [hfirst, hn, hrange]))
  case sourceStatus =>
    intro h hlen hfirst hn hrange
    exact command_answers h (checks_ok hlen (by simp [hfirst, hn, hrange]))
  case grant =>
    intro h hlen hi hop1 hop hz3 hz4 hown
    refine ⟨fun hs ht => command_answers h ?_, fun hs htime hroom => command_answers h ?_⟩
    · refine (checks_ok hlen (by simp [hi, hop1, hop, hz3, hz4, ht])).trans ?_
      simp [hown, timeCheck_unscheduled hs, hs]
    · refine (checks_ok hlen (by simp [hi, hop1, hop, hz3, hz4, hs])).trans ?_
      simp [hown, htime, hs, hroom]
  case fallback =>
    intro h hlen hj hz hown hswap hsrc
    refine command_answers h ((checks_ok hlen ?form).trans ?_)
    case form => rcases hsrc with hsrc | ⟨hf, hsrc, -⟩ <;> simp [*]
    have hpen : ¬ (¬ owns r (rd r.params 0 1) = true ∨
        rd r.params 4 2 ≠ 0xFFFF ∧ srcPen s.quire.active (rd r.params 4 2) ≠ rd r.params 0 1) := by
      rintro (hno | ⟨hne, hother⟩)
      · exact hno hown
      · exact hother (hsrc.resolve_left hne).2.2.1
    have htwice : ¬ (rd r.params 4 2 ≠ 0xFFFF ∧ ((List.range 8).any fun m =>
        decide (m ≠ rd r.params 1 1 ∧ qRd s.quire.active fPens (40 * rd r.params 0 1 + 8 + 4 * m) 2 = rd r.params 2 2 ∧
          qRd s.quire.active fPens (40 * rd r.params 0 1 + 8 + 4 * m + 2) 2 ≠ 0xFFFF)) = true) := by
      rintro ⟨hne, hany⟩
      obtain ⟨-, -, -, hother⟩ := hsrc.resolve_left hne
      simp only [List.any_eq_true, List.mem_range, decide_eq_true_eq] at hany
      obtain ⟨m, hm, hmj, hf, hbound⟩ := hany
      exact hbound (hother m hm hmj hf)
    simp only [begun_quire, if_neg hpen, if_neg htwice, hswap, Option.map_none, begun_spine]
  case counters =>
    intro may hmay h hlen hkind hclear hfirst hn1 hn hrange hz
    subst hmay
    refine command_answers h ((checks_ok hlen (by simp [hkind, hclear, hfirst, hn1, hn, hrange, hz])).trans ?_)
    simp [bit_zero_of_le_one hclear]
  case store =>
    intro h hlen
    exact command_answers h (needLen_ok (by simp [hlen]))

end Sys2Proof.Proofs
end

section
/-! SUPPORT. An occurrence of an event source (R512): what it leaves alone, and its reads of the other parts of the state. -/

namespace Sys2Proof.Proofs

open Sys2Proof Sys2Proof.Machine Sys2Proof.Safety Sys2Proof.Laws

variable {s : State} {inj : Bool} {src inst n : Nat}

theorem sendMsi_eq (v : Nat) (s : State) :
    sendMsi v s = { s with out := (sendMsi v s).out, host := (sendMsi v s).host } := by
  unfold sendMsi
  split <;> rfl

theorem raiseOne_eq (inj : Bool) (src inst n : Nat) (s : State) :
    (raiseOne inj src inst n s).1 =
      { s with
        out := (raiseOne inj src inst n s).1.out, host := (raiseOne inj src inst n s).1.host
        ev := (raiseOne inj src inst n s).1.ev, drv := (raiseOne inj src inst n s).1.drv
        boot := (raiseOne inj src inst n s).1.boot } := by
  unfold raiseOne
  dsimp only
  split
  · rw [sendMsi_eq]
  · rfl

/-- An occurrence touches the collector and what its reaction acts on: the drover's and the update's block resets, and the
interrupt that is sent or pends. -/
theorem raiseInj_eq (inj : Bool) (src inst n : Nat) (s : State) :
    raiseInj inj src inst n s =
      { s with
        out := (raiseInj inj src inst n s).out, host := (raiseInj inj src inst n s).host
        ev := (raiseInj inj src inst n s).ev, drv := (raiseInj inj src inst n s).drv
        boot := (raiseInj inj src inst n s).boot } := by
  unfold raiseInj
  dsimp only
  split
  · rw [raiseOne_eq false, raiseOne_eq inj]
  · rw [raiseOne_eq]

@[simp] theorem raiseInj_free : (raiseInj inj src inst n s).free = s.free := by rw [raiseInj_eq]
@[simp] theorem raise_free : (raise src inst n s).free = s.free := raiseInj_free
@[simp] theorem raiseInj_cmds : (raiseInj inj src inst n s).cmds = s.cmds := by rw [raiseInj_eq]
@[simp] theorem raise_cmds : (raise src inst n s).cmds = s.cmds := raiseInj_cmds
@[simp] theorem raiseInj_quire : (raiseInj inj src inst n s).quire = s.quire := by rw [raiseInj_eq]
@[simp] theorem raise_quire : (raise src inst n s).quire = s.quire := raiseInj_quire
@[simp] theorem raiseInj_spine : (raiseInj inj src inst n s).spine = s.spine := by rw [raiseInj_eq]
@[simp] theorem raise_spine : (raise src inst n s).spine = s.spine := raiseInj_spine
@[simp] theorem raiseInj_fabric : (raiseInj inj src inst n s).fabric = s.fabric := by rw [raiseInj_eq]
@[simp] theorem raise_fabric : (raise src inst n s).fabric = s.fabric := raiseInj_fabric
@[simp] theorem raiseInj_twin : (raiseInj inj src inst n s).twin = s.twin := by rw [raiseInj_eq]
@[simp] theorem raise_twin : (raise src inst n s).twin = s.twin := raiseInj_twin
@[simp] theorem raiseInj_flock : (raiseInj inj src inst n s).flock = s.flock := by rw [raiseInj_eq]
@[simp] theorem raise_flock : (raise src inst n s).flock = s.flock := raiseInj_flock
@[simp] theorem raiseInj_keys : (raiseInj inj src inst n s).keys = s.keys := by rw [raiseInj_eq]
@[simp] theorem raise_keys : (raise src inst n s).keys = s.keys := raiseInj_keys
@[simp] theorem raiseInj_power : (raiseInj inj src inst n s).power = s.power := by rw [raiseInj_eq]
@[simp] theorem raise_power : (raise src inst n s).power = s.power := raiseInj_power
@[simp] theorem raiseInj_time : (raiseInj inj src inst n s).time = s.time := by rw [raiseInj_eq]
@[simp] theorem raise_time : (raise src inst n s).time = s.time := raiseInj_time
@[simp] theorem raiseInj_lanes : (raiseInj inj src inst n s).lanes = s.lanes := by rw [raiseInj_eq]
@[simp] theorem raise_lanes : (raise src inst n s).lanes = s.lanes := raiseInj_lanes
@[simp] theorem raiseInj_net : (raiseInj inj src inst n s).net = s.net := by rw [raiseInj_eq]
@[simp] theorem raise_net : (raise src inst n s).net = s.net := raiseInj_net
@[simp] theorem raiseInj_dram : (raiseInj inj src inst n s).dram = s.dram := by rw [raiseInj_eq]
@[simp] theorem raise_dram : (raise src inst n s).dram = s.dram := raiseInj_dram
@[simp] theorem raiseInj_layers : (raiseInj inj src inst n s).layers = s.layers := by rw [raiseInj_eq]
@[simp] theorem raise_layers : (raise src inst n s).layers = s.layers := raiseInj_layers
@[simp] theorem raiseInj_audio : (raiseInj inj src inst n s).audio = s.audio := by rw [raiseInj_eq]
@[simp] theorem raise_audio : (raise src inst n s).audio = s.audio := raiseInj_audio
@[simp] theorem raiseInj_apt : (raiseInj inj src inst n s).apt = s.apt := by rw [raiseInj_eq]
@[simp] theorem raise_apt : (raise src inst n s).apt = s.apt := raiseInj_apt

@[simp] theorem srcSlot_raise (i : Nat) : srcSlot (raise src inst n s) i = srcSlot s i := by simp [srcSlot]
@[simp] theorem dstSlot_raise (d : Nat) : dstSlot (raise src inst n s) d = dstSlot s d := by simp [dstSlot]
@[simp] theorem laneAt_raise (l : Nat) : laneAt (raise src inst n s) l = laneAt s l := by simp [laneAt]
@[simp] theorem now_raise : now (raise src inst n s) = now s := by simp [now]

end Sys2Proof.Proofs
end

section
/-! SUPPORT. Destination lines, source slots and the protection of the spine (R31, R39, R41, R45, R51). -/

namespace Sys2Proof.Proofs

open Sys2Proof Sys2Proof.Machine Sys2Proof.Safety Sys2Proof.Laws

variable {s : State} {i d k line : Nat}

/-! ### A destination's read of a line (R45) -/

theorem lineRead_of_found {e : RingEntry} (hsrc : (dstSlot s d).shown ≠ 0xFFFF) (ht : (dstSlot s d).transit = false)
    (he : ringEntry (ringFor s d (dstSlot s d).shown) k line = some e) :
    lineRead s d k line =
      if e.bad then ⟨true, true, true, blackLine (dstFormat (inForce s d) d)⟩ else ⟨false, false, false, e.data⟩ := by
  simp [lineRead, lineReadFrom, hsrc, ht, he]

theorem lineRead_of_missing (hsrc : (dstSlot s d).shown ≠ 0xFFFF) (ht : (dstSlot s d).transit = false)
    (he : ringEntry (ringFor s d (dstSlot s d).shown) k line = none) :
    lineRead s d k line = ⟨true, true, false, blackLine (dstFormat (inForce s d) d)⟩ := by
  simp [lineRead, lineReadFrom, hsrc, ht, he]

/-- A slot without a binding has no receive chain. -/
theorem laneOf_of_unbound {q : Quire} (h : bound q i = false) : laneOf q i = none := by
  have hfind : qFind q fBindings i = none := by simpa [bound] using h
  simp [laneOf, bindingOf, qKeyed, hfind]

/-! ### Faults of the store (R51) -/

theorem satAdd_zero {w : Nat} (x : BitVec w) : satAdd x 0 = x := by
  have := x.isLt
  simp [satAdd, this]

theorem foldl_raise_spine (l : List Nat) (src inst n : Nat) :
    (l.foldl (fun t _ => raise src inst n t) s).spine = s.spine := by
  induction l generalizing s with
  | nil => rfl
  | cons a rest ih => rw [List.foldl_cons, ih, raise_spine]

/-- A spoiled line's entry is still found, and is bad. -/
theorem ringEntry_spoilLine {x : SrcSlot} (h : ringEntry x.ring k line ≠ none) :
    ∃ e, ringEntry (spoilLine k line x).ring k line = some e ∧ e.bad = true := by
  obtain ⟨e, he⟩ := Option.ne_none_iff_exists'.mp h
  have hat : e.k = k ∧ e.line = line := by simpa using List.find?_some he
  have hmark : (fun e : RingEntry => decide (e.k = k ∧ e.line = line)) ∘
      (fun e => if e.k = k ∧ e.line = line then { e with bad := true } else e) =
        fun e => decide (e.k = k ∧ e.line = line) := by
    funext e
    simp only [Function.comp]
    split <;> rfl
  refine ⟨{ e with bad := true }, ?_, rfl⟩
  rw [ringEntry, spoilLine, List.find?_map, hmark, ← ringEntry, he, Option.map_some, if_pos hat]

/-! ### Source states (R39, R41) -/

/-- Entering a state changes a slot's state and its bookkeeping, not what the slot holds. -/
theorem srcSlot_srcEnter_ring (st : SrcState) (j : Nat) : (srcSlot (srcEnter i st s) j).ring = (srcSlot s j).ring := by
  unfold srcEnter
  split
  · rfl
  · by_cases h : j = i <;> simp [h]

theorem ite_srcEnter_ring (c : Prop) [Decidable c] (st : SrcState) (j : Nat) :
    (srcSlot (if c then srcEnter i st s else s) j).ring = (srcSlot s j).ring := by
  split
  · exact srcSlot_srcEnter_ring st j
  · rfl

@[simp] theorem closeFrame_ring (w : Nat) (x : SrcSlot) : (closeFrame w x).ring = x.ring := by
  unfold closeFrame
  split <;> rfl

@[simp] theorem closeFrame_stable (w : Nat) (x : SrcSlot) : (closeFrame w x).stable = x.stable := by
  unfold closeFrame
  split <;> rfl

theorem getLast?_keepLast_append {α : Type} (n : Nat) (l : List α) (a : α) :
    (keepLast (n + 1) (l ++ [a])).getLast? = some a := by
  unfold keepLast
  rw [List.getLast?_drop, if_neg (by simp), List.getLast?_concat]

/-- A written line is the newest entry of its ring (R28). -/
theorem addLine_ring_getLast? (w k line f done : Nat) (lead : Int) (fresh : Bool) (data : List Nat) (x : SrcSlot) :
    (addLine w k line f done lead fresh data x).ring.getLast? = some ⟨k, line, data, false⟩ :=
  getLast?_keepLast_append _ _ _

theorem writeSlot_of_not_moving {fmt done : Nat} {data : List Nat} (hen : srcEnabled s.quire.active i = true)
    (hop : isOpaque (srcFormat s.quire.active i) = false) (hact : isActive (rasterOf fmt) line = true)
    (hmove : (srcSlot s i).moving = false) :
    (srcSlot (writeSlot i line fmt done data s) i).ring.getLast? =
      some ⟨if (srcSlot s i).frameOpen = false ∨ line = firstActive (rasterOf fmt) then frameCount fmt line done
        else (srcSlot s i).frameK, line, data, false⟩ := by
  have hstay : (if beginsFrame s i line fmt then moveRing i done s else s) = s := by simp [moveRing, hmove]
  unfold writeSlot
  simp only [hstay, hen, hop, hact, not_true_eq_false, if_false, Bool.false_eq_true, ite_srcEnter_ring, srcSlot_setSrc,
    if_true]
  split <;> simp [addLine_ring_getLast?]

theorem takeSwap_active (k t : Nat) : (takeSwap k t s).quire.active = s.quire.active := by
  unfold takeSwap
  split
  · split <;> rfl
  · rfl

/-- What a decision shows is no source of a disabled pen (R43, R69). -/
theorem chooseShown_ne_of_disabled (hi : i < 1536)
    (hpen : penEnabled s.quire.active (srcPen s.quire.active i) = false) : (chooseShown s d).2 ≠ i := by
  have hblack : 0xFFFF ≠ i := by omega
  have hother {g f : Nat} (hg : showable s g f = true) : g ≠ i := by
    rintro rfl
    exact absurd ((showable_iff g f).mp hg).1 (by simp [hpen])
  have hfall {fb : Option Nat} {f code black : Nat} : (fallbackOrBlack s fb f code black).2 ≠ i := by
    unfold fallbackOrBlack
    split
    · split
      · exact hother ‹_›
      · exact hblack
    · exact hblack
  by_cases hoff : NothingRouted s (inForce s d) d
  · rw [chooseShown_of_nothingRouted rfl hoff]
    exact hblack
  · rw [chooseShown_of_routed rfl hoff]
    split
    · exact hfall
    · split
      · exact hother ‹_›
      · split
        · exact hfall
        · exact hblack

end Sys2Proof.Proofs
end

section
/-! The statements about destination lines, source slots and the protection of the spine. -/

namespace Sys2Proof.Proofs

open Sys2Proof Sys2Proof.Machine Sys2Proof.Safety Sys2Proof.Laws

/-- Settles O3: an enabled destination's read is one of the three cases of its ring entry. -/
theorem destinationLines : Obligations.DestinationLines := by
  unfold Obligations.DestinationLines
  intro d k line s f hf hact
  subst hf
  refine ⟨fun hoff => by simp [exec, execDestinationLineRead, hact, hoff], ?_⟩
  intro src r t u last hen hbound hsrc hshown htransit hlast hgood hbad hmiss ht hsound hspoiled
  subst hsrc hlast ht
  have hread : lineRead s d k line = r := by
    cases hent : ringEntry (ringFor s d (dstSlot s d).shown) k line with
    | none => rw [lineRead_of_missing hshown htransit hent, hmiss hent]
    | some e =>
      rw [lineRead_of_found hshown htransit hent]
      cases hb : e.bad with
      | true => rw [if_pos rfl, hbad e hent hb]
      | false => rw [if_neg Bool.false_ne_true, hgood e hent hb]
  simp only [exec, execDestinationLineRead, hact, hen, hbound, hread, not_true_eq_false, if_false, if_true]
  by_cases hb : r.bad = true
  · rw [hspoiled hb, if_pos hb]
    rfl
  · rw [hsound (by simpa using hb), if_neg hb]

/-- Settles O4: each event is read off its branch; a switch point with nothing due decides on the active quire, in which a disabled
pen gives no source. -/
theorem sourceSlots : Obligations.SourceSlots := by
  unfold Obligations.SourceSlots
  intro i s
  refine ⟨?bound, ?unbound, ?serial, ?ring, ?frameEnd, ?loss, ?opaqueValid, ?disabledPen⟩
  case bound =>
    intro line fmt n data err hn hlane hb
    simp [exec, execLineWrite, hlane, hb, Nat.mod_eq_of_lt hn]
  case unbound =>
    intro line fmt n data err hb
    simp [exec, execLineWrite, laneOf_of_unbound hb, hb]
  case serial =>
    intro l line fmt n data err hn hlane hl
    have h256 : ¬ 256 ≤ l := by omega
    exact ⟨fun h => by simp [exec, execLineWrite, hlane, h, h256, Nat.mod_eq_of_lt hn],
      fun h => by simp [exec, execLineWrite, hlane, h]⟩
  case ring => exact fun line fmt done data hen hop hact hmove => writeSlot_of_not_moving hen hop hact hmove
  case frameEnd =>
    intro hen hop
    refine ⟨fun hset => ?_, fun hauto hstable => ⟨?_, fun hlost => ?_⟩⟩
    · simp [exec, execSourceStateEvaluation, hen, hop]
      intro hauto hstable
      exact absurd hstable (hset.resolve_left (by simp [hauto]))
    · simp [exec, execSourceStateEvaluation, hen, hop, hauto, hstable]
    · simp [exec, execSourceEvaluationCycle, hen, hop, hauto, hstable, hlost]
  case loss => exact fun h => by simp [exec, execSourceFrameLoss, h]
  case opaqueValid =>
    intro hen hlost hop hst hw hc
    simp [exec, execSourceEvaluationCycle, hen, hlost, hop, hst, hw, hc]
  case disabledPen =>
    intro d k hi hpen hmove hswap hdue
    refine ⟨_, execSwitchPoint_nothing_due k hmove hswap hdue, ?_⟩
    have hpen' : penEnabled (takeSwap d (switchTime s d k) s).quire.active
        (srcPen (takeSwap d (switchTime s d k) s).quire.active i) = false := by
      rwa [takeSwap_active]
    simpa [decideAt, applyDecision] using chooseShown_ne_of_disabled hi hpen'

/-- Settles O5: each fault is read off what it writes; a bad fallback word is found by the search for one, a spoilt line by its
ring entry. -/
theorem spineProtection : Obligations.SpineProtection := by
  unfold Obligations.SpineProtection
  intro s
  refine ⟨fun us => ?_, fun us => ?_, fun us n => ⟨_, rfl, ?_⟩, fun cls copy => ?_, fun cls => ?_, fun i line => ?_,
    fun i q p hp => ⟨_, rfl, ?_⟩, fun p j q f hj hf hsrc => ⟨_, rfl, ?_⟩, fun i f k line hent => ⟨_, rfl, ?_⟩⟩
  · simp [exec, execSpineScrubPass, countCorrected, satAdd_zero]
  · simp [exec, execSpineScrubPass, countCorrected]
  · rw [foldl_raise_spine]
    rfl
  · rfl
  · rfl
  · rfl
  · simp [faultIn, hwFault, permitted, hp]
  · have hany : ((List.range 8).any fun m =>
        decide (qRd q fPens (40 * p + 8 + 4 * m) 2 = f ∧ qRd q fPens (40 * p + 8 + 4 * m + 2) 2 < 1536) &&
          mget (fun _ => false) (faultIn false (.fallbackBad p j) s).spine.fallbackBad (8 * p + m)) = true := by
      rw [List.any_eq_true]
      exact ⟨j, List.mem_range.mpr hj, by simp [hf, hsrc, faultIn, hwFault]⟩
    rw [fallbackNow, if_pos hany]
  · rw [show srcSlot (faultIn false (.essenceBad i f k line) s) i = spoilLine k line (srcSlot s i) by
      simp [faultIn, hwFault]]
    exact ringEntry_spoilLine hent

end Sys2Proof.Proofs
end

section
/-! SUPPORT. Which opcode and body a command row runs; the held set (R113); what a reply on its way touches (R101, R120). -/

namespace Sys2Proof.Proofs

open Sys2Proof Sys2Proof.Machine Sys2Proof.Safety Sys2Proof.Laws

/-! ### Rows of the catalogue -/

theorem catalogue_opcode {op : Nat} {row : CatRow} (h : catalogue op = some row) : row.opcode = op := by
  unfold catalogue at h
  split at h <;> cases h <;> rfl

theorem rowOf_opcode {op : Nat} (h : (catalogue op).isSome = true) : (rowOf op).opcode = op := by
  obtain ⟨row, hrow⟩ := Option.isSome_iff_exists.mp h
  simpa [rowOf, hrow] using catalogue_opcode hrow

/-! ### The held set -/

theorem mem_heldInsert {l : List HeldEntry} {e x : HeldEntry} : x ∈ heldInsert l e ↔ x = e ∨ x ∈ l := by
  induction l with
  | nil => simp [heldInsert]
  | cons a t ih =>
    by_cases h : e.seq < a.seq
    · simp [heldInsert, h]
    · simp [heldInsert, h, ih, or_left_comm]

theorem heldInsert_length (l : List HeldEntry) (e : HeldEntry) : (heldInsert l e).length = l.length + 1 := by
  induction l with
  | nil => rfl
  | cons a t ih => by_cases h : e.seq < a.seq <;> simp [heldInsert, h, ih]

theorem heldEvict_eq_none {l : List HeldEntry} (h : heldEvict l = none) : ∀ x ∈ l, x.complete = false := by
  induction l with
  | nil => simp
  | cons a t ih =>
    by_cases ha : a.complete = true
    · simp [heldEvict, ha] at h
    · simp only [heldEvict, ha, Bool.false_eq_true, if_false, Option.map_eq_none_iff] at h
      simpa [ha] using ih h

/-- What is evicted is one complete entry; all others stay. -/
theorem heldEvict_eq_some {l rest : List HeldEntry} {q : Nat} (h : heldEvict l = some (q, rest)) :
    rest.length + 1 = l.length ∧ ∃ a, a.complete = true ∧ a.seq = q ∧ ∀ x ∈ l, x = a ∨ x ∈ rest := by
  induction l generalizing rest with
  | nil => simp [heldEvict] at h
  | cons b t ih =>
    by_cases hb : b.complete = true
    · simp only [heldEvict, hb, if_true, Option.some.injEq, Prod.mk.injEq] at h
      obtain ⟨rfl, rfl⟩ := h
      exact ⟨rfl, b, hb, rfl, fun x hx => List.mem_cons.mp hx⟩
    · simp only [heldEvict, hb, Bool.false_eq_true, if_false, Option.map_eq_some_iff, Prod.mk.injEq, Prod.exists] at h
      obtain ⟨_, rest', hrest, rfl, rfl⟩ := h
      obtain ⟨hlen, a, ha, hseq, hkeep⟩ := ih hrest
      refine ⟨by simp [← hlen], a, ha, hseq, fun x hx => ?_⟩
      obtain rfl | hx := List.mem_cons.mp hx
      · exact .inr (by simp)
      · exact (hkeep x hx).imp_right (List.mem_cons_of_mem b)

/-- Recording a sequence either only inserts it, or also evicts a complete entry and raises the floor to it. -/
theorem heldStart_cases (e : HeldEntry) (p : PortState) :
    ((heldStart e p).held = heldInsert p.held e ∧ (heldStart e p).floor = p.floor ∧
      (p.held.length < 64 ∨ ∀ x ∈ heldInsert p.held e, x.complete = false)) ∨
    ∃ q, heldEvict (heldInsert p.held e) = some (q, (heldStart e p).held) ∧ (heldStart e p).floor = max p.floor q := by
  have hlen := heldInsert_length p.held e
  unfold heldStart
  dsimp only
  split
  · split
    · next q rest h => exact .inr ⟨q, h, rfl⟩
    · next h => exact .inl ⟨rfl, rfl, .inr (heldEvict_eq_none h)⟩
  · exact .inl ⟨rfl, rfl, .inl (by omega)⟩

end Sys2Proof.Proofs
end

section
/-! The statements about the admission of commands and the held set. -/

namespace Sys2Proof.Proofs

open Sys2Proof Sys2Proof.Machine Sys2Proof.Safety Sys2Proof.Laws

/-- A device that does not run yet, with a management session on an empty key slot. -/
def staleSession : State := { host := { sessions := [⟨0, 0, 0, 0, false, 0, 0, 0, none, []⟩] } }

/-- A KEY_ERASE of queue pair 0. -/
def eraseRequest : Req := ⟨.qp 0, portRoot, 0, 0, 1, 0, 0, false, []⟩

/-- Refutes O11: KEY_ERASE closes the sessions whose key slot can no longer be used even where it may not start, so a device
that takes no commands does not stay as it is. -/
theorem not_commandAdmission : ¬ Obligations.CommandAdmission := by
  unfold Obligations.CommandAdmission
  intro h
  have hstay := (h (.keyErase eraseRequest) 0x1004 eraseRequest staleSession rfl).1 (by decide)
  have hclosed : exec (.keyErase eraseRequest) staleSession = .next {} := by rfl
  rw [hclosed] at hstay
  injection hstay with hstate
  exact absurd (congrArg (fun s => s.host.sessions.length) hstate) (by decide)

/-- Settles O14: an entry in progress is never the one evicted, and the one evicted is complete. -/
theorem heldSet : Obligations.HeldSet := by
  unfold Obligations.HeldSet
  intro e p hlen he
  obtain ⟨hheld, hfloor, hroom⟩ | ⟨q, hevict, hfloor⟩ := heldStart_cases e p
  · have hkept : ∀ x ∈ p.held, x ∈ (heldStart e p).held := fun x hx => by simp [hheld, mem_heldInsert, hx]
    refine ⟨fun x hx _ => hkept x hx, by simp [hheld, mem_heldInsert], fun ⟨x, hx, hdone⟩ => ?_,
      fun x hx hgone => absurd (hkept x hx) hgone, hfloor.ge⟩
    rw [hheld, heldInsert_length]
    obtain hlt | hall := hroom
    · omega
    · exact absurd (hall x (mem_heldInsert.mpr (.inr hx))) (by simp [hdone])
  · obtain ⟨hshort, a, ha, hseq, hkeep⟩ := heldEvict_eq_some hevict
    have hstays : ∀ x ∈ heldInsert p.held e, x.complete = false → x ∈ (heldStart e p).held := by
      intro x hx hprogress
      refine (hkeep x hx).resolve_left ?_
      rintro rfl
      simp [ha] at hprogress
    refine ⟨fun x hx => hstays x (mem_heldInsert.mpr (.inr hx)), hstays e (mem_heldInsert.mpr (.inl rfl)) he, fun _ => ?_,
      fun x hx hgone => ?_, by omega⟩
    · rw [heldInsert_length] at hshort
      omega
    · obtain rfl := (hkeep x (mem_heldInsert.mpr (.inr hx))).resolve_right hgone
      exact ⟨ha, by omega⟩

end Sys2Proof.Proofs
end

section
/-! SUPPORT. What a reply on its way touches (R101, R120), and how a command's end stands in the parts of the state. -/

namespace Sys2Proof.Proofs

open Sys2Proof Sys2Proof.Machine Sys2Proof.Safety Sys2Proof.Laws

variable {s t u : State}

/-- `t` is `s` after something was carried towards a transport: what has been sent, the host side and the lanes may differ, and
what had been sent is still first. -/
def Carried (s t : State) : Prop :=
  t = { s with out := t.out, host := t.host, fabric := t.fabric } ∧ s.out <+: t.out

theorem Carried.refl (s : State) : Carried s s := ⟨rfl, List.prefix_rfl⟩

theorem Carried.trans (h : Carried s t) (k : Carried t u) : Carried s u :=
  ⟨by rw [k.1, h.1], h.2.trans k.2⟩

theorem Carried.cmds_eq (h : Carried s t) : t.cmds = s.cmds := by rw [h.1]

theorem Carried.twin_eq (h : Carried s t) : t.twin = s.twin := by rw [h.1]

theorem carried_emit (o : Out) (s : State) : Carried s (emit o s) := ⟨rfl, List.prefix_append _ _⟩

theorem carried_setFab (l : Nat) (f : FabLane → FabLane) (s : State) : Carried s (setFab l f s) := ⟨rfl, List.prefix_rfl⟩

theorem carried_foldl {α : Type} {f : State → α → State} (h : ∀ s a, Carried s (f s a)) (l : List α) (s : State) :
    Carried s (l.foldl f s) := by
  induction l generalizing s with
  | nil => exact .refl s
  | cons a rest ih => exact (h s a).trans (ih _)

theorem carried_sendSymbols (l plain : Nat) (p : List Nat × LaneCode) (s : State) : Carried s (sendSymbols l plain p s) := by
  unfold sendSymbols
  dsimp only
  split
  · exact carried_setFab ..
  · exact (carried_setFab ..).trans (carried_emit ..)

theorem carried_laneBlocks (l : Nat) (bs : List Block) (s : State) : Carried s (laneBlocks l bs s) := by
  unfold laneBlocks
  dsimp only
  split
  · exact carried_setFab ..
  · exact carried_sendSymbols ..

theorem carried_bondSend (l : Nat) (bs : List Block) (s : State) : Carried s (bondSend l bs s) :=
  carried_foldl (fun _ _ => carried_laneBlocks ..) _ _

theorem carried_stitchSend (kind : Nat) (body : Bytes) (s : State) : Carried s (stitchSend kind body s) := by
  have hset (f : Stitch → Stitch) (s : State) : Carried s (setStitch f s) := ⟨rfl, List.prefix_rfl⟩
  unfold stitchSend
  dsimp only
  split
  · exact .refl s
  · split
    · exact hset ..
    · exact (hset ..).trans ((carried_emit ..).trans (carried_bondSend ..))

theorem carried_foldFragments (dest msg fuel n : Nat) (p : Bytes) (s : State) :
    Carried s (foldFragments dest msg fuel n p s) := by
  induction fuel generalizing n p s with
  | zero => exact .refl s
  | succ fuel ih =>
    have hput (body : Bytes) : Carried s (foldPut dest 5 body s) := ⟨rfl, List.prefix_rfl⟩
    unfold foldFragments
    dsimp only
    split
    · exact hput _
    · exact (hput _).trans (ih ..)

theorem carried_carryReply (r : Reply) (s : State) : Carried s (carryReply r s) := by
  have hhost (h : Host19) : Carried s { s with host := h } := ⟨rfl, List.prefix_rfl⟩
  unfold carryReply
  dsimp only
  split
  · exact hhost _
  · unfold sessionSend
    dsimp only
    split
    · exact (hhost _).trans (carried_emit ..)
    · exact .refl s
  · exact (hhost _).trans (carried_foldFragments ..)
  · exact carried_emit ..
  · exact carried_emit ..
  · exact carried_stitchSend ..
  · exact carried_stitchSend ..
  · exact .refl s

theorem carried_sendReply (r : Reply) (s : State) : Carried s (sendReply r s) := by
  unfold sendReply
  split
  · split
    · exact ⟨rfl, List.prefix_rfl⟩
    · exact .refl s
  · exact (carried_emit ..).trans (carried_carryReply ..)

/-- A reply that was asked for is among what has been sent (R101). -/
theorem reply_mem_sendReply {r : Reply} (h : noReply r.flags = false) (s : State) : Out.reply r ∈ (sendReply r s).out := by
  rw [sendReply, h, if_neg Bool.false_ne_true]
  exact (carried_carryReply r _).2.subset (by simp [emit])

/-- A reply carries the no-reply flag of its request. -/
theorem noReply_mkReply (s : State) (op : Nat) (r : Req) (st d : Nat) (params : Bytes) :
    noReply (mkReply s op r st d params).flags = noReply r.flags := by
  have h16 := Nat.testBit_mod_two_pow (r.flags / 2) 4 1
  have hhalf : (r.flags / 2).testBit 1 = r.flags.testBit 2 := by rw [Nat.testBit_div_two]
  simp only [noReply, bit, mkReply]
  rw [Nat.testBit_succ, show (r.flags / 2 % 16 * 2 + 1) / 2 = r.flags / 2 % 2 ^ 4 by omega, h16, hhalf]
  rfl

/-! ### The end of a command -/

/-- The state of a command that has ended, before its reply is sent or held: its entry is finished and copied. -/
def recorded (op : Nat) (r : Req) (a : Ans) : State :=
  copyResult (rowOf op) r a ((rowOf op).c || decide (0x100 ≤ a.status) || a.clearing) (setPort r.port
    (fun p => countStatus a.status (heldFinish r.seq a.status (a.detailOn r)
      ((rowOf op).c || decide (0x100 ≤ a.status) || a.clearing) a.params p)) a.st)

variable {op : Nat} {r : Req} {a : Ans}

theorem answered_held (hc : (catalogue op).isSome = true) (hdup : r.dup = false) (hrow : (rowOf op).c = true)
    (hholds : holdsReplies a.st = true) :
    answered op r a = { recorded op r a with cmds := { (recorded op r a).cmds with
      heldReplies := (recorded op r a).cmds.heldReplies ++
        [⟨cycleNow a.st, mkReply a.st op r a.status (a.detailOn r) a.params⟩] } } := by
  simp [answered, conclude, hdup, hrow, hholds, recorded, rowOf_opcode hc]

theorem answered_sent (hc : (catalogue op).isSome = true) (hdup : r.dup = false)
    (hnow : (rowOf op).c = false ∨ holdsReplies a.st = false) :
    answered op r a = sendReply (mkReply a.st op r a.status (a.detailOn r) a.params) (recorded op r a) := by
  have hsend : ((rowOf op).c && holdsReplies a.st) = false := by simpa [← Bool.not_eq_true, imp_iff_not_or] using hnow
  simp [answered, conclude, hdup, hsend, recorded, rowOf_opcode hc]

/-- The state copy is all that copying an item touches. -/
theorem copyItem_eq (it : CopyItem) (s : State) : copyItem it s = { s with twin := (copyItem it s).twin } := by
  unfold copyItem
  split <;> rfl

theorem copyResult_eq (row : CatRow) (r : Req) (a : Ans) (cache : Bool) (s : State) :
    copyResult row r a cache s = { s with twin := (copyResult row r a cache s).twin } := by
  unfold copyResult
  dsimp only
  split <;> split
  · rw [copyItem_eq, copyItem_eq]
  · rw [copyItem_eq]
  · rw [copyItem_eq]
  · rfl

theorem recorded_eq (op : Nat) (r : Req) (a : Ans) :
    recorded op r a = { a.st with cmds := (recorded op r a).cmds, twin := (recorded op r a).twin } := by
  unfold recorded
  rw [copyResult_eq]
  rfl

/-- Of the command front end, only the port's sequence state changes before the reply. -/
theorem recorded_cmds (op : Nat) (r : Req) (a : Ans) : (recorded op r a).cmds = (setPort r.port
    (fun p => countStatus a.status (heldFinish r.seq a.status (a.detailOn r)
      ((rowOf op).c || decide (0x100 ≤ a.status) || a.clearing) a.params p)) a.st).cmds := by
  unfold recorded
  rw [copyResult_eq]

@[simp] theorem portOf_setPort (p q : Nat) (f : PortState → PortState) (s : State) :
    portOf (setPort p f s) q = if q = p then f (portOf s p) else portOf s q := by
  simp [portOf, setPort]

theorem portOf_recorded (op : Nat) (r : Req) (a : Ans) : portOf (recorded op r a) r.port =
    countStatus a.status (heldFinish r.seq a.status (a.detailOn r)
      ((rowOf op).c || decide (0x100 ≤ a.status) || a.clearing) a.params (portOf a.st r.port)) := by
  rw [portOf, recorded_cmds, ← portOf, portOf_setPort, if_pos rfl]

/-- A finished entry carries the answer (R113, R115). -/
theorem heldFinish_entry {seq status detail : Nat} {cache : Bool} {params : Bytes} {p : PortState} {e : HeldEntry}
    (he : e ∈ (heldFinish seq status detail cache params p).held) (hseq : e.seq = seq) :
    e.complete = true ∧ e.status = status ∧ e.detail = detail ∧ e.cached = cache := by
  simp only [heldFinish, List.mem_map] at he
  obtain ⟨x, -, rfl⟩ := he
  by_cases hx : x.seq = seq
  · simp [hx]
  · simp [hx] at hseq

/-! ### Receipt (R102) -/

theorem noAnswer_of_not_qp {ep : Endpoint} (h : ∀ n, ep ≠ .qp n) (seq : Nat) (s : State) : noAnswer ep seq s = s := by
  unfold noAnswer
  split
  · next q => exact absurd rfl (h q)
  · rfl

/-- A packet that passes steps 1 to 5 of Table 04.3 comes to the check of its sequence. -/
theorem receiveAs_good {ep : Endpoint} {p n : Nat} {pkt : Bytes} (hlen : 32 ≤ pkt.length) (hmagic : rd pkt 0 2 = 0x5E7A)
    (hbit : bit (rd pkt 3 1) 0 = false) (hcrc : rd pkt 0x1C 4 = packetCrc pkt) (hver : rd pkt 2 1 = 3)
    (hflags : rd pkt 3 1 < 32) (hsize : rd pkt 6 2 = pkt.length - 32) (hmax : pkt.length ≤ 65536)
    (htag : rd pkt 0x18 4 = 0xFFFF) :
    receiveAs ep (some p) n pkt s = checkSequence pkt (rd pkt 4 2)
      { ep := ep, port := (some p).getD 0xFFFF, receipt := n, flags := rd pkt 3 1, seq := rd pkt 8 8,
        notAfter := rd pkt 0x10 8, crc := rd pkt 0x1C 4, dup := false, params := pkt.drop 0x20 } s := by
  have hkeep : ¬ (pkt.length < 32 ∨ rd pkt 0 2 ≠ 0x5E7A ∨ bit (rd pkt 3 1) 0 = true) := by simp [hlen, hmagic, hbit]
  have hfit : ¬ (65504 < rd pkt 6 2 ∨ rd pkt 6 2 ≠ pkt.length - 32) := by omega
  have hport : ¬ ((rd pkt 0x18 4 % 65536 ≠ p ∧ rd pkt 0x18 4 % 65536 ≠ 0xFFFF) ∨ rd pkt 0x18 4 / 65536 ≠ 0) := by
    simp [htag]
  simp only [receiveAs, if_neg hkeep, if_neg (not_not.mpr hcrc), if_neg (not_not.mpr hver), if_neg (Nat.not_le.mpr hflags),
    if_neg hfit, if_neg hport]

/-- The holder of the crook lets a command of the catalogue wait to start. -/
theorem accept_of_holder {pkt : Bytes} {op : Nat} {r : Req} (hcat : (catalogue op).isSome = true)
    (hcrook : holdsCrook s = true) : accept pkt op r s = await op r s := by
  have hknown : (catalogue op).isNone = false := by simpa using hcat
  unfold accept
  dsimp only
  rw [hknown, if_neg Bool.false_ne_true, hcrook]
  split <;> rfl

end Sys2Proof.Proofs
end

section
/-! The statements about the end and the receipt of commands and about the DEV commands. -/

namespace Sys2Proof.Proofs

open Sys2Proof Sys2Proof.Machine Sys2Proof.Safety Sys2Proof.Laws

/-- Settles O12: a command that has ended is recorded, and its reply is then sent or held. -/
theorem commandEnds : Obligations.CommandEnds := by
  unfold Obligations.CommandEnds
  intro op r a hc hdup
  have hrest : Carried (recorded op r a) (answered op r a) ∨ ∃ c, answered op r a = { recorded op r a with cmds := c } ∧
      c.ports = (recorded op r a).cmds.ports := by
    by_cases hnow : (rowOf op).c = false ∨ holdsReplies a.st = false
    · rw [answered_sent hc hdup hnow]
      exact .inl (carried_sendReply ..)
    · simp only [not_or, Bool.not_eq_false] at hnow
      exact .inr ⟨_, answered_held hc hdup hnow.1 hnow.2, rfl⟩
  refine ⟨?frame, ?entry, fun hnow hreply => ?sent, fun hrow hholds => ?held⟩
  case frame =>
    dsimp only
    obtain hcarried | ⟨c, hheld, -⟩ := hrest
    · rw [hcarried.1, recorded_eq]
    · rw [hheld, recorded_eq]
  case entry =>
    intro e he hseq
    have hport : portOf (answered op r a) r.port = portOf (recorded op r a) r.port := by
      obtain hcarried | ⟨c, hheld, hports⟩ := hrest
      · simp only [portOf, hcarried.cmds_eq]
      · simp only [portOf, hheld, hports]
    rw [hport, portOf_recorded] at he
    exact heldFinish_entry he hseq
  case sent =>
    rw [answered_sent hc hdup hnow]
    exact reply_mem_sendReply ((noReply_mkReply ..).trans hreply) _
  case held =>
    rw [answered_held hc hdup hrow hholds]
    constructor
    · rw [recorded_eq]
    · dsimp only
      rw [recorded_cmds]
      rfl

/-- Settles O13: a packet is dropped, refused or taken on at one of the steps 1 to 6 of Table 04.3. -/
theorem commandReceived : Obligations.CommandReceived := by
  unfold Obligations.CommandReceived
  intro ep pkt s hready hqp
  have hexec : exec (.commandReceipt ep pkt) s = .next (receiveAs ep (boundPort s ep) (now s) pkt s) := by
    simp [exec, execCommandReceipt, receivePacket, hready]
  rw [hexec]
  refine ⟨fun hdrop => ?dropped, fun hlen hmagic hbit => ⟨fun p hp hcrc => ?crc, fun hcrc r hr => ⟨fun hp => ?unbound,
    fun p hp hver hflags hsize hmax htag hseq => ?bound⟩⟩⟩
  case dropped =>
    have hdrop' : pkt.length < 32 ∨ rd pkt 0 2 ≠ 0x5E7A ∨ bit (rd pkt 3 1) 0 = true := by tauto
    simp only [receiveAs, if_pos hdrop', noAnswer_of_not_qp hqp]
  case crc =>
    have hkeep : ¬ (pkt.length < 32 ∨ rd pkt 0 2 ≠ 0x5E7A ∨ bit (rd pkt 3 1) 0 = true) := by simp [hlen, hmagic, hbit]
    simp only [receiveAs, if_neg hkeep, if_pos hcrc, noAnswer_of_not_qp hqp, hp]
  case unbound =>
    have hkeep : ¬ (pkt.length < 32 ∨ rd pkt 0 2 ≠ 0x5E7A ∨ bit (rd pkt 3 1) 0 = true) := by simp [hlen, hmagic, hbit]
    simp only [receiveAs, if_neg hkeep, if_neg (not_not.mpr hcrc), hp, earlyReply, hr, Option.getD_none]
  case bound =>
    have htaken : receiveAs ep (boundPort s ep) (now s) pkt s = checkSequence pkt (rd pkt 4 2) r s := by
      rw [hr, hp]
      exact receiveAs_good hlen hmagic hbit hcrc hver hflags hsize hmax htag
    have hport : r.port = p := by simp [hr, hp]
    rw [htaken, ← hport]
    refine ⟨fun e he hop hecrc => ⟨fun hprog => ?busy, fun hdone hcached => ?duplicate⟩,
      fun hnew hnowait => ⟨fun hold => ?stale, fun hfloor hroom hcat hcrook => ?new⟩⟩
    case busy =>
      simp only [checkSequence, hseq, he, hop, hecrc, hprog, if_false]
      simp
    case duplicate =>
      simp only [checkSequence, hseq, he, hop, hecrc, hdone, hcached, if_false]
      simp
    case stale => simp only [checkSequence, hseq, hnew, hnowait, hold, if_false, if_true]
    case new =>
      have hsince : ¬ r.seq ≤ (portOf s r.port).floor := by omega
      have hspace : ¬ ((portOf s r.port).held.length = 64 ∧ ((portOf s r.port).held.all fun e => !e.complete) = true) := by
        omega
      simp only [checkSequence, hseq, hnew, hnowait, if_neg hsince, if_neg hspace, if_false]
      exact congrArg _ (accept_of_holder hcat hcrook)

/-- Settles O15: each command passes its checks and answers with its body; a UART frame is split by how it decodes. -/
theorem deviceCommands : Obligations.DeviceCommands := by
  unfold Obligations.DeviceCommands
  intro r s
  refine ⟨fun h hlen => ?info, fun h hlen => ?ping, fun h hlen => ?portState, fun h hlen h1 h63 hopt hport hz => ?bind,
    fun h hlen => ?bindRead, fun frame hshort => ?uartShort, fun frame pkt hdec hlen => ?uart,
    fun w hw hcrook hlink htime => ?timeout⟩
  case info => exact command_answers h (needLen_ok (by simp [hlen]))
  case ping => exact command_answers h (if_neg (by omega))
  case portState => exact command_answers h (needLen_ok (by simp [hlen]))
  case bind => exact command_answers h (checks_ok hlen (by simp [h1, h63, hopt, hport, hz]))
  case bindRead => exact command_answers h (needLen_ok (by simp [hlen]))
  case uartShort =>
    cases hdec : cobsDecode (frame.length + 1) frame with
    | none => simp [exec, execSafetyUartFrame, hdec]
    | some pkt => simp [exec, execSafetyUartFrame, hdec, hshort pkt hdec]
  case uart => simp [exec, execSafetyUartFrame, hdec, Nat.not_lt.mpr hlen]
  case timeout =>
    simp only [exec, execHeldCommandTimeout, hw]
    simp [hcrook, hlink, htime]

end Sys2Proof.Proofs
end

section
/-! SUPPORT. The merge of a pair (R180, R181), the choice of a synchroniser (R254), the ordered dither (R332) and the limits of
the rate word (R360). -/

namespace Sys2Proof.Proofs

open Sys2Proof Sys2Proof.Machine Sys2Proof.Safety Sys2Proof.Laws

/-! ### The merge -/

section Merge

variable {cap q t : Nat} {x : Flow}

@[simp] theorem raiseLow_high : (raiseLow q x).high = x.high := by
  unfold raiseLow
  split <;> rfl

@[simp] theorem raiseLow_lateRun : (raiseLow q x).lateRun = x.lateRun := by
  unfold raiseLow
  split <;> rfl

theorem low_le_raiseLow : x.low ≤ (raiseLow q x).low := by
  unfold raiseLow
  split
  · exact le_rfl
  · exact Nat.le_of_not_le ‹_›

/-- Trimming drops at most the oldest record, and raises the lower bound only. -/
theorem trimRecs_bounds (cap : Nat) (x : Flow) :
    (trimRecs cap x).high = x.high ∧ (trimRecs cap x).lateRun = x.lateRun ∧ x.low ≤ (trimRecs cap x).low ∧
      (x.recs.length ≤ cap + 1 → (trimRecs cap x).recs.length ≤ cap) := by
  unfold trimRecs
  split
  · split
    · next r rest hrecs => exact ⟨raiseLow_high, raiseLow_lateRun, low_le_raiseLow, fun h => by simpa [hrecs] using h⟩
    · next hrecs => exact ⟨rfl, rfl, le_rfl, fun _ => by simp [hrecs]⟩
  · exact ⟨rfl, rfl, le_rfl, fun _ => by omega⟩

theorem renew_recs_length (q t : Nat) (x : Flow) : (renew q t x).recs.length ≤ x.recs.length + 1 := by
  simpa [renew] using List.length_filter_le _ x.recs

/-- Renewing a record that is there adds none. -/
theorem renew_recs_length_of_mem (h : ∃ r ∈ x.recs, r.1 = q) : (renew q t x).recs.length ≤ x.recs.length := by
  obtain ⟨r, hr, hq⟩ := h
  have hshort : (x.recs.filter fun r => decide (r.1 ≠ q)).length < x.recs.length :=
    List.length_filter_lt_length_iff_exists.mpr ⟨r, hr, by simp [hq]⟩
  simpa [renew] using hshort

end Merge

/-! ### The synchroniser's choice -/

/-- The latency of an input frame at the output frame that starts at `a` (R254). -/
def inputLatency (f a : Nat) (n : FrameBuf) (k : Nat) : Int := (a : Int) - predictedStart f n k

theorem inputLatency_succ (f a : Nat) (n : FrameBuf) (k : Nat) :
    inputLatency f a n (k + 1) = inputLatency f a n k - framePeriod f := by
  simp only [inputLatency, predictedStart, Nat.cast_add, Nat.cast_one]
  ring

theorem chooseFrame_kept {f d a last : Nat} {y : Sync} {n : FrameBuf} (hre : y.realign = false) (hlast : y.last = some last) :
    chooseFrame f d a y n =
      if inputLatency f a n (last + 1) < 2 * linePeriod f + d * framePeriod f then (last, 2)
      else if 2 * linePeriod f + d * framePeriod f + framePeriod f + framePeriod f / 8 < inputLatency f a n (last + 1) then
        (last + 2, 3)
      else (last + 1, 0) := by
  simp only [chooseFrame, hre, hlast, Bool.false_eq_true, if_false]
  rfl

theorem chooseFrame_realigned {f d a : Nat} {y : Sync} {n : FrameBuf} (h : y.realign = true ∨ y.last = none) :
    chooseFrame f d a y n =
      ((n.k + ((a : Int) - (2 * linePeriod f + d * framePeriod f) - n.start) / framePeriod f).toNat, 1) := by
  obtain h | h := h <;> simp [chooseFrame, h]

/-! ### The dither -/

/-- Four consecutive frames and the four pixels of a 2 × 2 group. -/
def ditherCells : List (Nat × Nat × Nat) :=
  [(0, 0), (1, 0), (0, 1), (1, 1)].flatMap fun p => (List.range 4).map fun i => (i, p)

/-- The thresholds of those cells from frame `k` and pixel (x, y) on, with `sh` bits dropped. -/
def ditherThresholds (k sh x y : Nat) : List Nat :=
  ditherCells.map fun c => ditherT (k + c.1) sh (x + c.2.1) (y + c.2.2)

/-- A threshold depends on the frame and the pixel modulo 4 only. -/
theorem ditherThresholds_mod (k sh x y : Nat) :
    ditherThresholds k sh x y = ditherThresholds (k % 4) sh (x % 4) (y % 4) := by
  simp only [ditherThresholds, ditherT, Nat.add_assoc, Nat.mod_add_mod]

/-- The thresholds of an 8-bit panel are 0 to 15 once each, those of a 10-bit panel 0 to 3 four times each. -/
theorem ditherThresholds_perm {k x y : Nat} (hx : x % 2 = 0) (hy : y % 2 = 0) :
    (ditherThresholds k 4 x y).Perm (List.range 16) ∧
      (ditherThresholds k 2 x y).Perm ((List.range 4).flatMap fun n => List.replicate 4 n) := by
  rw [ditherThresholds_mod, ditherThresholds_mod k 2]
  have hk : k % 4 < 4 := Nat.mod_lt _ (by decide)
  have hx4 : x % 4 = 0 ∨ x % 4 = 2 := by omega
  have hy4 : y % 4 = 0 ∨ y % 4 = 2 := by omega
  generalize k % 4 = a at hk ⊢
  obtain h | h := hx4 <;> obtain h' | h' := hy4 <;> rw [h, h'] <;> interval_cases a <;> decide

/-- Over all the thresholds below `m` a component's quotients sum to it. -/
theorem sum_range_add_div {m : Nat} (hm : 0 < m) (v : Nat) : ((List.range m).map fun t => (v + t) / m).sum = v := by
  change ∑ t ∈ Finset.range m, (v + t) / m = v
  induction v with
  | zero => exact Finset.sum_eq_zero fun t ht => by simpa using Nat.div_eq_of_lt (Finset.mem_range.mp ht)
  | succ v ih =>
    have hlast := Finset.sum_range_succ (fun t => (v + t) / m) m
    have hfirst := Finset.sum_range_succ' (fun t => (v + t) / m) m
    have hm1 : (v + m) / m = v / m + 1 := Nat.add_div_right v hm
    simp only [Nat.add_right_comm v 1]
    simp only [← Nat.add_assoc, Nat.add_zero] at hfirst
    omega

theorem ditherCells_count (k sh x y n : Nat) :
    (ditherCells.filter fun c => decide (ditherT (k + c.1) sh (x + c.2.1) (y + c.2.2) = n)).length =
      (ditherThresholds k sh x y).count n := by
  rw [ditherThresholds, List.count, List.countP_map, List.countP_eq_length_filter]
  rfl

theorem ditherCells_sum (k sh x y v m : Nat) :
    (ditherCells.map fun c => (v + ditherT (k + c.1) sh (x + c.2.1) (y + c.2.2)) / m).sum =
      ((ditherThresholds k sh x y).map fun t => (v + t) / m).sum := by
  rw [ditherThresholds, List.map_map]
  rfl

/-! ### The rate word -/

theorem foldl_min_le {b : Int} {l : List Int} : l.foldl min b ≤ b ∧ ∀ a ∈ l, l.foldl min b ≤ a := by
  induction l generalizing b with
  | nil => simp
  | cons c t ih =>
    obtain ⟨hb, ht⟩ := ih (b := min b c)
    simpa using ⟨hb.trans (min_le_left b c), hb.trans (min_le_right b c), ht⟩

theorem foldl_min_mem {b : Int} {l : List Int} : l.foldl min b = b ∨ l.foldl min b ∈ l := by
  induction l generalizing b with
  | nil => simp
  | cons c t ih =>
    rw [List.foldl_cons]
    obtain h | h := ih (b := min b c)
    · rw [h]
      obtain hbc | hbc := min_choice b c <;> simp [hbc]
    · exact .inr (List.mem_cons_of_mem c h)

theorem le_foldl_max {b : Int} {l : List Int} : b ≤ l.foldl max b ∧ ∀ a ∈ l, a ≤ l.foldl max b := by
  induction l generalizing b with
  | nil => simp
  | cons c t ih =>
    obtain ⟨hb, ht⟩ := ih (b := max b c)
    simpa using ⟨(le_max_left b c).trans hb, (le_max_right b c).trans hb, ht⟩

theorem foldl_max_mem {b : Int} {l : List Int} : l.foldl max b = b ∨ l.foldl max b ∈ l := by
  induction l generalizing b with
  | nil => simp
  | cons c t ih =>
    rw [List.foldl_cons]
    obtain h | h := ih (b := max b c)
    · rw [h]
      obtain hbc | hbc := max_choice b c <;> simp [hbc]
    · exact .inr (List.mem_cons_of_mem c h)

end Sys2Proof.Proofs
end

section
/-! The statements about the merge, the synchroniser's choice, the dither and the rate word. -/

namespace Sys2Proof.Proofs

open Sys2Proof Sys2Proof.Machine Sys2Proof.Safety Sys2Proof.Laws

/-- Settles O20: the extended sequence lies above the highest, at or below the lower bound, or between, there with a record or
without one. -/
theorem seamlessMerge : Obligations.SeamlessMerge := by
  unfold Obligations.SeamlessMerge
  intro b n t h x hhigh hlen
  dsimp only
  generalize hq : extendSeq b n h = q
  have hstep : mergeStep true 16384 b n t x =
      if h < q then (trimRecs 16384 (renew q t { x with high := some q, lateRun := 0 }), .accept q)
      else if q ≤ x.low then
        if 15 ≤ x.lateRun then
          ({ x with high := none, low := 0, recs := [], lateRun := 0, counts := cAdd (cAdd x.counts 3 1) 6 1 }, .late)
        else ({ x with lateRun := x.lateRun + 1, counts := cAdd x.counts 3 1 }, .late)
      else if x.recs.any fun r => decide (r.1 = q) then
        ({ renew q t x with lateRun := 0, counts := cAdd x.counts 2 1 }, .duplicate)
      else (trimRecs 16384 (renew q t { x with lateRun := 0 }), .accept q) := by
    simp only [mergeStep, hhigh, hq, if_true]
  rw [hstep]
  by_cases habove : h < q
  · obtain ⟨hh, hl, hlow, hrecs⟩ := trimRecs_bounds 16384 (renew q t { x with high := some q, lateRun := 0 })
    have hroom := renew_recs_length q t { x with high := some q, lateRun := 0 }
    rw [if_pos habove]
    refine ⟨fun _ => ⟨rfl, hh⟩, fun h' => ?_, fun h' => ?_, fun h' => ?_, fun _ => ⟨hlow, hrecs (by simp at hroom; omega), hl⟩⟩
    all_goals omega
  · rw [if_neg habove]
    by_cases hlate : q ≤ x.low
    · rw [if_pos hlate]
      by_cases hrun : 15 ≤ x.lateRun
      · rw [if_pos hrun]
        refine ⟨fun h' => absurd h' habove, fun _ _ => ⟨rfl, fun _ => ⟨rfl, rfl⟩, fun h' => absurd hrun (by omega)⟩,
          fun _ h' => absurd hlate (by omega), fun _ h' => absurd hlate (by omega), fun h' => absurd rfl h'⟩
      · rw [if_neg hrun]
        refine ⟨fun h' => absurd h' habove, fun _ _ => ⟨rfl, fun h' => absurd h' hrun, fun _ => ⟨hhigh, rfl, rfl, rfl⟩⟩,
          fun _ h' => absurd hlate (by omega), fun _ h' => absurd hlate (by omega), fun h' => absurd rfl h'⟩
    · rw [if_neg hlate]
      by_cases hrec : ∃ r ∈ x.recs, r.1 = q
      · have hany : (x.recs.any fun r => decide (r.1 = q)) = true := by simpa using hrec
        rw [if_pos hany]
        refine ⟨fun h' => absurd h' habove, fun _ h' => absurd h' hlate,
          fun _ _ _ => ⟨rfl, hhigh, rfl, by simp [renew]⟩, fun _ _ h' => ?_,
          fun _ => ⟨le_rfl, (renew_recs_length_of_mem hrec).trans hlen, rfl⟩⟩
        obtain ⟨r, hr, hq⟩ := hrec
        exact absurd hq (h' r hr)
      · have hany : ¬ (x.recs.any fun r => decide (r.1 = q)) = true := by simpa using hrec
        obtain ⟨hh, hl, hlow, hrecs⟩ := trimRecs_bounds 16384 (renew q t { x with lateRun := 0 })
        have hroom := renew_recs_length q t { x with lateRun := 0 }
        rw [if_neg hany]
        exact ⟨fun h' => absurd h' habove, fun _ h' => absurd h' hlate, fun _ _ h' => absurd h' hrec,
          fun _ _ _ => ⟨rfl, hh.trans hhigh⟩, fun _ => ⟨hlow, hrecs (by simp at hroom; omega), hl⟩⟩

/-- Settles O26: λ falls by one frame period with each input frame. -/
theorem synchroniserChoice : Obligations.SynchroniserChoice := by
  unfold Obligations.SynchroniserChoice
  intro f d a last y n hpos
  have hsucc := inputLatency_succ f a n
  dsimp only
  change (y.realign = false → y.last = some last →
    (_ ≤ inputLatency f a n (last + 1) ∧ inputLatency f a n (last + 1) ≤ _ → _) ∧
      (inputLatency f a n (last + 1) < _ → _ ∧ inputLatency f a n _ < _) ∧
      (_ < inputLatency f a n (last + 1) → _ ∧ _ < inputLatency f a n _)) ∧
    (y.realign = true ∨ y.last = none → _ → _ ∧ _ ∧ _ ≤ inputLatency f a n _ ∧ inputLatency f a n _ < _)
  refine ⟨fun hre hlast => ?kept, fun hre hnew => ?realigned⟩
  case kept =>
    rw [chooseFrame_kept hre hlast]
    have h1 := hsucc last
    have h2 : inputLatency f a n (last + 2) = _ := hsucc (last + 1)
    refine ⟨fun ⟨hlo, hhi⟩ => ?_, fun hlo => ?_, fun hhi => ?_⟩
    · rw [if_neg (by omega), if_neg (by omega)]
    · rw [if_pos hlo]
      exact ⟨rfl, by dsimp only; omega⟩
    · rw [if_neg (by omega), if_pos hhi]
      exact ⟨rfl, by dsimp only; omega⟩
  case realigned =>
    rw [chooseFrame_realigned hre]
    simp only [inputLatency, predictedStart]
    generalize hlo : (2 * linePeriod f + d * framePeriod f : Int) = lo at hnew ⊢
    have hquot : 0 ≤ ((a : Int) - lo - n.start) / framePeriod f := Int.ediv_nonneg (by omega) (by omega)
    have hP : (0 : Int) < framePeriod f := by exact_mod_cast hpos
    have hle := Int.ediv_mul_le ((a : Int) - lo - n.start) hP.ne'
    have hlt := Int.lt_ediv_add_one_mul_self ((a : Int) - lo - n.start) hP
    generalize ((a : Int) - lo - n.start) / framePeriod f = m at hquot hle hlt ⊢
    obtain ⟨m, rfl⟩ := Int.eq_ofNat_of_zero_le hquot
    have hk : ((n.k : Int) + m).toNat = n.k + m := by omega
    rw [hk]
    refine ⟨trivial, by omega, ?_, ?_⟩ <;> push_cast <;> linarith

/-- Settles O34: the thresholds are a rearrangement of 0 to 15, or of 0 to 3 four times, over which a flat component sums
exactly. -/
theorem ditherExact : Obligations.DitherExact := by
  unfold Obligations.DitherExact
  intro k x y v hx hy
  obtain ⟨h4, h2⟩ := ditherThresholds_perm (k := k) hx hy
  refine ⟨fun n hn => ?_, ?_, fun n hn => ?_, ?_⟩
  · refine (ditherCells_count k 4 x y n).trans ?_
    rw [h4.count_eq]
    exact List.count_eq_one_of_mem List.nodup_range (List.mem_range.mpr hn)
  · refine (ditherCells_sum k 4 x y v 16).trans ?_
    rw [(h4.map _).sum_eq]
    exact sum_range_add_div (m := 16) (by decide) v
  · refine (ditherCells_count k 2 x y n).trans ?_
    rw [h2.count_eq]
    interval_cases n <;> rfl
  · refine (ditherCells_sum k 2 x y v 4).trans ?_
    rw [(h2.map _).sum_eq]
    simp [List.range_succ]
    omega

/-- Settles O39: the least and the greatest rate of the last second are rates of the last second, so the bounds made of them do
not cross. -/
theorem rateWithinLimits : Obligations.RateWithinLimits := by
  unfold Obligations.RateWithinLimits
  intro want s
  obtain ⟨hlo, hhi⟩ := slewTo_within_rhoLimit want s
  rw [setRate_rho]
  refine ⟨hlo, hhi, fun slew rates hslew hrates hlimit hnear a ha => ?_⟩
  have hmem : s.tb.rho ∈ rates := by simp [hrates]
  have hmin : rates.foldl min s.tb.rho ∈ rates := foldl_min_mem.elim (fun h => h ▸ hmem) id
  have hmax : rates.foldl max s.tb.rho ∈ rates := foldl_max_mem.elim (fun h => h ▸ hmem) id
  have hle := (foldl_min_le (b := s.tb.rho)).2 a ha
  have hge := (le_foldl_max (b := s.tb.rho)).2 a ha
  have hcross := hnear _ hmax _ hmin
  have hself := hnear a ha a ha
  have hbounds := hlimit a ha
  have hdef : slewTo s want = max (-rhoLimit) (min rhoLimit
      (max (rates.foldl max s.tb.rho - slew) (min (rates.foldl min s.tb.rho + slew) want))) := by
    rw [hslew, hrates]
    rfl
  omega

end Sys2Proof.Proofs
end

section
/-! SUPPORT. The operations of a swap and of the drover that leave the quires as they were. -/

namespace Sys2Proof.Proofs

open Sys2Proof Sys2Proof.Machine Sys2Proof.Safety Sys2Proof.Laws

set_option linter.unusedSimpArgs false

@[simp] theorem portEnter_quire (x0 x1 : ℕ) (x2 : State) : (portEnter x0 x1 x2).quire = x2.quire := (rfl)

@[simp] theorem raiseIn_quire (x0 x1 x2 x3 : ℕ) (x4 : State → State) (x5 : State) (h : ∀ s, (x4 s).quire = s.quire) : (raiseIn x0 x1 x2
    x3 x4 x5).quire = x5.quire := by
  unfold raiseIn
  dsimp only
  split
  · rw [h, raise_quire]
  · rw [raise_quire]

@[simp] theorem ite_quire (c : Prop) [Decidable c] (a b : State) : (if c then a else b).quire = if c then a.quire else b.quire := by
  split <;> rfl

@[simp] theorem addLoad_quire (x0 : Load) (x1 : State) : (addLoad x0 x1).quire = x1.quire := by simp only [addLoad, ite_quire, ite_self]

@[simp] theorem portReset_quire (x0 : ℕ) (x1 : State) : (portReset x0 x1).quire = x1.quire := by
  simp only [portReset, addLoad_quire, portEnter_quire, ite_quire, ite_self]

@[simp] theorem wakePort_quire (x0 x1 : ℕ) (x2 : State) : (wakePort x0 x1 x2).quire = x2.quire := by simp [wakePort, *]

@[simp] theorem foldl_quire {α : Type} (f : State → α → State) (h : ∀ s a, (f s a).quire = s.quire) (l : List α) (s : State) :
    (l.foldl f s).quire = s.quire := by
  induction l generalizing s with
  | nil => rfl
  | cons a t ih => rw [List.foldl_cons, ih, h]

@[simp] theorem wakeUsed_quire (x0 : State) : (wakeUsed x0).quire = x0.quire := by
  simp only [wakeUsed, wakePort_quire, foldl_quire, implies_true, ite_quire, ite_self]

@[simp] theorem fenceEvaluation_quire (x0 : State) : (fenceEvaluation x0).quire = x0.quire := by
  unfold fenceEvaluation
  (repeat' split) <;> simp only [raise_quire, ite_quire, ite_self]

@[simp] theorem noteUtc_quire (x0 : State) : (noteUtc x0).quire = x0.quire := by simp only [noteUtc, setTime_quire, ite_quire, ite_self]

@[simp] theorem mgmtChange_quire (x0 : Quire) (x1 : State) : (mgmtChange x0 x1).quire = x1.quire := (rfl)

@[simp] theorem setGnss_quire (x0 : Gnss → Gnss) (x1 : State) : (setGnss x0 x1).quire = x1.quire := (rfl)

@[simp] theorem setSatChan_quire (x0 : ℕ) (x1 : Channel → Channel) (x2 : State) : (setSatChan x0 x1 x2).quire = x2.quire := (rfl)

@[simp] theorem chanEnter_quire (x0 x1 : ℕ) (x2 : State) : (chanEnter x0 x1 x2).quire = x2.quire := by
  simp only [chanEnter, setSatChan_quire, ite_quire, ite_self]

@[simp] theorem idleAll_quire (x0 : State) : (idleAll x0).quire = x0.quire := by
  simp only [idleAll, chanEnter_quire, foldl_quire, implies_true, ite_quire, ite_self]

@[simp] theorem setRef_quire (x0 : ℕ) (x1 : RefState → RefState) (x2 : State) : (setRef x0 x1 x2).quire = x2.quire := (rfl)

@[simp] theorem updateFlywheel_quire (x0 : State) : (updateFlywheel x0).quire = x0.quire := by
  simp only [updateFlywheel, setDpll_quire, ite_quire, ite_self]

@[simp] theorem rfcEvent_quire (x0 x1 x2 : ℕ) (x3 : State) : (rfcEvent x0 x1 x2 x3).quire = x3.quire := by
  simp only [rfcEvent, raise_quire, setDpll_quire, ite_quire, ite_self]

@[simp] theorem checkForce_quire (x0 : State) : (checkForce x0).quire = x0.quire := by
  unfold checkForce
  dsimp only
  (repeat' split) <;> simp [*]

@[simp] theorem holdExpiry_quire (x0 : State) : (holdExpiry x0).quire = x0.quire := by
  simp only [holdExpiry, setDpll_quire, rfcEvent_quire, ite_quire, ite_self]

@[simp] theorem evaluateBounds_quire (x0 : State) : (evaluateBounds x0).quire = x0.quire := by
  simp only [evaluateBounds, setDpll_quire, holdExpiry_quire, fenceEvaluation_quire, setTime_quire, ite_quire, ite_self]

@[simp] theorem dpllEnter_quire (x0 : ℕ) (x1 : State) : (dpllEnter x0 x1).quire = x1.quire := by
  simp only [dpllEnter, setDpll_quire, evaluateBounds_quire, rfcEvent_quire, ite_quire, ite_self]

@[simp] theorem selectRef_quire (x0 : Option ℕ) (x1 : State) : (selectRef x0 x1).quire = x1.quire := by
  unfold selectRef
  (repeat' split) <;> simp only [setTime_quire, setDpll_quire, dpllEnter_quire, rfcEvent_quire, ite_quire, ite_self]

@[simp] theorem Ans_st_quire (x0 : Ans) : (Ans.st x0).quire = x0.st.quire := (rfl)

@[simp] theorem sessionSend_quire (x0 x1 : ℕ) (x2 : Bytes) (x3 : State) : (sessionSend x0 x1 x2 x3).quire = x3.quire := by
  simp only [sessionSend, emit_quire, ite_quire, ite_self]

@[simp] theorem foldPut_quire (x0 x1 : ℕ) (x2 : Bytes) (x3 : State) : (foldPut x0 x1 x2 x3).quire = x3.quire := (rfl)

@[simp] theorem foldFragments_quire (x0 x1 x2 x3 : ℕ) (x4 : Bytes) (x5 : State) : (foldFragments x0 x1 x2 x3 x4 x5).quire = x5.quire :=
    by
  fun_induction foldFragments <;> simp_all +zetaDelta

@[simp] theorem foldReply_quire (x0 : ℕ) (x1 : Bytes) (x2 : State) : (foldReply x0 x1 x2).quire = x2.quire := by
  simp only [foldReply, foldFragments_quire, ite_quire, ite_self]

@[simp] theorem sendSymbols_quire (x0 x1 : ℕ) (x2 : List ℕ × LaneCode) (x3 : State) : (sendSymbols x0 x1 x2 x3).quire = x3.quire := by
  simp only [sendSymbols, setFab_quire, ite_quire, emit_quire, ite_quire, ite_self]

@[simp] theorem laneBlocks_quire (x0 : ℕ) (x1 : List Block) (x2 : State) : (laneBlocks x0 x1 x2).quire = x2.quire := by
  simp only [laneBlocks, ite_quire, setFab_quire, sendSymbols_quire, ite_quire, ite_self]

@[simp] theorem bondSend_quire (x0 : ℕ) (x1 : List Block) (x2 : State) : (bondSend x0 x1 x2).quire = x2.quire := by
  simp only [bondSend, laneBlocks_quire, ite_quire, foldl_quire, implies_true, ite_quire, ite_self]

@[simp] theorem stitchEmit_quire (x0 : Bytes) (x1 : State) : (stitchEmit x0 x1).quire = x1.quire := by
  simp only [stitchEmit, bondSend_quire, emit_quire, ite_quire, ite_self]

@[simp] theorem stitchPut_quire (x0 : ℕ) (x1 : Bytes) (x2 : State) : (stitchPut x0 x1 x2).quire = x2.quire := by
  simp only [stitchPut, setStitch_quire, ite_quire, stitchEmit_quire, ite_quire, ite_self]

@[simp] theorem stitchSend_quire (x0 : ℕ) (x1 : Bytes) (x2 : State) : (stitchSend x0 x1 x2).quire = x2.quire := by
  simp only [stitchSend, setStitch_quire, stitchPut_quire, ite_quire, ite_self]

@[simp] theorem carryReply_quire (x0 : Reply) (x1 : State) : (carryReply x0 x1).quire = x1.quire := by
  unfold carryReply
  (repeat' split) <;> simp only [sessionSend_quire, foldReply_quire, emit_quire, stitchSend_quire, ite_quire, ite_self]

@[simp] theorem sendReply_quire (x0 : Reply) (x1 : State) : (sendReply x0 x1).quire = x1.quire := by
  unfold sendReply
  (repeat' split) <;> simp only [carryReply_quire, emit_quire, ite_quire, ite_self]

@[simp] theorem copyItem_quire (x0 : CopyItem) (x1 : State) : (copyItem x0 x1).quire = x1.quire := by
  simp only [copyItem, ite_quire, ite_self]

@[simp] theorem copyResult_quire (x0 : CatRow) (x1 : Req) (x2 : Ans) (x3 : Bool) (x4 : State) : (copyResult x0 x1 x2 x3 x4).quire =
    x4.quire := by
  simp only [copyResult, ite_quire, copyItem_quire, ite_quire, ite_self]

@[simp] theorem conclude_quire (x0 : CatRow) (x1 : Req) (x2 : Ans) : (conclude x0 x1 x2).quire = x2.st.quire := by
  simp only [conclude, Ans_st_quire, ite_quire, setPort_quire, sendReply_quire, copyResult_quire, ite_quire, ite_self]

@[simp] theorem concludeLater_quire (x0 : CatRow) (x1 : Req) (x2 : Ans) : (concludeLater x0 x1 x2).quire = x2.st.quire := by
  simp only [concludeLater, conclude_quire, ite_quire, ite_self]

@[simp] theorem okay_quire (x0 : State) (x1 : Bytes) : (okay x0 x1).st.quire = x0.quire := (rfl)

@[simp] theorem refuse_quire (x0 : State) (x1 x2 : ℕ) : (refuse x0 x1 x2).st.quire = x0.quire := (rfl)

@[simp] theorem applySelect_quire (x0 : State) (x1 : PendingSelect) : (applySelect x0 x1).quire = x0.quire := by
  unfold applySelect
  dsimp only
  (repeat' split) <;> simp [*]

@[simp] theorem followBridge_quire (x0 : State) : (followBridge x0).quire = x0.quire := by
  unfold followBridge
  dsimp only
  (repeat' split) <;> simp [*]

@[simp] theorem reselect_quire (x0 : State) : (reselect x0).quire = x0.quire := by
  simp only [reselect, updateFlywheel_quire, checkForce_quire, applySelect_quire, setDpll_quire, selectRef_quire, followBridge_quire, foldl_quire,
    implies_true, ite_quire, ite_self]

@[simp] theorem refEnter_quire (x0 x1 : ℕ) (x2 : State) : (refEnter x0 x1 x2).quire = x2.quire := by
  simp only [refEnter, rfcEvent_quire, setRef_quire, ite_quire, ite_self]

@[simp] theorem activityFault_quire (x0 : ℕ) (x1 : State) : (activityFault x0 x1).quire = x1.quire := by
  simp only [activityFault, setRef_quire, reselect_quire, refEnter_quire, ite_quire, ite_self]

@[simp] theorem gnssInvalid_quire (x0 : State) : (gnssInvalid x0).quire = x0.quire := by
  simp only [gnssInvalid, activityFault_quire, setGnss_quire, ite_quire, ite_self]

@[simp] theorem gnssChange_quire (x0 : Quire) (x1 : State) : (gnssChange x0 x1).quire = x1.quire := by
  simp only [gnssChange, setGnss_quire, idleAll_quire, gnssInvalid_quire, chanEnter_quire, foldl_quire, implies_true, ite_quire, ite_self]

@[simp] theorem refUse_quire (x0 : State) (x1 : ℕ) : (refUse x0 x1).quire = x0.quire := by
  simp only [refUse, refEnter_quire, setRef_quire, ite_quire, ite_self]

@[simp] theorem startSoak_quire (x0 : ℕ) (x1 : State) : (startSoak x0 x1).quire = x1.quire := by
  simp only [startSoak, refEnter_quire, ite_quire, ite_self]

@[simp] theorem promote_quire (x0 : State) (x1 : ℕ) : (promote x0 x1).quire = x0.quire := by
  simp only [promote, setRef_quire, refEnter_quire, startSoak_quire, ite_quire, ite_self]

@[simp] theorem disqualify_quire (x0 : State) (x1 : ℕ) : (disqualify x0 x1).quire = x0.quire := by
  simp only [disqualify, refEnter_quire, ite_quire, ite_self]

@[simp] theorem refChange_quire (x0 : Quire) (x1 : State) : (refChange x0 x1).quire = x1.quire := by
  simp only [refChange, ite_quire, setRef_quire, refEnter_quire, refUse_quire, evaluateBounds_quire, reselect_quire, promote_quire, disqualify_quire,
    dpllEnter_quire, foldl_quire, implies_true, ite_quire, ite_self]

@[simp] theorem audioChange_quire (x0 : Quire) (x1 : ℕ) (x2 : State) : (audioChange x0 x1 x2).quire = x2.quire := by
  simp only [audioChange, ite_quire, ite_self]

@[simp] theorem instantChange_quire (x0 : Quire) (x1 : ℕ) (x2 : State) : (instantChange x0 x1 x2).quire = x2.quire := by
  simp only [instantChange, fenceEvaluation_quire, noteUtc_quire, mgmtChange_quire, gnssChange_quire, refChange_quire, audioChange_quire, ite_quire,
    ite_self]

@[simp] theorem keepEntries_quire (x0 x1 : Quire) (x2 : ℕ) (x3 : State) : (keepEntries x0 x1 x2 x3).quire = x3.quire := by
  simp only [keepEntries, setFlow_quire, foldl_quire, implies_true, ite_quire, ite_self]

@[simp] theorem keyRefused_quire (x0 x1 : ℕ) (x2 : State) : (keyRefused x0 x1 x2).quire = x2.quire := by
  simp only [keyRefused, raise_quire, ite_quire, ite_self]

@[simp] theorem rerandomise_quire (x0 : State) : (rerandomise x0).quire = x0.quire := (rfl)

@[simp] theorem setKey_quire (x0 : ℕ) (x1 : KeySlot) (x2 : State) : (setKey x0 x1 x2).quire = x2.quire := (rfl)

@[simp] theorem keyUse_quire (x0 x1 x2 x3 : ℕ) (x4 : State) : (keyUse x0 x1 x2 x3 x4).1.quire = x4.quire := by
  unfold keyUse
  dsimp only
  (repeat' split) <;> simp [*]

@[simp] theorem flockSend_quire (x0 : Bool) (x1 x2 : ℕ) (x3 : Bytes) (x4 : State) : (flockSend x0 x1 x2 x3 x4).quire = x4.quire := by
  unfold flockSend
  dsimp only
  (repeat' split) <;> simp [*]

@[simp] theorem flockReport_quire (x0 : DrvEvent) (x1 x2 x3 : ℕ) (x4 : State) : (flockReport x0 x1 x2 x3 x4).quire = x4.quire := by
  simp only [flockReport, flockSend_quire, ite_quire, ite_self]

@[simp] theorem answerDeferred_quire (x0 x1 x2 : ℕ) (x3 : Deferred → State → Ans) (x4 : State) (h : ∀ d s, (x3 d s).st.quire = s.quire) :
    (answerDeferred x0 x1 x2 x3 x4).quire = x4.quire := by
  unfold answerDeferred
  (repeat' split) <;> simp [*]

end Sys2Proof.Proofs
end

section
/-! SUPPORT. A swap's check and outcome (R76, R78), staged items (R79, R80), and the changes due at one instant (R90). -/

namespace Sys2Proof.Proofs

open Sys2Proof Sys2Proof.Machine Sys2Proof.Safety Sys2Proof.Laws

variable {s : State}

/-! ### Swaps -/

theorem swapStatus_eq_ok_iff (s : State) (e : DrvEvent) : swapStatus s e = stOk ↔
    s.quire.shadowState ≠ .pendingOpen ∧ s.quire.shadowDigest = some e.digest ∧
      (e.staged = true ∨ needsStaging s.quire.active s.quire.shadow = false) ∧
      (e.scheduled = true → s.drv.fenced = false) ∧ protectedFault s s.quire.shadow = none := by
  unfold swapStatus
  dsimp only
  split
  · next h =>
    refine iff_of_false (by decide) ?_
    rintro ⟨h1, h2, -⟩
    exact h.elim h1 (fun h => h h2)
  · next h1 =>
    obtain ⟨hopen, hdigest⟩ := not_or.mp h1
    split
    · next h =>
      refine iff_of_false (by decide) ?_
      rintro ⟨-, -, h3, -⟩
      exact h3.elim h.1 (fun h3 => by simp [h3] at h)
    · next h2 =>
      have h2' : e.staged = true ∨ needsStaging s.quire.active s.quire.shadow = false := by
        simpa [imp_iff_not_or] using h2
      split
      · next h =>
        refine iff_of_false (by decide) ?_
        rintro ⟨-, -, -, h4, -⟩
        simp [h4 h.1] at h
      · next h3 =>
        split
        · next h =>
          refine iff_of_false (by decide) ?_
          rintro ⟨-, -, -, -, h5⟩
          simp [h5] at h
        · next h4 => exact iff_of_true rfl ⟨hopen, not_not.mp hdigest, h2', by simpa using h3, by simpa using h4⟩

theorem applySwap_due {e : DrvEvent} {t : Nat} (he : pendingSwap s = some e) (ht : appPoint s e = some t)
    (hr : reached s t = true) :
    applySwap s = if swapStatus s e = stOk then takeQuire e t s else dropSwap e 2 (swapStatus s e) (releaseShadow s) := by
  simp [applySwap, he, ht, hr]

/-- The state at a swap's completion, once every engine has taken it: the old active quire is the shadow (R62, R78). -/
theorem execSwapComplete_due {w : Swapping} {u : State} (hw : s.quire.swapping = some w) (hdone : swapDone s w = true)
    (hu : u = (List.range 64).foldl (fun t e => engineTake e t) s) :
    execSwapComplete s = .next (answerDeferred 0x0204 w.event.port w.event.seq (fun _ t => okay t [])
      (addResult w.event 0 stOk (nsOf w.time) { u with
        quire := { u.quire with
          swapping := none, shadow := (u.quire.swapping.map (·.old)).getD w.old, shadowState := .locked
          shadowDigest := none, assembly := []
          staging := if w.event.staged then stageList u.quire.active u.quire.target else u.quire.staging } })) := by
  unfold execSwapComplete
  rw [hw]
  dsimp only
  rw [if_neg (not_not.mpr hdone), ← hu]
  rfl

theorem execQuireDigestDone_due (hlocked : s.quire.shadowState = .locked) (hnone : s.quire.shadowDigest = none)
    (hswap : s.quire.swapping = none) :
    execQuireDigestDone s = .next { s with
      quire := { s.quire with shadowDigest := some (sha384 (quireImage s.quire.shadow)), shadowState := .sealed } } := by
  simp [execQuireDigestDone, hlocked, hnone, hswap, setQuires]

/-- The first waiting item, with none in progress, has its turn (R79). -/
theorem itemStart_turn {i : Nat} (hv : vegenUp s = true)
    (hfirst : s.quire.staging.findIdx (fun y => decide (y.state = .waiting)) = i)
    (hnone : ∀ y ∈ s.quire.staging, y.state ≠ .inProgress) :
    ¬ (¬ vegenUp s = true ∨ s.quire.staging.findIdx (fun y => decide (y.state = .waiting)) ≠ i ∨
      (s.quire.staging.any fun y => decide (y.state = .inProgress)) = true) := by
  simpa [hv, hfirst] using hnone

/-- A staged item that is late at its timeout fails with the status 0xFF00 plus its folio. -/
theorem execStagedItemTimeout_late {i : Nat} {x : StageItem} (hx : s.quire.staging[i]? = some x)
    (hdue : vegenUp s = true ∧ x.state = .inProgress ∧ ¬ itemWaits s x.folio x.index = true ∧
      ((boundFrom s x).any fun t => decide (t + x.bound < now s)) = true) :
    exec (.stagedItemTimeout i) s = .next (failItem i (0xFF00 + x.folio) x s) := by
  change execStagedItemTimeout i s = _
  unfold execStagedItemTimeout
  rw [hx]
  exact congrArg _ (if_pos hdue)

/-- A failed item lets the lanes of a destination settle and is reported by EV0161. -/
theorem failItem_eq (i status : Nat) (x : StageItem) (s : State) : failItem i status x s = raise 161 i status
    (finishItem x.folio x.index status (if x.folio = fDests then lanesSettle x.index s else s)) := by
  unfold failItem
  rfl

theorem takeQuire_quire (e : DrvEvent) (t : Nat) (s : State) : (takeQuire e t s).quire = { s.quire with
    active := if needsStaging s.quire.active s.quire.shadow then mixQuires s.quire.active s.quire.shadow else s.quire.shadow
    baseDigest := e.digest, changeCount := 0, target := s.quire.shadow
    swapping := some ⟨e, s.quire.active, t, []⟩ } := by
  simp only [takeQuire, wakeUsed_quire, instantChange_quire, keepEntries_quire]
  rfl

/-- A result that was not applied leaves the quires as they were (R60). -/
theorem addResult_quire {e : DrvEvent} {outcome : Nat} (h : 1 < outcome) (st at_ : Nat) (s : State) :
    (addResult e outcome st at_ s).quire = s.quire := by
  have hno : ¬ (outcome ≤ 1 ∧ e.kind ≠ kMarker ∧ e.kind ≠ kSwap) := by omega
  simp only [addResult, flockReport_quire, raise_quire, copyItem_quire, if_neg hno]

theorem dropSwap_quire {outcome : Nat} (h : 1 < outcome) (e : DrvEvent) (st : Nat) (s : State) :
    (dropSwap e outcome st s).quire = s.quire := by
  rw [dropSwap, answerDeferred_quire _ _ _ _ _ fun _ _ => rfl, addResult_quire h]
  rfl

/-! ### The changes due at one instant -/

theorem find_by_serial {e : DrvEvent} {l : List DrvEvent} (he : e ∈ l) (honly : ∀ x ∈ l, x.serial = e.serial → x = e)
    (hkind : e.kind ≠ kSwap) :
    (l.find? fun x => decide (x.serial.toNat = e.serial.toNat ∧ x.kind ≠ kSwap)) = some e := by
  cases hf : l.find? fun x => decide (x.serial.toNat = e.serial.toNat ∧ x.kind ≠ kSwap) with
  | none =>
    have := List.find?_eq_none.mp hf e he
    simp [hkind] at this
  | some x =>
    have hx := List.find?_some hf
    simp only [decide_eq_true_eq] at hx
    rw [honly x (List.mem_of_find?_eq_some hf) (BitVec.eq_of_toNat_eq hx.1)]

theorem applyDue_single {e : DrvEvent} {t : Nat} (hswap : pendingSwap s = none) (hdue : dueEvents t s = [e]) :
    applyDue t s =
      settle e.port e.seq (reportAll s.quire.active t [(e, (applyEvent e t s).2)] (applyEvent e t s).1) := by
  simp [applyDue, hswap, hdue, applyAll]

end Sys2Proof.Proofs
end

section
/-! The statements about swaps, staged items and the drover. -/

namespace Sys2Proof.Proofs

open Sys2Proof Sys2Proof.Machine Sys2Proof.Safety Sys2Proof.Laws

/-- Settles O7: the swap's status decides between taking its quire and dropping it, and a drop touches no quire. -/
theorem quireSwap : Obligations.QuireSwap := by
  unfold Obligations.QuireSwap
  intro s
  refine ⟨fun e t he ht hr => ⟨fun h1 h2 h3 h4 h5 => ?taken, fun hbad => ?dropped⟩, fun w u hw hdone hu => ?complete,
    fun h1 h2 h3 => ?digest⟩
  case taken =>
    have hok := (swapStatus_eq_ok_iff s e).mpr ⟨h1, h2, h3, h4, h5⟩
    have htake : applySwap s = takeQuire e t s := by rw [applySwap_due he ht hr, if_pos hok]
    exact ⟨applySwap s, rfl, htake, by rw [htake, takeQuire_quire]⟩
  case dropped =>
    have hno : swapStatus s e ≠ stOk := by
      rw [Ne, swapStatus_eq_ok_iff]
      rintro ⟨h1, h2, h3, h4, h5⟩
      obtain h | h | ⟨h, h'⟩ | ⟨h, h'⟩ | h := hbad <;> simp_all
    refine ⟨applySwap s, rfl, ?_⟩
    rw [applySwap_due he ht hr, if_neg hno, dropSwap_quire (by decide)]
    exact ⟨rfl, rfl, rfl, rfl, rfl, fun h => by simp [releaseShadow, setQuires, h], fun h => by simp [releaseShadow, setQuires, h]⟩
  case complete =>
    exact execSwapComplete_due hw hdone hu
  case digest => exact execQuireDigestDone_due h1 h2 h3

/-- Settles O8: each case is the branch of the staging event that its hypotheses select. -/
theorem stagedItems : Obligations.StagedItems := by
  unfold Obligations.StagedItems
  intro i x s hx hv
  refine ⟨fun hfirst hnone u hu => ⟨fun w hw => ?begun, fun hw => ?refused⟩, fun u hu hvu hprog hready => ?complete,
    fun hprog hwait t ht hlate => ?timeout, fun d hd htr => ⟨fun hb => ?quietBound, fun hb => ?quietUnbound⟩,
    fun d f hd htr hf hraster hr => ?format⟩
  case begun =>
    simp only [exec, execStagedItemStart, hx, if_neg (itemStart_turn hv hfirst hnone), ← hu, hw]
  case refused =>
    simp only [exec, execStagedItemStart, hx, if_neg (itemStart_turn hv hfirst hnone), ← hu, hw]
  case complete =>
    simp only [exec, execStagedItemComplete, hx, ← hu, hvu, hprog, hready, and_self, if_true]
  case timeout =>
    have hdue : vegenUp s = true ∧ x.state = .inProgress ∧ ¬ itemWaits s x.folio x.index = true ∧
        ((boundFrom s x).any fun t => decide (t + x.bound < now s)) = true :=
      ⟨hv, hprog, ne_true_of_eq_false hwait, by rw [ht, Option.any_some]; exact decide_eq_true hlate⟩
    refine ⟨if x.folio = fDests then lanesSettle x.index s else s, ?_, fun h => if_neg h, fun h => if_pos h⟩
    rw [execStagedItemTimeout_late hx hdue, failItem_eq]
  case quietBound => simp [exec, execDestFormatQuietPoint, hd, htr, hb]
  case quietUnbound => simp [exec, execDestFormatQuietPoint, hd, htr, hb]
  case format =>
    subst hf
    simp [exec, execDestFormatComplete, hd, htr, hraster, hr]

/-- Settles O10: with nothing else due, applying the instant applies the one event. -/
theorem eventApplied : Obligations.EventApplied := by
  unfold Obligations.EventApplied
  intro e t s he honly hkind ht hr
  have hexec : exec (.droverEventApply e.serial.toNat) s = .next (applyDue t s) := by
    simp only [exec, execDroverEventApply, find_by_serial he honly hkind, ht, hr, not_true_eq_false, if_false]
  refine ⟨hexec, fun hswap hdue => by rw [hexec, applyDue_single hswap hdue], fun hs hf => by simp [applyEvent, hs, hf],
    fun hroute hf hno hpen hvalid => ?route⟩
  case route =>
    have hunfenced : ¬ (e.scheduled = true ∧ s.drv.fenced = true) := by
      rintro ⟨h1, h2⟩
      simp [hf h1] at h2
    have howner : ¬ (rd e.payload 0 2 ≠ 0xFFFF ∧ isPen e.port = true ∧ e.scheduled = true ∧
        ¬ (dstPen s.quire.active e.target = e.port ∧ permitted s s.quire.active e.port (rd e.payload 0 2) = true)) := by
      rintro ⟨h1, h2, h3, h4⟩
      exact h4 (hpen h3 h2 h1)
    have hroutable : ¬ (rd e.payload 0 2 ≠ 0xFFFF ∧ ¬ routeValid s.quire.active (rd e.payload 0 2) e.target = true) := by
      rintro ⟨h1, h2⟩
      exact h2 (hvalid h1)
    have happly : applyRoute e t s = ({ s with
        quire := { s.quire with
          active := qWrite s.quire.active fDests (16 * e.target + 2) (le 2 (rd e.payload 0 2)) } }, stOk) := by
      simp only [applyRoute, takeSwap_of_no_swap hno, inForce_of_no_swap hno, if_neg howner, if_neg hroutable, writeDest, taken,
        hno, if_true]
    rw [applyEvent, if_neg hunfenced, if_pos hroute, happly]

/-- Settles O9: each command passes its checks and answers with its body. -/
theorem droverCommands : Obligations.DroverCommands := by
  unfold Obligations.DroverCommands
  intro r s
  refine ⟨?submit, ?cancel, ?queueRead, ?results, ?status⟩
  case submit =>
    intro kind target p t hkind htarget hp h hlen hsched hmem hz9 hz14 hz24 hform hmay hepoch htime hrule hroom htroom ht
    subst hkind htarget hp
    have hchecks : ∀ c ∈ ([(decide (isScheduled r = decide (rd r.params 0 8 ≠ 0)), 0),
          (decide (rd r.params 8 1 ∈ [kRoute, kDest, kSafeload, kLayer, kMarker]), 8), (isZero r.params 9 1, 9)] ++
        ((eventForm s.quire.active (rd r.params 8 1) (rd r.params 10 2) (slice r.params 32 32)).filter
          fun c => decide (c.2 < 0xE)) ++
        [(isZero r.params 14 2, 14), (isZero r.params 24 8, 24)] ++
        ((eventForm s.quire.active (rd r.params 8 1) (rd r.params 10 2) (slice r.params 32 32)).filter
          fun c => decide (0xE ≤ c.2))), c.1 = true := by
      intro c hc
      simp only [List.mem_append, List.mem_filter, List.mem_cons, List.not_mem_nil, or_false] at hc
      obtain (((rfl | rfl | rfl) | hc) | (rfl | rfl)) | hc := hc
      · simpa using hsched
      · simpa using hmem
      · exact hz9
      · exact hform c hc.1
      · exact hz14
      · exact hz24
      · exact hform c hc.1
    have hepoch' : ¬ (begun 0x0301 r s).boot.epoch < rd r.params 12 2 := Nat.not_lt.mpr hepoch
    change Host.Outcome.next (command 0x0301 _ r s) = _
    rw [command_starts rfl h, needLen_ok hlen]
    dsimp only
    rw [begun_quire, needForm_ok hchecks]
    simp only [hmay, not_true_eq_false, if_false, if_neg hepoch', htime, hrule, hroom, htroom, Bool.false_eq_true, ← ht]
    by_cases hs : isScheduled r = true
    · simp only [if_pos hs]
    · simp only [if_neg hs]
  case cancel =>
    intro named free late t h hlen hz hport hnamed hsome hfree hlate ht
    refine (command_answers h ((checks_ok hlen (by simp [hz])).trans ?_)
      (a := if late = [] then okay t (le 4 free.length ++ le 4 0)
        else { st := t, status := stTooLate, detail := (late.map (·.entry)).foldl min 0xFFFF
               params := le 4 free.length ++ le 4 late.length }) (by split <;> rfl))
    have hmay : ¬ (r.port ≠ portRoot ∧ r.port ≠ rd r.params 0 2) := by tauto
    dsimp only
    rw [if_neg hmay, begun_drv, ← hnamed, ← hfree, ← hlate, ← ht, if_neg hsome]
    by_cases hl : late = []
    · simp [hl]
    · simp [hl]
  case queueRead =>
    intro h hlen hkind hz hn1 hn
    exact command_answers h (checks_ok hlen (by simp [hkind, hz, hn1, hn]))
  case results =>
    intro h hlen hn1 hn hz
    exact command_answers h (checks_ok hlen (by simp [hz, hn1, hn]))
  case status =>
    intro h hlen
    exact command_answers h (needLen_ok (by simp [hlen]))

end Sys2Proof.Proofs
end

section
/-! SUPPORT. What a clearing read of a table of counters leaves: a fold of writes over the first entries. -/

namespace Sys2Proof.Proofs

open Sys2Proof Sys2Proof.Machine Sys2Proof.Safety Sys2Proof.Laws

/-- Writing the entries 0 to n - 1 of a table one after the other changes just those. -/
theorem read_foldl_range {β : Type} {get : State → Nat → β} {put : Nat → State → State} {f : β → β}
    (hput : ∀ s k j, get (put k s) j = if j = k then f (get s k) else get s j) (n j : Nat) (s : State) :
    get ((List.range n).foldl (fun t k => put k t) s) j = if j < n then f (get s j) else get s j := by
  induction n with
  | zero => rfl
  | succ n ih =>
    rw [List.range_succ, List.foldl_append, List.foldl_cons, List.foldl_nil, hput]
    by_cases hj : j = n
    · subst hj
      simp [ih]
    · rw [if_neg hj, ih]
      exact if_congr (by omega) rfl rfl

/-- What every write of a fold keeps, the fold keeps. -/
theorem foldl_keeps {α β : Type} {get : State → β} {put : State → α → State} (hput : ∀ s a, get (put s a) = get s)
    (l : List α) (s : State) : get (l.foldl put s) = get s := by
  induction l generalizing s with
  | nil => rfl
  | cons a l ih => rw [List.foldl_cons, ih, hput]

/-- A command that starts, whose body keeps t for later with its own info, is deferred with t. -/
theorem command_keeps_for_later {op : Nat} {r : Req} {s t : State} {body : Req → State → Ans} {info : List Nat}
    (h : Starts op r s) (ha : body r (begun op r s) = { st := t, later := some info })
    (hc : (catalogue op).isSome = true := by rfl) :
    (.next (command op body r s) : Host.Outcome State Fault Refusal) = .next (deferredBy op r info t) :=
  command_defers h ha rfl hc

/-- Parameters of bad form are refused with the offset of the first bad field. -/
theorem needForm_refuses {l : List (Bool × Nat)} {o : Nat} (h : firstBad l = some o) (s : State) (k : Unit → Ans) :
    needForm l s k = refuse s stBadParam o := by
  rw [needForm, h]

/-- The form of a read that clears on request (R10). -/
theorem clearForm_ok {r : Req} (h1 : rd r.params 0 1 ≤ 1) (h2 : isZero r.params 1 3 = true) :
    ∀ x ∈ clearForm r, x.1 = true := by
  simp [clearForm, h1, h2]

@[simp] theorem refAt_setRef (k j : Nat) (f : RefState → RefState) (s : State) :
    refAt (setRef k f s) j = if j = k then f (refAt s k) else refAt s j := by
  simp [refAt, setRef, setTime]

@[simp] theorem instAt_setInst (k j : Nat) (f : PtpInst → PtpInst) (s : State) :
    instAt (setInst k f s) j = if j = k then f (instAt s k) else instAt s j := by
  simp [instAt, setInst, setTime]

@[simp] theorem ppAt_setPp (k j : Nat) (f : PtpPort → PtpPort) (s : State) :
    ppAt (setPp k f s) j = if j = k then f (ppAt s k) else ppAt s j := by
  simp [ppAt, setPp, setTime]

/-- A reference's record once its counters are cleared (R377). -/
def clearedRef (y : RefState) : RefState := { y with faults := 0, rejections := 0 }

/-- The record of a PTP entry once its counter is cleared (R421). -/
def clearedInst (x : PtpInst) : PtpInst := { x with authFailures := 0 }

/-- A PTP port's record once its counters are cleared (R421). -/
def clearedPp (y : PtpPort) : PtpPort := { y with timeouts := 0, faults := 0 }

/-- What clearing every reference's counters leaves. -/
def clearRefs (s : State) : State := (List.range 15).foldl (fun t k => setRef k clearedRef t) s

/-- What clearing the counters of all PTP entries leaves. -/
def clearInsts (s : State) : State := (List.range 8).foldl (fun t i => setInst i clearedInst t) s

/-- What clearing the counters of every PTP port leaves. -/
def clearPps (s : State) : State := (List.range 64).foldl (fun t p => setPp p clearedPp t) s

theorem refAt_clearRefs (k : Nat) (s : State) :
    refAt (clearRefs s) k = if k < 15 then clearedRef (refAt s k) else refAt s k :=
  read_foldl_range (get := refAt) (fun s k j => refAt_setRef k j clearedRef s) 15 k s

theorem instAt_clearInsts (i : Nat) (s : State) :
    instAt (clearInsts s) i = if i < 8 then clearedInst (instAt s i) else instAt s i :=
  read_foldl_range (get := instAt) (fun s k j => instAt_setInst k j clearedInst s) 8 i s

theorem ppAt_clearPps (p : Nat) (s : State) :
    ppAt (clearPps s) p = if p < 64 then clearedPp (ppAt s p) else ppAt s p :=
  read_foldl_range (get := ppAt) (fun s k j => ppAt_setPp k j clearedPp s) 64 p s

@[simp] theorem instAt_clearPps (i : Nat) (s : State) : instAt (clearPps s) i = instAt s i :=
  foldl_keeps (get := fun t => instAt t i) (by intros; rfl) _ _

@[simp] theorem ppAt_clearInsts (p : Nat) (s : State) : ppAt (clearInsts s) p = ppAt s p :=
  foldl_keeps (get := fun t => ppAt t p) (by intros; rfl) _ _

/-- A state without its reference table: what a write of that table leaves. -/
def withoutRefs (s : State) : State := { s with time := { s.time with refs := [] } }

theorem eq_of_withoutRefs_eq {s t : State} (h : withoutRefs t = withoutRefs s) :
    t = { s with time := { s.time with refs := t.time.refs } } := by
  have := congrArg (fun u : State => { u with time := { u.time with refs := t.time.refs } }) h
  exact this

/-- A state without its tables of PTP instances and ports. -/
def withoutPtp (s : State) : State := { s with time := { s.time with insts := [], ports := [] } }

theorem eq_of_withoutPtp_eq {s t : State} (h : withoutPtp t = withoutPtp s) :
    t = { s with time := { s.time with insts := t.time.insts, ports := t.time.ports } } := by
  have := congrArg (fun u : State => { u with time := { u.time with insts := t.time.insts, ports := t.time.ports } }) h
  exact this

theorem withoutRefs_clearRefs (s : State) : withoutRefs (clearRefs s) = withoutRefs s :=
  foldl_keeps (get := withoutRefs) (by intros; rfl) _ _

theorem withoutPtp_clear (s : State) : withoutPtp (clearPps (clearInsts s)) = withoutPtp s :=
  (foldl_keeps (get := withoutPtp) (by intros; rfl) _ _).trans (foldl_keeps (get := withoutPtp) (by intros; rfl) _ _)

end Sys2Proof.Proofs
end

section
/-! The statements about the REF, CLK and time commands. -/

namespace Sys2Proof.Proofs

open Sys2Proof Sys2Proof.Machine Sys2Proof.Safety Sys2Proof.Laws

/-- Settles O36: each command passes its checks and answers with its body. -/
theorem referenceCommands : Obligations.ReferenceCommands := by
  unfold Obligations.ReferenceCommands
  intro r s
  refine ⟨?status, ?select, ?holdover, ?clocks⟩
  case status =>
    intro h hlen hclear hz
    refine ⟨if rd r.params 0 1 = 1 then clearRefs (begun 0x0C01 r s) else begun 0x0C01 r s,
      command_answers h ((checks_ok hlen (clearForm_ok hclear hz)).trans ?_), ?_, fun k => ?_⟩
    · simp only [bit_zero_of_le_one hclear, decide_eq_true_eq]
      rfl
    · split
      · exact eq_of_withoutRefs_eq (withoutRefs_clearRefs _)
      · rfl
    · by_cases hc : rd r.params 0 1 = 1
      · simp only [hc, if_true, true_and]
        exact refAt_clearRefs k _
      · simp only [hc, if_false, false_and]
        rfl
  case select =>
    intro h op k hop hk hlen hop2 hz hkk
    subst hop hk
    refine ⟨fun h1 h2 => command_keeps_for_later h ((checks_ok hlen (by simp [hop2, hkk, hz])).trans ?_),
      fun hbad => command_answers h ((checks_ok hlen (by simp [hop2, hkk, hz])).trans ?_)⟩
    · have hno1 : ¬ (rd r.params 0 1 = 1 ∧ (refAt s (rd r.params 1 1)).q ≠ 4) := fun hc => hc.2 (h1 hc.1)
      have hno2 : ¬ (rd r.params 0 1 = 2 ∧ ¬ s.tb.acquired = true) := fun hc => hc.2 (h2 hc.1)
      exact (if_neg hno1).trans (if_neg hno2)
    · rcases hbad with hbad | ⟨ho, hacq⟩
      · exact if_pos hbad
      · exact (if_neg (by simp [ho])).trans (if_pos (by simp [ho, hacq]))
  case holdover =>
    intro h hp
    exact command_answers h (needLen_ok (by simp [hp]))
  case clocks =>
    intro h hlen hclear hz
    refine command_answers h ((checks_ok hlen (clearForm_ok hclear hz)).trans ?_)
    simp only [bit_zero_of_le_one hclear, decide_eq_true_eq]
    congr 1
    split <;> rfl

/-- Settles O40: each command passes its checks and answers with its body. -/
theorem timeCommands : Obligations.TimeCommands := by
  unfold Obligations.TimeCommands
  intro r s
  refine ⟨?read, ?bound, ?ptp, ?sessions, ?nts, ?set⟩
  case read =>
    intro h hp
    exact command_answers h (needLen_ok (by simp [hp]))
  case bound =>
    intro h hp
    exact command_answers h (needLen_ok (by simp [hp]))
  case ptp =>
    intro h hlen hclear hz
    refine ⟨if rd r.params 0 1 = 1 then clearPps (clearInsts (begun 0x0D03 r s)) else begun 0x0D03 r s, _,
      command_answers h ((checks_ok hlen (clearForm_ok hclear hz)).trans ?_), rfl, ?_, fun i => ?_, fun p => ?_⟩
    · simp only [bit_zero_of_le_one hclear, decide_eq_true_eq]
      rfl
    · split
      · exact eq_of_withoutPtp_eq (withoutPtp_clear _)
      · rfl
    · by_cases hc : rd r.params 0 1 = 1
      · simp only [hc, if_true, true_and, instAt_clearPps]
        exact instAt_clearInsts i _
      · simp only [hc, if_false, false_and]
        rfl
    · by_cases hc : rd r.params 0 1 = 1
      · simp only [hc, if_true, true_and, ppAt_clearPps, ppAt_clearInsts]
        rfl
      · simp only [hc, if_false, false_and]
        rfl
  case sessions =>
    intro h n i mine next_ hn hi hlen hn1 hn2 hi8 hz hmine hnext
    subst hn hi hmine hnext
    exact command_answers h (checks_ok hlen (by simp [hn1, hn2, hi8, hz]))
  case nts =>
    intro h hlen hclear hz
    refine command_answers h ((checks_ok hlen (clearForm_ok hclear hz)).trans ?_)
    simp only [bit_zero_of_le_one hclear, decide_eq_true_eq]
    congr 1
    split <;> rfl
  case set =>
    intro h hlen
    refine ⟨fun hbig => command_answers h ((needLen_ok hlen).trans ?_), fun hsec hns hz =>
      ⟨fun hacq => command_answers h ((checks_ok hlen (by simpa [hns, hz] using hsec)).trans ?_),
        fun hacq => command_keeps_for_later h ((checks_ok hlen (by simpa [hns, hz] using hsec)).trans ?_)⟩⟩
    · rw [needForm_refuses (o := 0) (by
        rw [firstBad, if_neg (by simpa using hbig)])]
    · exact if_pos hacq
    · exact if_neg (by simp [hacq])

end Sys2Proof.Proofs
end

section
/-! SUPPORT. References, the loop and the time base: what their shared operations leave. -/

namespace Sys2Proof.Proofs

open Sys2Proof Sys2Proof.Machine Sys2Proof.Safety Sys2Proof.Laws

/-- An RFC event leaves HOLD_EXPIRE as it is. -/
theorem rfcEvent_holdExpire (k inst detail : Nat) (s : State) :
    (rfcEvent k inst detail s).time.dpll.holdExpire = s.time.dpll.holdExpire := by
  rw [rfcEvent, raise_time]
  rfl

/-- A bound above the limit asserts HOLD_EXPIRE (R359). -/
theorem holdExpiry_of_high {s : State}
    (h : s.time.dpll.bound = none ∨ ∃ b, s.time.dpll.bound = some b ∧ qRd s.quire.active fRef 8 4 * asPerNs < b) :
    (holdExpiry s).time.dpll.holdExpire = true := by
  unfold holdExpiry
  obtain h | ⟨b, h, hb⟩ := h
  all_goals
    simp only [if_true, *, decide_true]
    split
    · rfl
    · rw [rfcEvent_holdExpire]
      rfl

/-- A bound within the limit asserts nothing; the second evaluation in a row at or below nine-tenths of it releases. -/
theorem holdExpiry_of_within {s : State} {b : Nat} (h : s.time.dpll.bound = some b)
    (hb : b ≤ qRd s.quire.active fRef 8 4 * asPerNs) :
    (holdExpiry s).time.dpll.holdExpire = (s.time.dpll.holdExpire && decide
      ((if 10 * b ≤ 9 * (qRd s.quire.active fRef 8 4 * asPerNs) then s.time.dpll.lowEvals + 1 else 0) < 2)) := by
  have hno : ¬ qRd s.quire.active fRef 8 4 * asPerNs < b := Nat.not_lt.mpr hb
  unfold holdExpiry
  simp only [h, hno, decide_false, Bool.false_eq_true, if_false, decide_eq_true_eq]
  rfl

/-- Writing the time base sets its seconds and increments and nothing else of it. -/
theorem writeTimeBase_base (n : Nat) (s : State) : (writeTimeBase n s).tb =
    { s.tb with sec := BitVec.ofNat 48 (n / incsPerSec), inc := n % incsPerSec } := by
  unfold writeTimeBase
  simp only [setTime_tb, foldl_tb, evaluateSource_tb, setDst_tb, ite_tb, ite_self, implies_true]

/-- The whole count of increments of a time base. -/
def totalIncs (b : TimeBase) : Nat := b.sec.toNat * incsPerSec + b.inc

/-- The whole count of increments that a written time base holds. -/
theorem totalIncs_writeTimeBase {n : Nat} (hn : n < 2 ^ 48 * incsPerSec) (s : State) :
    totalIncs (writeTimeBase n s).tb = n := by
  rw [totalIncs, writeTimeBase_base]
  have hsec : n / incsPerSec < 2 ^ 48 := Nat.div_lt_of_lt_mul (by rwa [Nat.mul_comm])
  simp only [BitVec.toNat_ofNat, Nat.mod_eq_of_lt hsec]
  exact Nat.div_add_mod' n incsPerSec

/-- The time base acquired, nothing else changed. -/
def acquire (s : State) : State := { s with tb := { s.tb with acquired := true } }

/-- The step of the acquisition by a number of whole increments (R388). -/
def stepTime (delta : Int) (s : State) : State :=
  setTime (fun t => { t with stepDue := none }) (acquire (writeTimeBase ((totalIncs s.tb : Int) + delta).toNat s))

theorem acquire_base (s : State) : (acquire s).tb = { s.tb with acquired := true } := rfl

theorem stepTime_base (delta : Int) (s : State) :
    (stepTime delta s).tb = { (writeTimeBase ((totalIncs s.tb : Int) + delta).toNat s).tb with acquired := true } := by
  rw [stepTime, setTime_tb, acquire_base]

/-- A step that stays within 48 bits of seconds moves the total by just its increments. -/
theorem totalIncs_stepTime {delta : Int} {s : State} (h0 : 0 ≤ (totalIncs s.tb : Int) + delta)
    (hmax : (totalIncs s.tb : Int) + delta < 2 ^ 48 * incsPerSec) :
    (totalIncs (stepTime delta s).tb : Int) = totalIncs s.tb + delta := by
  have hlt : ((totalIncs s.tb : Int) + delta).toNat < 2 ^ 48 * incsPerSec := (Int.toNat_lt h0).mpr (by push_cast; exact hmax)
  have h := totalIncs_writeTimeBase hlt s
  have hacq (b : TimeBase) : totalIncs { b with acquired := true } = totalIncs b := rfl
  rw [stepTime_base, hacq, h, Int.toNat_of_nonneg h0]

theorem execAcquisitionStep_due {copied : Option Int} {t0 k : Nat} {s : State} (hacq : s.tb.acquired = false)
    (hr : s.boot.inReset = false) (hdec : decidesRefs s = true) (hdue : s.time.stepDue = some t0) (hle : t0 ≤ now s)
    (hsel : s.time.dpll.selected = some k) :
    exec (.acquisitionStep copied) s = .next (stepTime (-(refAt s k).phase / 1250) s) := by
  simp only [exec, execAcquisitionStep, hacq, hr, hdec, hdue, hle, hsel, Bool.false_eq_true, or_self, if_false, if_true,
    stepTime, acquire,
    totalIncs]

theorem execAcquisitionStep_copied {d : Int} {s : State} (hacq : s.tb.acquired = false)
    (hr : s.boot.inReset = false) (hdec : decidesRefs s = false) :
    exec (.acquisitionStep (some d)) s = .next (stepTime d s) := by
  simp only [exec, execAcquisitionStep, hacq, hr, hdec, Bool.false_eq_true, or_self, if_false, stepTime, acquire,
    totalIncs]

/-- TIM_SET at its cycle end writes the increment at or below its value (R388). -/
theorem execTimSetApply_due {p : PendingSet} {s : State} (hp : s.time.pendingSet = [p]) (hdue : p.due ≤ now s)
    (hwin : now s < p.due + ticksPerStep) (hacq : s.tb.acquired = false) :
    ∃ t, exec .timSetApply s = .next t ∧ t.tb = { s.tb with
      sec := BitVec.ofNat 48 ((p.sec * incsPerSec + p.ns * 4 / 5) / incsPerSec)
      inc := (p.sec * incsPerSec + p.ns * 4 / 5) % incsPerSec } := by
  have hnone : (now s - p.due) / ticksPerStep = 0 := Nat.div_eq_of_lt (by omega)
  have hrow : ∃ row, catalogue 0x0D06 = some row := ⟨_, rfl⟩
  obtain ⟨row, hrow⟩ := hrow
  refine ⟨concludeLater row p.req (okay (writeTimeBase (p.sec * incsPerSec + p.ns * 4 / 5)
    (setTime (fun t => { t with pendingSet := [] }) s)) []), ?_, ?_⟩
  · simp only [exec, execTimSetApply, hp, hrow, if_neg (Nat.not_lt.mpr hdue), hacq, hnone, Bool.false_eq_true,
      if_false, add_zero]
  · rw [concludeLater_tb, okay_tb, writeTimeBase_base, setTime_tb]

end Sys2Proof.Proofs
end

section
/-! The statements about the references' events, the clocks and the time base. -/

namespace Sys2Proof.Proofs

open Sys2Proof Sys2Proof.Machine Sys2Proof.Safety Sys2Proof.Laws

/-- Settles O37: each event takes the branch its hypotheses select. -/
theorem referenceEvents : Obligations.ReferenceEvents := by
  unfold Obligations.ReferenceEvents
  intro r s
  refine ⟨fun meas h1 h2 h3 => ?decides, fun meas h1 h2 h3 => ?standby, fun spec hspec => ⟨?high, ?within, ?low⟩,
    fun meas h1 => ?once, fun stamp p hr hen hk hact hp => ⟨fun hgood => ?good, fun hbad => ?bad⟩, fun ppt hen => ?atom,
    fun hr h12 hen hk => ?edges, fun hr => ?fault, fun hact h15 hdec hq => ?faulted, fun hr hdec hq hlate => ?expiry,
    fun hq => ?noExpiry, fun fb hfb => ⟨?fence, fun e he hle hgt => ?between, fun e t he hle ht hf => ?fenced,
      fun e he hle ht => ?below⟩⟩
  case decides => simp [exec, execTaiSecondEvaluation, h1, h2, h3]
  case standby =>
    simp only [exec, execTaiSecondEvaluation, h1, h2, h3, Bool.false_eq_true, or_self, if_false]
    rfl
  case high =>
    subst hspec
    exact holdExpiry_of_high
  case within =>
    subst hspec
    intro b hb hle hno
    rw [holdExpiry_of_within hb hle, hno, Bool.false_and]
  case low =>
    subst hspec
    intro b hb hlow hyes
    rw [holdExpiry_of_within hb (by omega), hyes, if_pos hlow, Bool.true_and, decide_eq_false_iff_not]
    omega
  case once => simp [exec, execTaiSecondEvaluation, h1]
  case good =>
    subst hp
    have hno : ¬ (13 ≤ r ∨ ¬ refEnabled s.quire.active r = true ∨ refKind s.quire.active r < 2) := by simp [hen]; omega
    simp only [exec, execReferencePulse, if_neg hno, hact, if_true, hgood, if_neg (show refKind s.quire.active r ≠ 2 by omega)]
  case bad =>
    subst hp
    have hno : ¬ (13 ≤ r ∨ ¬ refEnabled s.quire.active r = true ∨ refKind s.quire.active r < 2) := by simp [hen]; omega
    simp only [exec, execReferencePulse, if_neg hno, hact, if_true, hbad, Bool.false_eq_true, if_false]
  case atom => simp [exec, execAtomCountCycle, hen]
  case edges =>
    have hno : ¬ (15 ≤ r ∨ ¬ refEnabled s.quire.active r = true) := by simp [hen]; omega
    simp only [exec, execClockReferenceActivityRestored, if_neg hno, if_neg h12, hk, if_true]
  case fault =>
    have h14 : r ≠ 14 := by omega
    have h13 : r ≠ 13 := by omega
    have h12 : r ≠ 12 := by omega
    have h15 : ¬ 15 ≤ r := by omega
    simp only [exec, execReferenceActivityFault, h15, h13, h14, false_and, or_self, if_false, id, ne_eq, h12,
      not_false_eq_true, decide_true, Bool.and_true]
    rfl
  case faulted =>
    have hno : ¬ (¬ (refAt s r).active = true ∨ r = 15) := by simp [hact, h15]
    have hdec' : ¬ (¬ decidesRefs s = true ∨ (refAt s r).q = 0) := by simp [hdec, hq]
    simp only [activityFault, if_neg hno, if_neg hdec']
    split <;> rfl
  case expiry =>
    have hno : ¬ (15 ≤ r ∨ ¬ decidesRefs s = true ∨ (refAt s r).q ≠ 5 ∨
        now s < (refAt s r).bridgeSince + holdMs s.quire.active r * ticksPerMs) := by simp [hdec, hq]; omega
    simp only [exec, execReferenceHoldExpiry, if_neg hno]
  case noExpiry => simp [exec, execReferenceHoldExpiry, hq]
  case fence =>
    subst hfb
    rintro (h | ⟨e, h, he⟩)
    · simp only [fenceEvaluation, h]
      split <;> rfl
    · simp only [fenceEvaluation, h, if_pos he]
      split <;> rfl
  case between =>
    subst hfb
    simp only [fenceEvaluation, he, if_neg (Nat.not_lt.mpr hle), if_neg (Nat.not_le.mpr hgt)]
  case fenced =>
    subst hfb
    have hno : ¬ fenceBound s * asPerNs < e := by omega
    refine ⟨fun hlate => ?_, fun hearly => ?_⟩
    · simp only [fenceEvaluation, he, if_neg hno, if_pos hle, ht, hf, Option.getD_some, hlate, and_self, if_true]
    · simp only [fenceEvaluation, he, if_neg hno, if_pos hle, ht, Option.getD_some, Nat.not_le.mpr hearly, and_false,
        if_false]
      rw [← ht]
  case below =>
    subst hfb
    have hno : ¬ fenceBound s * asPerNs < e := by omega
    have hearly : ¬ now s + ticksPerSec ≤ now s := by simp [ticksPerSec]
    simp only [fenceEvaluation, he, if_neg hno, if_pos hle, ht, Option.getD_none, hearly, and_false, if_false]

/-- Settles O38: each event takes the branch its hypotheses select. -/
theorem clockEvents : Obligations.ClockEvents := by
  unfold Obligations.ClockEvents
  intro err d s
  refine ⟨fun c hr hdec => ⟨fun h1 h3 => ?loop, fun h4 => ?bridging, fun h5 => ?holdover, fun h0 => ?free⟩,
    fun hr hdec => ?missing, fun c hr hdec => ?copy, fun r w hsel hw h1 h3 hdec hrung hin => ⟨fun hfin hst => ?rung,
      fun hfin hst => ?rungLock, fun hfin hst => ?lock⟩, fun hw => ?noLadder, fun h9 h13 hs => ?lost, fun h9 h13 hs hl => ?relock,
    fun root hr => ?sysref, fun o k fl hfl ho h0 h3 hlast hk hin => ?edge, fun o k h0 => ?noEdge⟩
  case loop => simp only [exec, execDpllPhaseUpdate, hr, hdec, h1, h3, and_self, Bool.false_eq_true, if_false, if_true]
  case bridging => simp [exec, execDpllPhaseUpdate, hr, hdec, h4]
  case holdover => simp [exec, execDpllPhaseUpdate, hr, hdec, h5]
  case free => simp [exec, execDpllPhaseUpdate, hr, hdec, h0]
  case missing =>
    simp only [exec, execDpllPhaseUpdate, hr, hdec, Bool.false_eq_true, if_false]
    rfl
  case copy =>
    simp only [exec, execDpllPhaseUpdate, hr, hdec, Bool.false_eq_true, if_false]
    refine ⟨_, rfl, (clampRho _).1, (clampRho _).2, rfl, ?_, ?_, rfl, rfl, rfl⟩
    · exact le_max_left _ _
    · exact max_le (by decide) (min_le_left _ _)
  case rung =>
    have hno : ¬ (s.time.dpll.state = 0 ∨ 4 ≤ s.time.dpll.state ∨ ¬ decidesRefs s = true ∨
        now s < s.time.dpll.rungSince + rungField s.quire.active s.time.dpll.rung 4 * ticksPerSec ∨
        now s < w + rungField s.quire.active s.time.dpll.rung 4 * ticksPerSec) := by simp [hdec]; omega
    simp only [exec, execLadderAdvance, hsel, hw, if_neg hno, if_pos hfin, if_neg hst]
  case rungLock =>
    have hno : ¬ (s.time.dpll.state = 0 ∨ 4 ≤ s.time.dpll.state ∨ ¬ decidesRefs s = true ∨
        now s < s.time.dpll.rungSince + rungField s.quire.active s.time.dpll.rung 4 * ticksPerSec ∨
        now s < w + rungField s.quire.active s.time.dpll.rung 4 * ticksPerSec) := by simp [hdec]; omega
    simp only [exec, execLadderAdvance, hsel, hw, if_neg hno, if_pos hfin, if_pos hst]
  case lock =>
    have hno : ¬ (s.time.dpll.state = 0 ∨ 4 ≤ s.time.dpll.state ∨ ¬ decidesRefs s = true ∨
        now s < s.time.dpll.rungSince + rungField s.quire.active s.time.dpll.rung 4 * ticksPerSec ∨
        now s < w + rungField s.quire.active s.time.dpll.rung 4 * ticksPerSec) := by simp [hdec]; omega
    simp only [exec, execLadderAdvance, hsel, hw, if_neg hno, if_neg (Nat.not_lt.mpr hfin), if_pos hst]
  case noLadder =>
    simp only [exec, execLadderAdvance, hw]
    cases s.time.dpll.selected <;> rfl
  case lost =>
    have hno : ¬ (d < 9 ∨ 13 < d ∨ synthState s d ≠ 2) := by omega
    simp only [exec, execSynthLockLoss, if_neg hno]
  case relock =>
    have hno : ¬ (d < 9 ∨ 13 < d ∨ synthState s d ≠ 3 ∨ loadWaits s (500 + d) 2 = true) := by simp [hl]; omega
    simp only [exec, execSynthRelock, if_neg hno]
  case sysref => simp [exec, execSysrefLoss, hr]
  case edge =>
    subst hfl
    have hno : ¬ (6 ≤ o ∨ ¬ bit (pulseField s.quire.active o 0 1) 0 = true ∨
        (mget (fun _ => ({} : PulseOut)) s.time.pulses o).lastEdge = some k ∨
        (o < 4 ∧ k % pulseField s.quire.active o 4 1 ≠ 0)) := by simp [h0, hlast, hk]; omega
    have h4 : ¬ 4 ≤ o := by omega
    have hnone (x : Int) : inputPhase s o x = none := by simp [inputPhase, hin, alignRef]
    refine congrArg _ ((if_neg hno).trans ?_)
    simp only [hnone, hin, if_true, ho, h3, h4, decide_false, Bool.false_and, Bool.false_or, Bool.false_eq_true, if_false,
      Int.zero_ediv, add_zero]
  case noEdge => simp [exec, execPulseOutputEdge, h0]

/-- Settles O41: the written time base holds the increments it is given. -/
theorem timeBaseEvents : Obligations.TimeBaseEvents := by
  unfold Obligations.TimeBaseEvents
  intro s total htotal
  obtain rfl : total = totalIncs := htotal
  refine ⟨fun copied hacq => ?acquired, fun copied t0 k hacq hr hdec hdue hle hsel h0 hmax => ?step,
    fun d hacq hr hdec h0 hmax => ?standby, fun p hp hdue hwin hacq hsec hns => ?set, fun hp => ?noSet, ?read,
    fun t d hl ht hdone => ?leap, fun hl => ?noLeap, fun i hi hen => ⟨?roll, rfl⟩⟩
  case acquired => simp [exec, execAcquisitionStep, hacq]
  case step =>
    refine ⟨_, execAcquisitionStep_due hacq hr hdec hdue hle hsel, rfl, ?_, ?_, totalIncs_stepTime h0 hmax, ?_, rfl⟩
    all_goals rw [stepTime_base, writeTimeBase_base]
    exact Nat.mod_lt _ (by decide)
  case standby =>
    exact ⟨_, execAcquisitionStep_copied hacq hr hdec, rfl, totalIncs_stepTime h0 hmax⟩
  case set =>
    obtain ⟨t, ht, hbase⟩ := execTimSetApply_due hp hdue hwin hacq
    have hinc : p.ns * 4 / 5 < incsPerSec := by
      rw [show incsPerSec = 800000000 from rfl]
      omega
    have hpos : 0 < incsPerSec := by decide
    have hmod : (p.sec * incsPerSec + p.ns * 4 / 5) % incsPerSec = p.ns * 4 / 5 := by
      rw [Nat.mul_add_mod_self_right, Nat.mod_eq_of_lt hinc]
    have hdiv : (p.sec * incsPerSec + p.ns * 4 / 5) / incsPerSec = p.sec := by
      rw [Nat.mul_comm, Nat.mul_add_div hpos, Nat.div_eq_of_lt hinc, add_zero]
    rw [hmod, hdiv] at hbase
    refine ⟨t, ht, ?_⟩
    rw [hbase]
    refine ⟨hacq, ?_, ?_, ?_⟩
    · exact (BitVec.toNat_ofNat ..).trans (Nat.mod_eq_of_lt hsec)
    all_goals dsimp only; omega
  case noSet => simp [exec, execTimSetApply, hp]
  case read => rfl
  case leap =>
    simp only [exec, execLeapSecond, hl, ht, ne_eq, hdone, not_false_eq_true, and_self, if_true]
    rfl
  case noLeap => simp [exec, execLeapSecond, hl]
  case roll =>
    have : piEnabled s.quire.active i = true := by simp [piEnabled, hi, hen]
    simp only [exec, execKeyRollover, this, if_true, rollOver]

end Sys2Proof.Proofs
end

section
/-! SUPPORT. Sources that are lost, and the LAN commands. -/

namespace Sys2Proof.Proofs

open Sys2Proof Sys2Proof.Machine Sys2Proof.Safety Sys2Proof.Laws

/-- A source that enters a state is in it. -/
@[simp] theorem srcEnter_state (i : Nat) (st : SrcState) (s : State) : (srcSlot (srcEnter i st s) i).state = st := by
  unfold srcEnter
  split
  · assumption
  · simp

@[simp] theorem srcEnter_lanes (i : Nat) (st : SrcState) (s : State) : (srcEnter i st s).lanes = s.lanes := by
  unfold srcEnter
  split
  · rfl
  · rw [raise_lanes]
    rfl

@[simp] theorem srcLost_lanes (i : Nat) (s : State) : (srcLost i s).lanes = s.lanes := by
  unfold srcLost
  split
  · rw [srcEnter_lanes]
    rfl
  · rfl

theorem srcLost_state {i : Nat} {s : State} (h : srcEnabled s.quire.active i = true) :
    (srcSlot (srcLost i s) i).state = .lost := by
  rw [srcLost, if_pos h, srcEnter_state]

/-- A lane's loss touches no lane. -/
@[simp] theorem laneLost_lanes (l : Nat) (s : State) : (laneLost l s).lanes = s.lanes := by
  unfold laneLost
  split
  · exact srcLost_lanes ..
  · rfl

theorem laneLost_state {l i : Nat} {s : State} (hi : laneSource s l = some i) (h : srcEnabled s.quire.active i = true) :
    (srcSlot (laneLost l s) i).state = .lost := by
  rw [laneLost, hi]
  exact srcLost_state h

theorem laneAt_eq_of_lanes {s t : State} (h : t.lanes = s.lanes) (l : Nat) : laneAt t l = laneAt s l := by
  rw [laneAt, laneAt, h]

/-- A lane that is alone in its gang drops no other. -/
theorem gangDrop_alone {l : Nat} {s : State} (h : gangLanes s.quire.active l = [l]) : gangDrop l s = s := by
  simp [gangDrop, h]

/-- What a caller may see of a lane does not depend on the lanes' own states. -/
theorem laneVisible_setLane (r : Req) (k : Nat) (f : Lane → Lane) (s : State) :
    laneVisible r (setLane k f s) = laneVisible r s := rfl

/-- Clearing the counters of visible lanes may look at what is visible before or after each clear. -/
theorem foldl_clearVisible (r : Req) (first : Nat) (f : Lane → Lane) (l : List Nat) (s t : State)
    (h : laneVisible r t = laneVisible r s) :
    l.foldl (fun t j => if laneVisible r s (first + j) then setLane (first + j) f t else t) t =
      l.foldl (fun t j => if laneVisible r t (first + j) then setLane (first + j) f t else t) t := by
  induction l generalizing t with
  | nil => rfl
  | cons j l ih =>
    simp only [List.foldl_cons, h]
    refine ih _ ?_
    split
    · exact h
    · exact h

/-- What enabling the checker alone makes of a lane (R154). -/
theorem prbsSet_checker (q : Quire) (t l pat rate : Nat) {x : Lane} (h : x.gen = false) :
    (prbsSet q t l 2 pat rate 0 0 x).rx = 5 ∧ (prbsSet q t l 2 pat rate 0 0 x).chk = true ∧
      (prbsSet q t l 2 pat rate 0 0 x).tx = x.tx := by
  have hgen : bit 2 0 = false := rfl
  have hchk : bit 2 1 = true := rfl
  simp only [prbsSet, hgen, hchk, h, Bool.false_eq_true, if_false, if_true, rxClear, and_self]

/-- A lane alone in its gang whose checker is enabled is set so, and its source lost (R154). -/
theorem prbsApply_checker {l : Nat} {s : State} (h : gangLanes s.quire.active l = [l]) (pat rate : Nat) :
    prbsApply l 2 pat rate 0 0 s = laneLost l (setLane l (prbsSet s.quire.active (now s) l 2 pat rate 0 0) s) := by
  have hchk : bit 2 1 = true := rfl
  simp only [prbsApply, hchk, if_true]
  rw [gangDrop_alone (s := setLane l _ s) h]

theorem laneAt_prbsApply_checker {l : Nat} {s : State} (h : gangLanes s.quire.active l = [l]) (pat rate m : Nat) :
    laneAt (prbsApply l 2 pat rate 0 0 s) m =
      if m = l then prbsSet s.quire.active (now s) l 2 pat rate 0 0 (laneAt s l) else laneAt s m := by
  rw [prbsApply_checker h, laneAt_eq_of_lanes (laneLost_lanes ..), laneAt_setLane]

/-- What LAN_EQ replies after the settings: values measured on the lane (R155). -/
def eqTail (ctle n : Nat) : Bytes :=
  le 1 (if ctle = 0 then Config.freeNat n % 16 else ctle - 1) ++ (zeros 2 ++ (fit 5 (Config.freeBytes n) ++ zeros 3))

/-- The whole reply of LAN_EQ. -/
def eqReply (l n : Nat) (q : Quire) : Bytes :=
  qBytes q fLanes (32 * l + 16) 5 ++ eqTail (qRd q fLanes (32 * l + 16) 1) n

/-- Whether new equaliser settings restart the adaptation of a lane (R155). -/
def eqRestarts (l : Nat) (e : Bytes) (q : Quire) : Bool :=
  let old := qBytes q fLanes (32 * l + 16) 5
  decide ((rd old 0 1 = 0 ∧ rd e 0 1 ≠ 0) ∨ rd old 1 1 ≠ rd e 1 1)

/-- What a write of equaliser settings leaves: the quire changed, the lane's adaptation perhaps begun again. -/
def eqWritten (l : Nat) (e : Bytes) (restarts : Bool) (s : State) : State :=
  let s1 := countChange { s with quire := { s.quire with active := qWrite s.quire.active fLanes (32 * l + 16) e } }
  (draw (if restarts then setLane l (fun x => { x with adaptSince := now s }) s1 else s1)).2

theorem eqWritten_quire (l : Nat) (e : Bytes) (b : Bool) (s : State) : (eqWritten l e b s).quire = { s.quire with
    active := qWrite s.quire.active fLanes (32 * l + 16) e, changeCount := satInc s.quire.changeCount } := by
  cases b <;> rfl

theorem eqWritten_eq (l : Nat) (e : Bytes) (b : Bool) (s : State) : eqWritten l e b s = { s with
    quire := (eqWritten l e b s).quire, lanes := (eqWritten l e b s).lanes, free := s.free + 1 } := by
  cases b <;> rfl

theorem laneAt_eqWritten {l m : Nat} (h : m ≠ l) (e : Bytes) (b : Bool) (s : State) :
    laneAt (eqWritten l e b s) m = laneAt s m := by
  cases b
  · rfl
  · exact (laneAt_setLane l m (fun x => { x with adaptSince := now s }) s).trans (if_neg h)

end Sys2Proof.Proofs
end

section
/-! The statement about the LAN commands. -/

namespace Sys2Proof.Proofs

open Sys2Proof Sys2Proof.Machine Sys2Proof.Safety Sys2Proof.Laws

/-- Settles O16: each command passes its checks and answers with its body. -/
theorem laneCommands : Obligations.LaneCommands := by
  unfold Obligations.LaneCommands
  intro r s
  refine ⟨?status, ?counters, ?equaliser, ?checker, ?checkerOn, ?eye⟩
  case status =>
    intro h hlen hf hn hrange
    exact command_answers h (checks_ok hlen (by simp [hf, hn, hrange]))
  case counters =>
    intro h hlen hclear hz hf hn hrange
    refine command_answers h ((checks_ok hlen (by simp [hclear, hz, hf, hn, hrange])).trans ?_)
    simp only [bit_zero_of_le_one hclear, decide_eq_true_eq]
    rw [foldl_clearVisible _ _ _ _ _ _ rfl]
    rfl
  case equaliser =>
    intro h hlen hf hz3 hz9 x o hx ho
    subst hx ho
    refine ⟨fun hop => ⟨eqTail (qRd s.quire.active fLanes (32 * rd r.params 0 2 + 16) 1) s.free,
      command_answers h ((checks_ok hlen ?_).trans ?_)⟩, fun hop hform => ?_⟩
    · simp [hf, hz3, hz9, hop]
    · simp only [hop, zero_ne_one, false_and, decide_false, Bool.false_eq_true, if_false, eqTail, List.append_assoc, begun_quire]
      rfl
    · refine ⟨eqWritten (rd r.params 0 2) (slice r.params 4 5)
          (eqRestarts (rd r.params 0 2) (slice r.params 4 5) s.quire.active) (begun 0x0503 r s),
        ⟨eqReply (rd r.params 0 2) s.free (eqWritten (rd r.params 0 2) (slice r.params 4 5)
          (eqRestarts (rd r.params 0 2) (slice r.params 4 5) s.quire.active) (begun 0x0503 r s)).quire.active,
          command_answers h ((checks_ok hlen ?_).trans ?_)⟩, eqWritten_quire .., eqWritten_eq ..,
        fun l hl => laneAt_eqWritten hl ..⟩
      · simpa [hf, hz3, hz9, hop] using hform
      · simp only [hop, true_and, if_true, eqReply, eqTail, List.append_assoc, eqWritten, eqRestarts, begun_quire]
        split <;> rfl
  case checker =>
    intro l en d u hl hen hd hu h hlen hl256 hen4 hpat hinj hexp hopt
    subst hl hen hd hu
    refine command_answers h ((checks_ok hlen ?_).trans ?_)
    · have hexp' : rd r.params 5 1 ≠ 2 ∨ 3 ≤ rd r.params 6 1 ∧ rd r.params 6 1 ≤ 12 := imp_iff_not_or.mp hexp
      rcases hpat with hoff | ⟨h1, h6, hchk, hrate⟩
      · simpa [hl256, hen4, hinj, hopt, hoff] using hexp'
      · have hchk' : ¬ rd r.params 3 1 = 6 ∨ bit (rd r.params 2 1) 1 = false := by
          rw [← Bool.not_eq_true, ← not_and_or]
          exact hchk
        rcases hrate with hrate | ⟨hrate, h6'⟩
        · simpa [hl256, hen4, hinj, hopt, h1, h6, hrate] using And.intro (Or.inr (a := rd r.params 2 1 = 0) hchk') hexp'
        · simpa [hl256, hen4, hinj, hopt, h1, h6, hrate, h6'] using hexp'
    · have hle : rd r.params 7 1 ≤ 1 := by omega
      simp only [bit_zero_of_le_one hle, decide_eq_true_eq]
      rfl
  case checkerOn =>
    intro l pat rate hgang hgen
    have hset := prbsSet_checker s.quire.active (now s) l pat rate hgen
    have hlane := laneAt_prbsApply_checker hgang pat rate
    refine ⟨_, rfl, ?_, ?_, ?_, fun m hm => ?_, fun i hi hen => ?_⟩
    · rw [hlane, if_pos rfl, hset.1]
    · rw [hlane, if_pos rfl, hset.2.1]
    · rw [hlane, if_pos rfl, hset.2.2]
    · rw [hlane, if_neg hm]
    · rw [prbsApply_checker hgang]
      exact laneLost_state hi hen
  case eye =>
    intro h hlen hl hn6 hn12 hz h0 h5
    refine ⟨Config.freeNat s.free % 65, Config.freeNat (s.free + 1),
      command_answers h ((checks_ok hlen (by simp [hl, hn6, hn12, hz])).trans ?_)⟩
    exact if_neg (by rintro (h | h) <;> contradiction)

end Sys2Proof.Proofs
end

section
/-! SUPPORT. Clears of the visible entries of a range, and the lengths of records: what the PKT, FAB, MEM and FSY commands use. -/

namespace Sys2Proof.Proofs

open Sys2Proof Sys2Proof.Machine Sys2Proof.Safety Sys2Proof.Laws

/-- Writing the entries of a range that may be written changes just those. -/
theorem read_foldl_may {β : Type} {get : State → Nat → β} {put : Nat → State → State} {f : β → β}
    (hput : ∀ s k j, get (put k s) j = if j = k then f (get s k) else get s j) (may : Nat → Bool) (first n j : Nat)
    (s : State) :
    get ((List.range n).foldl (fun t i => if may (first + i) then put (first + i) t else t) s) j =
      if first ≤ j ∧ j < first + n ∧ may j = true then f (get s j) else get s j := by
  induction n with
  | zero => simp; omega
  | succ n ih =>
    rw [List.range_succ, List.foldl_append, List.foldl_cons, List.foldl_nil]
    by_cases hj : j = first + n
    · subst hj
      cases hmay : may (first + n) <;> simp [hmay, hput, ih]
    · have hiff : (first ≤ j ∧ j < first + (n + 1) ∧ may j = true) ↔ (first ≤ j ∧ j < first + n ∧ may j = true) := by
        constructor <;> rintro ⟨h1, h2, h3⟩ <;> exact ⟨h1, by omega, h3⟩
      split
      · rw [hput, if_neg hj, ih]
        exact if_congr hiff.symm rfl rfl
      · rw [ih]
        exact if_congr hiff.symm rfl rfl

/-- The same where every entry of the range may be written. -/
theorem read_foldl_from {β : Type} {get : State → Nat → β} {put : Nat → State → State} {f : β → β}
    (hput : ∀ s k j, get (put k s) j = if j = k then f (get s k) else get s j) (first n j : Nat) (s : State) :
    get ((List.range n).foldl (fun t i => put (first + i) t) s) j =
      if first ≤ j ∧ j < first + n then f (get s j) else get s j := by
  have h := read_foldl_may hput (fun _ => true) first n j s
  simpa only [if_true, and_true] using h

/-- A fold of writes that each set only one part of the state sets only that part. -/
theorem foldl_only {α β : Type} {get : State → β} {upd : State → β → State} {put : State → α → State}
    (hput : ∀ s a, put s a = upd s (get (put s a))) (hupd : ∀ s a b, upd (upd s a) b = upd s b)
    (hself : ∀ s, s = upd s (get s)) (l : List α) (s : State) : l.foldl put s = upd s (get (l.foldl put s)) := by
  induction l generalizing s with
  | nil => exact hself s
  | cons a l ih =>
    have hbase (b : β) : upd (put s a) b = upd s b := (congrArg (upd · b) (hput s a)).trans (hupd ..)
    exact (ih (put s a)).trans (hbase _)

@[simp] theorem leI_length (n : Nat) (v : Int) : (leI n v).length = n := le_length ..

@[simp] theorem zeros_length (n : Nat) : (zeros n).length = n := List.length_replicate ..

theorem flatMap_range_length {f : Nat → Bytes} {k : Nat} (h : ∀ i, (f i).length = k) (n : Nat) :
    ((List.range n).flatMap f).length = k * n := by
  simp [List.length_flatMap, h, Nat.mul_comm]

@[simp] theorem cBytes_length (m : Counts) (n : Nat) : (cBytes m n).length = 4 * n :=
  flatMap_range_length (fun _ => le_length ..) n

@[simp] theorem netPort_setNet (p j : Nat) (f : NetPort → NetPort) (s : State) :
    netPort (setNet p f s) j = if j = p then f (netPort s p) else netPort s j := by
  simp [netPort, setNet]

@[simp] theorem flowAt_setFlow (i j : Nat) (f : Flow → Flow) (s : State) :
    flowAt (setFlow i f s) j = if j = i then f (flowAt s i) else flowAt s j := by
  simp [flowAt, setFlow]

@[simp] theorem fabLane_setFab (l j : Nat) (f : FabLane → FabLane) (s : State) :
    fabLane (setFab l f s) j = if j = l then f (fabLane s l) else fabLane s j := by
  simp [fabLane, setFab]

@[simp] theorem rxStream_setRx (n j : Nat) (f : RxStream → RxStream) (s : State) :
    rxStream (setRx n f s) j = if j = n then f (rxStream s n) else rxStream s j := by
  simp [rxStream, setRx]

@[simp] theorem dramGroup_setGroup (g j : Nat) (f : DramGroup → DramGroup) (s : State) :
    dramGroup (setGroup g f s) j = if j = g then f (dramGroup s g) else dramGroup s j := by
  simp [dramGroup, setGroup]

@[simp] theorem syncAt_setSync (i j : Nat) (f : Sync → Sync) (s : State) :
    syncAt (setSync i f s) j = if j = i then f (syncAt s i) else syncAt s j := by
  simp [syncAt, setSync]

@[simp] theorem groupRecord_length (s : State) (g : Nat) : (groupRecord s g).length = 48 := by
  simp [groupRecord]

end Sys2Proof.Proofs
end

section
/-! The statements about the MEM and FSY commands. -/

namespace Sys2Proof.Proofs

open Sys2Proof Sys2Proof.Machine Sys2Proof.Safety Sys2Proof.Laws

/-- A memory group's record once its counters are cleared (R260). -/
def clearedGroup (x : DramGroup) : DramGroup := { x with counts := [] }

/-- A synchroniser's record once its counters are cleared (R262). -/
def clearedSync (y : Sync) : Sync := { y with counts := [] }

/-- What clearing every group's counters leaves. -/
def clearGroups (s : State) : State := (List.range 4).foldl (fun t g => setGroup g clearedGroup t) s

/-- What clearing the counters of the synchronisers of a range that the caller owns leaves. -/
def clearSyncs (may : Nat → Bool) (first n : Nat) (s : State) : State :=
  (List.range n).foldl (fun t j => if may (first + j) then setSync (first + j) clearedSync t else t) s

theorem dramGroup_clearGroups (g : Nat) (s : State) :
    dramGroup (clearGroups s) g = if g < 4 then clearedGroup (dramGroup s g) else dramGroup s g :=
  read_foldl_range (get := dramGroup) (fun s k j => dramGroup_setGroup k j clearedGroup s) 4 g s

theorem clearGroups_only (s : State) :
    clearGroups s = { s with dram := { s.dram with groups := (clearGroups s).dram.groups } } :=
  foldl_only (get := fun t => t.dram.groups) (upd := fun s g => { s with dram := { s.dram with groups := g } })
    (by intros; rfl) (by intros; rfl) (by intros; rfl) _ _

theorem syncAt_clearSyncs (may : Nat → Bool) (first n i : Nat) (s : State) :
    syncAt (clearSyncs may first n s) i =
      if first ≤ i ∧ i < first + n ∧ may i = true then clearedSync (syncAt s i) else syncAt s i :=
  read_foldl_may (get := syncAt) (fun s k j => syncAt_setSync k j clearedSync s) may first n i s

theorem clearSyncs_only (may : Nat → Bool) (first n : Nat) (s : State) :
    clearSyncs may first n s = { s with dram := { s.dram with syncs := (clearSyncs may first n s).dram.syncs } } :=
  foldl_only (get := fun t => t.dram.syncs) (upd := fun s g => { s with dram := { s.dram with syncs := g } })
    (by intros; dsimp only; split <;> rfl) (by intros; rfl) (by intros; rfl) _ _

/-- The reply of MEM_STATUS (R260). -/
def memReply (s : State) : Bytes :=
  le 1 ((List.range 4).map fun g => 2 ^ g * b2n (inService s g)).sum ++ le 1 s.dram.colophon ++ zeros 6 ++
    (List.range 4).flatMap (groupRecord s)

@[simp] theorem memReply_length (s : State) : (memReply s).length = 200 := by
  simp [memReply, flatMap_range_length (groupRecord_length s)]

/-- Settles O25: each command passes its checks and answers with its body; a clear empties the counters of its range. -/
theorem memoryCommands : Obligations.MemoryCommands := by
  unfold Obligations.MemoryCommands
  intro r s
  refine ⟨?groups, ?channels, ?syncs⟩
  case groups =>
    intro h hlen hclear hz
    refine ⟨if rd r.params 0 1 = 1 then clearGroups { begun 0x0801 r s with free := s.free + 8 } else
        { begun 0x0801 r s with free := s.free + 8 }, memReply (begun 0x0801 r s),
      command_answers h ((checks_ok hlen (by simp [hclear, hz])).trans ?_), ?_, memReply_length _, fun g => ?_,
      fun hno => by rw [if_neg (by omega)]; rfl, fun hyes g hg => ?_⟩
    · simp only [bit_zero_of_le_one hclear, decide_eq_true_eq]
      rfl
    · split
      · exact clearGroups_only _
      · rfl
    · split
      · rw [dramGroup_clearGroups]
        split <;> rfl
      · rfl
    · rw [if_pos hyes, dramGroup_clearGroups, if_pos hg]
      rfl
  case channels =>
    intro h hlen hg hz hs
    refine command_answers h ((checks_ok hlen (by simp [hg, hz])).trans ?_)
    exact if_neg hs
  case syncs =>
    intro h hlen hn hrange hclear hz
    refine ⟨if rd r.params 4 1 = 1 then clearSyncs (fun i => owns r (syPen s.quire.active i)) (rd r.params 0 2)
        (rd r.params 2 2) (begun 0x0803 r s) else begun 0x0803 r s,
      command_answers h ((checks_ok hlen ?_).trans ?_), ?_, fun i => ?_, fun i hi => ?_, fun hyes j hj hown => ?_⟩
    · have hfirst : rd r.params 0 2 < 96 := by omega
      have hn96 : rd r.params 2 2 ≤ 96 := by omega
      simp [hfirst, hn, hn96, hrange, hclear, hz]
    · simp only [bit_zero_of_le_one hclear, decide_eq_true_eq]
      rfl
    · split
      · exact clearSyncs_only ..
      · rfl
    · split
      · rw [syncAt_clearSyncs]
        split <;> rfl
      · rfl
    · split
      · next hyes =>
        rw [syncAt_clearSyncs, if_neg]
        · rfl
        · rintro ⟨h1, -, h3⟩
          rcases hi with hi | hi | hi
          · omega
          · simp [hi] at h3
          · omega
      · rfl
    · rw [if_pos hyes, syncAt_clearSyncs, if_pos ⟨by omega, by omega, hown⟩]
      rfl

end Sys2Proof.Proofs
end

section
/-! SUPPORT. The PKT and FLW commands. -/

namespace Sys2Proof.Proofs

open Sys2Proof Sys2Proof.Machine Sys2Proof.Safety Sys2Proof.Laws

/-- A port's record once its counters are cleared (R194). -/
def clearedPort (x : NetPort) : NetPort := { x with counts := [] }

/-- A flow's record once its counters are cleared (R195). -/
def clearedFlow (x : Flow) : Flow := { x with counts := [] }

/-- Only the network ports and the stream of free values differ. -/
def setPorts (s : State) (x : Nat × List (Nat × NetPort)) : State :=
  { s with free := x.1, net := { s.net with ports := x.2 } }

/-- What reading and clearing the counters of a list of ports leaves. -/
def clearPorts (ps : List Nat) (s : State) : State :=
  ps.foldl (fun t p => setNet p clearedPort t) (ps.foldl (fun t p => fecRead p t) s)

theorem fecRead_only (p : Nat) (s : State) : fecRead p s = setPorts s ((fecRead p s).free, (fecRead p s).net.ports) := by
  unfold fecRead
  split <;> rfl

theorem clearPorts_only (ps : List Nat) (s : State) :
    clearPorts ps s = setPorts s ((clearPorts ps s).free, (clearPorts ps s).net.ports) := by
  have hread := foldl_only (get := fun t => (t.free, t.net.ports)) (upd := setPorts) (put := fun t p => fecRead p t)
    (fun s p => fecRead_only p s) (by intros; rfl) (by intros; rfl) ps s
  have hclear := foldl_only (get := fun t => (t.free, t.net.ports)) (upd := setPorts)
    (put := fun t p => setNet p clearedPort t) (by intros; rfl) (by intros; rfl) (by intros; rfl) ps
    (ps.foldl (fun t p => fecRead p t) s)
  exact hclear.trans ((congrArg (setPorts · _) hread).trans rfl)

/-- A port but for its counters. -/
def portRest (s : State) (i : Nat) : NetPort := { netPort s i with counts := [] }

theorem eq_of_portRest_eq {s t : State} {i : Nat} (h : portRest t i = portRest s i) :
    netPort t i = { netPort s i with counts := (netPort t i).counts } :=
  congrArg (fun x : NetPort => { x with counts := (netPort t i).counts }) h

theorem portRest_netCount (p k n i : Nat) (s : State) : portRest (netCount p k n s) i = portRest s i := by
  unfold portRest netCount
  rw [netPort_setNet]
  split
  · subst_vars
    rfl
  · rfl

theorem portRest_fecRead (p i : Nat) (s : State) : portRest (fecRead p s) i = portRest s i := by
  unfold fecRead
  split
  · rfl
  · dsimp only
    rw [portRest_netCount, portRest_netCount]
    rfl

theorem portRest_clearPorts (ps : List Nat) (i : Nat) (s : State) : portRest (clearPorts ps s) i = portRest s i := by
  have hclear (s : State) (p : Nat) : portRest (setNet p clearedPort s) i = portRest s i := by
    unfold portRest
    rw [netPort_setNet]
    split
    · subst_vars
      rfl
    · rfl
  exact (foldl_keeps (get := fun t => portRest t i) hclear _ _).trans
    (foldl_keeps (get := fun t => portRest t i) (fun s p => portRest_fecRead p i s) _ _)

/-- Every port of the list has no counts after the clear. -/
theorem counts_clearPorts {ps : List Nat} {p : Nat} (h : p ∈ ps) (s : State) : (netPort (clearPorts ps s) p).counts = [] := by
  unfold clearPorts
  generalize ps.foldl (fun t p => fecRead p t) s = u
  have hstep (t : State) (q : Nat) (ht : (netPort t p).counts = []) : (netPort (setNet q clearedPort t) p).counts = [] := by
    rw [netPort_setNet]
    split
    · rfl
    · exact ht
  have hkeep (l : List Nat) (t : State) (ht : (netPort t p).counts = []) :
      (netPort (l.foldl (fun t p => setNet p clearedPort t) t) p).counts = [] := by
    induction l generalizing t with
    | nil => exact ht
    | cons q l ih => exact ih _ (hstep t q ht)
  induction ps generalizing u with
  | nil => cases h
  | cons q l ih =>
    by_cases hq : p = q
    · subst hq
      refine hkeep l _ ?_
      rw [netPort_setNet, if_pos rfl]
      rfl
    · exact ih (List.mem_of_ne_of_mem hq h) _

/-- What clearing the counters of the visible flows of a range leaves. -/
def clearFlows (may : Nat → Bool) (first n : Nat) (s : State) : State :=
  (List.range n).foldl (fun t j => if may (first + j) then setFlow (first + j) clearedFlow t else t) s

theorem flowAt_clearFlows (may : Nat → Bool) (first n i : Nat) (s : State) :
    flowAt (clearFlows may first n s) i =
      if first ≤ i ∧ i < first + n ∧ may i = true then clearedFlow (flowAt s i) else flowAt s i :=
  read_foldl_may (get := flowAt) (fun s k j => flowAt_setFlow k j clearedFlow s) may first n i s

theorem clearFlows_only (may : Nat → Bool) (first n : Nat) (s : State) :
    clearFlows may first n s = { s with net := { s.net with flows := (clearFlows may first n s).net.flows } } :=
  foldl_only (get := fun t => t.net.flows) (upd := fun s g => { s with net := { s.net with flows := g } })
    (by intros; dsimp only; split <;> rfl) (by intros; rfl) (by intros; rfl) _ _

/-- The reply of PKT_COUNTERS (R194). -/
def pktCounterReply (ps : List Nat) (s : State) : Bytes :=
  ps.flatMap fun p => le 2 p ++ zeros 6 ++ (List.range 16).flatMap fun k => le 8 (mget (fun _ => 0) (netPort s p).counts k)

theorem pktCounterReply_length (ps : List Nat) (s : State) : (pktCounterReply ps s).length = 136 * ps.length := by
  have hone (p : Nat) : (le 2 p ++ zeros 6 ++
      (List.range 16).flatMap fun k => le 8 (mget (fun _ => 0) (netPort s p).counts k)).length = 136 := by
    simp [flatMap_range_length (k := 8)]
  simp [pktCounterReply, List.length_flatMap, flatMap_range_length (k := 8), Nat.mul_comm]

/-- The ports a PKT_COUNTERS names. -/
def pktPorts (r : Req) : List Nat :=
  (List.range (rd r.params 4 2)).map fun j => setPortNo (rd r.params 0 1) (rd r.params 2 2 + j)

/-- A host frame queued for a port, the next handle taken (R196). -/
def queueFrame (p : Nat) (fr : HostFrame) (s : State) : State :=
  let s1 := setNet p (fun y => { y with hostQ := hostInsert y.hostQ fr }) s
  { s1 with net := { s1.net with nextHandle := (s.net.nextHandle + 1) % 2 ^ 32 } }

theorem netPort_queueFrame (p : Nat) (fr : HostFrame) (s : State) (o : Nat) : netPort (queueFrame p fr s) o =
    if o = p then { netPort s p with hostQ := hostInsert (netPort s p).hostQ fr } else netPort s o :=
  netPort_setNet p o (fun y => { y with hostQ := hostInsert y.hostQ fr }) s

theorem not_busy {p : Nat} {s : State} (huse : portInUse s.quire.active p = false) (hent : (netPort s p).entering = false) :
    ¬ (portInUse s.quire.active p = true ∨ (netPort s p).entering = true) := by
  simp [huse, hent]

/-- The wake pattern j that a PKT_WATCH names (R197). -/
def watchPattern (r : Req) (j : Nat) : Bytes × Nat :=
  (slice r.params (8 + 72 * j) 64, if bit (rd r.params 4 1) j then rd r.params (8 + 72 * j + 64) 8 else 2 ^ 64)

/-- A port's record with the wake patterns of a PKT_WATCH. -/
def watchSet (r : Req) (entering : Bool) (y : NetPort) : NetPort :=
  { y with
    patterns := (List.range 4).map (watchPattern r), wakeOnSignal := bit (rd r.params 3 1) 0, entering := entering }

end Sys2Proof.Proofs
end

section
/-! The statement about the PKT and FLW commands. -/

namespace Sys2Proof.Proofs

open Sys2Proof Sys2Proof.Machine Sys2Proof.Safety Sys2Proof.Laws

/-- Settles O18: each command passes its checks and answers with its body. -/
theorem packetCommands : Obligations.PacketCommands := by
  unfold Obligations.PacketCommands
  intro r s
  refine ⟨?status, ?counters, ?flows, ?launch, ?watch⟩
  case status =>
    intro h hlen hform
    exact command_answers h (checks_ok hlen hform)
  case counters =>
    intro h hlen hform
    refine ⟨clearPorts (pktPorts r) (begun 0x0602 r s),
      pktCounterReply (pktPorts r) ((pktPorts r).foldl (fun t p => fecRead p t) (begun 0x0602 r s)),
      command_answers h (checks_ok hlen hform), ?_, clearPorts_only .., fun j hj => counts_clearPorts ?_ _,
      fun i => eq_of_portRest_eq (portRest_clearPorts ..)⟩
    · rw [pktCounterReply_length, pktPorts, List.length_map, List.length_range]
    · exact List.mem_map_of_mem (List.mem_range.mpr hj)
  case flows =>
    intro h hlen hf hn1 hn hrange hz
    refine ⟨fun hno => command_answers h ((checks_ok hlen (by simp [hf, hn1, hn, hrange, hz, hno])).trans ?_), fun hyes =>
      ⟨clearFlows (flowVisible r (begun 0x0603 r s)) (rd r.params 0 2) (rd r.params 2 2) (begun 0x0603 r s),
        rangeRecords (rd r.params 0 2) (rd r.params 2 2) (flowVisible r (begun 0x0603 r s)) (flowRecord (begun 0x0603 r s)),
        command_answers h ((checks_ok hlen (by simp [hf, hn1, hn, hrange, hz, hyes])).trans ?_), clearFlows_only ..,
        fun i => ?_, fun i hi => ?_, fun j hj hvis => ?_⟩⟩
    · rw [hno]
      rfl
    · rw [hyes]
      rfl
    · rw [flowAt_clearFlows]
      split <;> rfl
    · rw [flowAt_clearFlows, if_neg]
      · rfl
      · rintro ⟨h1, -, h3⟩
        rcases hi with hi | hi
        · simp [hi] at h3
        · omega
    · rw [flowAt_clearFlows, if_pos ⟨by omega, by omega, hvis⟩]
      rfl
  case launch =>
    intro h p n at_ hp hn hat hlen hport hfl hz3 hn60 hmax hz12 hearly hlate hpause hroom hup
    subst hp hn hat
    refine ⟨queueFrame (rd r.params 0 2) ⟨s.net.nextHandle, rd r.params 8 8 * ticksPerNs, bit (rd r.params 2 1) 0,
        (if rd r.params 4 4 = 0 then 1000000 else rd r.params 4 4) * ticksPerNs, bit (rd r.params 2 1) 1,
        r.params.drop 24⟩ (begun 0x0604 r s), command_answers h ?_, rfl, rfl, fun o ho => ?_, ?_⟩
    · have hlen' : ¬ (r.params.length < 24 ∨ r.params.length ≠ 24 + rd r.params 0x10 2) := by omega
      have hframe : portMaxFrame s.quire.active (rd r.params 0 2) ≠ 0 := by omega
      have hform : ∀ c ∈ [(isNetPort (rd r.params 0 2), 0), (decide (rd r.params 2 1 ≤ 3), 2), (isZero r.params 3 1, 3),
          (decide (60 ≤ rd r.params 0x10 2 ∧ rd r.params 0x10 2 ≤ (if portMaxFrame s.quire.active (rd r.params 0 2) = 0 then 9212
            else portMaxFrame s.quire.active (rd r.params 0 2) - 4)), 0x10), (isZero r.params 0x12 6, 0x12)], c.1 = true := by
        have : rd r.params 0x10 2 ≤ portMaxFrame s.quire.active (rd r.params 0 2) - 4 := by omega
        simp [hport, hfl, hz3, hz12, hn60, hframe, this]
      have hearly' : ¬ (rd r.params 8 8 * ticksPerNs ≠ 0 ∧ rd r.params 8 8 * ticksPerNs < r.receipt + 50 * ticksPerUs) := by omega
      have hroom' : ¬ hostQueueSize ≤ (netPort s (rd r.params 0 2)).hostQ.length := Nat.not_le.mpr hroom
      refine (if_neg hlen').trans ((needForm_ok hform).trans ?_)
      refine (if_neg hearly').trans ((if_neg (Nat.not_lt.mpr hlate)).trans ((if_neg hpause).trans ((if_neg hroom').trans ?_)))
      exact if_neg (not_not.mpr hup)
    · exact (netPort_queueFrame ..).trans (if_neg ho)
    · exact congrArg NetPort.hostQ ((netPort_queueFrame ..).trans (if_pos rfl))
  case watch =>
    intro h hlen p hp hport hsig hpats hz
    subst hp
    refine ⟨fun hop huse hent => ⟨fun hst => ?enter, fun hst => ?later⟩, fun hop hst => ?wake, fun hop hst => ?off⟩
    case enter =>
      refine ⟨portEnter (rd r.params 0 2) 3 (setNet (rd r.params 0 2) (watchSet r false) (begun 0x0605 r s)),
        command_answers h ((checks_ok hlen (by simp [hport, hsig, hpats, hz, hop])).trans ?_), rfl, ?_, fun o ho => ?_⟩
      · have hst' : (netPort (begun 0x0605 r s) (rd r.params 0 2)).state = 1 := hst
        have hbusy := not_busy (s := begun 0x0605 r s) huse hent
        simp only [hop, if_true, hst', if_neg hbusy, if_false, OfNat.one_ne_ofNat, one_ne_zero, decide_false]
        rfl
      · rw [portEnter, netPort_setNet, if_pos rfl]
      · rw [portEnter, netPort_setNet, if_neg ho, netPort_setNet, if_neg ho]
        rfl
    case later =>
      refine ⟨setNet (rd r.params 0 2) (watchSet r true) (begun 0x0605 r s),
        command_keeps_for_later h ((checks_ok hlen (by simp [hport, hsig, hpats, hz, hop])).trans ?_), rfl, ?_, ?_,
        fun o ho => ?_⟩
      · have hst' : (netPort (begun 0x0605 r s) (rd r.params 0 2)).state = 2 := hst
        have hbusy := not_busy (s := begun 0x0605 r s) huse hent
        simp only [hop, if_true, hst', if_neg hbusy, if_false, OfNat.ofNat_ne_zero, decide_true]
        rfl
      · rw [netPort_setNet, if_pos rfl]
        exact hst
      · rw [netPort_setNet, if_pos rfl]
        rfl
      · rw [netPort_setNet, if_neg ho]
        rfl
    case wake =>
      refine command_keeps_for_later h ((checks_ok hlen (by simp [hport, hsig, hpats, hz, hop])).trans ?_)
      have hst' : (netPort (begun 0x0605 r s) (rd r.params 0 2)).state = 3 := hst
      simp [hop, hst']
    case off =>
      refine command_answers h ((checks_ok hlen (by simp [hport, hsig, hpats, hz, hop])).trans ?_)
      have hst' : (netPort (begun 0x0605 r s) (rd r.params 0 2)).state = 0 := hst
      simp [hst']

end Sys2Proof.Proofs
end

section
/-! SUPPORT. An answer can be read back from the held entry of its sequence. -/

namespace Sys2Proof.Proofs

open Sys2Proof Sys2Proof.Machine Sys2Proof.Safety Sys2Proof.Laws

variable {op : Nat} {r : Req} {a b : Ans}

/-- Sending or holding the reply leaves the port's sequences as the answer recorded them. -/
theorem portOf_answered (hc : (catalogue op).isSome = true) (hdup : r.dup = false) : portOf (answered op r a) r.port =
    countStatus a.status (heldFinish r.seq a.status (a.detailOn r)
      ((rowOf op).c || decide (0x100 ≤ a.status) || a.clearing) a.params (portOf a.st r.port)) := by
  rw [← portOf_recorded]
  by_cases hnow : (rowOf op).c = false ∨ holdsReplies a.st = false
  · rw [answered_sent hc hdup hnow, portOf, (carried_sendReply ..).cmds_eq, ← portOf]
  · simp only [not_or, Bool.not_eq_false] at hnow
    rw [answered_held hc hdup hnow.1 hnow.2]
    rfl

/-- Two clearing reads that end alike replied alike. -/
theorem params_eq_of_answered_eq (hc : (catalogue op).isSome = true) (hdup : r.dup = false) (ha : a.clearing = true)
    (hb : b.clearing = true) (hport : portOf b.st r.port = portOf a.st r.port) {e : HeldEntry}
    (he : e ∈ (portOf a.st r.port).held) (hseq : e.seq = r.seq) (h : answered op r a = answered op r b) :
    a.params = b.params := by
  have hheld := congrArg (fun t => (portOf t r.port).held.map (·.params)) h
  simp only [portOf_answered hc hdup, ha, hb, hport, Bool.or_true, countStatus, heldFinish, if_true, List.map_map,
    List.map_inj_left, Function.comp] at hheld
  simpa [hseq] using hheld e he

end Sys2Proof.Proofs
end

section
/-! The statement about the FAB and STI commands. -/

namespace Sys2Proof.Proofs

open Sys2Proof Sys2Proof.Machine Sys2Proof.Safety Sys2Proof.Laws

/-- A device that takes commands and has no partner. -/
def operational : State := { boot := { ready := true, inReset := false, stage := 6 }, keys := { lifeCycle := 2 } }

/-- STI_STATUS from queue pair 0. -/
def stitchRequest : Req := ⟨.qp 0, portRoot, 0, 0, 1, 0, 0, false, []⟩

/-- What STI_STATUS replies on an operational device. -/
def stitchReply : Bytes := zeros 42

/-- Refutes O22: the fields of the reply of STI_STATUS (R230) make 42 bytes, not 44. -/
theorem not_fabricCommands : ¬ Obligations.FabricCommands := by
  unfold Obligations.FabricCommands
  intro h
  have hstart : Starts 0x0704 stitchRequest operational := ⟨rfl, rfl, rfl⟩
  obtain ⟨p, hexec, hlen, -⟩ := (h stitchRequest operational).2.2.2 hstart rfl
  have hreply : exec (.stiStatus stitchRequest) operational = .next (answered 0x0704 stitchRequest
      { st := setStitch (fun y => { y with counts := [] }) (begun 0x0704 stitchRequest operational)
        params := stitchReply, clearing := true }) :=
    command_answers hstart (needLen_ok rfl)
  rw [hreply] at hexec
  injection hexec with hend
  have hp : stitchReply = p := params_eq_of_answered_eq (e := ⟨1, 0x0704, 0, false, false, 0, 0, []⟩) (by rfl) (by rfl)
    (by rfl) (by rfl) (by rfl) (List.Mem.head []) (by rfl) hend
  exact absurd (hp ▸ hlen) (by decide)

end Sys2Proof.Proofs
end

section
/-! SUPPORT. What a fabric lane's own sending touches (R199, R208): symbols sent, codes and counts. -/

namespace Sys2Proof.Proofs

open Sys2Proof Sys2Proof.Machine Sys2Proof.Safety Sys2Proof.Laws

variable {s t u : State}

/-- A lane but for its code and its counters. -/
def fabRest (s : State) (l : Nat) : FabLane := { fabLane s l with code := {}, counts := [] }

/-- `t` is `s` after lanes sent symbols: only what has been sent and the lanes' codes and counters differ. -/
def LanesSent (s t : State) : Prop :=
  t = { s with fabric := { s.fabric with lanes := t.fabric.lanes }, out := t.out } ∧ ∀ m, fabRest t m = fabRest s m

theorem LanesSent.refl (s : State) : LanesSent s s := ⟨rfl, fun _ => rfl⟩

theorem LanesSent.trans (h : LanesSent s t) (k : LanesSent t u) : LanesSent s u :=
  ⟨by rw [k.1, h.1], fun m => (k.2 m).trans (h.2 m)⟩

theorem fabLane_of_fabRest {l : Nat} (h : fabRest t l = fabRest s l) :
    fabLane t l = { fabLane s l with code := (fabLane t l).code, counts := (fabLane t l).counts } :=
  congrArg (fun x : FabLane => { x with code := (fabLane t l).code, counts := (fabLane t l).counts }) h

theorem lanesSent_emit (o : Out) (s : State) : LanesSent s (emit o s) := ⟨rfl, fun _ => rfl⟩

/-- A change of a lane's code and counters only. -/
theorem lanesSent_setFab (l : Nat) {f : FabLane → FabLane}
    (hf : ∀ x, { f x with code := {}, counts := [] } = { x with code := {}, counts := [] }) (s : State) :
    LanesSent s (setFab l f s) := by
  refine ⟨rfl, fun m => ?_⟩
  unfold fabRest
  rw [fabLane_setFab]
  split
  · subst_vars
    exact hf _
  · rfl

theorem lanesSent_foldl {α : Type} {f : State → α → State} (h : ∀ s a, LanesSent s (f s a)) (l : List α) (s : State) :
    LanesSent s (l.foldl f s) := by
  induction l generalizing s with
  | nil => exact .refl s
  | cons a rest ih => exact (h s a).trans (ih _)

theorem lanesSent_sendSymbols (l plain : Nat) (p : List Nat × LaneCode) (s : State) :
    LanesSent s (sendSymbols l plain p s) := by
  unfold sendSymbols
  dsimp only
  split
  · exact lanesSent_setFab l (by intro; rfl) s
  · exact (lanesSent_setFab l (by intro; rfl) s).trans (lanesSent_emit ..)

theorem lanesSent_laneBlocks (l : Nat) (bs : List Block) (s : State) : LanesSent s (laneBlocks l bs s) := by
  unfold laneBlocks
  dsimp only
  split
  · exact lanesSent_setFab l (by intro; rfl) s
  · exact lanesSent_sendSymbols ..

theorem lanesSent_bondSend (l : Nat) (bs : List Block) (s : State) : LanesSent s (bondSend l bs s) :=
  lanesSent_foldl (fun _ _ => lanesSent_laneBlocks ..) _ _

theorem lanesSent_sendTraining (l : Nat) (s : State) : LanesSent (drawMany 1 s) (sendTraining l s) :=
  lanesSent_sendSymbols ..

/-- Only the lanes, what has been sent and the stream of free values differ. -/
def FabOnly (s t : State) : Prop :=
  t = { s with fabric := { s.fabric with lanes := t.fabric.lanes }, out := t.out, free := t.free }

theorem FabOnly.trans (h : FabOnly s t) (k : FabOnly t u) : FabOnly s u := by
  rw [FabOnly] at *
  rw [k, h]

theorem LanesSent.fabOnly (h : LanesSent s t) : FabOnly s t := by
  rw [FabOnly, h.1]

/-- What a training frame leaves of the lanes: lane l's frames and state are those of y, no other lane has moved on. -/
def Advanced (l : Nat) (y : FabLane) (s t : State) : Prop :=
  FabOnly s t ∧
    (∀ m, m ≠ l → fabLane t m = { fabLane s m with code := (fabLane t m).code, counts := (fabLane t m).counts }) ∧
    (fabLane t l).frames = y.frames ∧ (fabLane t l).state = y.state

theorem advanced_of_sent {l n : Nat} {y : FabLane} (h : LanesSent (setFab l (fun _ => y) (drawMany n s)) t) :
    Advanced l y s t := by
  have hat (m : Nat) : fabLane (setFab l (fun _ => y) (drawMany n s)) m = if m = l then y else fabLane s m :=
    fabLane_setFab l m (fun _ => y) (drawMany n s)
  refine ⟨(show FabOnly s (setFab l (fun _ => y) (drawMany n s)) from rfl).trans h.fabOnly, fun m hm => ?_, ?_, ?_⟩
  · have := fabLane_of_fabRest (h.2 m)
    rwa [hat, if_neg hm] at this
  · rw [fabLane_of_fabRest (h.2 l), hat, if_pos rfl]
  · rw [fabLane_of_fabRest (h.2 l), hat, if_pos rfl]

theorem advanced_bondSend (l n : Nat) (bs : List Block) (y : FabLane) (s : State) :
    Advanced l y s (bondSend l bs (setFab l (fun _ => y) (drawMany n s))) :=
  advanced_of_sent (lanesSent_bondSend ..)

theorem advanced_sendTraining (l n : Nat) (y : FabLane) (s : State) :
    Advanced l y s (sendTraining l (setFab l (fun _ => y) (drawMany n s))) :=
  advanced_of_sent (n := n + 1) (lanesSent_sendTraining l (setFab l (fun _ => y) (drawMany n s)))

/-- Training frames do not move the lane's counts of frames (R208). -/
theorem trainTaps_keeps (q : Quire) (l control : Nat) (x : FabLane) :
    (trainTaps q l control x).frames = x.frames ∧ (trainTaps q l control x).ready = x.ready ∧
      (trainTaps q l control x).extra = x.extra ∧ (trainTaps q l control x).state = x.state := by
  unfold trainTaps
  dsimp only
  split <;> exact ⟨rfl, rfl, rfl, rfl⟩

/-- A lane after the taps of a training frame (R208). -/
def trained (l c st : Nat) (s : State) : FabLane :=
  trainTaps s.quire.active l c { fabLane s l with
    frames := (fabLane s l).frames + 1
    ask := if 3 ≤ (fabLane s l).frames then askTaps s.free (fabLane s l).ask st else 0 }

theorem trained_keeps (l c st : Nat) (s : State) : (trained l c st s).frames = (fabLane s l).frames + 1 ∧
    (trained l c st s).ready = (fabLane s l).ready ∧ (trained l c st s).extra = (fabLane s l).extra ∧
    (trained l c st s).state = (fabLane s l).state :=
  trainTaps_keeps ..

/-- A training frame of the lane's own polarity (R208). -/
theorem execTrainingFrameReceive_same {l c st : Nat} {inv : Bool} {s : State} (h2 : (fabLane s l).state = 2)
    (hinv : inv = (fabLane s l).inverted) : exec (.trainingFrameReceive l inv c st) s = .next
      (if 3 ≤ (trained l c st s).ready then
        if 15 ≤ (trained l c st s).extra then
          bondSend l (List.replicate 10 idleBlock) (setFab l (fun _ => { trained l c st s with
            state := 3, since := now s, fromActive := false, extra := 16 }) (drawMany 3 s))
        else sendTraining l (setFab l (fun _ => { trained l c st s with extra := (trained l c st s).extra + 1 })
          (drawMany 3 s))
      else sendTraining l (setFab l (fun _ => { trained l c st s with
        ready := if decide (3 ≤ (fabLane s l).frames) && bit c 7 then (trained l c st s).ready + 1 else 0 })
          (drawMany 3 s))) :=
  congrArg _ ((if_neg (not_not.mpr h2)).trans (if_neg (not_not.mpr hinv)))

/-- The payload of an audio cell of n samples of some channels from sample n0 on (R215). -/
def audioPayload (samples : List (Nat × List Smp)) (n0 n count : Nat) : Bytes :=
  (List.range n).flatMap fun j => (List.range count).flatMap fun c =>
    leI 3 ((mget (fun _ => []) samples (n0 + j)).getD c (0, 0)).1

theorem audioPayload_length (samples : List (Nat × List Smp)) (n0 n count : Nat) :
    (audioPayload samples n0 n count).length = n * count * 3 := by
  rw [audioPayload, flatMap_range_length (fun _ => flatMap_range_length (fun _ => leI_length ..) count)]
  ring

end Sys2Proof.Proofs
end

section
/-! The statements about lane bring-up and cells. -/

namespace Sys2Proof.Proofs

open Sys2Proof Sys2Proof.Machine Sys2Proof.Safety Sys2Proof.Laws

/-- Settles O23: each event takes the branch of the lane's state that its hypotheses select. -/
theorem fabricBringUp : Obligations.FabricBringUp := by
  unfold Obligations.FabricBringUp
  intro l s
  refine ⟨fun h1 hw => ?detect, fun inv c st h2 hinv => ?inverted, fun inv c st h2 hinv => ?training,
    fun n ns h3 hb => ?lone, fun n ns h3 hb => ⟨fun hns => ?deskewed, fun hns => ?skewed⟩, fun h5 => ?lossActive,
    fun h3 hlock => ?lossBlock, fun c h4 hfail => ?refused, fun c h4 hl hpass hack hown hrun => ?active,
    fun c h5 hsame => ?same, fun c h5 hother => ?changed, fun htime => ?timeout⟩
  case detect => simp [exec, execFabricSignalDetect, h1, hw]
  case inverted =>
    simp only [exec, execTrainingFrameReceive, h2, ne_eq, not_true_eq_false, if_false, if_pos hinv]
  case training =>
    obtain ⟨hframes, hready, hextra, hstate⟩ := trained_keeps l c st s
    rw [execTrainingFrameReceive_same h2 hinv, hready, hextra]
    refine ⟨_, rfl, ?_⟩
    by_cases hr : 3 ≤ (fabLane s l).ready
    · by_cases he : 15 ≤ (fabLane s l).extra
      · rw [if_pos hr, if_pos he]
        obtain ⟨honly, hothers, hf, hst⟩ := advanced_bondSend l 3 (List.replicate 10 idleBlock) _ s
        exact ⟨honly, hothers, hf.trans hframes, fun _ => ⟨hr, he⟩, fun _ => hst⟩
      · rw [if_pos hr, if_neg he]
        obtain ⟨honly, hothers, hf, hst⟩ := advanced_sendTraining l 3 _ s
        exact ⟨honly, hothers, hf.trans hframes, fun h3 => absurd ((hst.trans (hstate.trans h2)).symm.trans h3) (by decide),
          fun h => absurd h.2 he⟩
    · rw [if_neg hr]
      obtain ⟨honly, hothers, hf, hst⟩ := advanced_sendTraining l 3 _ s
      exact ⟨honly, hothers, hf.trans hframes, fun h3 => absurd ((hst.trans (hstate.trans h2)).symm.trans h3) (by decide),
        fun h => absurd h.1 hr⟩
  case lone =>
    have hno : ¬ 1 < (bondLanes s.quire.active l).length := Nat.not_lt.mpr hb
    simp [exec, execBlockLock, h3, hno]
  case deskewed =>
    simp [exec, execBlockLock, h3, hb, hns, Nat.not_lt.mpr hns]
  case skewed =>
    simp [exec, execBlockLock, h3, hb, hns, Nat.not_le.mpr hns]
  case lossActive => simp [exec, execBlockLockLoss, h5]
  case lossBlock => simp [exec, execBlockLockLoss, h3, hlock]
  case refused => simp [exec, execCapsReceive, h4, hfail]
  case active =>
    have hrun' : ¬ (fabLane s l).ackRun + 1 < 3 := by omega
    have hl' : ¬ 64 ≤ l := Nat.not_le.mpr hl
    simp [exec, execCapsReceive, h4, hpass, hack, hown, hrun', hl']
  case same => simp [exec, execCapsReceive, h5, hsame]
  case changed => simp [exec, execCapsReceive, h5, hother]
  case timeout =>
    obtain ⟨hst, ht⟩ | ⟨hst, ht⟩ | ⟨hst, ht⟩ | ⟨hst, ht⟩ := htime <;>
      simp only [exec, execLaneStateTimeout, fabDeadline, hst, if_pos ht]

/-- Settles O24: each event takes the branch that its hypotheses select. -/
theorem fabricCells : Obligations.FabricCells := by
  unfold Obligations.FabricCells
  intro s
  refine ⟨fun l c flagged h5 hl hbad => ?discard, fun l c slot h5 hl hlen hcrc hkind hsrc => ?merge, fun hnone => ?noAgeing,
    fun n x hone => ?ageing, fun stream k line j d f hd hf hact hj hblack => ?picture, fun stream k line j hnone => ?withheld,
    fun stream k d f hd hf => ?status, fun stream n0 e n he hn hpos hmod hrole hlate => ?audio⟩
  case discard =>
    have hno : ¬ ((fabLane s l).state ≠ 5 ∨ 64 ≤ l) := by omega
    refine congrArg _ ((if_neg hno).trans (if_pos ?_))
    obtain h | h | h | h | h | ⟨hk, hsrc⟩ := hbad
    · exact .inl h
    · exact .inr (.inl h)
    · exact .inr (.inr (.inl h))
    · exact .inr (.inr (.inr (.inl (by omega))))
    · exact .inr (.inr (.inr (.inl (by omega))))
    · exact .inr (.inr (.inr (.inr (by simp [hk, hsrc]))))
  case merge =>
    have hno : ¬ ((fabLane s l).state ≠ 5 ∨ 64 ≤ l) := by omega
    simp [exec, execCellReceive, if_neg hno, hlen, hcrc, hkind, hsrc]
  case noAgeing => simp [exec, execFabricMergeAgeing, hnone]
  case ageing => simp [exec, execFabricMergeAgeing, hone]
  case picture =>
    subst hf
    have hno : ¬ (¬ isActive (rasterOf (dstFormat (inForce s d) d)) line = true ∨ lineCells (dstFormat (inForce s d) d) ≤ j) := by
      simp [hact, hj]
    simp only [exec, execPictureCellSend, hd, if_neg hno, hblack, Bool.false_eq_true, if_false]
  case withheld => simp only [exec, execPictureCellSend, execFrameStatusSend, hnone, and_self]
  case status =>
    subst hf
    simp [exec, execFrameStatusSend, hd]
  case audio =>
    subst hn
    have hno : ¬ (roleWithholds s = true ∨ cellSamples (rd e 3 1) = 0 ∨ n0 % cellSamples (rd e 3 1) ≠ 0 ∨
        now s < (n0 + cellSamples (rd e 3 1)) * ticksPerSec / 48000 + 5 * ticksPerUs) := by
      simp [hrole, hmod]
      omega
    refine ⟨audioPayload (txStream s stream).audio n0 (cellSamples (rd e 3 1)) (rd e 3 1), ?_, audioPayload_length ..⟩
    simp only [exec, execAudioCellSend, he, if_neg hno]
    rfl

end Sys2Proof.Proofs
end

section
/-! SUPPORT. Lanes and ports: what the shared operations of their events leave. -/

namespace Sys2Proof.Proofs

open Sys2Proof Sys2Proof.Machine Sys2Proof.Safety Sys2Proof.Laws

/-- A change of a port's record is decided by what it makes of the record that is there. -/
theorem setNet_congr {p : Nat} {f g : NetPort → NetPort} {s : State} (h : f (netPort s p) = g (netPort s p)) :
    setNet p f s = setNet p g s := by
  simp only [setNet, mmod]
  rw [show mget noNet s.net.ports p = netPort s p from rfl, h]

theorem setLane_congr {l : Nat} {f g : Lane → Lane} {s : State} (h : f (laneAt s l) = g (laneAt s l)) :
    setLane l f s = setLane l g s := by
  simp only [setLane, mmod]
  rw [show mget noLane s.lanes l = laneAt s l from rfl, h]

/-- A pause that has run its time is counted from where it began (R167). -/
theorem endPause_of_over {t a : Nat} {x : NetPort} (ha : x.pausedFrom = some a) (h1 : a ≤ x.pauseEnd) (h2 : x.pauseEnd ≤ t) :
    endPause t x = { x with pauseEnd := 0, pausedFrom := none, counts := nAdd x.counts 11 (nsOf (x.pauseEnd - a)) } := by
  rw [endPause, ha]
  dsimp only
  rw [max_eq_right h1, min_eq_right h2]

/-- What ageing the merge records of one pair's first entry leaves: what its lines complete is written. -/
def flushEntry (e : Bytes) (slot : Option Nat) (t : State) : State :=
  match slot with
  | some slot =>
    if feEssence e = 1 then flushLines (rd e 0 2) slot t else if feEssence e = 6 then sdiLines (rd e 0 2) slot 4096 t else t
  | none => t

theorem flushEntry_other {e : Bytes} (h1 : feEssence e ≠ 1) (h6 : feEssence e ≠ 6) (slot : Option Nat) (t : State) :
    flushEntry e slot t = t := by
  cases slot with
  | none => rfl
  | some i => exact (if_neg h1).trans (if_neg h6)

/-- An Ethernet lane whose port comes up is in STREAM. -/
def streamLane (p : Nat) (s : State) : State := if 0x100 ≤ p then setLane (p - 0x100) (fun l => { l with rx := 4 }) s else s

theorem streamLane_only (p : Nat) (s : State) : streamLane p s = { s with lanes := (streamLane p s).lanes } := by
  unfold streamLane
  split <;> rfl

/-- What a port's coming up leaves of its record (R159). -/
def upPort (p ns : Nat) (s : State) : State :=
  portEnter p 2 (setNet p (fun y =>
    { y with faults := 0, skew := ns, fecLocked := decide (portFec s.quire.active p ≠ 0), deskewed := true }) s)

theorem netPort_upPort (p ns o : Nat) (s : State) : netPort (upPort p ns s) o = if o = p then { netPort s p with
    state := 2, stateTime := now s, faults := 0, skew := ns, fecLocked := decide (portFec s.quire.active p ≠ 0)
    deskewed := true } else netPort s o := by
  rw [upPort, portEnter, netPort_setNet, netPort_setNet, if_pos rfl, netPort_setNet]
  split <;> rfl

/-- A port's coming up, with the membership reports it queues (R159, R168). -/
def cameUp (p ns : Nat) (s : State) : State :=
  { streamLane p (upPort p ns s) with net := { (streamLane p (upPort p ns s)).net with
      reports := (streamLane p (upPort p ns s)).net.reports ++
        (joinFlows s.quire.active p).flatMap (joinReports (now s)) } }

theorem cameUp_net (p ns : Nat) (s : State) : (cameUp p ns s).net = { (upPort p ns s).net with
    reports := s.net.reports ++ (joinFlows s.quire.active p).flatMap (joinReports (now s)) } := by
  rw [cameUp, streamLane_only]
  rfl

theorem netPort_cameUp (p ns o : Nat) (s : State) : netPort (cameUp p ns s) o = netPort (upPort p ns s) o := by
  rw [netPort, cameUp_net]
  rfl

theorem cameUp_only (p ns : Nat) (s : State) :
    cameUp p ns s = { s with net := (cameUp p ns s).net, lanes := (cameUp p ns s).lanes } := by
  rw [cameUp, streamLane_only]
  rfl

/-- Ageing with one receive entry, the first of its pair (R180). -/
theorem execMergeRecordAgeing_pair {e : Bytes} {s : State} (he : receiveEntries s.quire.active = [e]) (hpair : fePair e ≠ 0xFFFF)
    (hle : rd e 0 2 ≤ fePair e) : exec .mergeRecordAgeing s = .next (flushEntry e (flowSource s.quire.active (rd e 0 2))
      (setFlow (rd e 0 2) (ageRecs (rd e 0x3C 2 * 10 * ticksPerUs) (now s)) s)) := by
  have hno : ¬ (fePair e = 0xFFFF ∨ fePair e < rd e 0 2) := by omega
  simp only [exec, execMergeRecordAgeing, he, List.foldl_cons, List.foldl_nil, if_neg hno]
  rfl

/-- A whole frame for a class goes to its queue (R163, R164). -/
theorem receiveClassed_whole {p c : Nat} {f : Bytes} {s : State} (hmax : f.length + 4 ≤ portMaxFrame s.quire.active p)
    (hclass : classify s.quire.active p f = .toQueue c) : receiveClassed p f false (f.length + 4) s =
      toClass c (if (frameTag f).1 then (frameTag f).2.1 / 8192 else 0)
        ⟨p, ingressStamp s p, (frameTag f).2.1, (frameTag f).1, f, f.length + 4, false, false⟩ (tcReceive p f s) := by
  have htrunc : decide (portMaxFrame s.quire.active p < f.length + 4) = false := decide_eq_false (Nat.not_lt.mpr hmax)
  have htake : f.take (portMaxFrame s.quire.active p) = f := List.take_of_length_le (by omega)
  simp only [receiveClassed, htrunc, htake, hclass, Bool.false_eq_true, if_false]

end Sys2Proof.Proofs
end

section
/-! The statements about the events of lanes and ports. -/

namespace Sys2Proof.Proofs

open Sys2Proof Sys2Proof.Machine Sys2Proof.Safety Sys2Proof.Laws

/-- Settles O17: each event takes the branch of the lane's state that its hypotheses select. -/
theorem laneEvents : Obligations.LaneEvents := by
  unfold Obligations.LaneEvents
  intro l s
  refine ⟨fun h1 => ?lock, fun fmt hrx hfmt hgang => ?align, fun clock h2 h4 hclock hmode => ?loss, fun h1 hmode ht => ?hunt,
    fun ns hl hgang hall hns hnone => ?deskew, fun p h4 => ⟨fun hbad => ?ancBad, fun hgood hout => ?ancOut,
      fun i hgood hin hi hen hanc => ?ancStored⟩, fun g samples h4 hrate hl hg hcount => ?deembed,
    fun g hg hcount habs ht => ?absent, fun d k line dropped q g f anc n pid hd hem hq hg hf h1 hline hanc hn hno' hyes => ?line,
    fun h1 => ?relock, fun hchk hlock => ?checked, fun n hchk hlock => ?unchecked⟩
  case lock => simp only [exec, execRxLock, h1, if_true]
  case align =>
    have hno : ¬ ((laneAt s l).rx < 2 ∨ 4 < (laneAt s l).rx) := by omega
    refine congrArg _ ((if_neg hno).trans ?_)
    simp [hfmt, hgang]
  case loss =>
    have hno : ¬ ((laneAt s l).rx < 2 ∨ 4 < (laneAt s l).rx ∨ ((laneAt s l).rx = 2 ∧ ¬ clock = true)) := by
      rintro (h | h | ⟨h, hc⟩)
      · omega
      · omega
      · exact hc (hclock h)
    simp only [exec, execRxLockLoss, if_neg hno, hmode, false_and, if_false]
  case hunt => simp only [exec, execHuntDwellExpiry, h1, hmode, ht, and_self, if_true]
  case deskew =>
    have hno : ¬ (gangSize s.quire.active l = 1 ∨
        (gangLanes s.quire.active l).any (fun m => (laneAt s m).rx < 3 || 4 < (laneAt s m).rx) = true) := by
      simp only [hgang, false_or, List.any_eq_true, not_exists, not_and]
      intro m hm
      have := hall m hm
      simp
      omega
    simp only [exec, execGangDeskew, hl, if_neg hno, hns, if_true, hnone, Option.isSome_none, Bool.false_eq_true, if_false]
  case ancBad => simp [exec, execAncPacketReceive, ancTake, h4, hbad]
  case ancOut => simp [exec, execAncPacketReceive, ancTake, h4, hgood, hout]
  case ancStored => simp [exec, execAncPacketReceive, ancTake, h4, hgood, hin, hi, hen, hanc]
  case deembed =>
    have hno : ¬ ((laneAt s l).rx ≠ 4 ∨ (laneAt s l).rxRate = 1 ∨ laneLeader s.quire.active l ≠ l ∨ g = 0 ∨
        lnDeembCount (chainQuire s l) l < 4 * g) := by omega
    have hexec (check : Nat) : exec (.audioPacketDeembed l g check samples) s = .next
        (if check = 3 then setLane l (fun y => { y with counts := cAdd y.counts 9 1 }) s
        else setLane l (fun y =>
          let z := fifoTake (now s) g (if check = 2 then repeatLast y g samples.length else samples) y
          { z with counts := if check = 1 then cAdd z.counts 5 1 else if check = 2 then cAdd z.counts 6 1 else z.counts }) s) :=
      congrArg _ (if_neg hno)
    refine ⟨hexec 0, hexec 1, hexec 2, hexec 3⟩
  case absent =>
    have hno : ¬ (g = 0 ∨ lnDeembCount (chainQuire s l) l < 4 * g ∨
        now s < mget (fun _ => 0) (laneAt s l).groupSeen g + 2 * ticksPerMs ∨ (laneAt s l).absent.contains g = true) := by
      simp only [habs]
      simp
      omega
    exact congrArg _ (if_neg hno)
  case line =>
    subst hq hg hanc hn
    have hno : ¬ (¬ txEmits s l = true ∨ ¬ (1 ≤ line ∧ line ≤ rasterLines (rasterOf f))) := by
      simp [hem, h1, hline]
    have hpid : pid = if (payloadLines (rasterOf f)).contains line = true then some (Config.payloadId f
        (lnTxRate (txQuire s l) l) (gangSize (txQuire s l) (laneLeader (txQuire s l) l))
        (lnByte (txQuire s l) (laneLeader (txQuire s l) l) 5) (l - laneLeader (txQuire s l) l) (txColour s l d k)) else none := by
      split
      · next hin => exact hyes hin
      · next hin => exact hno' (Bool.eq_false_iff.mpr hin)
    subst hpid
    simp only [exec, execTxLineStart, hd, hf, if_neg hno, Bool.false_eq_true, if_false]
  case relock =>
    simp only [exec, execTxRelockEnd, h1, if_true]
    refine ⟨_, rfl, rfl, fun m hm hg => ?_, ?_, ?_, ?_, ?_⟩
    · rw [laneAt_setLane, if_neg hg, laneAt_setLane, if_neg hm]
    all_goals
      rw [laneAt_setLane]
      split
      · next heq => rw [← heq, laneAt_setLane, if_pos rfl]
      · rw [laneAt_setLane, if_pos rfl]
  case checked => simp only [exec, execPrbsCheckerLock, hchk, hlock, Bool.false_eq_true, not_false_eq_true, and_self, if_true]
  case unchecked =>
    simp only [exec, execPrbsCheckerUnlock, hchk, hlock, and_self, if_true]
    refine congrArg _ (setLane_congr ?_)
    simp only [prbsTally, hlock, if_true]

/-- Settles O19: each event takes the branch of the port's state that its hypotheses select. -/
theorem portEvents : Obligations.PortEvents := by
  unfold Obligations.PortEvents
  intro p s
  refine ⟨fun ns hmode hst htest => ?up, fun faults h2 hent => ?down, fun f h2 hbad => ?bad, fun f h2 hgood h60 hty hop => ?pause,
    fun f c t h2 hgood h60 hmax hty htag hflag haddr hclass ht => ?classed, fun c k r t htr hroom hc => ?room,
    fun n hflag hg hn => ?paused, fun a ha h1 h2 => ?pauseOver, fun f j h3 hgood h60 hw => ?wake, fun f h3 hbad => ?noWake,
    fun h4 hload hdef => ?broughtUp, fun hnone => ?noFlows, fun e he hhit hact ht => ?idle, fun e he hhit => ?hit,
    fun e u he hpair hle hu => ⟨fun h1 h6 => ?merged, fun hsrc => ?unbound, fun slot hsrc => ⟨fun h1 => ?lines, fun h6 => ?sdi⟩⟩⟩
  case up =>
    have hno : ¬ (portMode s.quire.active p = 0 ∨ (netPort s p).state = 0 ∨ (netPort s p).state = 2 ∨ (netPort s p).state = 3 ∨
        portTested s p = true) := by
      simp [hmode, htest]
      omega
    refine ⟨cameUp p ns s, congrArg Host.Outcome.next (if_neg hno), cameUp_only .., ?_, ?_, ?_, fun o ho => ?_, ?_⟩
    · rw [netPort_cameUp, netPort_upPort, if_pos rfl]
    · rw [netPort_cameUp, netPort_upPort, if_pos rfl]
    · rw [netPort_cameUp, netPort_upPort, if_pos rfl]
    · rw [netPort_cameUp, netPort_upPort, if_neg ho]
    · rw [cameUp_net]
  case down => simp [exec, execPortDown, h2, hent]
  case bad =>
    have hbad' : f.bytes.length + 4 < 64 ∨ (¬ f.fcsGood = true ∧
        ¬ decide (portMaxFrame s.quire.active p < f.bytes.length + 4) = true) := by
      simpa using hbad
    simp only [exec, execFrameReceive, h2, Nat.reduceEqDiff, ne_eq, not_true_eq_false, if_false,
      if_pos hbad']
  case pause =>
    have hok : ¬ (f.bytes.length + 4 < 64 ∨ (¬ f.fcsGood = true ∧
        ¬ decide (portMaxFrame s.quire.active p < f.bytes.length + 4) = true)) := by
      simp [hgood]
      omega
    simp only [exec, execFrameReceive, h2, Nat.reduceEqDiff, ne_eq, not_true_eq_false, if_false, if_neg hok, hty, hop, if_true]
    simp only [hgood, not_true_eq_false, if_true, if_false]
  case classed =>
    subst ht
    have hok : ¬ (f.bytes.length + 4 < 64 ∨ (¬ f.fcsGood = true ∧
        ¬ decide (portMaxFrame s.quire.active p < f.bytes.length + 4) = true)) := by
      simp [hgood]
      omega
    simp only [List.mem_cons, List.not_mem_nil, or_false, not_or] at hty
    simp only [exec, execFrameReceive, h2, Nat.reduceEqDiff, ne_eq, not_true_eq_false, if_false, if_neg hok, hty.1, hty.2, hflag,
      htag, false_and, false_or, and_false, haddr, decide_true, Bool.true_or, Bool.false_eq_true]
    simp only [hgood, not_true_eq_false, if_true, false_and, if_false, Bool.not_true]
    rw [receiveClassed_whole (s := netCount p 1 (f.bytes.length + 4) (netCount p 0 1 s)) hmax hclass, htag]
    rfl
  case room =>
    have hc5 : c ≠ 5 := by omega
    have hroom' : ¬ (classSize c < ((classQueue t c).map fun x => x.bytes.length).sum + r.bytes.length ∨
        (decide (c = 5) && decide (k < portField t.quire.active r.port 9 1)) = true ∧
          classSize c ≤ 2 * ((classQueue t c).map fun x => x.bytes.length).sum) := by
      simp [hc5]
      omega
    simp only [toClass, htr, Bool.false_and, Bool.false_eq_true, if_false]
    exact if_neg hroom'
  case paused =>
    have hno : ¬ (bit (portFlags s.quire.active p) 0 = true ∨ portGbps s.quire.active p = 0) := by
      simp [hflag]
      omega
    have hstep : pauseReceive p n s = setNet p (fun x => { x with
        pauseEnd := now s + n * 512 * ticksPerNs / portGbps s.quire.active p
        pausedFrom := some (x.pausedFrom.getD (now s)) }) (netCount p 12 1 s) :=
      (if_neg hno).trans (if_neg (by omega))
    rw [hstep, netPort_setNet, if_pos rfl]
  case pauseOver =>
    have hdue : (netPort s p).pausedFrom.isSome = true ∧ (netPort s p).pauseEnd ≤ now s := by simp [ha, h2]
    refine congrArg _ ((if_pos hdue).trans (setNet_congr ?_))
    exact endPause_of_over ha h1 h2
  case wake =>
    have h64 : 64 ≤ f.bytes.length + 4 := by omega
    simp [exec, execPortWake, h3, hgood, h64, hw]
  case noWake => simp [exec, execPortWake, h3, hbad]
  case broughtUp =>
    have hfind : (s.cmds.deferred.find? fun w => decide (w.opcode = 0x0605 ∧ w.info = [p, 0])) = none := by
      simpa using hdef
    have hwatch : watchBound p s = s := by rw [watchBound, hfind]
    have hno : ¬ ((netPort s p).state ≠ 4 ∨ loadWaits s (portLoad s p).resource 0 = true) := by simp [h4, hload]
    simp only [exec, execPortBringUpComplete, if_neg hno, hwatch]
    have hfind' : ((portEnter p 1 s).cmds.deferred.find? fun w => decide (w.opcode = 0x0605 ∧ w.info = [p, 0])) = none := hfind
    rw [concludeWatch, hfind']
  case noFlows => simp [exec, execFlowAgeingCycle, execMergeRecordAgeing, hnone]
  case idle => simp [exec, execFlowAgeingCycle, he, hhit, hact, ht]
  case hit => simp [exec, execFlowAgeingCycle, he, hhit]
  case merged =>
    subst hu
    rw [execMergeRecordAgeing_pair he hpair hle]
    exact congrArg _ (flushEntry_other h1 h6 ..)
  case unbound =>
    subst hu
    rw [execMergeRecordAgeing_pair he hpair hle, hsrc]
    rfl
  case lines =>
    subst hu
    rw [execMergeRecordAgeing_pair he hpair hle, hsrc]
    exact congrArg _ (if_pos h1)
  case sdi =>
    subst hu
    rw [execMergeRecordAgeing_pair he hpair hle, hsrc]
    exact congrArg _ ((if_neg (by omega)).trans (if_pos h6))

end Sys2Proof.Proofs
end

section
/-! SUPPORT. The memory's scrub and its counts of uncorrectable bursts (R240, R245). -/

namespace Sys2Proof.Proofs

open Sys2Proof Sys2Proof.Machine Sys2Proof.Safety Sys2Proof.Laws

@[simp] theorem dramChan_setChan (c j : Nat) (f : DramChan → DramChan) (s : State) :
    dramChan (setChan c f s) j = if j = c then f (dramChan s c) else dramChan s j := by
  simp [dramChan, setChan]

theorem keepLast_of_short {α : Type} {n : Nat} {l : List α} (h : l.length ≤ n) : keepLast n l = l := by
  rw [keepLast, Nat.sub_eq_zero_of_le h, List.drop_zero]

/-- A scrub period begins with nothing scrubbed (R245, log 199). -/
def newPeriod (s : State) : State :=
  { s with dram := { s.dram with
      scrubFrom := now s, chans := s.dram.chans.map fun p => (p.1, { p.2 with scrubbed := [] }) } }

theorem newPeriod_scrubbed (s : State) (c : Nat) : (dramChan (newPeriod s) c).scrubbed = [] := by
  have hmap (l : List (Nat × DramChan)) :
      (mget (fun _ => ({} : DramChan)) (l.map fun p => (p.1, { p.2 with scrubbed := [] })) c).scrubbed = [] := by
    induction l with
    | nil => rfl
    | cons p l ih =>
      obtain ⟨a, v⟩ := p
      by_cases h : a = c
      · simp [mget, h]
      · simpa [mget, h] using ih
  exact hmap s.dram.chans

/-- The extents a pass over a channel has left to scrub. -/
def scrubLeft (s s1 : State) (c : Nat) : List Nat :=
  (List.range 248).filter fun e => scrubs s (c / 8) e && !(dramChan s1 c).scrubbed.contains e

theorem mem_scrubLeft {s s1 : State} {c e : Nat} :
    e ∈ scrubLeft s s1 c ↔ e < 248 ∧ scrubs s (c / 8) e = true ∧ e ∉ (dramChan s1 c).scrubbed := by
  simp [scrubLeft]

/-- A channel after a pass over the extents it had left, `n` bursts corrected. -/
def scrubbedChan (t n : Nat) (left : List Nat) (x : DramChan) : DramChan :=
  { x with
    lastSecond := if x.second = t / ticksPerSec then x.lastSecond else if x.second + 1 = t / ticksPerSec then x.inSecond else 0
    inSecond := satAdd (if x.second = t / ticksPerSec then x.inSecond else 0) n
    second := t / ticksPerSec, scrubbed := x.scrubbed ++ left }

/-- What a pass of the scrub leaves (R245). -/
def scrubPass (c n t : Nat) (left : List Nat) (s : State) : State :=
  setGroup (c / 8) (fun x => { x with counts := cAdd x.counts 0 n }) (setChan c (scrubbedChan t n left) s)

/-- A pass goes over what is left in its period, a new one where the last has run out. -/
theorem execDramPatrolScrub_eq (c n : Nat) (s : State) : exec (.dramPatrolScrub c n) s = .next
    (let s1 := if now s < s.dram.scrubFrom + qRd s.quire.active fDram 8 2 * 60 * ticksPerSec then s else newPeriod s
     if scrubLeft s s1 c = [] then s1 else scrubPass c n (now s) (scrubLeft s s1 c) s1) :=
  rfl

theorem scrubPass_scrubbed (c n t : Nat) (left : List Nat) (s : State) :
    (dramChan (scrubPass c n t left s) c).scrubbed = (dramChan s c).scrubbed ++ left := by
  change (dramChan (setChan c (scrubbedChan t n left) s) c).scrubbed = _
  rw [dramChan_setChan, if_pos rfl]
  rfl

theorem scrubPass_counts (c n t : Nat) (left : List Nat) (s : State) :
    (dramGroup (scrubPass c n t left s) (c / 8)).counts = cAdd (dramGroup s (c / 8)).counts 0 n := by
  rw [scrubPass, dramGroup_setGroup, if_pos rfl]
  rfl

end Sys2Proof.Proofs
end

section
/-! The statement about the memory's own events. -/

namespace Sys2Proof.Proofs

open Sys2Proof Sys2Proof.Machine Sys2Proof.Safety Sys2Proof.Laws

/-- Settles O28: each event takes the branch that its hypotheses select; a scrub pass takes every extent left. -/
theorem memoryEvents : Obligations.MemoryEvents := by
  unfold Obligations.MemoryEvents
  intro g c s
  refine ⟨fun temps hg => ?temps, fun ps hin hdue h1 h2 => ?adjusted, fun ps hin hdue hfar => ?adjustedOut,
    fun e u hin hfew => ?burst, fun e u a rest hin hlist hlen hsoon => ?seventeenth, fun cause => rfl, fun cause hin => ?alreadyOut,
    fun pen port => rfl, fun e v => rfl, fun n hper => ⟨fun hall => ?scrubbedAll, fun e he hsc hnot => ?scrub⟩,
    fun e n hper he hsc => ?newScrub, fun hin hq hbusy => ?asleep, fun hbusy => ?busy, fun hself hwait => ?awake⟩
  case temps => simp only [exec, execDramTempPoll, hg, if_true]
  case adjusted =>
    have hno : ¬ (¬ inService s (groupOfChan c) = true ∨ ¬ (decide ((dramChan s c).lastRetrain +
        qRd s.quire.active fDram 7 1 * 100 * ticksPerMs ≤ now s) = true ∨
        tempMoved (dramGroup s (groupOfChan c)).temps (dramChan s c).measured = true)) := by
      simp only [groupOfChan, hin, not_true_eq_false, false_or, not_not, decide_eq_true_eq]
      exact hdue
    exact congrArg _ ((if_neg hno).trans (if_neg (by omega)))
  case adjustedOut =>
    have hno : ¬ (¬ inService s (groupOfChan c) = true ∨ ¬ (decide ((dramChan s c).lastRetrain +
        qRd s.quire.active fDram 7 1 * 100 * ticksPerMs ≤ now s) = true ∨
        tempMoved (dramGroup s (groupOfChan c)).temps (dramChan s c).measured = true)) := by
      simp only [groupOfChan, hin, not_true_eq_false, false_or, not_not, decide_eq_true_eq]
      exact hdue
    exact congrArg _ ((if_neg hno).trans (if_pos hfar))
  case burst =>
    have hshort : ((dramChan s c).uncorrected ++ [now s]).length ≤ 16 := by simpa using hfew
    have hkeep : keepLast 17 ((dramChan s c).uncorrected ++ [now s]) = (dramChan s c).uncorrected ++ [now s] :=
      keepLast_of_short (by omega)
    have h17 : ((dramChan s c).uncorrected ++ [now s]).length ≠ 17 := by omega
    have hin' : ¬ ¬ inService s (groupOfChan c) = true := not_not.mpr hin
    simp only [exec, execDramUncorrectableRead, if_neg hin', hkeep, h17, decide_false, Bool.false_and, Bool.false_eq_true, if_false]
    rfl
  case seventeenth =>
    have hkeep : keepLast 17 ((dramChan s c).uncorrected ++ [now s]) = a :: (rest ++ [now s]) := by
      rw [hlist]
      exact keepLast_of_short (by simp [hlen])
    have h17 : (a :: (rest ++ [now s])).length = 17 := by simp [hlen]
    have hin' : ¬ ¬ inService s (groupOfChan c) = true := not_not.mpr hin
    refine ⟨raiseIn 6 576 c e (groupOut (c / 8) 3) (burstLost c e u (setGroup (c / 8)
      (fun x => { x with counts := cAdd x.counts 1 1 })
        (setChan c (fun x => { x with uncorrected := a :: (rest ++ [now s]) }) s))), ?_⟩
    simp only [exec, execDramUncorrectableRead, if_neg hin', hkeep, h17, List.headD_cons, hsoon, decide_true, Bool.and_self, if_true]
    rfl
  case alreadyOut => simp [groupOut, hin]
  case scrubbedAll =>
    have hnone : scrubLeft s s c = [] := by
      rw [List.eq_nil_iff_forall_not_mem]
      intro e he
      obtain ⟨hlt, hsc, hnot⟩ := mem_scrubLeft.mp he
      exact (hall e hlt).elim (fun h => by simp [h] at hsc) hnot
    rw [execDramPatrolScrub_eq]
    simp only [if_pos hper, if_pos hnone]
  case scrub =>
    have hmem := mem_scrubLeft.mpr ⟨he, hsc, hnot⟩
    rw [execDramPatrolScrub_eq]
    simp only [if_pos hper, if_neg (List.ne_nil_of_mem hmem)]
    exact ⟨_, rfl, rfl, scrubPass_counts .., by rw [scrubPass_scrubbed]; exact List.mem_append_right _ hmem⟩
  case newScrub =>
    have hmem : e ∈ scrubLeft s (newPeriod s) c := mem_scrubLeft.mpr ⟨he, hsc, by simp [newPeriod_scrubbed]⟩
    rw [execDramPatrolScrub_eq]
    simp only [if_neg (Nat.not_lt.mpr hper), if_neg (List.ne_nil_of_mem hmem)]
    refine ⟨_, rfl, rfl, fun x => ?_⟩
    rw [scrubPass_scrubbed, newPeriod_scrubbed, List.nil_append, mem_scrubLeft, newPeriod_scrubbed]
    simp
  case asleep =>
    exact congrArg _ (if_pos ⟨hin, hq, by simp [hbusy, groupOfChan]⟩)
  case busy =>
    exact congrArg _ (if_neg fun h => h.2.2 hbusy)
  case awake =>
    have hno : ¬ (s.power.waiting.any fun l => decide (l.resource = 400 + c)) = true := by simpa using hwait
    exact congrArg _ (if_pos ⟨hself, hno⟩)

end Sys2Proof.Proofs
end

section
/-! SUPPORT. The AUD commands: meters read and cleared, changes posted. -/

namespace Sys2Proof.Proofs

open Sys2Proof Sys2Proof.Machine Sys2Proof.Safety Sys2Proof.Laws

/-- What a command with parameters of its own length asks: its length, and then its form. -/
theorem ownLength_ok {n : Nat} {l : List (Bool × Nat)} {r : Req} {s : State} {k : Unit → Ans} {m : Nat} {a : Ans}
    (hm : m ≤ n) (hlen : r.params.length = n) (hform : ∀ x ∈ l, x.1 = true) :
    (if r.params.length < m ∨ r.params.length ≠ n then a else needForm l s k) = k () :=
  (if_neg (by omega)).trans (needForm_ok hform)

/-- The reply of AUD_STATUS (R294). -/
def audReply (s : State) : Bytes :=
  let a := s.audio
  let on := (List.range 256).filter fun b => bridgeOn a.prog b
  let lines := s.audio.sections.flatMap fun p => p.2.delays
  le 4 (progHead a.prog 0xC 4) ++ le 4 2097152 ++ le 1 a.bank ++ le 1 a.dom441 ++
    le 1 (if freeRate a.prog = 0 then 0xFF else a.domFree) ++ zeros 1 ++ le 4 a.freeMilliHz ++
    le 2 on.length ++ le 2 (on.filter fun i => mget (fun _ => false) a.bridges i && secRuns s (rd (progBridge a.prog i) 1 1)).length ++
    le 2 (lines.filter fun d => d.2.moved).length ++ le 2 (lines.filter fun d => d.2.undelayed).length ++
    le 8 (nsOf a.exchangeTime) ++ le 4 a.saturations.toNat ++ le 4 a.refusedReads.toNat ++
    le 4 a.ownDecisions.toNat ++ le 4 a.safeloads.toNat

theorem audReply_length (s : State) : (audReply s).length = 48 := by
  simp [audReply]

/-- The counters of AUD_STATUS cleared. -/
def clearedAudio (x : Audio) : Audio := { x with saturations := 0, refusedReads := 0, ownDecisions := 0, safeloads := 0 }

/-- What clearing the meters of some channels leaves of their table. -/
def wipeMeters (hit : Nat → Bool) (l : List (Nat × Meter)) : List (Nat × Meter) :=
  (l.map fun p => if hit p.1 then (p.1, { p.2 with peak := 0, clipped := false }) else p).filter fun p => decide (p.2 ≠ {})

/-- What every entry of a key and the default satisfy, the table's value at that key satisfies. -/
theorem mget_of_forall {α : Type} {d : Nat → α} {k : Nat} {P : α → Prop} (hd : P (d k)) {l : List (Nat × α)}
    (h : ∀ p ∈ l, p.1 = k → P p.2) : P (mget d l k) := by
  induction l with
  | nil => exact hd
  | cons p l ih =>
    rw [mget]
    split
    case isTrue hk => exact h p (by simp) hk
    case isFalse => exact ih fun q hq => h q (by simp [hq])

theorem mget_wipeMeters {hit : Nat → Bool} {ch : Nat} (h : hit ch = true) (l : List (Nat × Meter)) :
    (mget (fun _ => ({} : Meter)) (wipeMeters hit l) ch).peak = 0 ∧
      (mget (fun _ => ({} : Meter)) (wipeMeters hit l) ch).clipped = false := by
  refine mget_of_forall (P := fun m : Meter => m.peak = 0 ∧ m.clipped = false) ⟨rfl, rfl⟩ fun p hp hk => ?_
  obtain ⟨q, -, rfl⟩ := List.mem_map.mp (List.mem_of_mem_filter hp)
  split at hk
  case isTrue hq => rw [if_pos hq]; exact ⟨rfl, rfl⟩
  case isFalse hq => exact absurd (hk ▸ h) hq

/-- The state after the meters of some channels of one side are cleared. -/
def clearedMeters (out : Bool) (hit : Nat → Bool) (s : State) : State :=
  setAudio (fun a => if out then { a with metersOut := wipeMeters hit a.metersOut }
    else { a with metersIn := wipeMeters hit a.metersIn }) s

theorem clearedMeters_only (out : Bool) (hit : Nat → Bool) (s : State) : clearedMeters out hit s = { s with
    audio := { s.audio with metersIn := (clearedMeters out hit s).audio.metersIn
                            metersOut := (clearedMeters out hit s).audio.metersOut } } := by
  cases out <;> rfl

theorem clearedMeters_in (hit : Nat → Bool) (s : State) : (clearedMeters false hit s).audio =
    { s.audio with metersIn := wipeMeters hit s.audio.metersIn } := rfl

theorem clearedMeters_out (hit : Nat → Bool) (s : State) : (clearedMeters true hit s).audio =
    { s.audio with metersOut := wipeMeters hit s.audio.metersOut } := rfl

/-- The state after AUD_GAIN: the active quire written and its change counted, the changes posted. -/
def gained (it : CopyItem) (act : Quire) (posts : List AudioChange) (s : State) : State :=
  setAudio (fun a => { a with changes := a.changes ++ posts })
    (countChange (copyItem it { s with quire := { s.quire with active := act } }))

theorem gained_only (it : CopyItem) (act : Quire) (posts : List AudioChange) (s : State) : gained it act posts s = { s with
    quire := (gained it act posts s).quire, twin := (gained it act posts s).twin
    audio := { s.audio with changes := (gained it act posts s).audio.changes } } := by
  rw [gained, copyItem_eq]
  rfl

theorem gained_quire (it : CopyItem) (act : Quire) (posts : List AudioChange) (s : State) : (gained it act posts s).quire =
    { s.quire with active := act, changeCount := satInc s.quire.changeCount } := by
  rw [gained, copyItem_eq]
  rfl

theorem gained_changes (it : CopyItem) (act : Quire) (posts : List AudioChange) (s : State) :
    (gained it act posts s).audio.changes = s.audio.changes ++ posts := by
  rw [gained, copyItem_eq]
  rfl

/-- The state after AUD_SHEPHERD: the table, the mask and the fade time taken, the changes posted. -/
def shepherded (it : CopyItem) (es : List Bytes) (mask ms : Nat) (posts : List AudioChange) (s : State) : State :=
  setAudio (fun a => { a with changes := a.changes ++ posts })
    (setAudio (fun a => { a with table := es, onMask := mask, fadeMs := ms }) (copyItem it s))

theorem shepherded_only (it : CopyItem) (es : List Bytes) (mask ms : Nat) (posts : List AudioChange) (s : State) :
    shepherded it es mask ms posts s = { s with
      audio := (shepherded it es mask ms posts s).audio, twin := (shepherded it es mask ms posts s).twin } := by
  rw [shepherded, copyItem_eq]
  rfl

theorem shepherded_audio (it : CopyItem) (es : List Bytes) (mask ms : Nat) (posts : List AudioChange) (s : State) :
    (shepherded it es mask ms posts s).audio =
      { s.audio with table := es, onMask := mask, fadeMs := ms, changes := s.audio.changes ++ posts } := by
  rw [shepherded, copyItem_eq]
  rfl

/-- A list of changes posted one by one. -/
theorem foldl_postChange (r : Req) (t : Nat) (sec : Nat → Nat) (w : Nat → AudioWhat) (l : List Nat) (s : State) :
    l.foldl (fun u i => postChange r t [sec i] (w i) u) s = setAudio (fun a => { a with
      changes := a.changes ++ l.map fun i => ⟨sec i, t, r.port, r.seq, w i⟩ }) s := by
  induction l generalizing s with
  | nil =>
    simp only [List.foldl_nil, List.map_nil, List.append_nil]
    rfl
  | cons i l ih =>
    rw [List.foldl_cons, ih]
    simp [postChange, setAudio]

end Sys2Proof.Proofs
end

section
/-! The statement about the AUD commands. -/

namespace Sys2Proof.Proofs

open Sys2Proof Sys2Proof.Machine Sys2Proof.Safety Sys2Proof.Laws

/-- Settles O29: each command passes its checks and answers with its body. -/
theorem audioCommands : Obligations.AudioCommands := by
  unfold Obligations.AudioCommands
  intro r s
  refine ⟨?status, ?params, ?gain, ?meters, ?shepherd, ?shepherdRead⟩
  case status =>
    intro h hlen hclear hz
    refine ⟨if rd r.params 0 1 = 1 then setAudio clearedAudio (begun 0x0901 r s) else begun 0x0901 r s, audReply (begun 0x0901 r s),
      command_answers h ((checks_ok hlen (by simp [hclear, hz])).trans ?_), audReply_length _, ?_, fun hno => ?_, fun hyes => ?_⟩
    · simp only [bit_zero_of_le_one hclear, decide_eq_true_eq]
      rfl
    · split <;> rfl
    · rw [if_neg (by omega)]
      rfl
    · rw [if_pos hyes]
      exact ⟨rfl, rfl, rfl, rfl⟩
  case params =>
    intro h k first n e w hk hfirst hn he hw hlen hk' hcopy hz3 hfit hn' hzC hentries hpen hpend
    subst hk hfirst hn he hw
    have hform : ∀ x ∈ [(decide (rd r.params 0 2 < progSets s.audio.prog), 0), (decide (rd r.params 2 1 ≤ 1), 2),
        (isZero r.params 3 1, 3), (decide (rd r.params 4 4 ≤ (setEntries s.audio.prog (rd r.params 0 2)).2 ∧
          rd r.params 4 4 + rd r.params 8 4 ≤ (setEntries s.audio.prog (rd r.params 0 2)).2), 4),
        (decide (rd r.params 8 4 ≤ 2728), 8), (isZero r.params 0xC 4, 0xC)] ++ (List.range (rd r.params 8 4)).map fun i =>
          (paramOk (slice r.params (16 + 24 * i) 24) && decide (rd (slice r.params (16 + 24 * i) 24) 0 1 =
            rd (paramEntry s.audio.params ((setEntries s.audio.prog (rd r.params 0 2)).1 + rd r.params 4 4 + i)) 0 1),
            16 + 24 * i), x.1 = true := by
      refine List.forall_mem_append.mpr ⟨?_, fun x hx => ?_⟩
      · simp only [List.forall_mem_cons, decide_eq_true_eq]
        exact ⟨hk', hcopy, hz3, ⟨by omega, hfit⟩, hn', hzC, by simp⟩
      · obtain ⟨i, hi, rfl⟩ := List.mem_map.mp hx
        simpa using hentries i (by simpa using hi)
    have hown : ¬ (isPen r.port = true ∧ setPen s.audio.prog (rd r.params 0 2) ≠ r.port) := fun ⟨hp, hne⟩ =>
      hpen.elim (fun hno => absurd hp (by simp [hno])) hne
    have hbusy : ¬ safeloadPending s (rd r.params 0 2) = true := by simp [hpend]
    refine ⟨fun hno => command_answers h ?_, fun hyes => command_answers h ?_⟩
    · have hpart : ¬ hasPartner (begun 0x0902 r s) = true := fun hp => absurd (hno.symm.trans hp) Bool.false_ne_true
      exact (ownLength_ok (by omega) hlen hform).trans ((if_neg hown).trans ((if_neg hbusy).trans
        (congrArg (okay · []) (if_neg hpart))))
    · have hpart : hasPartner (begun 0x0902 r s) = true := hyes
      exact (ownLength_ok (by omega) hlen hform).trans ((if_neg hown).trans ((if_neg hbusy).trans
        (congrArg (okay · []) (if_pos hpart))))
  case gain =>
    intro h n hn hlen h1 h256 hz en le_ hen hle hentries
    have hform : ∀ x ∈ [(decide (1 ≤ n ∧ n ≤ 256), 0), (isZero r.params 2 6, 2)] ++ (List.range n).flatMap fun i =>
        [((setOf s.audio.prog (en i)).isSome && decide (rd (paramEntry s.audio.params (en i)) 0 1 = 1), 8 + 8 * i),
          (decide (le_ i = -32768 ∨ (-14400 ≤ le_ i ∧ le_ i ≤ 2400)), 12 + 8 * i),
          (isZero r.params (14 + 8 * i) 2, 14 + 8 * i)], x.1 = true := by
      refine List.forall_mem_append.mpr ⟨by simp [h1, h256, hz], fun x hx => ?_⟩
      obtain ⟨i, hi, hx⟩ := List.mem_flatMap.mp hx
      obtain ⟨hzi, hlevel, ⟨k, hk, -⟩, hgain⟩ := hentries i (by simpa using hi)
      revert x
      simp [hzi, hlevel, hk, hgain]
    have hown : ¬ (isPen r.port = true ∧ ((List.range n).any fun i =>
        !decide ((setOf s.audio.prog (en i)).map (setPen s.audio.prog) = some r.port)) = true) := by
      rintro ⟨hpen, hany⟩
      obtain ⟨i, hi, hne⟩ := List.any_eq_true.mp hany
      obtain ⟨-, -, ⟨k, hk, hmay⟩, -⟩ := hentries i (by simpa using hi)
      have heq : setPen s.audio.prog k = r.port := hmay.resolve_left (by simp [hpen])
      simp [hk, heq] at hne
    subst hn hen hle
    refine ⟨_, command_keeps_for_later h ((ownLength_ok (by omega) hlen hform).trans ((if_neg hown).trans
      (congrArg (fun u => ({ st := u, later := some [rd r.params 0 2] } : Ans)) (foldl_postChange ..)))), ?_, ?_, ?_⟩
    · exact gained_only ..
    · exact gained_quire ..
    · exact gained_changes ..
  case meters =>
    intro h hlen hkind hclear hz h1 hn hfit
    have hform : ∀ x ∈ [(decide (rd r.params 0 1 ≤ 1), 0), (decide (rd r.params 1 1 ≤ 1), 1), (isZero r.params 2 2, 2),
        (decide (rd r.params 4 2 < 32768), 4),
        (decide (1 ≤ rd r.params 6 2 ∧ rd r.params 6 2 ≤ 4096 ∧ rd r.params 4 2 + rd r.params 6 2 ≤ 32768), 6)],
        x.1 = true := by
      simp only [List.forall_mem_cons, decide_eq_true_eq]
      exact ⟨hkind, hclear, hz, by omega, ⟨h1, hn, hfit⟩, by simp⟩
    set hit : Nat → Bool := fun ch => decide (rd r.params 4 2 ≤ ch ∧ ch < rd r.params 4 2 + rd r.params 6 2) &&
      owns r (blockPen s.audio.prog (decide (rd r.params 0 1 = 1)) ch) with hhit
    refine ⟨if decide (rd r.params 1 1 = 1) = true then clearedMeters (decide (rd r.params 0 1 = 1)) hit
        { begun 0x0904 r s with free := s.free + 65536 } else { begun 0x0904 r s with free := s.free + 65536 },
      command_answers h ((checks_ok hlen hform).trans ?_), ?_, fun hno => ?_, fun hin => ?_, fun hout => ?_,
      fun hyes m ch hm hfirst hlast hmay => ?_⟩
    · rw [bit_zero_of_le_one hclear]
      rfl
    · split
      · exact clearedMeters_only ..
      · rfl
    · rw [if_neg (by simp [hno])]
      rfl
    · split
      · simp only [hin]
        rfl
      · rfl
    · split
      · simp only [hout]
        rfl
      · rfl
    · have hch : hit ch = true := by simp [hhit, hfirst, hlast, hmay]
      rw [if_pos (decide_eq_true hyes)] at hm
      by_cases hout : rd r.params 0 1 = 1
      · rw [if_pos hout, decide_eq_true hout, clearedMeters_out] at hm
        exact hm ▸ mget_wipeMeters hch _
      · rw [if_neg hout, decide_eq_false hout, clearedMeters_in] at hm
        exact hm ▸ mget_wipeMeters hch _
  case shepherd =>
    intro h n es hn hlen hop hz hfade hn' hkeep hform hes
    have hform' : ∀ x ∈ [(decide (rd r.params 0 1 ≤ 1), 0), (isZero r.params 1 1, 1), (decide (rd r.params 4 2 ≤ 100), 4),
        (decide (n ≤ 4096 ∧ (rd r.params 0 1 = 1 ∨ n = 0)), 6)] ++
          (List.range n).flatMap (insertForm s.audio.prog r.params), x.1 = true := by
      refine List.forall_mem_append.mpr ⟨?_, fun x hx => ?_⟩
      · simp only [List.forall_mem_cons, decide_eq_true_eq]
        exact ⟨hop, hz, hfade, ⟨hn', hkeep⟩, by simp⟩
      · obtain ⟨i, hi, hx⟩ := List.mem_flatMap.mp hx
        exact hform i (by simpa using hi) x hx
    subst hn hes
    refine ⟨_, command_answers h ((ownLength_ok (by omega) hlen hform').trans rfl), ?_, ?_⟩
    · exact shepherded_only ..
    · exact shepherded_audio ..
  case shepherdRead =>
    intro h hp
    exact command_answers h (needLen_ok (by simp [hp]))

end Sys2Proof.Proofs
end

section
/-! SUPPORT. The audio engine's program exchange and its changes. -/

namespace Sys2Proof.Proofs

open Sys2Proof Sys2Proof.Machine Sys2Proof.Safety Sys2Proof.Laws

/-- From `s` to `t` the audio engine differs in its sections alone. -/
def SectionsOnly (s t : State) : Prop := t.audio = { s.audio with sections := t.audio.sections }

theorem SectionsOnly.refl (s : State) : SectionsOnly s s := rfl

theorem SectionsOnly.trans {s t u : State} (h : SectionsOnly s t) (k : SectionsOnly t u) : SectionsOnly s u :=
  Eq.trans k (congrArg (fun a : Audio => { a with sections := u.audio.sections }) h)

theorem sectionsOnly_of_audio_eq {s t : State} (h : t.audio = s.audio) : SectionsOnly s t := by
  rw [SectionsOnly, h]

theorem sectionsOnly_setSection (k : Nat) (f : Section → Section) (s : State) : SectionsOnly s (setSection k f s) := rfl

theorem sectionsOnly_foldl {α : Type} {f : State → α → State} (h : ∀ s a, SectionsOnly s (f s a)) (l : List α) (s : State) :
    SectionsOnly s (l.foldl f s) := by
  induction l generalizing s with
  | nil => exact .refl s
  | cons a l ih => exact (h s a).trans (ih _)

theorem sectionsOnly_delayMove (k j : Nat) (s : State) : SectionsOnly s (delayMove k j s) := by
  have hcopy (it : CopyItem) (t : State) : SectionsOnly t (copyItem it t) := sectionsOnly_of_audio_eq (by rw [copyItem_eq])
  have hraise (src inst n : Nat) (t : State) : SectionsOnly t (raise src inst n t) := sectionsOnly_of_audio_eq raise_audio
  rw [delayMove]
  dsimp only
  split
  · exact (((sectionsOnly_setSection ..).trans (hcopy ..)).trans (sectionsOnly_setSection ..)).trans (hraise ..)
  · exact (((sectionsOnly_setSection ..).trans (hcopy ..)).trans (sectionsOnly_setSection ..)).trans (hraise ..)

theorem sectionsOnly_takeProgram (sec : Nat) (s : State) : SectionsOnly s (takeProgram sec s) := by
  rw [takeProgram]
  split
  · exact .refl s
  · exact (sectionsOnly_setSection ..).trans (sectionsOnly_foldl (fun t j => sectionsOnly_delayMove sec j t) _ _)

/-- The banks exchanged, before the sections take the new program (R280). -/
def banksTurned (b : Nat) (s : State) : State := { s with audio := { s.audio with
  bank := 1 - s.audio.bank, prog := s.quire.active, progOld := s.audio.prog, params := s.quire.active
  idle := s.quire.active, exchangeDue := none, exchangeTime := b, paramsDue := []
  bridges := s.audio.bridges.filter fun p => decide (progBridge s.audio.prog p.1 = progBridge s.quire.active p.1)
  sections := (List.range 7).map fun k => (k, { sectionAt s k with onNew := false }) } }

theorem bankExchange_audio (b : Nat) (s : State) : (bankExchange b s).audio =
    { (banksTurned b s).audio with sections := (bankExchange b s).audio.sections } :=
  sectionsOnly_foldl (fun t k => sectionsOnly_takeProgram k t) [0, 1, 2] (banksTurned b s)

theorem applyChange_changes (sec : Nat) (c : AudioChange) (s : State) :
    (applyChange sec c s).audio.changes = s.audio.changes := by
  rw [applyChange]
  split
  · rw [takeGain]
    dsimp only
    split <;> rfl
  · rfl
  · rfl

/-- A section with no swapped parameters to take takes the changes that are due, in order (R294). -/
theorem execAudioChangeApply_settled {sec : Nat} {s : State} (hsec : sec < 7) (hruns : secRuns s sec = true)
    (hdue : sec ∉ s.audio.paramsDue) : execAudioChangeApply sec s = .next (gainReplies (setAudio (fun a => { a with
      changes := a.changes.filter fun c => !(decide (c.section_ = sec) && boundaryNow s sec c.time) })
      ((s.audio.changes.filter fun c => decide (c.section_ = sec) && boundaryNow s sec c.time).foldl
        (fun t c => applyChange sec c t) s))) := by
  have hkept : ¬ (s.audio.paramsDue.contains sec = true ∧ boundaryNow s sec s.audio.paramsAt = true) := by simp [hdue]
  rw [execAudioChangeApply, if_neg (by simp [hruns]; omega), if_neg hkept]

end Sys2Proof.Proofs
end

section
/-! The statement about the audio engine's events. -/

namespace Sys2Proof.Proofs

open Sys2Proof Sys2Proof.Machine Sys2Proof.Safety Sys2Proof.Laws

/-- Settles O31: each event is read off its branch; the exchange of the banks changes the program before the sections take it,
which touches the sections alone. -/
theorem audioEvents : Obligations.AudioEvents := by
  unfold Obligations.AudioEvents
  intro sec n s
  refine ⟨?sample, ?edge, ?word, ?stopped, ?exchange, ?idle, ?change, ?gains, ?clock, ?bridge, ?fade⟩
  case sample =>
    intro c hsec hruns hnext u hu
    subst hu
    exact congrArg Host.Outcome.next (if_neg (by simp [hruns]; omega))
  case edge =>
    intro hsec hnew
    subst hsec
    simp [stampEdge, setAudio, hnew]
  case word =>
    intro off hbit hsec hoff
    subst hoff
    exact if_pos ⟨hbit, hsec⟩
  case stopped =>
    intro c hstop
    exact congrArg Host.Outcome.next (if_pos (by simp [hstop]))
  case exchange =>
    intro t hdue hreached
    refine ⟨bankExchange (gridAfter (ticksPerSec / 48000) t) s, ?_, ?_⟩
    · have hb : exchangeBoundary s = some (gridAfter (ticksPerSec / 48000) t) := by rw [exchangeBoundary, hdue]; rfl
      show Host.Outcome.next (match exchangeBoundary s with | none => s | some b => if ¬ reached s b then s else bankExchange b s) = _
      rw [hb]
      exact congrArg Host.Outcome.next (if_neg (by simp [hreached]))
    · rw [bankExchange_audio]
      exact ⟨rfl, rfl, rfl, rfl, rfl, rfl⟩
  case idle =>
    intro hsec hruns hdue hnone
    have hdrop : (s.audio.changes.filter fun c => decide (c.section_ = sec) && boundaryNow s sec c.time) = [] :=
      List.filter_eq_nil_iff.mpr fun c hc => by simp [hnone c hc]
    have hkeep : (s.audio.changes.filter fun c => !(decide (c.section_ = sec) && boundaryNow s sec c.time)) = s.audio.changes :=
      List.filter_eq_self.mpr fun c hc => by simp [hnone c hc]
    refine (execAudioChangeApply_settled hsec hruns hdue).trans (congrArg (fun t => Host.Outcome.next (gainReplies t)) ?_)
    rw [hdrop, setAudio, List.foldl_nil, hkeep]
  case change =>
    intro c rest hsec hruns hdue hchanges hc hdueNow hrest
    have hfirst : (decide (c.section_ = sec) && boundaryNow s sec c.time) = true := by simp [hc, hdueNow]
    have hdrop : (s.audio.changes.filter fun c => decide (c.section_ = sec) && boundaryNow s sec c.time) = [c] := by
      have hnil : (rest.filter fun c => decide (c.section_ = sec) && boundaryNow s sec c.time) = [] :=
        List.filter_eq_nil_iff.mpr fun d hd => by simp [hrest d hd]
      rw [hchanges, List.filter_cons, if_pos hfirst, hnil]
    have hkeep : (s.audio.changes.filter fun c => !(decide (c.section_ = sec) && boundaryNow s sec c.time)) = rest := by
      have hself : (rest.filter fun c => !(decide (c.section_ = sec) && boundaryNow s sec c.time)) = rest :=
        List.filter_eq_self.mpr fun d hd => by simp [hrest d hd]
      rw [hchanges, List.filter_cons, if_neg (by simp [hfirst]), hself]
    refine (execAudioChangeApply_settled hsec hruns hdue).trans (congrArg (fun t => Host.Outcome.next (gainReplies t)) ?_)
    rw [hdrop, setAudio, List.foldl_cons, List.foldl_nil, applyChange_changes, hkeep]
    rfl
  case gains => exact fun key => ⟨rfl, rfl⟩
  case clock =>
    intro st mhz hst hrate hff h0
    exact congrArg Host.Outcome.next ((if_neg (by simp [hrate, hff]; omega)).trans
      (congrArg (domainEnter 2 st) (if_neg (by simp [h0]))))
  case bridge =>
    intro b locked hb hon
    exact congrArg Host.Outcome.next (if_pos ⟨hon, hb⟩)
  case fade => exact fun ch => rfl

end Sys2Proof.Proofs
end

section
/-! SUPPORT. The LAY commands: engines' records cleared, and the fields of a slice. -/

namespace Sys2Proof.Proofs

open Sys2Proof Sys2Proof.Machine Sys2Proof.Safety Sys2Proof.Laws

@[simp] theorem engineAt_setEngine (e j : Nat) (f : Engine → Engine) (s : State) :
    engineAt (setEngine e f s) j = if j = e then f (engineAt s e) else engineAt s j := by
  simp [engineAt, setEngine]

/-- An engine's record once its count is cleared (R347). -/
def clearedEngine (x : Engine) : Engine := { x with unavailable := 0 }

/-- What clearing the counts of the engines of a range that the caller owns leaves. -/
def clearEngines (may : Nat → Bool) (first n : Nat) (s : State) : State :=
  (List.range n).foldl (fun t j => if may (first + j) then setEngine (first + j) clearedEngine t else t) s

theorem engineAt_clearEngines (may : Nat → Bool) (first n e : Nat) (s : State) :
    engineAt (clearEngines may first n s) e =
      if first ≤ e ∧ e < first + n ∧ may e = true then clearedEngine (engineAt s e) else engineAt s e :=
  read_foldl_may (get := engineAt) (fun s k j => engineAt_setEngine k j clearedEngine s) may first n e s

theorem clearEngines_only (may : Nat → Bool) (first n : Nat) (s : State) :
    clearEngines may first n s = { s with layers := { s.layers with engines := (clearEngines may first n s).layers.engines } } :=
  foldl_only (get := fun t => t.layers.engines) (upd := fun s g => { s with layers := { s.layers with engines := g } })
    (by intros; dsimp only; split <;> rfl) (by intros; rfl) (by intros; rfl) _ _

theorem isZero_slice {p : Bytes} {o n : Nat} (h : isZero p o n = true) : isZero (slice p o n) 0 n = true := by
  rw [isZero, slice, slice, List.drop_zero, List.take_take, min_self]
  exact h

/-- The state after LAY_SHEPHERD_SHOW: the table, the mask and the fade taken, the change waiting. -/
def shown (it : CopyItem) (tab : List Bytes) (mask fade : Nat) (c : ShepChange) (s : State) : State :=
  { copyItem it s with layers := { (copyItem it s).layers with
    table := tab, onMask := mask, fadeFrames := fade, changes := (copyItem it s).layers.changes ++ [c] } }

theorem shown_only (it : CopyItem) (tab : List Bytes) (mask fade : Nat) (c : ShepChange) (s : State) :
    shown it tab mask fade c s = { s with
      layers := (shown it tab mask fade c s).layers, twin := (shown it tab mask fade c s).twin } := by
  rw [shown, copyItem_eq]

theorem shown_layers (it : CopyItem) (tab : List Bytes) (mask fade : Nat) (c : ShepChange) (s : State) :
    (shown it tab mask fade c s).layers =
      { s.layers with table := tab, onMask := mask, fadeFrames := fade, changes := s.layers.changes ++ [c] } := by
  rw [shown, copyItem_eq]

end Sys2Proof.Proofs
end

section
/-! The statement about the LAY commands. -/

namespace Sys2Proof.Proofs

open Sys2Proof Sys2Proof.Machine Sys2Proof.Safety Sys2Proof.Laws

/-- The form of LAY_SHEPHERD_WRITE (R349). -/
theorem cardForm_ok {p : Bytes} (hn : rd p 0 1 < 64) (hop : 1 ≤ rd p 1 1 ∧ rd p 1 1 ≤ 4) (hz2 : isZero p 2 2 = true)
    (hzC : isZero p 0xC 4 = true) (ho : rd p 1 1 = 2 ∨ rd p 4 4 = 0) (hlen : rd p 1 1 ≤ 2 ∨ rd p 8 4 = 0) :
    ∀ x ∈ [(decide (rd p 0 1 < 64), 0), (decide (1 ≤ rd p 1 1 ∧ rd p 1 1 ≤ 4), 1), (isZero p 2 2, 2),
      (decide (rd p 1 1 = 2 ∨ rd p 4 4 = 0), 4), (decide (rd p 1 1 ≤ 2 ∨ rd p 8 4 = 0), 8), (isZero p 0xC 4, 0xC)],
      x.1 = true := by
  simp only [List.forall_mem_cons, decide_eq_true_eq]
  exact ⟨hn, hop, hz2, ho, hlen, hzC, by simp⟩

/-- The form of LAY_SET for a recall or a preset of an engine that leads its gang (R348). -/
theorem laySetForm_ok {p : Bytes} {q : Quire} (he : rd p 0 1 < 64) (hgang : leField q (rd p 0 1) 4 1 ≠ 0xFF)
    (hmem : rd p 2 1 < (gangOf q (rd p 0 1)).length) (hz : isZero p 6 2 = true) (h7 : rd p 4 1 ≤ 7) (h5 : rd p 5 1 = 0)
    (hop : rd p 1 1 = 1 ∨ rd p 1 1 = 2) (hsel : rd p 3 1 < 16) (hnone : rd p 1 1 ≠ 1 ∨ rd p 3 1 = 0)
    (hlayers : ∀ l, l < 4 → ∀ c ∈ laySetForm (rd p 1 1) 0 p l, c.1 = true) :
    ∀ x ∈ [(decide (rd p 0 1 < 64 ∧ leField q (rd p 0 1) 4 1 ≠ 0xFF), 0), (decide (rd p 1 1 ≤ 2), 1),
      (decide (rd p 2 1 < (gangOf q (rd p 0 1)).length), 2),
      (decide (rd p 3 1 < 16 ∧ (rd p 1 1 ≠ 1 ∨ rd p 3 1 = 0)), 3),
      (decide (if rd p 1 1 = 0 then rd p 4 1 = 0 else rd p 4 1 ≤ 7), 4),
      (decide (if rd p 1 1 = 0 then rd p 5 1 < 16 else rd p 5 1 = 0), 5), (isZero p 6 2, 6)] ++
      (List.range 4).flatMap (laySetForm (rd p 1 1) (rd p 5 1) p), x.1 = true := by
  refine List.forall_mem_append.mpr ⟨?_, fun x hx => ?_⟩
  · have hop0 : rd p 1 1 ≠ 0 := by omega
    simp only [List.forall_mem_cons, decide_eq_true_eq, if_neg hop0]
    exact ⟨⟨he, hgang⟩, by omega, hmem, ⟨hsel, hnone⟩, h7, h5, hz, by simp⟩
  · obtain ⟨l, hl, hx⟩ := List.mem_flatMap.mp hx
    exact hlayers l (by simpa using hl) x (h5 ▸ hx)

/-- Settles O33: each command passes its checks and answers with its body; the card operations are the cases of R349. -/
theorem layerCommands : Obligations.LayerCommands := by
  unfold Obligations.LayerCommands
  intro r s
  refine ⟨?status, ?set, ?cards, ?table, ?read⟩
  case status =>
    intro h hlen h1 hfit hclear hz
    have hform : ∀ x ∈ [(decide (rd r.params 0 1 < 64), 0),
        (decide (1 ≤ rd r.params 1 1 ∧ rd r.params 0 1 + rd r.params 1 1 ≤ 64), 1), (decide (rd r.params 2 1 ≤ 1), 2),
        (isZero r.params 3 1, 3)], x.1 = true := by
      simp only [List.forall_mem_cons, decide_eq_true_eq]
      exact ⟨by omega, ⟨h1, hfit⟩, hclear, hz, by simp⟩
    refine ⟨if decide (rd r.params 2 1 = 1) = true then clearEngines (fun e => owns r (leField s.quire.active e 1 1))
        (rd r.params 0 1) (rd r.params 1 1) (begun 0x0B01 r s) else begun 0x0B01 r s,
      command_answers h ((checks_ok hlen hform).trans ?_), ?_, fun e => ?_, fun hno => ?_, fun hyes j hj hmay => ?_⟩
    · rw [bit_zero_of_le_one hclear]
      rfl
    · split
      · exact clearEngines_only ..
      · rfl
    · split
      · rw [engineAt_clearEngines]
        split <;> rfl
      · rfl
    · rw [if_neg (by simp [hno])]
      rfl
    · rw [if_pos (decide_eq_true hyes), engineAt_clearEngines, if_pos ⟨by omega, by omega, hmay⟩]
      rfl
  case set =>
    intro h p e q hp he hq hlen he64 hgang hmem hz howns h7 h5
    subst hp he hq
    refine ⟨fun hop hsel hzeros hpend hfull => ?recalled, fun hop hsel hlayers hrecord hswap => ?preset⟩
    case recalled =>
      have hlayers (l : Nat) (hl : l < 4) : ∀ c ∈ laySetForm 1 0 r.params l, c.1 = true := by
        rw [laySetForm, if_pos (by simp [hsel, bit])]
        simpa using isZero_slice (hzeros l hl)
      have hform := laySetForm_ok he64 hgang hmem hz h7 h5 (.inl hop) (by omega) (.inr hsel)
        (by rw [hop]; exact hlayers)
      have hps : layPayloads r.params = [layPayload 2 (rd r.params 2 1) 0 0 (rd r.params 4 1) (zeros 16)] := by
        rw [layPayloads, if_neg (by omega)]
      refine command_keeps_for_later h ((needLen_ok hlen).trans ((needForm_ok hform).trans ?_))
      have hroom : ¬ 16 < pendingFor (begun 0x0B02 r s) kLayer (rd r.params 0 1) +
          [layPayload 2 (rd r.params 2 1) 0 0 (rd r.params 4 1) (zeros 16)].length := Nat.not_lt.mpr hpend
      have hspace : ¬ queueFull (begun 0x0B02 r s) 1 = true := fun hf => absurd (hfull.symm.trans hf) Bool.false_ne_true
      rw [hps]
      exact (if_neg (by simpa using howns)).trans ((if_neg (by omega)).trans ((if_neg hroom).trans ((if_neg hspace).trans
        (if_neg (List.cons_ne_nil _ _)))))
    case preset =>
      have hform := laySetForm_ok he64 hgang hmem hz h7 h5 (.inr hop) (by omega) (.inl (by omega))
        (by rw [hop]; exact hlayers)
      refine command_answers h ((needLen_ok hlen).trans ((needForm_ok hform).trans ?_))
      have hfirst : (List.range 4).filter (fun l => bit (rd r.params 3 1) l) = [0] := by rw [hsel]; decide
      have hfind : [0].find? (fun l => !recordOk (layerFormatNow (begun 0x0B02 r s) (rd r.params 0 1 + rd r.params 2 1) l)
          (slice r.params (8 + 32 * l) 32)) = none := by
        refine List.find?_eq_none.mpr fun l hl => ?_
        rw [List.mem_singleton.mp hl]
        exact ne_true_of_eq_false ((congrArg (!·) hrecord).trans rfl)
      rw [hfirst]
      refine (if_neg (by simpa using howns)).trans ((if_pos hop).trans ?_)
      dsimp only
      rw [hfind]
      show okay (countChange (copyItem (.change (changeOf 0x0B02 r (begun 0x0B02 r s))) { begun 0x0B02 r s with
        quire := { s.quire with
          active := qWrite s.quire.active fLayers (1184 * (rd r.params 0 1 + rd r.params 2 1) + 0xA0 + 128 * rd r.params 4 1)
            (slice r.params 8 32)
          swapping := s.quire.swapping.map fun w => _ } })) [] = _
      simp only [hswap, Option.map_none]
  case cards =>
    intro h n len hn hlen hn64 hz2 hzC
    subst hn hlen
    refine ⟨fun hl hop ho hdrawn hroom => ?begun_, fun hl hop hopen hfit => ?written, fun hl hop ho hlen => ?commit,
      fun hl hop ho hlen hdrawn => ?erase⟩
    case begun_ =>
      refine command_answers h ((if_neg (by simp [hl, hop])).trans ((needForm_ok (cardForm_ok hn64 (by omega) hz2 hzC
        (.inr ho) (by omega))).trans ?_))
      dsimp only
      rw [hop]
      exact (if_neg (ne_true_of_eq_false hdrawn)).trans (if_neg (Nat.not_lt.mpr hroom))
    case written =>
      refine command_answers h ((if_neg (by simp [hl, hop])).trans ((needForm_ok (cardForm_ok hn64 (by omega) hz2 hzC
        (.inl hop) (by omega))).trans ?_))
      dsimp only
      rw [hop]
      exact (if_neg (ne_true_of_eq_false hopen)).trans (if_neg (Nat.not_lt.mpr hfit))
    case commit =>
      have hform := cardForm_ok hn64 (by omega) hz2 hzC (.inr ho) (.inr hlen)
      refine ⟨fun hgood => command_answers h ((if_neg (by simp [hl, hop])).trans ((needForm_ok hform).trans ?_)),
        fun b hbad => command_answers h ((if_neg (by simp [hl, hop])).trans ((needForm_ok hform).trans ?_))⟩
      · dsimp only
        rw [hop, show cardFault (cardAt (begun 0x0B03 r s) (rd r.params 0 1)) = none from hgood]
        rfl
      · dsimp only
        rw [hop, show cardFault (cardAt (begun 0x0B03 r s) (rd r.params 0 1)) = some b from hbad]
        rfl
    case erase =>
      refine command_answers h ((if_neg (by simp [hl, hop])).trans ((needForm_ok (cardForm_ok hn64 (by omega) hz2 hzC
        (.inr ho) (.inr hlen))).trans ?_))
      dsimp only
      rw [hop]
      exact if_neg (ne_true_of_eq_false hdrawn)
  case table =>
    intro h n hn hlen hop hfade h64 hkeep hz hform
    have hform' : ∀ x ∈ [(decide (rd r.params 0 1 ≤ 1), 0), (decide (rd r.params 1 1 ≤ 30), 1),
        (decide (n ≤ 64 ∧ (rd r.params 0 1 = 1 ∨ n = 0)), 4), (isZero r.params 6 2, 6)] ++
          (List.range n).flatMap (showForm r.params), x.1 = true := by
      refine List.forall_mem_append.mpr ⟨?_, fun x hx => ?_⟩
      · simp only [List.forall_mem_cons, decide_eq_true_eq]
        exact ⟨hop, hfade, ⟨h64, hkeep⟩, hz, by simp⟩
      · obtain ⟨i, hi, hx⟩ := List.mem_flatMap.mp hx
        exact hform i (by simpa using hi) x hx
    subst hn
    refine ⟨_, _, rfl, command_answers h ((ownLength_ok (by omega) hlen hform').trans rfl), ?_, ?_⟩
    · exact shown_only ..
    · exact shown_layers ..
  case read =>
    intro h hp
    refine ⟨_, command_answers h (needLen_ok (by simp [hp])), ?_⟩
    rw [List.take_append_of_le_length (by simp; omega), List.take_append_of_le_length (by simp)]
    exact List.take_of_length_le (by simp)

end Sys2Proof.Proofs
end

section
/-! SUPPORT. Layer engines: the end of a change of format. -/

namespace Sys2Proof.Proofs

open Sys2Proof Sys2Proof.Machine Sys2Proof.Safety Sys2Proof.Laws

/-- The engine's mode of a change of format ends (R345). -/
def modeEnded (x : Engine) : Engine := { x with mode := none, waiting := false }

theorem foldl_modeEnded {e te : Nat} {s : State} (he : (engineAt s e).mode = some te)
    (hone : ∀ i, i ≠ e → (engineAt s i).mode ≠ some te) (n : Nat) :
    (List.range n).foldl (fun t i => if (engineAt t i).mode = some te then setEngine i modeEnded t else t) s =
      if e < n then setEngine e modeEnded s else s := by
  induction n with
  | zero => rfl
  | succ n ih =>
    rw [List.range_succ, List.foldl_append, ih, List.foldl_cons, List.foldl_nil]
    rcases Nat.lt_trichotomy e n with h | h | h
    · rw [if_pos h, if_neg, if_pos (by omega)]
      rw [engineAt_setEngine, if_neg (by omega)]
      exact hone n (by omega)
    · subst h
      rw [if_neg (Nat.lt_irrefl e), if_pos he, if_pos (Nat.lt_succ_self e)]
    · rw [if_neg (Nat.lt_asymm h), if_neg (hone n (by omega)), if_neg (by omega)]

end Sys2Proof.Proofs
end

section
/-! The statement about the layer engines. -/

namespace Sys2Proof.Proofs

open Sys2Proof Sys2Proof.Machine Sys2Proof.Safety Sys2Proof.Laws

/-- Settles O35: each event is read off its branch; the frames' end of a change touches the one engine whose mode it is. -/
theorem layerEngines : Obligations.LayerEngines := by
  unfold Obligations.LayerEngines
  intro e k line s u hu
  subst hu
  refine ⟨?live, ?changing, ?stopped, ?start, ?waits, ?ends, ?none_, ?one⟩
  case live =>
    intro o f v hf ho hrun hmode hline hv
    subst hf hv
    refine congrArg Host.Outcome.next ?_
    dsimp only
    rw [ho, hmode]
    refine (if_neg (by simp [hrun, hline])).trans ?_
    simp [Nat.sub_eq_zero_iff_le]
  case changing =>
    intro o f te hf ho hrun hmode hline hbefore
    subst hf
    refine ⟨fun hdue => congrArg Host.Outcome.next ?_, fun hearly => congrArg Host.Outcome.next ?_⟩
    · dsimp only
      rw [ho, hmode]
      refine (if_neg (by simp [hrun, hline, hdue])).trans ?_
      simp [hbefore]
    · dsimp only
      rw [ho, hmode]
      exact if_pos (.inr (.inl (by simpa using hearly)))
  case stopped =>
    intro hstop
    refine congrArg Host.Outcome.next ?_
    dsimp only
    split
    · exact if_pos (.inl (by simp [hstop]))
    · rfl
  case start =>
    intro te hte hwait hmode hreached hloads
    subst hte
    refine congrArg Host.Outcome.next (if_neg ?_)
    simp only [hwait, hmode, hreached, List.any_eq_true]
    rintro (h | h | h | ⟨i, hi, hw⟩)
    · exact h trivial
    · cases h
    · exact h trivial
    · exact absurd hw (by simp [hloads i hi])
  case waits =>
    intro h
    refine congrArg Host.Outcome.next (if_pos ?_)
    rcases h with h | h | h <;> simp [h]
  case ends =>
    intro te f hf he hmode hone hreached
    subst hf
    refine congrArg Host.Outcome.next ?_
    rw [hmode]
    refine (if_pos hreached).trans (congrArg (finishItem fLayers e stOk) ?_)
    exact (foldl_modeEnded hmode hone 64).trans (if_pos he)
  case none_ =>
    intro h
    have hdue : (s.layers.changes.filter fun c => c.engines.contains e && reached s (switchAfter s.quire.active
        (leField s.quire.active e 2 2) c.time)) = [] := List.filter_eq_nil_iff.mpr fun c hc => by simp [h c hc]
    exact congrArg Host.Outcome.next (if_pos hdue)
  case one =>
    intro c f hf hc hg hce hreached
    subst hf
    have hdue : (s.layers.changes.filter fun c => c.engines.contains e && reached s (switchAfter s.quire.active
        (leField s.quire.active e 2 2) c.time)) = [c] := by simp [hc, hce, hreached]
    refine ⟨_, congrArg Host.Outcome.next (if_neg ?_), ?_, ?_⟩
    · rw [hdue]
      exact List.cons_ne_nil _ _
    · simp [hc, hce, hg, hreached]
    · simp only [hdue, hg, List.foldl_cons, List.foldl_nil, hce]
      rw [List.filter_cons_of_pos (by simp)]
      rfl

end Sys2Proof.Proofs
end

section
/-! SUPPORT. Sessions aged, and cookies minted. -/

namespace Sys2Proof.Proofs

open Sys2Proof Sys2Proof.Machine Sys2Proof.Safety Sys2Proof.Laws

theorem copyItem_time (it : CopyItem) (s : State) : (copyItem it s).time = s.time := by
  rw [copyItem_eq]

theorem setPtpSessions_sessions (l : List PtpSession) (s : State) : (setPtpSessions l s).time.sessions = l := by
  rw [setPtpSessions]
  refine (foldl_keeps (get := fun t => t.time.sessions) (fun t x => ?_) _ _).trans
    (foldl_keeps (get := fun t => t.time.sessions) (fun t x => ?_) _ _)
  · exact congrArg (·.sessions) (copyItem_time ..)
  · exact congrArg (·.sessions) (copyItem_time ..)

/-- A grant that has not ended (R397). -/
def liveGrant (t : Nat) (g : Option Grant) : Option Grant := g.filter fun x => decide (t < x.ends)

theorem mem_grantsOf {x : PtpSession} {g : Grant} :
    g ∈ grantsOf x ↔ x.announce = some g ∨ x.sync = some g ∨ x.delay = some g := by
  simp [grantsOf, eq_comm]

theorem liveGrant_eq_some {t : Nat} {g : Option Grant} {x : Grant} :
    liveGrant t g = some x ↔ g = some x ∧ t < x.ends := by
  simp [liveGrant, Option.filter_eq_some_iff]

theorem liveGrant_of_live {t : Nat} {g : Option Grant} (h : ∀ x, g = some x → t < x.ends) : liveGrant t g = g :=
  Option.ext fun x => liveGrant_eq_some.trans ⟨And.left, fun hx => ⟨hx, h x hx⟩⟩

/-- A session without the grants that have ended. -/
def agedSession (t : Nat) (x : PtpSession) : PtpSession :=
  { x with announce := liveGrant t x.announce, sync := liveGrant t x.sync, delay := liveGrant t x.delay }

theorem live_of_mem_agedSession {t : Nat} {x : PtpSession} {g : Grant} (h : g ∈ grantsOf (agedSession t x)) : t < g.ends := by
  rcases mem_grantsOf.mp h with h | h | h
  all_goals exact (liveGrant_eq_some.mp h).2

theorem agedSession_of_live {t : Nat} {x : PtpSession} (h : ∀ g ∈ grantsOf x, t < g.ends) : agedSession t x = x := by
  rw [agedSession, liveGrant_of_live fun g hg => h g (mem_grantsOf.mpr (.inl hg)),
    liveGrant_of_live fun g hg => h g (mem_grantsOf.mpr (.inr (.inl hg))),
    liveGrant_of_live fun g hg => h g (mem_grantsOf.mpr (.inr (.inr hg)))]

theorem newCookies_length (key keys : Bytes) (n : Nat) (s : State) : (newCookies key keys n s).2.length = n := by
  induction n generalizing s with
  | zero => rfl
  | succ n ih => rw [newCookies, List.length_cons, ih]

end Sys2Proof.Proofs
end

section
/-! The statements about PTP and NTP. -/

namespace Sys2Proof.Proofs

open Sys2Proof Sys2Proof.Machine Sys2Proof.Safety Sys2Proof.Laws

/-- Settles O43: each message, send and timeout is read off its branch; the ageing keeps exactly the live grants. -/
theorem ptpEvents : Obligations.PtpEvents := by
  unfold Obligations.PtpEvents
  intro p i s
  refine ⟨?receive, ?unbound, ?managed, ?send, ?timeout, ?master, ?ageing⟩
  case receive =>
    intro addr msg a v hinst hrun hstate hup hlen hversion hdomain hauth
    have hgood : ¬ ((instAt s i).restarting = true ∨ (ppAt s p).state ≤ 1 ∨
        ¬ portUp s (ppField s.quire.active p 0 2) = true ∨ msg.length < 44 ∨ rdB msg 1 1 % 16 ≠ 2 ∨
        rdB msg 4 1 ≠ piField s.quire.active i 2 1) := by
      simp only [hrun, hup, hversion, hdomain]
      simp
      omega
    refine ⟨fun h => ?_, fun h => ?_⟩
    all_goals
      refine congrArg Host.Outcome.next ?_
      dsimp only
      rw [hinst]
      refine (if_neg hgood).trans ?_
      rw [hauth]
    · rcases h with rfl | ⟨rfl, hbit⟩
      · rfl
      · exact if_pos hbit
    · rcases h with rfl | ⟨rfl, hbit⟩
      · rfl
      · exact if_neg (ne_true_of_eq_false hbit)
  case unbound =>
    intro addr msg hnone
    refine congrArg Host.Outcome.next ?_
    dsimp only
    rw [hnone]
  case managed =>
    intro addr msg auth hkind
    rw [handlePtp, hkind]
    rfl
  case send =>
    intro hinst hrun
    refine ⟨fun hstate hbit => ⟨?_, ?_⟩, fun n x hstate hfind => ⟨fun g hg => ?_, fun g hg => ?_, fun hg => ?_⟩,
      fun session hstate => ?_, fun session hbit hrole => ?_⟩
    all_goals
      refine congrArg Host.Outcome.next ?_
      dsimp only
      rw [hinst]
      refine (if_neg (ne_true_of_eq_false hrun)).trans ?_
    · exact (if_pos ⟨hstate, .inr rfl⟩).trans (if_pos hbit)
    · exact (if_pos ⟨hstate, .inl rfl⟩).trans (if_pos hbit)
    · refine (if_pos ⟨hstate, .inl rfl⟩).trans ?_
      rw [hfind]
      dsimp only
      rw [if_pos rfl, hg]
    · refine (if_pos ⟨hstate, .inr rfl⟩).trans ?_
      rw [hfind]
      dsimp only
      rw [if_neg (by decide), hg]
    · refine (if_pos ⟨hstate, .inl rfl⟩).trans ?_
      rw [hfind]
      dsimp only
      rw [if_pos rfl, hg]
    · exact (if_neg (by omega)).trans (if_pos ⟨hstate, rfl⟩)
    · exact (if_neg (by omega)).trans ((if_neg (by omega)).trans (if_pos ⟨rfl, hbit, hrole⟩))
  case timeout =>
    intro f hinst hstate hvegen hmaster hslave hlate
    refine congrArg Host.Outcome.next ?_
    dsimp only
    rw [hinst]
    refine if_neg ?_
    rw [hmaster, hstate, hvegen]
    dsimp only
    rw [if_pos hslave]
    simpa using hlate
  case master =>
    intro hstate
    refine congrArg Host.Outcome.next ?_
    dsimp only
    split
    · rfl
    · exact if_pos (.inr (.inl hstate))
  case ageing =>
    refine ⟨dropEmpty (s.time.sessions.map (agedSession (now s))), rfl, setPtpSessions_sessions .., fun x hx => ?_,
      fun x hx hsome hlive => ?_⟩
    · obtain ⟨hx, hsome⟩ := List.mem_filter.mp hx
      obtain ⟨y, -, rfl⟩ := List.mem_map.mp hx
      exact ⟨of_decide_eq_true hsome, fun g hg => live_of_mem_agedSession hg⟩
    · exact List.mem_filter.mpr ⟨List.mem_map.mpr ⟨x, hx, agedSession_of_live hlive⟩, decide_eq_true hsome⟩

/-- Settles O44: each request, handshake and timeout is read off its branch. -/
theorem ntpEvents : Obligations.NtpEvents := by
  unfold Obligations.NtpEvents
  intro port addr msg s
  refine ⟨?request, ?unserved, ?opens, ?handshake, ?expired, ?waits, rfl⟩
  case request =>
    intro hserves hup
    have hserved : ¬ (¬ bit (portServices s.quire.active port) 0 = true ∨ ¬ portUp s port = true) := by simp [hserves, hup]
    refine ⟨fun h => congrArg Host.Outcome.next ((if_neg hserved).trans (if_pos ?_)),
      fun nts hnts hlen hmode hversion hon => ⟨fun hyes hbad => ?_, fun hformed => ?_⟩⟩
    · exact h.elim .inl fun h => .inr (.inl h)
    · subst hnts
      exact congrArg Host.Outcome.next ((if_neg hserved).trans
        (if_pos (.inr (.inr (.inr (.inr ⟨hyes, ne_true_of_eq_false hbad⟩))))))
    · subst hnts
      have hgood : ¬ (msg.length < 48 ∨ rdB msg 0 1 % 8 ≠ 3 ∨ (rdB msg 0 1 / 8 % 8 ≠ 3 ∧ rdB msg 0 1 / 8 % 8 ≠ 4) ∨
          ¬ bit (qRd s.quire.active fTime 6 1)
            (if ((extFields 32 msg 48).any fun x => decide (x.1 = 0x0204 ∨ x.1 = 0x0404)) = true then 1 else 0) = true ∨
          (((extFields 32 msg 48).any fun x => decide (x.1 = 0x0204 ∨ x.1 = 0x0404)) = true ∧ ¬ ntsFormed msg = true)) := by
        rintro (h | h | h | h | ⟨hyes, hbad⟩)
        · omega
        · exact h hmode
        · omega
        · exact h hon
        · exact hformed.elim (ne_true_of_eq_false · hyes) hbad
      refine ⟨fun hfull => congrArg Host.Outcome.next ((if_neg hserved).trans ((if_neg hgood).trans (if_pos hfull))),
        fun t u kiss hroom hu => ?_⟩
      have hnext {a : Bool × Bool × State} {b : State} (ha : takeToken addr s = a) (hb : (if ¬ a.1 = true then
          ntpCount 3 (if a.2.1 then emit (.ntp port addr (ntpHeader a.2.2 port msg (some "RATE"))) a.2.2 else a.2.2)
        else if (extFields 32 msg 48).any fun x => decide (x.1 = 0x0204 ∨ x.1 = 0x0404) then
          ntsAnswer port addr msg (noteServed a.2.2)
        else ntpCount 1 (emit (.ntp port addr (ntpHeader (noteServed a.2.2) port msg none ++
          boundAsked (noteServed a.2.2) (extFields 32 msg 48))) (noteServed a.2.2))) = b) :
          exec (.ntpRequest port addr msg) s = .next b := by
        subst ha
        exact congrArg Host.Outcome.next ((if_neg hserved).trans ((if_neg hgood).trans
          ((if_neg (Nat.not_le.mpr hroom)).trans hb)))
      subst hu
      exact ⟨fun hok hplain => hnext hok ((if_neg (by simp)).trans (if_neg (ne_true_of_eq_false hplain))),
        fun hok hyes => hnext hok ((if_neg (by simp)).trans (if_pos hyes)),
        fun hkiss => hnext hkiss rfl, fun hdrop => hnext hdrop rfl⟩
  case unserved =>
    intro hno
    exact congrArg Host.Outcome.next (if_pos (.inl (ne_true_of_eq_false hno)))
  case opens =>
    intro conn good keys hlisted hserves hup hvegen hroom
    exact congrArg Host.Outcome.next ((if_pos rfl).trans (if_neg (by simp [hlisted, hserves, hup, hvegen, hroom])))
  case handshake =>
    intro conn keys s1 u k c cs key slot hlisted hsec hs1 hkey hcookie hnew
    refine ⟨congrArg Host.Outcome.next ?_, ?_⟩
    · refine (if_neg Bool.false_ne_true).trans ((if_neg (not_not_intro hlisted)).trans ?_)
      simp only [if_neg hsec, ← hs1, hkey]
      refine (if_neg (by simp)).trans ?_
      rw [hcookie]
      dsimp only
      rw [hnew]
    · rw [← newCookies_length key (fit 64 keys) 8 k, hnew]
  case expired =>
    intro conn h
    exact congrArg Host.Outcome.next (if_pos h)
  case waits =>
    intro conn h
    exact congrArg Host.Outcome.next (if_neg (ne_true_of_eq_false h))

end Sys2Proof.Proofs
end

section
/-! SUPPORT. The satellite receiver: its channels, its epochs and its aids. -/

namespace Sys2Proof.Proofs

open Sys2Proof Sys2Proof.Machine Sys2Proof.Safety Sys2Proof.Laws

@[simp] theorem chanAt_setSatChan (c j : Nat) (f : Channel → Channel) (s : State) :
    chanAt (setSatChan c f s) j = if j = c then f (chanAt s c) else chanAt s j := by
  simp [chanAt, setSatChan, setGnss, setTime]

/-- A channel that is in another state enters one anew (Table 14.2). -/
theorem chanEnter_of_ne {c st : Nat} {s : State} (h : (chanAt s c).state ≠ st) : chanEnter c st s =
    setSatChan c (fun x => { x with state := st, stateTime := now s, detected := false, dwells := 0 }) s :=
  if_neg h

theorem chanAt_chanEnter_other {c st j : Nat} {s : State} (h : j ≠ c) : chanAt (chanEnter c st s) j = chanAt s j := by
  rw [chanEnter]
  split
  · rfl
  · rw [chanAt_setSatChan, if_neg h]

theorem chanEnter_state (c st : Nat) (s : State) : (chanAt (chanEnter c st s) c).state = st := by
  rw [chanEnter]
  split
  case isTrue h => exact h
  case isFalse => rw [chanAt_setSatChan, if_pos rfl]

theorem chanEnter_streams (c st : Nat) (s : State) : (chanEnter c st s).time.gnss.streams = s.time.gnss.streams := by
  rw [chanEnter]
  split <;> rfl

/-- Channels of a dead stream go IDLE, the others stay as they are (R426). -/
theorem chanAt_idleStream (i k n : Nat) (s : State) :
    (k < n → (chanAt s k).stream = i →
      (chanAt ((List.range n).foldl (fun t c => if (chanAt t c).stream = i then chanEnter c 0 t else t) s) k).state = 0) ∧
    (n ≤ k →
      chanAt ((List.range n).foldl (fun t c => if (chanAt t c).stream = i then chanEnter c 0 t else t) s) k = chanAt s k) := by
  induction n with
  | zero => exact ⟨fun h => absurd h (Nat.not_lt_zero k), fun _ => rfl⟩
  | succ n ih =>
    obtain ⟨ihdone, ihleft⟩ := ih
    rw [List.range_succ, List.foldl_append, List.foldl_cons, List.foldl_nil]
    have hother (hk : k ≠ n) (t : State) :
        chanAt (if (chanAt t n).stream = i then chanEnter n 0 t else t) k = chanAt t k := by
      split
      · exact chanAt_chanEnter_other hk
      · rfl
    refine ⟨fun hk hstream => ?_, fun hk => (hother (by omega) _).trans (ihleft (by omega))⟩
    by_cases h : k = n
    · subst h
      rw [ihleft (Nat.le_refl k), if_pos hstream]
      exact chanEnter_state ..
    · rw [hother h]
      exact ihdone (by omega) hstream

/-- A receiver with its epochs and channels taken from another. -/
def withEpochs (u s : State) : State := { s with time := { s.time with
  gnss := { s.time.gnss with epochs := u.time.gnss.epochs, channels := u.time.gnss.channels } } }

/-- The state of an epoch latched: its records buffered, the strengths noted (R433). -/
def latched (t : Nat) (recs : List (Nat × Bytes)) (sigs : List Sig) (s : State) : State :=
  sigs.foldl (fun u x => setSatChan x.rec_.channel (fun y => { y with cn0 := x.rec_.cn0 }) u)
    (setGnss (fun y => { y with epochs := keepLast 64 (y.epochs ++ [(t, recs)]) }) s)

theorem latched_epochs (t : Nat) (recs : List (Nat × Bytes)) (sigs : List Sig) (s : State) :
    (latched t recs sigs s).time.gnss.epochs = keepLast 64 (s.time.gnss.epochs ++ [(t, recs)]) :=
  foldl_keeps (get := fun t => t.time.gnss.epochs) (by intros; rfl) _ _

theorem latched_only (t : Nat) (recs : List (Nat × Bytes)) (sigs : List Sig) (s : State) :
    latched t recs sigs s = withEpochs (latched t recs sigs s) s := by
  have hfold := foldl_only (get := fun u => u.time.gnss.channels) (upd := fun u g => { u with
      time := { u.time with gnss := { u.time.gnss with channels := g } } })
    (put := fun u (x : Sig) => setSatChan x.rec_.channel (fun y => { y with cn0 := x.rec_.cn0 }) u)
    (by intros; rfl) (by intros; rfl) (by intros; rfl) sigs
    (setGnss (fun y => { y with epochs := keepLast 64 (y.epochs ++ [(t, recs)]) }) s)
  rw [withEpochs, latched_epochs]
  exact hfold

theorem mem_epochSigs {s : State} {e : GnssEpoch} {x : Sig} (h : x ∈ epochSigs s e) :
    x.rec_ ∈ e.recs ∧ x.rec_.channel < 96 := by
  obtain ⟨c, hc, hx⟩ := List.mem_filterMap.mp h
  obtain ⟨r, hr, rfl⟩ := Option.map_eq_some_iff.mp hx
  have hch : r.channel = c := by simpa using List.find?_some hr
  exact ⟨List.mem_of_find?_eq_some hr, lt_of_eq_of_lt hch (List.mem_range.mp hc)⟩

/-- An epoch with the records of the channels in TRACK (R433). -/
def trackedEpoch (s : State) (e : GnssEpoch) : GnssEpoch :=
  { e with recs := e.recs.filter fun r => decide ((chanAt s r.channel).state = 3) }

/-- The records that an epoch leaves in the buffer. -/
def epochRecs (s : State) (e : GnssEpoch) : List (Nat × Bytes) :=
  (epochSigs s (trackedEpoch s e)).map fun x => (x.rec_.channel, measRecord s x)

theorem mem_epochRecs {s : State} {e : GnssEpoch} {x : Nat × Bytes} (h : x ∈ epochRecs s e) :
    (chanAt s x.1).state = 3 ∧ x.1 < 96 := by
  obtain ⟨y, hy, rfl⟩ := List.mem_map.mp h
  obtain ⟨hmem, h96⟩ := mem_epochSigs hy
  have htrack := List.of_mem_filter hmem
  exact ⟨of_decide_eq_true htrack, h96⟩

/-- An epoch of a receiver with a clock is latched, and solved at a TAI second once Vegen is up (R433, R434). -/
theorem execMeasurementEpoch_clocked {e : GnssEpoch} {s : State} {p : Nat} (hstate : 2 ≤ s.time.gnss.state)
    (hp : 1000000000 / max (gnField s.quire.active 7 1) 1 = p) (hvegen : vegenUp s = true ∨ nowNs s / p * p % 1000000000 ≠ 0) :
    execMeasurementEpoch e s = .next (if nowNs s / p * p % 1000000000 ≠ 0 then
        latched (nowNs s / p * p) (epochRecs s e) (epochSigs s (trackedEpoch s e)) s
      else solveEpoch (nowNs s / p * p) (trackedEpoch s e)
        (solvePaused (latched (nowNs s / p * p) (epochRecs s e) (epochSigs s (trackedEpoch s e)) s))) := by
  subst hp
  refine congrArg Host.Outcome.next ((if_neg (by omega)).trans ((if_neg (by omega)).trans ?_))
  dsimp only
  rcases hvegen with h | h
  · rw [if_pos h]
    rfl
  · rw [if_pos h, if_pos h]
    rfl

end Sys2Proof.Proofs
end

section
/-! The statements about the satellite receiver. -/

namespace Sys2Proof.Proofs

open Sys2Proof Sys2Proof.Machine Sys2Proof.Safety Sys2Proof.Laws

/-- What GNS_AID answers with: the refusal, or the aid taken (R446). -/
theorem execGnsAid_eq {r : Req} {s : State} {a : Ans} (h : Starts 0x0E03 r s) (hlen : 8 ≤ r.params.length)
    (ha : (match aidRefused r.port r.params (begun 0x0E03 r s) with
      | some (st, d) => refuse (begun 0x0E03 r s) st d
      | none => okay (takeAid r.params (begun 0x0E03 r s)) []) = a) (hnow : a.later = none := by rfl) :
    exec (.gnsAid r) s = .next (answered 0x0E03 r a) :=
  command_answers h ((if_neg (Nat.not_lt.mpr hlen)).trans ha) hnow

/-- Settles O45: each command passes its checks and answers with its body; an aid is what no rule forbids. -/
theorem gnssCommands : Obligations.GnssCommands := by
  unfold Obligations.GnssCommands
  intro r s
  refine ⟨?status, ?channels, ?aid, ?timeAid, ?clear, ?meas⟩
  case status =>
    intro h hlen hclear hz
    refine command_answers h ((checks_ok hlen (clearForm_ok hclear hz)).trans ?_)
    rw [bit_zero_of_le_one hclear]
    by_cases hyes : rd r.params 0 1 = 1
    · rw [decide_eq_true hyes, if_pos hyes]
      rfl
    · rw [decide_eq_false hyes, if_neg hyes]
      rfl
  case channels =>
    intro h hlen h96 h1 hfit hz
    exact command_answers h (checks_ok hlen (by simp [h96, h1, hfit, hz]))
  case aid =>
    intro h hlen
    refine ⟨fun st d hno => execGnsAid_eq h hlen ?_, fun hyes => execGnsAid_eq h hlen ?_⟩
    · rw [hno]
    · rw [hyes]
  case timeAid =>
    intro h hlen hkind hcon hz
    refine ⟨fun hacq => execGnsAid_eq h (by omega) ?_, fun hacq => execGnsAid_eq h (by omega) ?_⟩
    · have hno : aidRefused r.port r.params (begun 0x0E03 r s) = some (stNotActive, 0) := by
        simp [aidRefused, hkind, hcon, hlen, hz, hacq]
      rw [hno]
    · have hyes : aidRefused r.port r.params (begun 0x0E03 r s) = none := by
        simp [aidRefused, hkind, hcon, hlen, hz, hacq]
      rw [hyes, takeAid, if_pos hkind]
      rfl
  case clear =>
    intro h hlen hkind hcon hz
    refine ⟨fun hroot hsus => execGnsAid_eq h (by omega) ?_, fun hroot => execGnsAid_eq h (by omega) ?_⟩
    · have hyes : aidRefused r.port r.params (begun 0x0E03 r s) = none := by
        simp [aidRefused, hkind, hcon, hlen, hz, hroot]
      rw [hyes, takeAid, if_neg (by omega), if_neg (by omega), if_pos hkind,
        if_pos (show (begun 0x0E03 r s).time.gnss.state = 6 from hsus)]
      rfl
    · have hno : aidRefused r.port r.params (begun 0x0E03 r s) = some (stNotPermitted, r.port) := by
        simp [aidRefused, hkind, hcon, hlen, hz, hroot]
      rw [hno]
  case meas =>
    intro h hlen h96 h1 hfit hz
    have hform : ∀ x ∈ [(decide (rd r.params 8 1 < 96), 8),
        (decide (1 ≤ rd r.params 9 1 ∧ rd r.params 8 1 + rd r.params 9 1 ≤ 96), 9), (isZero r.params 10 6, 10)],
        x.1 = true := by simp [h96, h1, hfit, hz]
    refine ⟨fun e recs he hrecs => command_answers h ((checks_ok hlen hform).trans ?_), fun hnone =>
      command_answers h ((checks_ok hlen hform).trans ?_)⟩
    · have he' : (if rd r.params 0 8 = 0 then (begun 0x0E04 r s).time.gnss.epochs.getLast?
          else (begun 0x0E04 r s).time.gnss.epochs.find? fun p => decide (p.1 = rd r.params 0 8)) = some e := he
      subst hrecs
      dsimp only
      rw [he']
    · have he' : (if rd r.params 0 8 = 0 then (begun 0x0E04 r s).time.gnss.epochs.getLast?
          else (begun 0x0E04 r s).time.gnss.epochs.find? fun p => decide (p.1 = rd r.params 0 8)) = none := by
        rw [show (begun 0x0E04 r s).time.gnss.epochs = [] from hnone]
        split <;> rfl
      dsimp only
      rw [he']

/-- Settles O46: each event is read off its branch; a dead stream's channels go IDLE one by one. -/
theorem gnssChannels : Obligations.GnssChannels := by
  unfold Obligations.GnssChannels
  intro c s
  refine ⟨fun stamp => rfl, ?lost, ?still, ?returns, ?stream, ?dead, ?alloc, fun sats => ?most, ?dwell, ?pullin, ?lock, ?reacq⟩
  case lost =>
    intro hgood hon
    exact congrArg Host.Outcome.next ((if_neg (not_not_intro hgood)).trans (if_neg (not_not_intro hon)))
  case still =>
    intro hgood
    exact congrArg Host.Outcome.next (if_pos (ne_true_of_eq_false hgood))
  case returns =>
    have hmax (n : Nat) : (if n ≤ 1 then 2 else n) = max 2 n := by split <;> omega
    show Host.Outcome.next (setGnss (fun g => { g with
      goodClock := true
      state := if gnssOn s.quire.active then (if g.state ≤ 1 then 2 else g.state) else 0 }) s) = _
    simp only [hmax]
    rfl
  case stream =>
    intro i x n hi
    have hover : (n < 5 * x) = (20 * n < 100 * x) := by simp only [eq_iff_iff]; omega
    refine congrArg Host.Outcome.next ((if_neg (Nat.not_le.mpr hi)).trans ((if_neg ?_).trans ?_))
    · rw [if_neg Bool.false_ne_true]
      split <;> decide
    · rw [if_neg Bool.false_ne_true]
      simp only [hover]
      rfl
  case dead =>
    intro i x n hi
    refine ⟨_, congrArg Host.Outcome.next ((if_neg (Nat.not_le.mpr hi)).trans (if_pos rfl)), ?_, fun k hk hstream => ?_⟩
    · rw [foldl_keeps (get := fun t => t.time.gnss.streams) (fun t k => ?_)]
      · show mget (fun _ => 1) (mset (fun _ => 1) s.time.gnss.streams i 3) i = 3
        rw [mget_mset, if_pos rfl]
      · split
        · exact chanEnter_streams ..
        · rfl
    · exact (chanAt_idleStream i k 96 _).1 hk hstream
  case alloc =>
    intro sats hon hgood
    exact congrArg Host.Outcome.next (if_neg (by simp [hon, hgood]))
  case most =>
    rw [wanted]
    exact List.length_take_le ..
  case dwell =>
    intro hc hstate
    have hsearches : ¬ (96 ≤ c ∨ ((chanAt s c).state ≠ 1 ∧ (chanAt s c).state ≠ 4)) := by omega
    refine ⟨fun hno => congrArg Host.Outcome.next ((if_neg hsearches).trans ((if_pos rfl).trans
      (if_neg (ne_true_of_eq_false hno)))), fun hyes => congrArg Host.Outcome.next ((if_neg hsearches).trans ((if_pos rfl).trans
      ((if_pos hyes).trans (chanEnter_of_ne (by omega))))), congrArg Host.Outcome.next ((if_neg hsearches).trans
      (if_neg Bool.false_ne_true))⟩
  case pullin =>
    intro hstate hdue
    exact congrArg Host.Outcome.next ((if_pos ⟨hstate, hdue⟩).trans (chanEnter_of_ne (by omega)))
  case lock =>
    intro hstate
    exact congrArg Host.Outcome.next ((if_pos hstate).trans (chanEnter_of_ne (by omega)))
  case reacq =>
    intro hstate hdue
    exact congrArg Host.Outcome.next ((if_pos ⟨hstate, hdue⟩).trans (chanEnter_of_ne (by omega)))

/-- Settles O47: each event is read off its branch; the records of an epoch come from the channels in TRACK. -/
theorem gnssSolutions : Obligations.GnssSolutions := by
  unfold Obligations.GnssSolutions
  intro s
  refine ⟨?nav, ?deaf, ?off, ?clockless, ?latch, ?solve, ?hold, ?held, ?conclude⟩
  case nav =>
    intro c m bits con hcon hstate hvegen hgood
    subst hcon
    exact congrArg Host.Outcome.next (if_neg (by simp [hstate, hvegen, hgood]))
  case deaf =>
    intro c m bits hstate
    exact congrArg Host.Outcome.next (if_pos (.inl hstate))
  case off =>
    intro e hstate
    exact congrArg Host.Outcome.next (if_pos hstate)
  case clockless =>
    intro e hstate hrate
    refine congrArg Host.Outcome.next ((if_neg (by omega)).trans ((if_pos hstate).trans (if_pos ?_)))
    rw [hrate]
    exact Nat.mul_mod_left ..
  case latch =>
    intro e t hstate hrate ht hpart
    subst ht
    have hp : 1000000000 / max (gnField s.quire.active 7 1) 1 = 100000000 := by rw [hrate]; rfl
    exact ⟨_, (execMeasurementEpoch_clocked hstate hp (.inr hpart)).trans (congrArg Host.Outcome.next (if_pos hpart)),
      ⟨_, latched_epochs .., fun x hx => mem_epochRecs hx⟩, latched_only ..⟩
  case solve =>
    intro e hstate hvegen hrate
    have hp : 1000000000 / max (gnField s.quire.active 7 1) 1 = 1000000000 := by rw [hrate]; rfl
    have hwhole : ¬ nowNs s / 1000000000 * 1000000000 % 1000000000 ≠ 0 := by omega
    refine ⟨_, (execMeasurementEpoch_clocked hstate hp (.inl hvegen)).trans (congrArg Host.Outcome.next (if_neg hwhole)), ?_⟩
    rw [latched_only]
    exact ⟨rfl, rfl, rfl, rfl⟩
  case hold =>
    intro hstate hdue
    exact congrArg Host.Outcome.next (if_pos ⟨hstate, hdue⟩)
  case held =>
    intro hstate
    exact congrArg Host.Outcome.next (if_neg fun h => hstate h.1)
  case conclude =>
    intro t e k enough fits
    refine ⟨fun n hn => ?_, fun n hstate => ?_, fun hnone hstate u hu => ?_⟩
    · rw [concludeEpoch, hn]
    · rw [suspectOn, if_pos hstate]
      rfl
    · subst hu
      rw [concludeEpoch, hnone]
      exact if_pos hstate

end Sys2Proof.Proofs
end

section
/-! SUPPORT. What is read of a record of little-endian fields. -/

namespace Sys2Proof.Proofs

open Sys2Proof Sys2Proof.Machine Sys2Proof.Safety Sys2Proof.Laws

theorem leNat_le (k n : Nat) : leNat (le k n) = n % 256 ^ k := by
  induction k generalizing n with
  | zero => simp [le, leNat, Nat.mod_one]
  | succ k ih =>
    rw [le, leNat, ih, pow_succ', Nat.mod_mul]
    simp [BitVec.toNat_ofNat]

theorem rd_le (k n : Nat) : rd (le k n) 0 k = n % 256 ^ k := by
  rw [rd, slice, List.drop_zero, List.take_of_length_le (by simp), leNat_le]

theorem rd_append_of_le {a b : Bytes} {o k : Nat} (h : o + k ≤ a.length) : rd (a ++ b) o k = rd a o k := by
  rw [rd, rd, slice, slice, List.drop_append_of_le_length (by omega), List.take_append_of_le_length (by simp; omega)]

theorem rd_append_le {a : Bytes} {o : Nat} (h : a.length = o) (k n : Nat) : rd (a ++ le k n) o k = n % 256 ^ k := by
  subst h
  rw [rd, slice, List.drop_left, List.take_of_length_le (by simp), leNat_le]

theorem b2n_le_one (b : Bool) : b2n b ≤ 1 := by cases b <;> decide

/-- The flags of a byte packed from its four lowest bits. -/
theorem bit_flags (a b c d : Bool) : bit ((b2n a + 2 * b2n b + 4 * b2n c + 8 * b2n d) % 256 ^ 1) 0 = a ∧
    bit ((b2n a + 2 * b2n b + 4 * b2n c + 8 * b2n d) % 256 ^ 1) 1 = b := by
  revert a b c d
  decide

/-- The snapshot on its way to a returning twin, taken at a cycle (R469). -/
def snapshotSent (d : Bytes) (c : Nat) (x : Twin) : Twin := { x with sendLeft := d, sendAt := 0, snapshotCycle := c }

theorem syncReply (p c n : Nat) (hp : p < 256) (hc : c < 2 ^ 32) (hn : n < 2 ^ 64) :
    rd (le 1 p ++ zeros 3 ++ le 4 c ++ le 8 n) 0 1 = p ∧ rd (le 1 p ++ zeros 3 ++ le 4 c ++ le 8 n) 4 4 = c ∧
      rd (le 1 p ++ zeros 3 ++ le 4 c ++ le 8 n) 8 8 = n := by
  refine ⟨?_, ?_, ?_⟩
  · rw [rd_append_of_le (by simp), rd_append_of_le (by simp), rd_append_of_le (by simp), rd_le]
    exact Nat.mod_eq_of_lt (by omega)
  · rw [rd_append_of_le (by simp), rd_append_le (by simp)]
    exact Nat.mod_eq_of_lt (by omega)
  · rw [rd_append_le (by simp)]
    exact Nat.mod_eq_of_lt (by omega)

end Sys2Proof.Proofs
end

section
/-! The statements about the TWN and FLK commands and the flock. -/

namespace Sys2Proof.Proofs

open Sys2Proof Sys2Proof.Machine Sys2Proof.Safety Sys2Proof.Laws

/-- A flock with a report entered in its heard log. -/
def heardReport (log : List Report) (serial count : U32) (f : Flock) : Flock :=
  { f with heard := log, heardSerial := serial, heardCount := count }

theorem heardReport_heard (log : List Report) (serial count : U32) (f : Flock) :
    (heardReport log serial count f).heard = log ∧ (heardReport log serial count f).heardCount = count ∧
      (heardReport log serial count f).acceptedCount = f.acceptedCount := ⟨rfl, rfl, rfl⟩

theorem takeReport_eq (m : Bytes) (s : State) : takeReport m s = setFlock (fun f => heardReport
    (keepLast 4096 (f.heard ++ [⟨f.heardSerial + 1, rd (slice m 32 (rd m 4 2)) 8 4, slice m 32 (rd m 4 2)⟩]))
    (f.heardSerial + 1) (satInc f.heardCount) f) s := rfl

/-- The reply of TWN_STATUS (R480). -/
def twinReply (s : State) : Bytes :=
  let x := s.twin
  let lease := max (x.lastHeard.getD 0) (x.ownLease.getD 0)
  le 1 x.role.code ++ le 1 (match x.partnerRole with | some p => p.code | none => 0xFF) ++
    le 1 s.boot.side ++
    le 1 (b2n (holdsCrook s) + 2 * b2n s.fabric.stitch.active + 4 * b2n (partnerOnFold s) + 8 * b2n (partnerFit s)) ++
    le 4 (cycleNow s % 2 ^ 32) ++ le 8 (nsOf lease) ++ le 4 x.takeovers.toNat ++ zeros 4 ++
    le 8 (nsOf x.roleTime)

theorem twinReply_length (s : State) : (twinReply s).length = 32 := by
  simp [twinReply]

theorem twinReply_fields (s : State) : rd (twinReply s) 0 1 = s.twin.role.code ∧ rd (twinReply s) 2 1 = s.boot.side % 256 ∧
    rd (twinReply s) 4 4 = cycleNow s % 2 ^ 32 ∧ bit (rd (twinReply s) 3 1) 0 = holdsCrook s ∧
    bit (rd (twinReply s) 3 1) 1 = s.fabric.stitch.active ∧ rd (twinReply s) 0x10 4 = s.twin.takeovers.toNat := by
  have hflags : rd (twinReply s) 3 1 = (b2n (holdsCrook s) + 2 * b2n s.fabric.stitch.active + 4 * b2n (partnerOnFold s) +
      8 * b2n (partnerFit s)) % 256 ^ 1 := by
    simp (disch := simp) only [twinReply, rd_append_of_le, rd_append_le]
  refine ⟨?_, ?_, ?_, ?_, ?_, ?_⟩
  · have hcode : s.twin.role.code < 256 := by cases s.twin.role <;> decide
    simp (disch := simp) only [twinReply, rd_append_of_le, rd_le]
    omega
  · simp (disch := simp) only [twinReply, rd_append_of_le, rd_append_le]
    rw [pow_one]
  · simp (disch := simp) only [twinReply, rd_append_of_le, rd_append_le]
    omega
  · rw [hflags]
    exact (bit_flags ..).1
  · rw [hflags]
    exact (bit_flags ..).2
  · simp (disch := simp) only [twinReply, rd_append_of_le, rd_append_le]
    exact Nat.mod_eq_of_lt s.twin.takeovers.isLt

/-- Settles O48: each command passes its checks and answers with its body; what a reply holds is read off its fields. -/
theorem twinCommands : Obligations.TwinCommands := by
  unfold Obligations.TwinCommands
  intro r s
  refine ⟨?status, ?health, ?yield_, ?sync, ?flock, ?report, ?members⟩
  case status =>
    intro h hp
    exact ⟨twinReply (begun 0x0F01 r s), command_answers h (needLen_ok (by simp [hp])), twinReply_length _,
      twinReply_fields (begun 0x0F01 r s)⟩
  case health =>
    intro h hlen hclear hz
    refine command_answers h ((checks_ok hlen (by simp [hclear, hz])).trans ?_)
    rw [bit_zero_of_le_one hclear]
    by_cases hyes : rd r.params 0 1 = 1
    · rw [decide_eq_true hyes, if_pos hyes]
      rfl
    · rw [decide_eq_false hyes, if_neg hyes]
      rfl
  case yield_ =>
    intro h hp
    have hlen : r.params.length = 0 := by simp [hp]
    refine ⟨fun htwin hside hpartner => command_keeps_for_later h ((needLen_ok hlen).trans (if_neg ?_)),
      fun hno => command_answers h ((needLen_ok hlen).trans (if_pos ?_))⟩
    · rintro (h | h | h)
      · exact h htwin
      · exact ne_true_of_eq_false hside h
      · exact h hpartner
    · exact hno.elim (fun h => .inl (ne_true_of_eq_false h)) .inr
  case sync =>
    intro h hlen hop hop' hp hp' hz hz'
    have hform : ∀ x ∈ [(decide (1 ≤ rd r.params 0 1 ∧ rd r.params 0 1 ≤ 2), 0),
        (decide (1 ≤ rd r.params 1 1 ∧ rd r.params 1 1 ≤ 5), 1), (isZero r.params 2 2, 2), (isZero r.params 4 4, 4)],
        x.1 = true := by simp [hop, hop', hp, hp', hz, hz']
    have hcycle : cycleNow s % 2 ^ 32 < 2 ^ 32 := Nat.mod_lt _ (by decide)
    refine ⟨fun hpartner hstaging => ⟨fun h3 h1 d hd => ?_, fun h3 => ?_⟩, fun hpartner hstaging => ?_, fun hpartner => ?_⟩
    · have hsize : d.length < 2 ^ 64 := by
        have := List.length_take_le (2 ^ 30) (Config.snapshotBytes (snapshotNow (begun 0x0F04 r s)))
        rw [hd]
        omega
      refine ⟨_, command_answers h ((checks_ok hlen hform).trans ((if_neg (not_not_intro hpartner)).trans
        ((if_neg (ne_true_of_eq_false hstaging)).trans ?_))), syncReply 3 _ d.length (by decide) hcycle hsize⟩
      dsimp only
      simp only [h1, h3, and_self, true_or, if_true, ← hd, setTwin]
      rfl
    · refine ⟨_, command_answers h ((checks_ok hlen hform).trans ((if_neg (not_not_intro hpartner)).trans
        ((if_neg (ne_true_of_eq_false hstaging)).trans ?_))), syncReply (rd r.params 1 1) _ 0 (by omega) hcycle (by decide)⟩
      dsimp only
      simp only [h3, and_false, false_or, if_false]
      rfl
    · exact command_answers h ((checks_ok hlen hform).trans ((if_neg (not_not_intro hpartner)).trans (if_pos hstaging)))
    · exact command_answers h ((checks_ok hlen hform).trans (if_pos hpartner))
  case flock =>
    intro h hp
    exact command_answers h (needLen_ok (by simp [hp]))
  case report =>
    intro h log op n hlog hop hn hlen hlog1 hop1 hn1 hn64 hz
    subst hlog hop hn
    refine command_answers h ((checks_ok hlen (by simp [hlog1, hop1, hn1, hn64, hz])).trans ?_)
    by_cases hrel : rd r.params 1 1 = 1 ∧ rd r.params 0 1 = 0
    · rw [if_pos hrel, if_pos hrel]
      rfl
    · rw [if_neg hrel, if_neg hrel]
      rfl
  case members =>
    intro h n l hn hlen hn1 hn512 hz hl
    subst hn hl
    exact command_answers h (checks_ok hlen (by simp [hn1, hn512, hz]))

/-- Settles O50: each message is read off the branch of its type, sequence and epoch. -/
theorem flockEvents : Obligations.FlockEvents := by
  unfold Obligations.FlockEvents
  intro s
  refine ⟨?hello, ?alone, rfl, ?message, ?accept⟩
  case hello =>
    intro hmember
    exact congrArg Host.Outcome.next (if_pos hmember)
  case alone =>
    intro hno
    exact ⟨congrArg Host.Outcome.next (if_neg (ne_true_of_eq_false hno)), fun port station addr m =>
      congrArg Host.Outcome.next (if_pos (.inl (ne_true_of_eq_false hno)))⟩
  case message =>
    intro port station addr m n k slot hmember hn hlen hmax hmagic hversion hkey
    subst hn
    have hform : ¬ (¬ flockMember s = true ∨ m.length ≠ 48 + rd m 4 2 ∨ 1400 < rd m 4 2 ∨ rd m 0 2 ≠ 0xF10C ∨ rd m 2 1 ≠ 1) := by
      simp [hmember, hlen, hmax, hmagic, hversion]
    refine ⟨fun hgood => congrArg Host.Outcome.next ((if_neg hform).trans ?_),
      fun hbad => congrArg Host.Outcome.next ((if_neg hform).trans ?_)⟩
    · rw [hkey]
      exact if_pos (decide_eq_true hgood)
    · rw [hkey]
      exact if_neg (ne_true_of_eq_false (decide_eq_false hbad))
  case accept =>
    intro port station addr m ser hser
    subst hser
    refine ⟨fun x hx hseq => ?_, fun hnone => ⟨fun hepoch => ?_, fun hepoch htype => ?_⟩⟩
    · rw [acceptFlock]
      dsimp only
      rw [hx]
      exact if_pos (decide_eq_true hseq)
    · rw [acceptFlock]
      dsimp only
      rw [hnone]
      exact (if_neg Bool.false_ne_true).trans (if_pos (.inl hepoch))
    · refine ⟨_, rfl, ?_⟩
      rw [acceptFlock]
      dsimp only
      rw [hnone, htype]
      rw [if_neg Bool.false_ne_true, if_neg (by omega)]
      rw [takeReport_eq]
      exact ⟨rfl, heardReport_heard ..⟩

end Sys2Proof.Proofs
end

section
/-! SUPPORT. The twin's own record: an occurrence of an event beside it, and what a crook or health frame leaves of it. -/

namespace Sys2Proof.Proofs

open Sys2Proof Sys2Proof.Machine Sys2Proof.Safety Sys2Proof.Laws

variable {f : Twin → Twin} {s : State}

theorem sendMsi_setTwin (v : Nat) : sendMsi v (setTwin f s) = setTwin f (sendMsi v s) := by
  by_cases h : s.host.msixMask.getLsbD v = true
  · rw [show sendMsi v s = _ from if_pos h]
    exact if_pos h
  · rw [show sendMsi v s = _ from if_neg h]
    exact if_neg h

theorem lastGasp_setTwin (h : (f s.twin).role = s.twin.role) (src inst n rx : Nat) (brown : Bool) :
    lastGasp (setTwin f s) src inst n rx brown = lastGasp s src inst n rx brown := by
  simp only [lastGasp, setTwin, h]
  rfl

theorem raiseOne_setTwin (h : (f s.twin).role = s.twin.role) (inj : Bool) (src inst n : Nat) :
    raiseOne inj src inst n (setTwin f s) = (setTwin f (raiseOne inj src inst n s).1, (raiseOne inj src inst n s).2) := by
  unfold raiseOne
  simp only [lastGasp_setTwin h, sendMsi_setTwin, ← apply_ite (setTwin f)]
  rfl

theorem raise_setTwin (h : (f s.twin).role = s.twin.role) (src inst n : Nat) :
    raise src inst n (setTwin f s) = setTwin f (raise src inst n s) := by
  have htwin : (raiseOne false src inst n s).1.twin = s.twin := by rw [raiseOne_eq]
  have h' : (f (raiseOne false src inst n s).1.twin).role = (raiseOne false src inst n s).1.twin.role := by rw [htwin, h]
  unfold raise raiseInj
  simp only [raiseOne_setTwin h, raiseOne_setTwin h']
  by_cases hlost : (raiseOne false src inst n s).2 = true
  · rw [if_pos hlost, if_pos hlost]
    rfl
  · rw [if_neg hlost, if_neg hlost]

/-- From `s` to `t` neither a command waits that did not, nor has the twin another role or lease (R451). -/
def LeaseKept (s t : State) : Prop :=
  t.cmds.waiting = s.cmds.waiting ∧ t.twin.role = s.twin.role ∧ t.twin.ownLease = s.twin.ownLease

theorem LeaseKept.trans {s t u : State} (h : LeaseKept s t) (k : LeaseKept t u) : LeaseKept s u :=
  ⟨k.1.trans h.1, k.2.1.trans h.2.1, k.2.2.trans h.2.2⟩

theorem leaseKept_of_carried {s t : State} (h : Carried s t) : LeaseKept s t := by
  rw [LeaseKept, h.cmds_eq, h.twin_eq]
  exact ⟨rfl, rfl, rfl⟩

theorem leaseKept_setTwin {f : Twin → Twin} {s : State} (hr : (f s.twin).role = s.twin.role)
    (hl : (f s.twin).ownLease = s.twin.ownLease) : LeaseKept s (setTwin f s) := ⟨rfl, hr, hl⟩

theorem leaseKept_sendCrook (op t : Nat) (s : State) : LeaseKept s (sendCrook op t s) := by
  rw [sendCrook]
  split
  · exact (leaseKept_of_carried (carried_stitchSend ..)).trans (leaseKept_setTwin rfl rfl)
  · exact leaseKept_of_carried (carried_stitchSend ..)

/-- The digests of a cycle noted in the twin's record (R464). -/
def digestsNoted (d : DigestRec) (x : Twin) : Twin :=
  { x with digestLog := keepLast 4 (x.digestLog ++ [d]), ownClasses := [] }

theorem leaseKept_sendHealth (c : Nat) (s : State) : LeaseKept s (sendHealth c s) := by
  have hnoted (d : DigestRec) : LeaseKept s (setTwin (digestsNoted d) { s with free := s.free + 8 }) := ⟨rfl, rfl, rfl⟩
  rw [sendHealth]
  split
  · exact (hnoted _).trans (leaseKept_of_carried (carried_stitchSend ..))
  · exact hnoted _

end Sys2Proof.Proofs
end

section
/-! The statement about the crook, the stitch link and the return of a twin. -/

namespace Sys2Proof.Proofs

open Sys2Proof Sys2Proof.Machine Sys2Proof.Safety Sys2Proof.Laws

/-- The first cycle end after an instant lies within one cycle of it (R451). -/
theorem cycleEndAfter_spec (t : Nat) :
    t < cycleEndAfter t ∧ cycleEndAfter t ≤ t + cycleTicks ∧ cycleEndAfter t % cycleTicks = 0 := by
  have hpos : 0 < cycleTicks := by decide
  have hdiv := Nat.div_add_mod t cycleTicks
  have hmod := Nat.mod_lt t hpos
  rw [cycleEndAfter, Nat.succ_mul, Nat.mul_comm]
  exact ⟨by omega, by omega, by rw [Nat.add_mod_right, Nat.mul_mod_right]⟩

/-- The twin's record after a self-test item that fails while no bit is set (R466). -/
def testFailed (item : Nat) (x : Twin) : Twin :=
  { x with passes := mset (fun _ => 0) x.passes item 0, selftest := 2 ^ item }

/-- The twin's record after a self-test item that passes while no bit is set. -/
def testPassed (item : Nat) (x : Twin) : Twin :=
  { x with passes := mset (fun _ => 0) x.passes item (mget (fun _ => 0) x.passes item + 1) }

theorem noteTest_fails {item : Nat} {s : State} (h : s.twin.selftest = 0) :
    noteTest item false s = raise 1108 item 0 (setTwin (testFailed item) s) := by
  have hset : setTwin (fun x => { x with
      passes := mset (fun _ => 0) x.passes item 0
      selftest := if (bit s.twin.selftest item && decide (2 ≤ 0)) = true then x.selftest - 2 ^ item
        else if (!false && !bit s.twin.selftest item) = true then x.selftest + 2 ^ item else x.selftest }) s =
      setTwin (testFailed item) s := by
    simp [setTwin, testFailed, h, bit]
  exact congrArg (raise 1108 item 0) hset

theorem noteTest_passes {item : Nat} {s : State} (h : s.twin.selftest = 0) :
    noteTest item true s = setTwin (testPassed item) s := by
  simp [noteTest, setTwin, testPassed, h, bit]

/-- A self-test item noted in the round of `s` (R466). -/
def roundNoted (s : State) (item : Nat) (x : Twin) : Twin :=
  let done := s.twin.roundDone ||| 2 ^ item
  let whole := (selftestItems s).all fun i => bit done i
  { x with roundDone := if whole then 0 else done, lastSelftest := if whole then nowNs s else x.lastSelftest }

/-- The state at the end of cycle `n` - 1, at `t`, before anything is sent (R459). -/
def closedCycle (n t : Nat) (s : State) : State :=
  setStitch (fun x => { x with lastCycleBytes := x.cycleBytes, cycleBytes := 0 })
    (armAll t (setTwin (fun x => { x with doneCycle := n }) s))

section

variable (n t : Nat) (s : State)

theorem closedCycle_twin : (closedCycle n t s).twin = { s.twin with doneCycle := n } := rfl
theorem closedCycle_queue : (closedCycle n t s).drv.queue = s.drv.queue.map (armEvent t (now s)) := rfl
theorem closedCycle_out : (closedCycle n t s).out = s.out := rfl
theorem closedCycle_cmds : (closedCycle n t s).cmds = s.cmds := rfl
theorem closedCycle_now : now (closedCycle n t s) = now s := rfl
theorem isTwin_closedCycle : isTwin (closedCycle n t s) = isTwin s := rfl
theorem renews_closedCycle : renews (closedCycle n t s) = renews s := rfl

end

/-- What a twin does at the end of cycle `c`: the copy, the renewal, the digests (R459 to R464). -/
def twinCycle (c : Nat) (s1 : State) : State :=
  let s2 := if ¬ hasPartner s1 then s1
    else if s1.twin.role = .holder then sendSync 520 (sendCopy c s1)
    else if s1.twin.role = .standby then sendOwnCopy c s1 else s1
  let s3 := loseCrook s2
  let s4 := if s3.twin.role.holds && renews s3 then renewLease s3 else s3
  let s5 := sendHealth c (followCycle c s4)
  startUnknown s5.cmds.waiting.length s5

theorem execStitchCycleEnd_new {s : State} (hnew : s.twin.doneCycle < cycleNow s) :
    execStitchCycleEnd s = .next (if ¬ isTwin (closedCycle (cycleNow s) (now s) s) then
        startUnknown (closedCycle (cycleNow s) (now s) s).cmds.waiting.length (closedCycle (cycleNow s) (now s) s)
      else twinCycle (cycleNow s - 1) (closedCycle (cycleNow s) (now s) s)) :=
  congrArg Host.Outcome.next (if_neg (Nat.not_le.mpr hnew))

theorem loseCrook_of_renews {s : State} (h : renews s = true) : loseCrook s = s := by
  rw [loseCrook]
  exact if_neg (by simp [h])

/-- The lease a holder takes for another millisecond (R451), which its health frame leaves. -/
theorem sendHealth_renewLease (c : Nat) (s : State) : (sendHealth c (renewLease s)).cmds.waiting = s.cmds.waiting ∧
    (sendHealth c (renewLease s)).twin.role = s.twin.role ∧
    (sendHealth c (renewLease s)).twin.ownLease = some (now s + ticksPerMs) :=
  (leaseKept_sendCrook 1 (now s + ticksPerMs) (setTwin (fun x => { x with ownLease := some (now s + ticksPerMs) }) s)).trans
    (leaseKept_sendHealth c _)

theorem renewLease_role (s : State) : (renewLease s).twin.role = s.twin.role :=
  (leaseKept_sendCrook 1 (now s + ticksPerMs) (setTwin (fun x => { x with ownLease := some (now s + ticksPerMs) }) s)).2.1

/-- A solo twin that renews sends no copy and follows nobody. -/
theorem twinCycle_solo {c : Nat} {s : State} (hrole : s.twin.role = .solo) (hrenews : renews s = true) :
    twinCycle c s = startUnknown (sendHealth c (renewLease s)).cmds.waiting.length (sendHealth c (renewLease s)) := by
  have hcopy : (if ¬ hasPartner s then s else if s.twin.role = .holder then sendSync 520 (sendCopy c s)
      else if s.twin.role = .standby then sendOwnCopy c s else s) = s := by
    simp [hrole]
  have hrole' : (renewLease s).twin.role = .solo := (renewLease_role s).trans hrole
  have hholds : (s.twin.role.holds && renews s) = true := by rw [hrole, hrenews]; rfl
  have hfollow : followCycle c (renewLease s) = renewLease s := by rw [followCycle, hrole']
  rw [twinCycle, hcopy, loseCrook_of_renews hrenews, if_pos hholds, hfollow]

/-- Settles O49: each event is read off its branch; a solo twin's cycle end keeps its role, and an event raised beside the twin's
record leaves that record. -/
theorem twinEvents : Obligations.TwinEvents := by
  unfold Obligations.TwinEvents
  intro s
  refine ⟨?noClaim, ?claim, ?point, ?done, ?alone, ?renewal, ?starting, ?started, ?overrun, ?noRestart, ?badFrame, ?ack, ?frame,
    ?gap, ?noGap, ?ackSend, ?replay, ?foreign, ?test, ?resync⟩
  case noClaim =>
    intro hno
    exact congrArg Host.Outcome.next (if_pos (ne_true_of_eq_false hno))
  case claim =>
    intro hmay
    have hparts := hmay
    simp only [mayClaim, Bool.and_eq_true, Bool.not_eq_true'] at hparts
    obtain ⟨⟨⟨⟨htwin, hfree⟩, -⟩, -⟩, hpoint⟩ := hparts
    refine ⟨fun t ht => ?_, htwin, hfree, fun hrole s1 s2 hs1 hs2 s3 hs3 => ?_⟩
    · rw [ht] at hpoint
      exact of_decide_eq_true hpoint
    · subst hs1 hs2 hs3
      refine congrArg Host.Outcome.next ((if_neg (not_not_intro hmay)).trans ?_)
      dsimp only
      rw [if_neg hrole]
      rfl
  case point =>
    intro t ht
    obtain ⟨f, hf, rfl⟩ := Option.map_eq_some_iff.mp ht
    obtain ⟨hafter, hwithin, hend⟩ := cycleEndAfter_spec f
    refine ⟨f, ?_, by split <;> omega, ?_, ?_⟩
    · split at hf
      · exact .inr hf
      · exact .inl hf
    · split <;> omega
    · split
      · rw [Nat.add_mod_right, hend]
      · rw [Nat.add_zero, hend]
  case done =>
    intro hdone
    exact congrArg Host.Outcome.next (if_pos hdone)
  case alone =>
    intro hnew halone hwait
    refine ⟨closedCycle (cycleNow s) (now s) s, ?_, closedCycle_twin .., closedCycle_queue .., closedCycle_out ..⟩
    refine (execStitchCycleEnd_new hnew).trans (congrArg Host.Outcome.next ((if_pos ?_).trans ?_))
    · rw [isTwin_closedCycle]
      exact ne_true_of_eq_false halone
    · rw [closedCycle_cmds, hwait, List.length_nil, startUnknown]
  case renewal =>
    intro hnew htwin hrole hrenews hwait
    have hrole1 : (closedCycle (cycleNow s) (now s) s).twin.role = .solo := by rw [closedCycle_twin]; exact hrole
    have hrenews1 : renews (closedCycle (cycleNow s) (now s) s) = true := by rw [renews_closedCycle]; exact hrenews
    obtain ⟨hw, hr, hl⟩ := sendHealth_renewLease (cycleNow s - 1) (closedCycle (cycleNow s) (now s) s)
    rw [closedCycle_cmds, hwait] at hw
    rw [closedCycle_now] at hl
    refine ⟨_, (execStitchCycleEnd_new hnew).trans (congrArg Host.Outcome.next ((if_neg ?_).trans
      ((twinCycle_solo hrole1 hrenews1).trans ?_))), hl, hr.trans hrole1⟩
    · rw [isTwin_closedCycle]
      exact not_not_intro htwin
    · rw [hw, List.length_nil, startUnknown]
  case starting =>
    intro w hw hrole hfree hdue
    subst hw
    exact congrArg Host.Outcome.next (if_pos ⟨hrole, by simp [hfree], hdue⟩)
  case started =>
    intro hrole
    exact congrArg Host.Outcome.next (if_neg fun h => hrole h.1)
  case overrun =>
    intro x hx hdue hfatal
    refine congrArg Host.Outcome.next ?_
    rw [hx]
    exact if_pos ⟨hdue, by simp [hfatal]⟩
  case noRestart =>
    intro hnone
    refine congrArg Host.Outcome.next ?_
    rw [hnone]
  case badFrame =>
    intro f hactive hbad
    exact congrArg Host.Outcome.next ((if_neg (not_not_intro hactive)).trans (if_pos (ne_true_of_eq_false hbad)))
  case ack =>
    intro f s0 s1 hactive hgood hs0 hs1 hkind
    subst hs0 hs1
    exact congrArg Host.Outcome.next ((if_neg (not_not_intro hactive)).trans ((if_neg (not_not_intro hgood)).trans
      (if_pos hkind)))
  case frame =>
    intro f s0 s1 d hactive hgood hkind hs0 hs1 hd
    subst hs0
    have hnext {b : State} (hb : (if d = 0 then deliverRun 257 f s1 else if 32768 ≤ d then sendAck false s1
        else if s1.fabric.stitch.reorder.any (fun h => decide (h.seq = rd f 0 2)) then s1
        else if 256 ≤ s1.fabric.stitch.reorder.length then sendAck true s1
        else setStitch (fun x => { x with
          reorder := x.reorder ++ [⟨rd f 0 2, f, now s⟩], gapSince := some (x.gapSince.getD (now s)) }) s1) = b) :
        exec (.stitchFrameReceive f) s = .next b := by
      subst hs1 hd
      exact congrArg Host.Outcome.next ((if_neg (not_not_intro hactive)).trans ((if_neg (not_not_intro hgood)).trans
        ((if_neg hkind).trans hb)))
    exact ⟨fun h0 => hnext (if_pos h0), fun hold => hnext ((if_neg (by omega)).trans (if_pos hold)),
      fun h1 h2 hheld => hnext ((if_neg (by omega)).trans ((if_neg (by omega)).trans (if_pos hheld))),
      fun h1 h2 hheld => ⟨fun hroom => hnext ((if_neg (by omega)).trans ((if_neg (by omega)).trans
        ((if_neg (ne_true_of_eq_false hheld)).trans (if_neg (by omega))))), fun hfull => hnext ((if_neg (by omega)).trans
        ((if_neg (by omega)).trans ((if_neg (ne_true_of_eq_false hheld)).trans (if_pos hfull))))⟩⟩
  case gap =>
    intro t hgap hdue l hl
    subst hl
    refine congrArg Host.Outcome.next ?_
    rw [hgap]
    exact if_pos (.inl hdue)
  case noGap =>
    intro hnone
    refine congrArg Host.Outcome.next ?_
    rw [hnone]
  case ackSend =>
    intro hactive hdue
    exact congrArg Host.Outcome.next (if_pos ⟨hactive, hdue⟩)
  case replay =>
    intro o l hreplay
    refine ⟨fun hdue => ?_, fun hdue => ?_, fun hwait => ?_⟩
    all_goals
      refine congrArg Host.Outcome.next ?_
      rw [hreplay]
    · exact if_pos hdue
    · exact if_pos hdue
    · exact if_neg (Nat.not_le.mpr hwait)
  case foreign =>
    intro item hno p
    exact congrArg Host.Outcome.next (if_pos (ne_true_of_eq_false hno))
  case test =>
    intro item hmine hzero
    refine ⟨⟨setTwin (roundNoted s item) (setTwin (testFailed item) s), ?_, rfl, rfl⟩,
      ⟨setTwin (roundNoted s item) (setTwin (testPassed item) s), ?_, rfl, hzero⟩⟩
    · refine congrArg Host.Outcome.next ((if_neg (not_not_intro hmine)).trans ?_)
      rw [raise_setTwin rfl, ← noteTest_fails hzero]
      rfl
    · refine congrArg Host.Outcome.next ((if_neg (not_not_intro hmine)).trans ?_)
      rw [← noteTest_passes hzero]
      rfl
  case resync =>
    intro hrole hactive
    have hon : ¬ (s.twin.role ≠ .syncing ∨ ¬ s.fabric.stitch.active = true) := by simp [hrole, hactive]
    have hnext {b : State} (hb : (if s.twin.syncPhase = 3 then
          if s.twin.syncData.length < s.twin.snapshotBytes then s
          else startPhase 4 (adoptSnapshot (Config.snapshotOf s.twin.syncData) s)
        else if s.twin.syncPhase = 4 then
          if stagingNow s then s
          else startPhase 5 (s.twin.buffered.foldl (fun t p => p.2.foldl adoptItem t)
            (setTwin (fun y => { y with buffered := [], syncData := [] }) s))
        else if s.twin.syncPhase < 5 then startPhase (s.twin.syncPhase + 1) s
        else if s.twin.clean < 4000 then s
        else enterRole .standby (setTwin (fun x => { x with syncPhase := 0 }) s)) = b) :
        exec (.resyncPhaseEnd true) s = .next b :=
      congrArg Host.Outcome.next ((if_neg hon).trans ((if_neg (by decide)).trans hb))
    refine ⟨fun h => hnext ?_, fun h => ⟨fun hless => hnext ?_, fun hall => hnext ?_⟩,
      fun h => ⟨fun hstaging => hnext ?_, fun hstaging => hnext ?_⟩, fun h => ?_, fun h hclean => hnext ?_, fun h hclean => hnext ?_⟩
    · exact (if_neg (by omega)).trans ((if_neg (by omega)).trans (if_pos (by omega)))
    · exact (if_pos h).trans (if_pos hless)
    · exact (if_pos h).trans (if_neg (Nat.not_lt.mpr hall))
    · exact (if_neg (by omega)).trans ((if_pos h).trans (if_pos hstaging))
    · exact (if_neg (by omega)).trans ((if_pos h).trans (if_neg (ne_true_of_eq_false hstaging)))
    · exact congrArg Host.Outcome.next ((if_neg hon).trans ((if_pos (by decide)).trans (if_pos h)))
    · exact (if_neg (by omega)).trans ((if_neg (by omega)).trans ((if_neg (by omega)).trans (if_neg (Nat.not_lt.mpr hclean))))
    · exact (if_neg (by omega)).trans ((if_neg (by omega)).trans ((if_neg (by omega)).trans (if_pos hclean)))

end Sys2Proof.Proofs
end

section
/-! SUPPORT. Key slots: who may use one, what a load puts there, where a token leads. -/

namespace Sys2Proof.Proofs

open Sys2Proof Sys2Proof.Machine Sys2Proof.Safety Sys2Proof.Laws

theorem slotRecord_begun (op : Nat) (r : Req) (s : State) (n : Nat) : slotRecord (begun op r s) n = slotRecord s n := rfl

theorem attributeDigest_begun (op : Nat) (r : Req) (s : State) : attributeDigest (begun op r s) = attributeDigest s := by
  simp only [attributeDigest, slotRecord_begun]
  rfl

/-- The reply of KEY_STATUS (R499). -/
def keyReply (s : State) (first n : Nat) : Bytes :=
  le 1 (lifeCycle s) ++ le 1 (rootGen (lifeCycle s)) ++ zeros 2 ++ le 4 s.keys.refused.toNat ++ attributeDigest s ++
    (List.range n).flatMap fun j => slotRecord s (first + j)

theorem keyReply_begun (op : Nat) (r : Req) (s : State) (first n : Nat) :
    keyReply (begun op r s) first n = keyReply s first n := by
  rw [keyReply, attributeDigest_begun]
  rfl

/-- A load in the plain of a public key, without authorisation, into an empty slot (R496). -/
theorem keyLoad_plain {p : Bytes} {s : State} (hmode : rd p 2 1 = 0) (hauth : bit (rd p 3 1) 1 = false)
    (hempty : (keySlot s (rd p 0 2)).state = .empty) (halg : rd p 4 1 = 5)
    (hneeds : needsAuth s (rd p 5 1) (rd p 8 2) (rd p 6 1) = false) :
    keyLoad p s = okay (putKey (rd p 0 2)
      { state := .loaded, alg := 5, world := rd p 5 1, lcsMask := rd p 6 1, master := rd p 8 2
        flags := rd p 3 1 % 2 + 4 * b2n (decide (rd p 0x12 2 ≠ 0)), version := rd p 0xC 4
        keyId := keyIdOf 5 (slice p 0x88 (rd p 0x10 2)) (slice p 0x88 (rd p 0x10 2))
        key := slice p 0x88 (rd p 0x10 2), pub := slice p 0x88 (rd p 0x10 2)
        cert := slice p (0x88 + rd p 0x10 2) (rd p 0x12 2) } s) [] := by
  have hplain : unwrap p (slice p 0x88 (rd p 0x10 2)) s = (s, some (slice p 0x88 (rd p 0x10 2))) := by
    rw [unwrap, hmode]
    rfl
  rw [keyLoad, if_neg (by omega), if_neg (not_not_intro hempty), hplain]
  simp [hauth, halg, hneeds, b2n]

/-- A load is answered at once, whatever it finds. -/
theorem keyLoad_later (p : Bytes) (s : State) : (keyLoad p s).later = none := by
  rw [keyLoad]
  split
  · rfl
  · split
    · rfl
    · dsimp only
      split
      · rfl
      · exact (apply_ite Ans.later _ _ _).trans (ite_self none)

/-- What a granted key use says of its slot (R489). -/
theorem keyUse_granted {slot world alg req : Nat} {s : State} {x : KeySlot} (h : (keyUse slot world alg req s).2 = some x) :
    x = keySlot s slot ∧ keyAllowed s slot world alg req = true ∧ keyIdOf x.alg x.key x.pub = x.keyId := by
  rw [keyUse] at h
  split at h
  case isTrue => cases h
  case isFalse hmay =>
    split at h
    case isTrue hid =>
      obtain rfl := Option.some.inj h
      exact ⟨rfl, by simpa using hmay, hid⟩
    case isFalse => cases h

theorem transitionPort_forward {a b port : Nat} {x : Bool} (h : transitionPort a b port = some x) : a < b ∧ b ≤ 5 := by
  rw [transitionPort] at h
  split at h
  case isTrue => omega
  case isFalse =>
    split at h
    case isTrue => omega
    case isFalse =>
      split at h
      case isTrue => omega
      case isFalse => cases h

end Sys2Proof.Proofs
end

section
/-! The statement about the key store. -/

namespace Sys2Proof.Proofs

open Sys2Proof Sys2Proof.Machine Sys2Proof.Safety Sys2Proof.Laws

/-- Settles O51: each command passes its checks and answers with its body; a use is granted by the checks of its slot. -/
theorem keyStore : Obligations.KeyStore := by
  unfold Obligations.KeyStore
  intro r s
  refine ⟨?status, ?load, ?plain, ?generated, ?erase, ?imprint, ?advance, ?moved, ?forward, ?use, ?reseed, ?fresh, ?health,
    ?shares, ?arrives, ?goesOn⟩
  case status =>
    intro h hlen h512 h1 hfit hz
    refine command_answers h ((checks_ok hlen (by simp [h512, h1, hfit, hz])).trans ?_)
    exact congrArg (fun p => ({ st := _, params := p, clearing := true } : Ans)) (keyReply_begun ..)
  case load =>
    intro h hmin hlen hform hright
    refine command_answers h ((if_neg ?_).trans (needForm_ok hform)) (keyLoad_later ..)
    rintro (hshort | hlong | ⟨-, hwrong⟩)
    · omega
    · exact hlong hlen
    · exact hwrong hright
  case plain =>
    intro p hmode hauth
    refine ⟨fun hfull => ?_, fun k hempty halg hneeds hk => ?_⟩
    · rw [keyLoad, if_neg (by omega)]
      exact if_pos hfull
    · subst hk
      exact keyLoad_plain hmode hauth hempty halg hneeds
  case generated =>
    intro h p slot alg hp hslot halg hlen h16 h512 hflags halg' hworld hworld' hmask hz hpermits
    subst hp hslot halg
    have hform : ∀ x ∈ [(decide (16 ≤ rd r.params 0 2 ∧ rd r.params 0 2 < 512), 0), (decide (rd r.params 2 1 < 2), 2),
        (decide (rd r.params 3 1 = 4 ∨ rd r.params 3 1 = 6 ∨ rd r.params 3 1 = 7), 3),
        (decide (4 ≤ rd r.params 4 1 ∧ rd r.params 4 1 ≤ 9), 4), (decide (rd r.params 5 1 < 64), 5),
        (isZero r.params 12 4, 12), (permits (rd r.params 3 1) (rd r.params 4 1) (rd r.params 6 2), 0xFFFF)], x.1 = true := by
      simp [h16, h512, hflags, halg', hworld, hworld', hmask, hz, hpermits]
    refine ⟨fun hno => command_answers h ((checks_ok hlen hform).trans (if_pos (ne_true_of_eq_false hno))),
      fun hyes hempty hneeds g kid hg hkid => ?_⟩
    subst hkid hg
    exact command_answers h ((checks_ok hlen hform).trans ((if_neg (not_not_intro hyes)).trans
      ((if_neg (not_not_intro hempty)).trans (if_neg (ne_true_of_eq_false hneeds)))))
  case erase =>
    intro h hlen h16 h512 hz hnamed hshadow
    have hfree : ¬ ((namedKeys (begun 0x1004 r s).quire.active).contains (rd r.params 0 2) = true ∨
        (decide ((begun 0x1004 r s).quire.shadowState = .opened ∨ (begun 0x1004 r s).quire.shadowState = .sealed ∨
          (begun 0x1004 r s).quire.shadowState = .locked) = true ∧
        (namedKeys (begun 0x1004 r s).quire.shadow).contains (rd r.params 0 2) = true)) := by
      simp [-List.contains_eq_mem, hnamed, hshadow]
    exact congrArg (fun t => Host.Outcome.next (sweepSessions t)) (Host.Outcome.next.inj
      (command_answers h ((checks_ok hlen (by simp [h16, h512, hz])).trans (if_neg hfree))))
  case imprint =>
    intro h k x hlen ho hz hk
    refine ⟨imprintBody (begun 0x1005 r s) 0 (slice r.params 8 32), command_answers h ((checks_ok hlen (by simp [ho, hz])).trans ?_), rfl⟩
    have hopen : ¬ (lifeCycle (begun 0x1005 r s) = 5 ∧ bit (rd r.params 0 1) 0 = true) := by simp [ho, bit]
    refine (if_neg hopen).trans ?_
    dsimp only
    rw [ho, hk]
    exact congrArg (okay k) (List.append_nil _)
  case advance =>
    intro h p v hp hlen hmagic hz6 hz99 hport hfrom hserial htime htoken hv
    subst hp hv
    have hbody {a : Ans} (ha : (if (rootSigned (r.params.take 0xA0) (slice r.params 0xA0 96) (begun 0x1006 r s)).2 then
          okay (transition r.params (rootSigned (r.params.take 0xA0) (slice r.params 0xA0 96) (begun 0x1006 r s)).1) []
        else refuse (rootSigned (r.params.take 0xA0) (slice r.params 0xA0 96) (begun 0x1006 r s)).1 stNotPermitted 0) = a)
        (hnow : a.later = none) : exec (.lcsAdvance r) s = .next (sweepSessions (refuseWaiting (answered 0x1006 r a))) := by
      refine congrArg (fun t => Host.Outcome.next (sweepSessions (refuseWaiting t))) (Host.Outcome.next.inj
        (command_answers h ((checks_ok hlen (by simp [hmagic, hz6, hz99])).trans ?_) hnow))
      dsimp only
      rw [show transitionPort (lifeCycle (begun 0x1006 r s)) (rd r.params 5 1) r.port = some true from hport]
      refine (if_neg (not_not_intro hfrom)).trans ((if_neg (not_not_intro rfl)).trans ((if_neg (not_not_intro hserial)).trans
        ((if_neg fun h => h.2.1 htime).trans ((needForm_ok htoken).trans ha))))
    exact ⟨fun hyes => hbody (if_pos hyes) rfl, fun hno => hbody (if_neg (ne_true_of_eq_false hno)) rfl⟩
  case moved =>
    intro p
    exact ⟨rfl, rfl⟩
  case forward => exact fun a b port x h => transitionPort_forward h
  case use =>
    intro slot world alg req
    refine ⟨rfl, fun hno => ?_, fun x hx => ?_⟩
    · rw [keyUse]
      exact if_pos (ne_true_of_eq_false hno)
    · obtain ⟨rfl, hmay, hid⟩ := keyUse_granted hx
      simp only [keyAllowed, Bool.and_eq_true, decide_eq_true_eq] at hmay
      obtain ⟨⟨⟨-, -, hworld, halg⟩, -⟩, hstate⟩ := hmay
      exact ⟨rfl, hworld, halg, hstate, hid⟩
  case reseed =>
    intro hdue
    exact congrArg Host.Outcome.next (if_pos hdue)
  case fresh =>
    intro hearly hfew
    exact congrArg Host.Outcome.next (if_neg (by omega))
  case health => exact fun test => rfl
  case shares => rfl
  case arrives =>
    intro a cls req left ha hidle hempty
    subst ha
    refine congrArg Host.Outcome.next ?_
    dsimp only
    rw [hidle, hempty, List.append_nil, List.nil_append, List.map_cons, List.map_nil, List.mergeSort_singleton]
    rfl
  case goesOn =>
    intro u hu hleft hempty
    refine congrArg Host.Outcome.next ?_
    dsimp only
    rw [hu, hempty]
    dsimp only
    rw [if_neg (by omega), List.map_nil, List.append_nil, List.append_nil, List.mergeSort_singleton]
    rfl

end Sys2Proof.Proofs
end

section
/-! SUPPORT. The event collector: pending bits cleared, ERR_N released, what hardware sets at the same instant kept. -/

namespace Sys2Proof.Proofs

open Sys2Proof Sys2Proof.Machine Sys2Proof.Safety Sys2Proof.Laws

/-- ERR_N may be released (R521): no pending bit of signal code 5 is left, and it has been low for long enough. -/
def errNReleases (s : State) : Bool :=
  s.ev.errn && !((List.range 1280).any fun k => s.ev.pend.getLsbD k && decide (reactionOf s k % 16 = 5)) && !s.ev.romMode &&
    decide (s.boot.stage ≠ 15) && decide (s.ev.errnSince + 10 * ticksPerUs ≤ now s)

theorem releaseErrN_eq (s : State) :
    releaseErrN s = { s with ev := { s.ev with errn := if errNReleases s then false else s.ev.errn } } := by
  show (if errNReleases s then { s with ev := { s.ev with errn := false } } else s) = _
  split <;> rfl

/-- The pending bits that stay through a clear (R10, R520). -/
def pendLeft (mask : BitVec 1280) (s : State) : BitVec 1280 :=
  s.ev.pend &&& ~~~(mask &&& ~~~(if s.ev.sameAt = some (now s) then s.ev.sameSet else 0#1280))

theorem getLsbD_pendLeft (mask : BitVec 1280) (s : State) (k : Nat) : (pendLeft mask s).getLsbD k =
    (s.ev.pend.getLsbD k && (!mask.getLsbD k || decide (s.ev.sameAt = some (now s)) && s.ev.sameSet.getLsbD k)) := by
  by_cases hk : k < 1280
  · by_cases hsame : s.ev.sameAt = some (now s)
    · simp [pendLeft, hsame, hk]
    · rw [pendLeft, if_neg hsame, decide_eq_false hsame, BitVec.getLsbD_and, BitVec.getLsbD_not, BitVec.getLsbD_and,
        BitVec.getLsbD_not, BitVec.getLsbD_zero, decide_eq_true hk]
      simp
  · rw [BitVec.getLsbD_of_ge _ _ (Nat.not_lt.mp hk), BitVec.getLsbD_of_ge s.ev.pend _ (Nat.not_lt.mp hk), Bool.false_and]

/-- What a clear of pending bits leaves before ERR_N is looked at. -/
def pendCleared (mask : BitVec 1280) (s : State) : State := setEv (fun e => { e with pend := pendLeft mask s }) s

theorem clearPend_eq (mask : BitVec 1280) (s : State) : clearPend mask s = releaseErrN (pendCleared mask s) := rfl

theorem clearPend_pend (mask : BitVec 1280) (s : State) : (clearPend mask s).ev.pend = pendLeft mask s := by
  rw [clearPend_eq, releaseErrN_eq]
  rfl

theorem clearPend_only (mask : BitVec 1280) (s : State) : clearPend mask s = { s with
    ev := { s.ev with pend := (clearPend mask s).ev.pend, errn := (clearPend mask s).ev.errn } } := by
  rw [clearPend_eq, releaseErrN_eq]
  rfl

/-- ERR_N after a clear, outside a boot halt and 10 µs after it went low (R521). -/
theorem clearPend_errn {mask : BitVec 1280} {s : State} (hlow : s.ev.errn = true) (hrom : s.ev.romMode = false)
    (hstage : s.boot.stage ≠ 15) (hheld : s.ev.errnSince + 10 * ticksPerUs ≤ now s) :
    (clearPend mask s).ev.errn = false ↔
      ∀ k, k < 1280 → (clearPend mask s).ev.pend.getLsbD k = true → reactionOf s k % 16 ≠ 5 := by
  have hreleases : errNReleases (pendCleared mask s) =
      !((List.range 1280).any fun k => (pendLeft mask s).getLsbD k && decide (reactionOf s k % 16 = 5)) := by
    show (s.ev.errn && _ && !s.ev.romMode && decide (s.boot.stage ≠ 15) &&
      decide (s.ev.errnSince + 10 * ticksPerUs ≤ now s)) = _
    rw [hlow, hrom, decide_eq_true hstage, decide_eq_true hheld, Bool.true_and, Bool.not_false, Bool.and_true, Bool.and_true,
      Bool.and_true]
    rfl
  have herrn : (clearPend mask s).ev.errn = !errNReleases (pendCleared mask s) := by
    rw [clearPend_eq, releaseErrN_eq]
    show (if errNReleases (pendCleared mask s) then false else s.ev.errn) = _
    rw [hlow]
    cases errNReleases (pendCleared mask s) <;> rfl
  rw [herrn, hreleases, clearPend_pend, Bool.not_not]
  simp only [List.any_eq_false, List.mem_range, Bool.and_eq_true, decide_eq_true_eq, not_and]

/-- The bits of a range of sources. -/
theorem getLsbD_rangeMask {first n k : Nat} (hk : k < 1280) :
    (BitVec.ofNat 1280 ((2 ^ n - 1) * 2 ^ first)).getLsbD k = decide (first ≤ k ∧ k < first + n) := by
  rw [BitVec.getLsbD_ofNat, Nat.testBit_mul_two_pow, Nat.testBit_two_pow_sub_one, decide_eq_true hk, Bool.true_and,
    ← Bool.decide_and]
  exact decide_eq_decide.mpr (by omega)

theorem pend_rangeMask (s : State) (first n k : Nat) (b : Bool) :
    (s.ev.pend.getLsbD k && (!(BitVec.ofNat 1280 ((2 ^ n - 1) * 2 ^ first)).getLsbD k || b)) =
      (s.ev.pend.getLsbD k && (!decide (first ≤ k ∧ k < first + n) || b)) := by
  by_cases hk : k < 1280
  · rw [getLsbD_rangeMask hk]
  · rw [BitVec.getLsbD_of_ge _ _ (Nat.not_lt.mp hk), Bool.false_and, Bool.false_and]

/-- What EVT_CLEAR leaves (R520): the pending bits of its range go, and with operation 1 their occurrence counters too. -/
def clearedRange (op first n : Nat) (s : State) : State :=
  if op = 0 then clearPend (BitVec.ofNat 1280 ((2 ^ n - 1) * 2 ^ first)) s
  else setEv (fun e => { e with occ := e.occ.filter fun p => !decide (first ≤ p.1 ∧ p.1 < first + n) })
    (clearPend (BitVec.ofNat 1280 ((2 ^ n - 1) * 2 ^ first)) s)

theorem clearedRange_pend (op first n : Nat) (s : State) :
    (clearedRange op first n s).ev.pend = pendLeft (BitVec.ofNat 1280 ((2 ^ n - 1) * 2 ^ first)) s := by
  rw [← clearPend_pend, clearedRange]
  split <;> rfl

theorem clearedRange_only {op : Nat} (hop : op ≤ 1) (first n : Nat) (s : State) : clearedRange op first n s = { s with
    ev := { s.ev with pend := (clearedRange op first n s).ev.pend, errn := (clearedRange op first n s).ev.errn,
                      occ := if op = 1 then s.ev.occ.filter fun p => !decide (first ≤ p.1 ∧ p.1 < first + n) else s.ev.occ } } := by
  interval_cases op
  · exact clearPend_only ..
  · rw [clearedRange, if_neg one_ne_zero, clearPend_only]
    rfl

/-- The bits that a write of EVT_PENDn names. -/
theorem getLsbD_wordMask {n v k : Nat} (hk : k < 1280) :
    (BitVec.ofNat 1280 (v % 2 ^ 32 * 2 ^ (32 * n))).getLsbD k = (decide (k / 32 = n) && v.testBit (k % 32)) := by
  rw [BitVec.getLsbD_ofNat, Nat.testBit_mul_two_pow, Nat.testBit_mod_two_pow, decide_eq_true hk, Bool.true_and]
  by_cases h : k / 32 = n
  · have hsub : k - 32 * n = k % 32 := by omega
    rw [hsub, decide_eq_true h, decide_eq_true (by omega), decide_eq_true (by omega)]
    rfl
  · have hout : (decide (32 * n ≤ k) && (decide (k - 32 * n < 32) && v.testBit (k - 32 * n))) = false := by
      rw [← Bool.and_assoc, ← Bool.decide_and, decide_eq_false (by omega), Bool.false_and]
    rw [hout, decide_eq_false h, Bool.false_and]

theorem clearRfc_eq (v : Nat) (s : State) : clearRfc v s = { s with time := { s.time with dpll := { s.time.dpll with
    rfc := s.time.dpll.rfc &&& ~~~(BitVec.ofNat 6 v &&& ~~~if s.time.dpll.rfcAt = some (now s) then s.time.dpll.rfcSet else 0#6) } } } :=
  rfl

end Sys2Proof.Proofs
end

section
/-! The statement about the event collector. -/

namespace Sys2Proof.Proofs

open Sys2Proof Sys2Proof.Machine Sys2Proof.Safety Sys2Proof.Laws

/-- Settles O52: each command passes its checks and answers with its body, and each event is read off its branch; what a clear
leaves is read bit by bit. -/
theorem eventCollector : Obligations.EventCollector := by
  unfold Obligations.EventCollector
  intro r s
  refine ⟨?read, ?config, ?fixed_, ?clear, ?dump, ?release, ?inject, ?recovered, ?watchdog, ?pend, ?summary, ?status, ?rfc, rfl,
    ?colophon, ?noFatal⟩
  case read =>
    intro h n b l hn hb hlen h1 h1024 hblock hl
    subst hn hb hl
    exact ⟨_, command_answers h (checks_ok hlen (by simp [h1, h1024, hblock]))⟩
  case config =>
    intro h hlen hsrc hrx hfl hz
    have hform {ok : Bool} (hok : ok = true) : ∀ x ∈ [(decide (rd r.params 0 2 < 1280), 0), (reactionOk (rd r.params 2 1), 2),
        (decide (rd r.params 3 1 < 2), 3), (isZero r.params 4 4, 4), (ok, 0xFFFF)], x.1 = true := by
      simp [hsrc, hrx, hfl, hz, hok]
    refine ⟨fun hyes => command_answers h (checks_ok hlen (hform hyes)), fun hno => command_answers h ((needLen_ok hlen).trans
      (needForm_refuses ?_ _ _))⟩
    simp [firstBad, hsrc, hrx, hfl, hz, hno]
  case fixed_ =>
    intro src rx only hfixed hother
    rw [entryAllowed, if_pos hfixed]
    exact decide_eq_false fun h => hother.elim (· h.1) (· h.2)
  case clear =>
    intro h first n hfirst hn hlen h1280 h1 hfit hz hop
    subst hfirst hn
    have hform : ∀ x ∈ [(decide (rd r.params 0 2 < 1280), 0),
        (decide (1 ≤ rd r.params 2 2 ∧ rd r.params 0 2 + rd r.params 2 2 ≤ 1280), 2), (decide (rd r.params 4 1 ≤ 1), 4),
        (isZero r.params 5 3, 5)], x.1 = true := by
      simp [h1280, h1, hfit, hop, hz]
    refine ⟨clearedRange (rd r.params 4 1) (rd r.params 0 2) (rd r.params 2 2) (begun 0x1103 r s),
      command_answers h (checks_ok hlen hform), ?_, fun k => ?_, ?_, ?_⟩
    · rw [clearedRange_only hop]
    · rw [clearedRange_pend, getLsbD_pendLeft, pend_rangeMask]
      rfl
    · rw [clearedRange_only hop]
      rfl
    · rw [clearedRange_only hop]
      rfl
  case dump =>
    intro h kind o n half hkind ho hn hlen hk1 hz h1 hmax hhalf
    subst hkind ho hn hhalf
    have hform : ∀ x ∈ [(decide (rd r.params 0 1 ≤ 3), 0), (isZero r.params 1 3, 1),
        (decide (1 ≤ rd r.params 8 4 ∧ rd r.params 8 4 ≤ 65504), 8)], x.1 = true := by
      simp [hz, h1, hmax]
      omega
    refine ⟨fun hheld hroom => command_answers h ((checks_ok hlen hform).trans ((if_pos hk1).trans (if_neg ?_))),
      fun hno => command_answers h ((checks_ok hlen hform).trans ((if_pos hk1).trans (if_pos ?_)))⟩
    · exact fun hbad => hbad.elim (fun h => h hheld) (fun h => absurd hroom (Nat.not_le.mpr h))
    · exact hno.elim (fun h => .inl (ne_true_of_eq_false h)) .inr
  case release =>
    intro h hlen h1 hz
    exact command_answers h (checks_ok hlen (by simp [h1, hz]))
  case inject =>
    intro h t hlen hform ht
    subst ht
    exact command_answers h (checks_ok hlen hform)
  case recovered =>
    intro b i x hx
    refine ⟨fun hyes => ?_, fun hno => ?_⟩
    all_goals
      refine congrArg Host.Outcome.next ?_
      rw [hx]
    · exact if_pos hyes
    · exact if_neg (ne_true_of_eq_false hno)
  case watchdog =>
    intro core task hvegen hruns
    exact congrArg Host.Outcome.next (if_pos ⟨hvegen, ne_true_of_eq_false hruns⟩)
  case pend =>
    intro n v hn
    refine ⟨clearPend (BitVec.ofNat 1280 (v % 2 ^ 32 * 2 ^ (32 * n))) s, congrArg Host.Outcome.next (if_pos hn), clearPend_only ..,
      fun k hk => ?_, clearPend_errn⟩
    rw [clearPend_pend, getLsbD_pendLeft, getLsbD_wordMask hk]
  case summary => exact fun v => rfl
  case status =>
    intro b hb
    refine ⟨fun hlater => ?_, fun before n hsame hfound => ⟨blkValue s b, emit (.regRead (0x4100 + 4 * b) (blkValue s b)) (blkClear b s),
      congrArg Host.Outcome.next (if_pos hb), ?_, ?_, ?_⟩⟩
    · have hnone : occurredNow s b = none := if_neg hlater
      refine congrArg Host.Outcome.next ((if_pos hb).trans ?_)
      rw [blkValue, blkClear, hnone]
      rfl
    all_goals
      have hsome : occurredNow s b = some (before, n) := by
        rw [occurredNow, if_pos hsame, hfound]
        rfl
    · rw [blkClear, hsome]
      rfl
    · rw [blkValue, hsome]
    · rw [blkClear, hsome]
      exact (mget_mset (fun _ => 0#16) s.ev.blkOcc b b _).trans (if_pos rfl)
  case rfc =>
    intro v
    refine ⟨fun hlater => ?_, fun hsame => ?_⟩
    all_goals
      refine congrArg Host.Outcome.next ?_
      rw [clearRfc_eq]
    · rw [if_neg hlater, show BitVec.ofNat 6 v &&& ~~~0#6 = BitVec.ofNat 6 v from BitVec.and_allOnes]
    · rw [if_pos hsame]
  case colophon =>
    intro f cut hf
    refine congrArg Host.Outcome.next ?_
    rw [hf]
  case noFatal =>
    intro cut hf
    refine congrArg Host.Outcome.next ?_
    rw [hf]

end Sys2Proof.Proofs
end

section
/-! SUPPORT. Start-up: one equation per stage at which it may stop; what a restart begins with. -/

namespace Sys2Proof.Proofs

open Sys2Proof Sys2Proof.Machine Sys2Proof.Safety Sys2Proof.Laws

theorem sendMsi_boot (v : Nat) (s : State) : (sendMsi v s).boot = s.boot := by
  rw [sendMsi]
  split <;> rfl

theorem sendMsi_ev (v : Nat) (s : State) : (sendMsi v s).ev = s.ev := by
  rw [sendMsi]
  split <;> rfl

theorem notifyStatus_boot (old s : State) : (notifyStatus old s).boot = s.boot := by
  rw [notifyStatus]
  split
  · rfl
  · exact sendMsi_boot 84 s

theorem notifyStatus_ev (old s : State) : (notifyStatus old s).ev = s.ev := by
  rw [notifyStatus]
  split
  · rfl
  · exact sendMsi_ev 84 s

theorem freezeData_boot (s : State) : (freezeData s).boot = s.boot :=
  foldl_keeps (get := fun t => t.boot) (by intros; rfl) _ _

theorem freezeData_ev (s : State) : (freezeData s).ev = s.ev :=
  foldl_keeps (get := fun t => t.ev) (by intros; rfl) _ _

/-- The slot chosen is started, or start-up stops for want of one (R533). -/
def fromSlot (i : BootIn) (c : Option Nat × State) : State :=
  match c.1 with
  | none => bootHalt 5 c.2
  | some n =>
    finishStart (slotBytes (slotOf c.2 n)) i.fails i.badKeys
      (setBoot (fun b => { b with running := n }) (setSlot n (slotChecked c.2.boot (slotBytes (slotOf c.2 n))) c.2))

/-- A restart begins: Vegen stops, the time data are frozen (R543). -/
def restartBegun (slot : Option Nat) (back : Bool) (t : State) : State :=
  freezeData (notifyStatus t (setBoot (fun b => { b with restartDue := none, restart := some ⟨now t, slot, back⟩, stage := 7 }) t))

theorem restartBegun_boot (slot : Option Nat) (back : Bool) (t : State) : (restartBegun slot back t).boot =
    { t.boot with restartDue := none, restart := some ⟨now t, slot, back⟩, stage := 7 } := by
  rw [restartBegun, freezeData_boot, notifyStatus_boot]
  rfl

theorem restartBegun_ev (slot : Option Nat) (back : Bool) (t : State) : (restartBegun slot back t).ev = t.ev := by
  rw [restartBegun, freezeData_ev, notifyStatus_ev]
  rfl

theorem slotOf_setSlot_same (k : Nat) (f : FwSlot → FwSlot) (s : State) : slotOf (setSlot k f s) k = f (slotOf s k) := by
  by_cases hk : k = 0
  · rw [slotOf, setSlot, if_pos hk, slotOf, if_pos hk]
    show (if k = 0 then _ else _ : Boot).slotA = _
    rw [if_pos hk]
  · rw [slotOf, setSlot, if_neg hk, slotOf, if_neg hk]
    show (if k = 0 then _ else _ : Boot).slotB = _
    rw [if_neg hk]

/-- The confirm timer has run out: the trial slot is BAD, and the other one's images are to run (R546). -/
def trialEnded (deep : Bool) (s : State) : State :=
  setBoot (fun b =>
    { b with
      confirmEnd := none, fallbackFlag := true
      restartDue := if deep then b.restartDue else some (1 - s.boot.running, true)
      deepPhase := if deep ∧ hasPartner s then 1 else b.deepPhase
      deepSlot := if deep ∧ hasPartner s then 1 - s.boot.running else b.deepSlot
      plannedReset := if deep ∧ ¬ hasPartner s then some (1 - s.boot.running) else b.plannedReset })
    (setSlot s.boot.running (fun x => { x with state := .bad })
      (copyItem (.activated true 0) (raise 1216 s.boot.running (Config.code 1216 0) (raise 1219 s.boot.running 0 s))))

section

variable {i : BootIn} {s u : State}

theorem startUp_nor (hsrc : i.bootSrc % 4 = 3) : startUp i s = bootHalt 8 (sampleStraps i s) := if_pos hsrc

theorem startUp_sysref (hsrc : i.bootSrc % 4 ≠ 3) (hsys : sysrefKnown i.sysref = false) :
    startUp i s = bootHalt 1 (sampleStraps i s) :=
  (if_neg hsrc).trans (if_pos (ne_true_of_eq_false hsys))

theorem startUp_mdll (hsrc : i.bootSrc % 4 ≠ 3) (hsys : sysrefKnown i.sysref = true) (hmdll : i.mdll = false) :
    startUp i s = bootHalt 2 (sampleStraps i s) :=
  (if_neg hsrc).trans ((if_neg (not_not_intro hsys)).trans (if_pos (ne_true_of_eq_false hmdll)))

/-- Past the straps, SYSREF and the clock loop, start-up goes on from the fuses. -/
theorem startUp_clocked (hsrc : i.bootSrc % 4 ≠ 3) (hsys : sysrefKnown i.sysref = true) (hmdll : i.mdll = true) {out : State}
    (hout : (if ¬ i.entropy then bootHalt 4 (readFuses i.entropy (sampleStraps i s))
      else if lifeCycle (readFuses i.entropy (sampleStraps i s)) = 5 then bootHalt 7 (readFuses i.entropy (sampleStraps i s))
      else if ¬ i.flash then bootHalt 9 (readFuses i.entropy (sampleStraps i s))
      else if (keySlot (loadRoots (readFuses i.entropy (sampleStraps i s)))
          (rootSlot (loadRoots (readFuses i.entropy (sampleStraps i s))))).state = .empty then
        bootHalt 3 (loadRoots (readFuses i.entropy (sampleStraps i s)))
      else if i.bootSrc % 4 = 2 then
        setBoot (fun b => { b with stage := 2, recovery := true }) (loadRoots (readFuses i.entropy (sampleStraps i s)))
      else fromSlot i (chooseSlot (loadRoots (readFuses i.entropy (sampleStraps i s))))) = out) : startUp i s = out :=
  ((if_neg hsrc).trans ((if_neg (not_not_intro hsys)).trans (if_neg (not_not_intro hmdll)))).trans hout

end

end Sys2Proof.Proofs
end

section
/-! The statement about start-up, restarts and activation. -/

namespace Sys2Proof.Proofs

open Sys2Proof Sys2Proof.Machine Sys2Proof.Safety Sys2Proof.Laws

/-- Settles O54: each event is read off its branch; start-up by the equation of the stage at which it stops, a restart by what it
begins with. -/
theorem startAndUpdate : Obligations.StartAndUpdate := by
  unfold Obligations.StartAndUpdate
  intro s
  refine ⟨?short, ?long, ?kept, ?planned, ?unplanned, ?released, ?running, fun v => rfl, ?noPackage, ?package, ?due, ?trap, ?nothingDue,
    ?registered, ?late, ?activation, ?confirm, ?noConfirm, ?phase, ?phaseFailed⟩
  case short => exact fun n h => congrArg Host.Outcome.next (if_pos h)
  case long => exact fun n h => congrArg Host.Outcome.next (if_neg (Nat.not_lt.mpr h))
  case kept =>
    rintro pw pin t rfl
    refine ⟨rfl, rfl, rfl, rfl, rfl, rfl, rfl, rfl, rfl, rfl, ?_, ?_, ?_⟩
    · cases pw <;> rfl
    · rintro rfl
      exact ⟨rfl, rfl, rfl, rfl, rfl, rfl⟩
    · rintro rfl
      exact ⟨rfl, rfl, rfl, rfl, rfl⟩
  case planned =>
    intro k hk
    refine congrArg Host.Outcome.next ?_
    rw [hk]
  case unplanned =>
    intro hk hf
    refine congrArg Host.Outcome.next ?_
    rw [hk, hf]
  case released =>
    intro i hreset hhot hbrown
    refine ⟨congrArg Host.Outcome.next (if_pos ⟨hreset, ne_true_of_eq_false hhot, ne_true_of_eq_false hbrown⟩), startUp_nor,
      startUp_sysref, startUp_mdll, ?_⟩
    rintro u hsrc hsys hmdll rfl
    refine ⟨fun hent => startUp_clocked hsrc hsys hmdll (if_pos (ne_true_of_eq_false hent)), fun hent hlife =>
      startUp_clocked hsrc hsys hmdll ((if_neg (not_not_intro hent)).trans (if_pos hlife)),
      fun n v hent hlife hflash hsrc2 hroot hc => ?_⟩
    have hslot : startUp i s = fromSlot i (n, v) :=
      startUp_clocked hsrc hsys hmdll ((if_neg (not_not_intro hent)).trans ((if_neg hlife).trans ((if_neg (not_not_intro hflash)).trans
        ((if_neg hroot).trans ((if_neg hsrc2).trans (congrArg (fromSlot i) hc))))))
    exact ⟨fun hn => by rw [hslot, hn]; rfl, fun k hk => by rw [hslot, hk]; rfl⟩
  case running => exact fun i h => congrArg Host.Outcome.next (if_neg fun hyes => Bool.noConfusion (h.symm.trans hyes.1))
  case noPackage => exact fun fails bad hbusy => congrArg Host.Outcome.next (if_neg (not_not_intro hbusy))
  case package =>
    intro p fails bad hbusy hlen hfault hsigned
    refine congrArg Host.Outcome.next ((if_neg (not_not_intro hbusy)).trans (if_pos ⟨hlen, ?_, hsigned⟩))
    rw [hfault]
    rfl
  case due =>
    intro k hup hk
    refine ⟨restartBegun (some k) false (raise 1218 k 0x30000 s), congrArg Host.Outcome.next ((if_neg (not_not_intro hup)).trans ?_), ?_,
      ?_, ?_⟩
    · rw [hk]
      rfl
    · rw [restartBegun_boot, now_raise]
    · rw [restartBegun_boot]
    · rw [restartBegun_boot]
  case trap =>
    intro hup hk htrap
    refine ⟨restartBegun none false (setEv (fun e => { e with trap := false }) s),
      congrArg Host.Outcome.next ((if_neg (not_not_intro hup)).trans ?_), ?_, ?_, ?_⟩
    · rw [hk]
      exact if_pos htrap
    · rw [restartBegun_boot]
      rfl
    · rw [restartBegun_boot]
    · rw [restartBegun_ev]
      rfl
  case nothingDue =>
    intro hup hk htrap
    refine congrArg Host.Outcome.next ((if_neg (not_not_intro hup)).trans ?_)
    rw [hk]
    exact if_neg (ne_true_of_eq_false htrap)
  case registered =>
    rintro x t hx hslot hf hearly rfl
    have hopen : ¬ (s.ev.fatal.isSome = true ∨ x.since + 5 * ticksPerSec ≤ now s) := by
      rw [hf]
      simp only [Option.isSome_none, Bool.false_eq_true, false_or, Nat.not_le]
      have : 0 < ticksPerSec := by decide
      omega
    refine congrArg Host.Outcome.next ?_
    rw [hx]
    refine (if_neg hopen).trans ?_
    rw [hslot]
    dsimp only
    rw [if_neg (Nat.not_lt.mpr hearly)]
    rfl
  case late =>
    intro x hx hend
    refine congrArg Host.Outcome.next ?_
    rw [hx]
    exact if_pos (.inr hend)
  case activation =>
    intro a ha hup
    have hnext {t : State} (ht : (if now s < a.time ∨ ¬ vegenUp s then s
        else if stagingNow s then
          if a.waits then s
          else raise 1218 a.slot 0x20000 (setBoot (fun b => { b with armed := some { a with waits := true } }) s)
        else
          match activationRefusal s a.slot .armed a.allowOutage with
          | some (st, d) =>
            answerActivation st d (raise 1218 a.slot (0x40000 + st)
              (setBoot (fun b => { b with armed := none }) (setSlot a.slot (fun x => { x with state := .verified }) s)))
          | none => startActivation a s) = t) : exec .updateActivationDue s = .next t := by
      refine congrArg Host.Outcome.next ?_
      rw [ha]
      exact ht
    have hgo (htime : a.time ≤ now s) : ¬ (now s < a.time ∨ ¬ vegenUp s) := fun h =>
      h.elim (Nat.not_lt.mpr htime) (not_not_intro hup)
    refine ⟨fun htime => hnext (if_pos (.inl htime)), fun htime hstag hw => hnext ?_, fun htime hstag hok => hnext ?_,
      fun st d htime hstag hbad => hnext ?_⟩
    · exact (if_neg (hgo htime)).trans ((if_pos hstag).trans (if_neg (ne_true_of_eq_false hw)))
    all_goals
      refine (if_neg (hgo htime)).trans ((if_neg (ne_true_of_eq_false hstag)).trans ?_)
    · rw [hok]
    · rw [hbad]
  case confirm =>
    intro t ht hend htrial hup htwin hdeep
    have hgo : ¬ (now s < t ∨ ¬ inTrial s ∨ ¬ vegenUp s ∨ (isTwin s ∧ ¬ holdsCrook s)) := by
      simp [Nat.not_lt.mpr hend, htrial, hup, htwin]
    refine ⟨trialEnded (deepPackage s (1 - s.boot.running)) s, congrArg Host.Outcome.next ?_, rfl, rfl, ?_,
      congrArg FwSlot.state (slotOf_setSlot_same s.boot.running (fun x => { x with state := .bad }) _)⟩
    · rw [ht]
      exact if_neg hgo
    · rw [hdeep]
      rfl
  case noConfirm =>
    intro h
    refine congrArg Host.Outcome.next ?_
    rw [h]
  case phase =>
    rintro p rfl h1 h2 hdone
    refine congrArg Host.Outcome.next ((if_neg ?_).trans ((if_neg (not_not_intro rfl)).trans ((if_neg ?_).trans (if_pos hdone))))
    · rw [decide_eq_true rfl]
      simp
      omega
    · rintro ⟨h3, -⟩
      omega
  case phaseFailed =>
    rintro p rfl h1
    refine congrArg Host.Outcome.next ((if_neg ?_).trans (if_pos Bool.false_ne_true))
    rw [decide_eq_true rfl]
    simp
    omega

end Sys2Proof.Proofs
end

section
/-! SUPPORT. The register window at a queue pair, at its read-only and reserved offsets, and what completing an entry changes. -/

namespace Sys2Proof.Proofs

open Sys2Proof Sys2Proof.Machine Sys2Proof.Safety Sys2Proof.Laws

theorem setQp_congr {q : Nat} {f g : Qp → Qp} {s : State} (h : f (qpAt s q) = g (qpAt s q)) : setQp q f s = setQp q g s := by
  simp only [setQp, setHost, mmod]
  rw [show mget noQp s.host.qps q = qpAt s q from rfl, h]

theorem fit_eq {n : Nat} {b : Bytes} (h : b.length = n) : fit n b = b := by
  rw [fit, ← h, List.take_left]

theorem flushLaunch_of_nil (n : Nat) {s : State} (h : s.host.launchWaiting = []) : flushLaunch n s = s := by
  cases n with
  | zero => rfl
  | succ n => rw [flushLaunch, h]

/-- The window's writable registers, as offsets. -/
def windowWrites (off : Nat) : Bool :=
  decide (off = 0x008 ∨ off = 0x020 ∨ off = 0x024 ∨ off = 0x028 ∨ off = 0x02C ∨ (0x1000 ≤ off ∧ off < 0x2000) ∨
    (0x2000 ≤ off ∧ off < 0x2030) ∨ off = 0x4000 ∨ (0x4040 ≤ off ∧ off < 0x40E0 ∧ off % 4 = 0) ∨ off = 0x5004)

/-- Read-only and reserved registers ignore a write (R7, R9). -/
theorem writeWindow_ignored {off : Nat} (h : windowWrites off = false) (v : Nat) (s : State) : writeWindow off v s = s := by
  simp only [windowWrites, decide_eq_false_iff_not, not_or] at h
  obtain ⟨h1, h2, h3, h4, h5, h6, h7, h8, h9, h10⟩ := h
  rw [writeWindow, if_neg h1, if_neg h2, if_neg h3, if_neg h4, if_neg h5, if_neg h6, if_neg h7, if_neg h8, if_neg h9, if_neg h10]

theorem writeWindow_qp {q off : Nat} (hq : q < 64) (hoff : off < 64) (v : Nat) (s : State) :
    writeWindow (0x1000 + 64 * q + off) v s = writeQp q off v s := by
  have hpair : (0x1000 + 64 * q + off - 0x1000) / 64 = q := by omega
  have hreg : (0x1000 + 64 * q + off) % 64 = off := by omega
  rw [writeWindow, if_neg (by omega), if_neg (by omega), if_neg (by omega), if_neg (by omega), if_neg (by omega), if_pos (by omega),
    hpair, hreg]

/-- A base of an enabled queue pair written faults it (R553). -/
theorem baseWrite_faults {q : Nat} {s : State} (henable : (qpAt s q).enable = true) (hfault : (qpAt s q).fault = false) (f : Qp → Qp) :
    (qpAt (baseWrite q f s) q).fault = true ∧ (qpAt (baseWrite q f s) q).cause = 3 := by
  have hfaulted : baseWrite q f s = qpFault q 3 (setQp q f s) := if_pos ⟨henable, ne_true_of_eq_false hfault⟩
  rw [hfaulted, qpFault, qpAt_setQp, if_pos rfl]
  exact ⟨rfl, rfl⟩

/-- A size of an enabled queue pair changed faults it (R553). -/
theorem qpConfigure_moved {v : Nat} {x : Qp} (hv : bit v 0 = true) (henable : x.enable = true) (hfault : x.fault = false)
    (hmoved : bits v 7 4 ≠ x.sqLog2 ∨ bits v 11 8 ≠ x.cqLog2) : qpConfigure v x =
      { x with sqLog2 := bits v 7 4, cqLog2 := bits v 11 8, fault := true, cause := 3, entries := [] } :=
  (if_neg (not_not_intro hv)).trans ((if_neg (not_not_intro henable)).trans
    (if_pos ⟨decide_eq_true hmoved, ne_true_of_eq_false hfault⟩))

/-- The function in reset (R587): every queue pair disabled, the packet ring and the MSI-X table at their reset values. -/
def perstLow (s : State) : State :=
  { s with host := { s.host with
      perst := true, qps := [], replies := [], ringDesc := {}, ringRecv := {}, ringLaunch := {}
      msixMask := BitVec.allOnes 96, msixPend := 0, msixTable := [] } }

end Sys2Proof.Proofs
end

section
/-! The statement about the PCIe function. -/

namespace Sys2Proof.Proofs

open Sys2Proof Sys2Proof.Machine Sys2Proof.Safety Sys2Proof.Laws

/-- Settles O55: every register write and every fetch, delivery or completion is read off its branch; an index within its ring is
taken as it is. -/
theorem hostInterface : Obligations.HostInterface := by
  unfold Obligations.HostInterface
  intro q s
  refine ⟨?indices, ?stopped, ?config, ?configured, ?noEntry, ?refused, ?fetched, ?noFetch, ?completed, ?parts, ?delayed, ?noneWaits,
    ⟨perstLow s, rfl, rfl, rfl, fun k => rfl, rfl, rfl, rfl, rfl, rfl, rfl⟩, rfl, ?rings, ?delivered, ?go, ?window⟩
  case indices =>
    intro v hhost hq hruns
    have hopen : ¬ (¬ hostReaches s ∨ 64 ≤ q ∨ ¬ qpRuns (qpAt s q)) := by
      simp [hhost, hruns, hq]
    refine ⟨fun hin hv => ?_, fun hout hv => ?_, fun hin hv => ?_⟩
    all_goals
      refine congrArg Host.Outcome.next ((if_neg hopen).trans ?_)
      rw [Nat.mod_eq_of_lt hv]
    · rw [if_neg (Nat.not_le.mpr hin)]
    · rw [if_pos hout]
    · rw [ringIndex, if_pos hin]
  case stopped =>
    intro v hruns
    have hclosed : ¬ hostReaches s ∨ 64 ≤ q ∨ ¬ qpRuns (qpAt s q) := .inr (.inr (ne_true_of_eq_false hruns))
    exact ⟨congrArg Host.Outcome.next (if_pos hclosed), congrArg Host.Outcome.next (if_pos hclosed)⟩
  case config =>
    exact fun v hhost hq => congrArg Host.Outcome.next
      (if_neg fun h => h.elim (not_not_intro hhost) (Nat.not_le.mpr hq))
  case configured =>
    intro v x
    refine ⟨fun hv => ?_, fun hv hx => ⟨_, (if_neg (not_not_intro hv)).trans (if_pos (ne_true_of_eq_false hx)), ?_⟩,
      fun hv hx hf hmoved => ?_⟩
    · have hoff : qpConfigure v x = { x with sqLog2 := bits v 7 4, cqLog2 := bits v 11 8, enable := false, entries := [] } :=
        if_pos (ne_true_of_eq_false hv)
      rw [hoff]
      exact ⟨rfl, rfl⟩
    · exact ⟨rfl, rfl, rfl, rfl, rfl, rfl, rfl, rfl, rfl, rfl⟩
    · rw [qpConfigure_moved hv hx hf hmoved]
      exact ⟨rfl, rfl, rfl⟩
  case noEntry => exact fun p hmay => congrArg Host.Outcome.next (if_neg (not_not_intro hmay))
  case refused => exact fun e p hmay hbad => congrArg Host.Outcome.next ((if_neg (not_not_intro hmay)).trans (if_pos hbad))
  case fetched =>
    intro e p hmay h32 hmax hcap hlen
    refine congrArg Host.Outcome.next ((if_neg (not_not_intro hmay)).trans ((if_neg ?_).trans ?_))
    · simp only [not_or, not_and, Nat.not_lt]
      exact ⟨h32, hmax, fun hne => hcap.resolve_left hne⟩
    · dsimp only
      rw [fit_eq hlen]
  case noFetch => exact fun e p hmay => congrArg Host.Outcome.next (if_pos (ne_true_of_eq_false hmay))
  case completed =>
    rintro t x e rfl rfl hfound hhost hruns hfull
    refine ⟨_, congrArg Host.Outcome.next ?_, rfl⟩
    have hopen : ¬ (¬ hostReaches (settleReplies q s) ∨ ¬ qpRuns (qpAt (settleReplies q s) q) ∨
        cqFull (qpAt (settleReplies q s) q)) := by
      simp [hhost, hruns, hfull]
    dsimp only
    rw [hfound]
    refine (if_neg hopen).trans (congrArg (fun u => moderate q (emit _ u)) (setQp_congr rfl))
  case parts => exact fun e => ⟨congrArg (Prod.mk _) (List.take_zero), rfl, rfl, fun cap => rfl⟩
  case delayed => exact fun h1 h2 => congrArg Host.Outcome.next (if_pos ⟨h1, h2⟩)
  case noneWaits => exact fun h => congrArg Host.Outcome.next (if_neg fun hyes => absurd h (Nat.ne_of_gt hyes.1))
  case rings =>
    intro v hhost hv
    refine ⟨fun hin => ?_, fun hin => ?_, fun hin hnone => ?_⟩
    all_goals
      refine congrArg Host.Outcome.next ((if_neg (not_not_intro hhost)).trans ?_)
      dsimp only
      rw [Nat.mod_eq_of_lt hv, ringIndex, if_pos hin]
    · rfl
    · rfl
    · exact flushLaunch_of_nil _ hnone
  case delivered =>
    intro len r rest hhost henable hposted hqueue
    have hopen : ¬ (¬ hostReaches s ∨ ¬ s.host.ringDesc.enable ∨ s.host.ringDesc.dev = s.host.ringDesc.host) := by
      simp [hhost, henable, hposted]
    refine ⟨fun hshort => ?_, fun hlong hroom => ⟨_, ?_, rfl⟩⟩
    all_goals
      refine congrArg Host.Outcome.next ((if_neg hopen).trans ?_)
      rw [hqueue]
    · exact if_pos hshort
    · exact (if_neg (Nat.not_lt.mpr hlong)).trans (if_neg (not_not_intro hroom))
  case go =>
    intro v
    refine ⟨fun hv hrec hstage hbusy hdone herr => congrArg Host.Outcome.next (if_pos ⟨hv, hrec, hstage, ?_⟩),
      fun hno => congrArg Host.Outcome.next (if_neg ?_)⟩
    · rintro ⟨hv, -, -, hfree⟩
      exact hno.elim (fun h => Bool.noConfusion (h.symm.trans hv)) hfree
    · simp [hbusy, hdone, herr]
  case window =>
    intro off v hv hal hhost
    have hopen : ¬ (¬ hostReaches s ∨ off % 4 ≠ 0) := fun h => h.elim (not_not_intro hhost) (not_not_intro hal)
    have hwrite : exec (.registerWrite 0 off v) s = .next (writeWindow off v s) := by
      refine congrArg Host.Outcome.next ((if_neg hopen).trans ?_)
      rw [if_pos rfl, Nat.mod_eq_of_lt hv]
    refine ⟨hwrite, fun hro => hwrite.trans (congrArg Host.Outcome.next (writeWindow_ignored ?_ v s)), fun hq hoff henable hfault =>
      ⟨_, hwrite, ?_⟩, fun hvec hoff => ?_⟩
    · simp only [List.mem_cons, List.not_mem_nil, or_false] at hro
      rw [windowWrites, decide_eq_false_iff_not]
      omega
    · rw [hoff, show 0x1000 + 64 * q = 0x1000 + 64 * q + 0 from rfl, writeWindow_qp hq (by decide)]
      exact baseWrite_faults henable hfault _
    · refine congrArg Host.Outcome.next ((if_neg hopen).trans ?_)
      dsimp only
      rw [if_neg (by decide), if_pos rfl, Nat.mod_eq_of_lt hv]
      exact (if_neg (Nat.not_le.mpr hvec)).trans (if_neg hoff)

end Sys2Proof.Proofs
end

section
/-! SUPPORT. The bus map, sessions renewed, lane tests and what the mailbox takes. -/

namespace Sys2Proof.Proofs

open Sys2Proof Sys2Proof.Machine Sys2Proof.Safety Sys2Proof.Laws

theorem slice_take {b : Bytes} {m n : Nat} (h : n ≤ m) : slice (slice b 0 m) 0 n = slice b 0 n := by
  simp only [slice, List.drop_zero, List.take_take, Nat.min_eq_left h]

theorem setFold_congr {f g : FoldBus → FoldBus} {s : State} (h : f s.host.fold = g s.host.fold) : setFold f s = setFold g s := by
  simp only [setFold, setHost, h]

/-! ### The fold bus -/

/-- A frame first sent 2 ms ago or more (R561). -/
def outlived (t : Nat) (o : FoldOut) : Bool :=
  match o.firstSent with
  | some x => decide (x + 2 * ticksPerMs ≤ t)
  | none => false

theorem outlived_eq_false {t : Nat} {o : FoldOut} :
    outlived t o = false ↔ ∀ x, o.firstSent = some x → t < x + 2 * ticksPerMs := by
  rw [outlived]
  cases o.firstSent with
  | none => simp
  | some x => simp

theorem passToken_token {s : State} {n : Nat} (hn : tokenTarget s = some n)
    (hend : max (now s) s.host.fold.busyUntil + foldTime 0 ≤ nextCycleEnd s) : (passToken s).host.fold.token = false := by
  rw [passToken, if_neg (Nat.not_lt.mpr hend), hn]
  rfl

theorem foldHandle_token {s : State} {dest src seq : Nat} {b : Bytes} (hdest : dest = ownStation s) (hphase : inTokenPhase s = true) :
    foldHandle dest src 1 seq b s = holdToken s := by
  refine if_pos ?_
  rw [decide_eq_true hdest, hphase]
  rfl

/-! ### Sessions -/

/-- A session after its KeyUpdate, when that is due (R505). -/
def renewed (t : Nat) (x : Session) : Session :=
  if updateDue t x then { x with records := 0, lastUpdate := t, lastRecord := t } else x

theorem renewed_fresh (t : Nat) (x : Session) :
    (renewed t x).records < 2 ^ 24 ∧ t < (renewed t x).lastUpdate + 3600 * ticksPerSec := by
  rw [renewed]
  split
  case isTrue =>
    have : 0 < ticksPerSec := by decide
    exact ⟨Nat.two_pow_pos 24, by show t < t + _; omega⟩
  case isFalse h =>
    rw [updateDue, decide_eq_true_eq, not_or, Nat.not_le, Nat.not_le] at h
    exact h

theorem foldl_keyUpdate_only (l : List Session) (s : State) : l.foldl (fun t x => emit (.keyUpdate x.mgt x.idx) t) s =
    { s with out := (l.foldl (fun t x => emit (.keyUpdate x.mgt x.idx) t) s).out } :=
  foldl_only (get := State.out) (upd := fun t v => { t with out := v }) (by intros; rfl) (by intros; rfl) (by intros; rfl) _ _

/-- What a management port with MAC, IPv4 and IPv6 addresses `a` answers to a frame that carries no connection, if it answers (R558). -/
def mgtAnswer (a : Bytes × Bytes × Bytes) (b : Bytes) : Option Bytes :=
  if ¬ decide (slice b 0 6 = a.1 ∨ slice b 0 6 = ffs 6 ∨ slice (slice b 0 6) 0 2 = be 2 0x3333) then none
  else if rdB b 12 2 = 0x0806 ∧ a.2.1 ≠ zeros 4 then arpAnswer a.1 a.2.1 b
  else if rdB b 12 2 = 0x0800 ∧ a.2.1 ≠ zeros 4 then echoAnswer a.1 a.2.1 b
  else if rdB b 12 2 = 0x86DD ∧ a.2.2 ≠ zeros 16 then neighbourAnswer a.1 a.2.2 b
  else none

section

variable {m : Nat} {b : Bytes} {s : State}

theorem mgtFrame_answered {f : Bytes} (h : mgtAnswer (mgtAddress s.quire.active (sideB s) m) b = some f) :
    mgtFrame m b s = emit (.mgt m f) s := by
  show (match mgtAnswer (mgtAddress s.quire.active (sideB s) m) b with
    | some f => emit (.mgt m f) s
    | none => mgtDrop m s) = _
  rw [h]

theorem mgtFrame_dropped (h : mgtAnswer (mgtAddress s.quire.active (sideB s) m) b = none) : mgtFrame m b s = mgtDrop m s := by
  show (match mgtAnswer (mgtAddress s.quire.active (sideB s) m) b with
    | some f => emit (.mgt m f) s
    | none => mgtDrop m s) = _
  rw [h]

end

/-! ### The bus matrix -/

theorem busCell_window {off : Nat} (h : off < 0x100000) (s : State) : busCell s (0x20000000 + off) = some (.window off) := by
  rw [busCell, if_pos (by omega), Nat.add_sub_cancel_left]

theorem busRead_window {off : Nat} (h : off < 0x100000) (s : State) :
    busRead (0x20000000 + off) s = (windowValue s off, readEffect off s) := by
  rw [busRead, busCell_window h]

theorem busWrite_window {off : Nat} (h : off < 0x100000) (v : Nat) (s : State) :
    busWrite (0x20000000 + off) v s = writeWindow off v s := by
  rw [busWrite, busCell_window h]

theorem busForm_begun {op : Nat} {r : Req} {s : State} (hal : rd r.params 0 8 % 4 = 0)
    (hcells : ∀ k < rd r.params 8 2, busCell s (rd r.params 0 8 + 4 * k) ≠ none) (h1 : 1 ≤ rd r.params 8 2)
    (h256 : rd r.params 8 2 ≤ 256) (hz : isZero r.params 10 6 = true) : ∀ x ∈ busForm r (begun op r s), x.1 = true := by
  have hcell (a : Nat) : busCell (begun op r s) a = busCell s a := by
    rw [busCell, begun_host, busCell]
  have hreached : ∀ k ∈ List.range (min (rd r.params 8 2) 256), (busCell s (rd r.params 0 8 + 4 * k)).isSome = true :=
    fun k hk => Option.isSome_iff_ne_none.mpr (hcells k (lt_of_lt_of_le (List.mem_range.mp hk) (Nat.min_le_left ..)))
  simp only [busForm, hcell, hz, h1, h256, hal, List.all_eq_true.mpr hreached]
  simp

/-! ### Lane tests -/

theorem testReply_length (s : State) (k op : Nat) : (testReply s k op).length = 24 := by
  simp [testReply]

/-- A lane test that has been answered with its counts kept: one more free value is used. -/
def testDone (s : State) : State := { s with free := s.free + 1 }

/-! ### JTAG -/

/-- An available function in effect. -/
def jtagTaken (f : JtagFn) (s : State) : State :=
  { s with host := { s.host with
    jtag := f
    extest := match f with
      | .extest => true
      | _ => s.host.extest
    halted := match f with
      | .halt c => if s.host.halted.contains c then s.host.halted else s.host.halted ++ [c]
      | .resume c => s.host.halted.filter fun x => decide (x ≠ c)
      | _ => s.host.halted } }

theorem jtagInstruction_available {f : JtagFn} {s : State} (h : jtagAvailable (lifeCycle s) f = true) :
    exec (.jtagInstruction f) s = .next (jtagTaken f s) := by
  refine congrArg Host.Outcome.next ((if_neg (not_not_intro h)).trans ?_)
  cases f <;> rfl

end Sys2Proof.Proofs
end

section
/-! The statement about the internal control plane. -/

namespace Sys2Proof.Proofs

open Sys2Proof Sys2Proof.Machine Sys2Proof.Safety Sys2Proof.Laws

/-- Settles O56: each event and frame is read off its branch; the DIA commands pass their checks and answer with their bodies. -/
theorem controlPlane : Obligations.ControlPlane := by
  unfold Obligations.ControlPlane
  intro r s
  refine ⟨?slot, ?slotSent, ?frame, ?tenure, fun n => passToken_token, ?noToken, ?resumed, ?dropped, ?silence, ?holder, ?poll, ?noPoll,
    ?unacked, ?idle, ?keyUpdate, ?management, ?regRead, fun off h => ⟨busRead_window h s, fun v => busWrite_window h v s⟩, ?regWrite,
    ?loopback, ?selftest, fun m a => ⟨congrArg Host.Outcome.next (if_pos rfl), ?lock⟩, ?remap, ?bypass, ?jtag,
    ⟨rfl, rfl, fun c => rfl⟩, ?mailbox⟩
  case slot =>
    intro hup hfrom hto hsent
    refine congrArg Host.Outcome.next (if_neg ?_)
    simp [hup, Nat.not_lt.mpr hfrom, Nat.not_le.mpr hto, hsent]
  case slotSent => exact fun h => congrArg Host.Outcome.next (if_pos (.inr (.inr (.inr h))))
  case frame =>
    intro b hup
    refine ⟨fun hbad => congrArg Host.Outcome.next ((if_neg (not_not_intro hup)).trans (if_pos hbad)), ?_⟩
    intro t hlen hmax hcrc hsrc hsrc64 hdest hkind hphase _ ht hpolls
    have hgood : ¬ (b.length ≠ 12 + rd b 4 2 ∨ 1536 < rd b 4 2 ∨
        rd b (8 + rd b 4 2) 4 ≠ (crc32c (b.take (8 + rd b 4 2))).toNat) := by
      simp [hlen, Nat.not_lt.mpr hmax, hcrc]
    have hother : ¬ (rd b 1 1 = ownStation s ∨ 64 ≤ rd b 1 1) := not_or.mpr ⟨hsrc, Nat.not_le.mpr hsrc64⟩
    refine congrArg Host.Outcome.next ((if_neg (not_not_intro hup)).trans ((if_neg hgood).trans ((if_neg hother).trans ?_)))
    have hhandled : foldHandle (rd b 0 1) (rd b 1 1) 1 (rd b 6 2) (slice b 8 (rd b 4 2)) t = holdToken t := by
      subst ht
      exact foldHandle_token hdest hphase
    dsimp only
    rw [if_pos hphase, ← ht, hkind, hhandled, hpolls]
  case tenure =>
    intro hup hphase htoken hbusy hnone
    refine congrArg Host.Outcome.next ((if_neg ?_).trans (if_pos (.inr ?_)))
    · simp [hup, hphase, htoken, hbusy]
    · rw [hnone]
      rfl
  case noToken =>
    intro htoken
    refine ⟨congrArg Host.Outcome.next (if_pos (.inr (.inl (ne_true_of_eq_false htoken)))), congrArg Host.Outcome.next (if_neg ?_)⟩
    simp [htoken]
  case resumed =>
    intro hup hphase htoken
    refine congrArg Host.Outcome.next (if_pos ?_)
    rw [hup, hphase, htoken]
    rfl
  case dropped =>
    refine ⟨_, rfl, rfl, fun o => ?_⟩
    show o ∈ s.host.fold.queue.filter (fun o => !outlived (now s) o) ↔ _
    rw [List.mem_filter, Bool.not_eq_true', outlived_eq_false]
  case silence =>
    intro hup hphase htoken hpolls hquiet
    refine congrArg Host.Outcome.next (if_neg ?_)
    simp [hup, hphase, htoken, hpolls, Nat.not_lt.mpr hquiet]
  case holder => exact fun h => congrArg Host.Outcome.next (if_pos (.inr (.inr (.inl h))))
  case poll =>
    intro p rest hp hend hskip
    refine congrArg Host.Outcome.next ?_
    rw [hp]
    refine (if_neg (Nat.not_lt.mpr hend)).trans (congrArg (pollNext rest) (setFold_congr ?_))
    rw [hskip]
    rfl
  case noPoll =>
    intro hp
    refine congrArg Host.Outcome.next ?_
    rw [hp]
  case unacked =>
    refine ⟨_, rfl, fun x => ?_⟩
    rw [List.mem_filter]
    cases x.unackedSince with
    | none => simp
    | some t => simp
  case idle =>
    refine ⟨_, rfl, fun x => ?_⟩
    rw [List.mem_filter, decide_eq_true_eq]
  case keyUpdate =>
    refine ⟨(s.host.sessions.filter (updateDue (now s))).foldl (fun t x => emit (.keyUpdate x.mgt x.idx) t)
      (setSessions (fun l => l.map (renewed (now s))) s), rfl, ?_, fun x hx => ?_⟩
    · rw [foldl_keyUpdate_only]
      rfl
    rw [foldl_keyUpdate_only] at hx
    obtain ⟨y, -, rfl⟩ := List.mem_map.mp hx
    exact renewed_fresh (now s) y
  case management =>
    rintro m b a hm henable hready rfl
    have hnext {i : MgtIn} {t : State} (ht : (match i with
        | .frame b => mgtFrame m b s
        | .connect t good keys lo hi => mgtConnect m t good keys lo hi s
        | .data i n b => mgtData m i n b s
        | .ack i => setSessions (updFirst (isSession m i) fun x => { x with unackedSince := none }) s
        | .close i => closeSession m i s) = t) : exec (.mgtFrameReceive m i) s = .next t := by
      refine congrArg Host.Outcome.next ((if_neg ?_).trans ht)
      simp [hm, henable, hready]
    refine ⟨fun hdst harp hip hop htpa => ⟨_, hnext ?_, rfl⟩, fun hmac hall h6 => hnext ?_, fun i => hnext rfl⟩
    · exact mgtFrame_answered ((if_neg (not_not_intro (decide_eq_true (.inl hdst)))).trans ((if_pos ⟨harp, hip⟩).trans
        (if_pos ⟨hop, htpa⟩)))
    · refine mgtFrame_dropped (if_pos ?_)
      simp [hmac, hall, slice_take (show 2 ≤ 6 by decide), h6]
  case regRead =>
    intro h a n ha hn hlen hal hcells h1 h256 hz
    subst ha hn
    exact ⟨_, command_answers h (checks_ok hlen (busForm_begun hal hcells h1 h256 hz))⟩
  case regWrite =>
    intro h a n ha hn hlen hal hcells h1 h256 hz
    subst ha hn
    refine command_answers h ((if_neg ?_).trans (needForm_ok (busForm_begun hal hcells h1 h256 hz)))
    omega
  case loopback =>
    intro h c l op pat hc hl hop hpat hlen hc3 hlane hop3 hcarries hclear hz
    subst hc hl hop hpat
    have hform : ∀ x ∈ [(decide (rd r.params 0 1 ≤ 3), 0), (decide (rd r.params 1 1 < classLanes (rd r.params 0 1)), 1),
        (decide (rd r.params 2 1 ≤ 3), 2), (decide (rd r.params 2 1 = 0) ||
          carriesPattern (begun 0x1301 r s).quire.active (rd r.params 0 1) (rd r.params 1 1) (rd r.params 3 1), 3),
        (decide (rd r.params 4 1 ≤ 1), 4), (isZero r.params 5 3, 5)], x.1 = true := by
      simp [hc3, hlane, hop3, hcarries, hclear, hz]
    have hkept : bit (rd r.params 4 1) 0 = false := by
      rw [hclear]
      rfl
    have hbody {a : Ans} (ha : (if rd r.params 0 1 = 0 then
        mediaLoop (rd r.params 1 1) (rd r.params 2 1) (rd r.params 3 1) false (begun 0x1301 r s)
        else okay (testDone (laneTest (rd r.params 0 1) (rd r.params 1 1) (rd r.params 2 1) (rd r.params 3 1) (begun 0x1301 r s)))
          (testReply (laneTest (rd r.params 0 1) (rd r.params 1 1) (rd r.params 2 1) (rd r.params 3 1) (begun 0x1301 r s))
            (256 * rd r.params 0 1 + rd r.params 1 1) (rd r.params 2 1))) = a) (hnow : a.later = none := by rfl) :
        exec (.diaLoopback r) s = .next (answered 0x1301 r a) := by
      refine command_answers h ((checks_ok hlen hform).trans ?_) hnow
      rw [hkept]
      exact ha
    exact ⟨fun hmedia => hbody (if_pos hmedia), fun hother => ⟨_, _, hbody (if_neg hother), testReply_length .., rfl⟩⟩
  case selftest =>
    intro h item g hitem hg hlen h8 hgroup hz
    subst hitem hg
    have hform : ∀ x ∈ [(decide (rd r.params 0 1 ≤ 8), 0),
        (decide (if rd r.params 0 1 = 8 then rd r.params 1 1 < 4 else rd r.params 1 1 = 0), 1), (isZero r.params 2 6, 2)],
        x.1 = true := by
      simp [h8, hgroup, hz]
    refine ⟨fun hfree => ⟨Config.freeNat s.free % 3, _, Nat.mod_lt _ (by decide), rfl,
      command_answers h ((checks_ok hlen hform).trans (if_neg ?_))⟩,
      fun hitem e he hg => command_answers h ((checks_ok hlen hform).trans (if_pos ⟨hitem, ?_⟩))⟩
    · rintro ⟨hitem, hany⟩
      obtain ⟨e, he, hg⟩ := List.any_eq_true.mp hany
      exact hfree.elim (· hitem) fun hno => hno e he (of_decide_eq_true hg)
    · exact List.any_eq_true.mpr ⟨e, he, decide_eq_true hg⟩
  case lock =>
    intro ha
    refine congrArg Host.Outcome.next ((if_neg Bool.false_ne_true).trans ?_)
    rw [Nat.mod_eq_of_lt ha]
  case remap => exact fun h => congrArg Host.Outcome.next (if_neg (ne_true_of_eq_false h))
  case bypass => exact fun f h => congrArg Host.Outcome.next (if_pos (ne_true_of_eq_false h))
  case jtag => exact fun f h => ⟨_, jtagInstruction_available h, rfl, rfl⟩
  case mailbox =>
    intro w hmay
    exact ⟨fun hpart => congrArg Host.Outcome.next ((if_neg (not_not_intro hmay)).trans (if_pos hpart)),
      fun hwhole => congrArg Host.Outcome.next ((if_neg (not_not_intro hmay)).trans (if_neg (Nat.not_lt.mpr hwhole)))⟩

end Sys2Proof.Proofs
end

section
/-! SUPPORT. Voltage steps, the load that the governor admits next, and the boundary at which it does. -/

namespace Sys2Proof.Proofs

open Sys2Proof Sys2Proof.Machine Sys2Proof.Safety Sys2Proof.Laws

/-- A request never moves the voltage by more than 10 mV (R577). -/
theorem nextMv_near (s : State) : nextMv s ≤ s.power.requestedMv + 10 ∧ s.power.requestedMv ≤ nextMv s + 10 := by
  rw [nextMv]
  split <;> omega

theorem nextLoad_of_slewing {s : State} (h : slewing s = true) : nextLoad s = none := if_pos h

/-- The load admitted next waits, and its rises fit with those already admitted (R581). -/
theorem nextLoad_fits {s : State} {l : Load} (h : nextLoad s = some l) :
    l ∈ s.power.waiting ∧ risesFit (s.power.admitted ++ admittedAs s l) = true := by
  rw [nextLoad] at h
  split at h
  case isTrue => exact nomatch h
  case isFalse =>
    have hfits := List.find?_some h
    rw [Bool.and_eq_true] at hfits
    exact ⟨List.mem_mergeSort.mp (List.mem_of_find?_eq_some h), hfits.2⟩

theorem governorAdmission_none {s : State} (h : nextLoad s = none) : exec .governorAdmission s = .next s := by
  refine congrArg Host.Outcome.next ?_
  rw [h]
  exact ite_self _

/-- A request is on its way: the time of it is kept. -/
def avsSent (s : State) : State := emit (.avs (nextMv s)) { s with power := { s.power with lastRequest := some (now s) } }

/-- Whether a voltage request has to wait, or none is to be made (R577). -/
def avsHeld (s : State) : Prop :=
  s.power.avsFailed ∨ ¬ s.boot.ready ∨
    (match s.power.lastRequest with
      | some t => decide (now s < t + ticksPerMs)
      | none => false) = true ∨ ramping s ∨ nextMv s = s.power.requestedMv

theorem not_avsHeld {s : State} (hfailed : s.power.avsFailed = false) (hready : s.boot.ready = true)
    (hlast : ∀ t, s.power.lastRequest = some t → t + ticksPerMs ≤ now s) (hramp : ramping s = false)
    (hmoves : nextMv s ≠ s.power.requestedMv) : ¬ avsHeld s := by
  rintro (h | h | h | h | h)
  · exact Bool.noConfusion (hfailed.symm.trans h)
  · exact h hready
  · cases hreq : s.power.lastRequest with
    | none => simp [hreq] at h
    | some t =>
      rw [hreq] at h
      exact absurd (of_decide_eq_true h) (Nat.not_lt.mpr (hlast t hreq))
  · exact Bool.noConfusion (hramp.symm.trans h)
  · exact hmoves h

/-- The sensors as read, and what follows from the hottest of them (R585). -/
def thermalRead (temps : List Int) (s : State) : State :=
  { s with power := { s.power with
      temps := temps.zipIdx.map fun x => (x.2, x.1)
      boosted := boostNow (temps.foldl max (-128)) s.power.boosted
      thermalHold := (s.power.thermalHold || decide (upperLimit + 10 ≤ temps.foldl max (-128))) &&
        decide (upperLimit < temps.foldl max (-128)) } }

theorem thermalThreshold_running {temps : List Int} {s out : State} (hrun : s.boot.inReset = false)
    (hout : (if (hottest s).getD (-128) < upperLimit + 10 ∧ upperLimit + 10 ≤ temps.foldl max (-128) then
        raise 1249 (hottestSensor temps) ((temps.foldl max (-128)) % 4294967296).toNat
          (if (hottest s).getD (-128) < upperLimit - 5 ∧ upperLimit - 5 ≤ temps.foldl max (-128) then
            raise 1248 (hottestSensor temps) ((temps.foldl max (-128)) % 4294967296).toNat (thermalRead temps s)
          else thermalRead temps s)
      else
        if (hottest s).getD (-128) < upperLimit - 5 ∧ upperLimit - 5 ≤ temps.foldl max (-128) then
          raise 1248 (hottestSensor temps) ((temps.foldl max (-128)) % 4294967296).toNat (thermalRead temps s)
        else thermalRead temps s) = out) : exec (.thermalThreshold temps) s = .next out :=
  congrArg Host.Outcome.next ((if_neg (ne_true_of_eq_false hrun)).trans hout)

end Sys2Proof.Proofs
end

section
/-! The statement about supplies and temperatures. -/

namespace Sys2Proof.Proofs

open Sys2Proof Sys2Proof.Machine Sys2Proof.Safety Sys2Proof.Laws

/-- Settles O57: requests, monitors and thresholds are read off their branches; an admitted load is the one that the governor's
search finds. -/
theorem powerEvents : Obligations.PowerEvents := by
  unfold Obligations.PowerEvents
  intro s
  refine ⟨?request, nextMv_near s, ?held, ?admitted, governorAdmission_none, ?slews, ?trips, ?noTrip, ?levels, ?aon, ?restored,
    ⟨_, rfl, rfl, rfl, rfl, rfl, rfl, rfl⟩, ?thermal⟩
  case request =>
    intro ack slew hfailed hready hlast hramp hmoves
    have hgo := not_avsHeld hfailed hready hlast hramp hmoves
    refine ⟨avsSent s, rfl, ?_, ?_, ?_⟩
    · rintro rfl
      exact congrArg Host.Outcome.next ((if_neg hgo).trans (if_pos rfl))
    · rintro rfl htries
      exact congrArg Host.Outcome.next ((if_neg hgo).trans ((if_neg Bool.false_ne_true).trans (if_pos htries)))
    · rintro rfl htries
      exact congrArg Host.Outcome.next ((if_neg hgo).trans ((if_neg Bool.false_ne_true).trans (if_neg (Nat.not_lt.mpr htries))))
  case held =>
    exact fun ack slew h => congrArg Host.Outcome.next
      (if_pos (h.elim .inl fun hramp => .inr (.inr (.inr (.inl hramp)))))
  case admitted =>
    intro l hrun hboundary hl
    refine ⟨s.power.admitted.filter (fun a => decide (now s ≤ a.time + a.ramp + 100 * ticksPerUs)) ++ admittedAs s l,
      congrArg Host.Outcome.next ((if_neg ?_).trans ?_), nextLoad_fits hl⟩
    · rw [hrun, hboundary]
      simp
    · rw [hl]
      rfl
  case slews =>
    intro t ht hearly
    refine governorAdmission_none (nextLoad_of_slewing ?_)
    rw [slewing, ht]
    exact decide_eq_true hearly
  case trips =>
    intro rail mv hrail htrip hrun
    exact ⟨_, congrArg Host.Outcome.next ((if_neg (Nat.ne_of_lt hrail)).trans ((if_pos htrip).trans
      (if_neg (ne_true_of_eq_false hrun)))), rfl, rfl⟩
  case noTrip =>
    exact fun rail mv hrail hno => congrArg Host.Outcome.next ((if_neg (Nat.ne_of_lt hrail)).trans
      (if_neg (ne_true_of_eq_false hno)))
  case levels =>
    intro mv
    refine ⟨decide_eq_true_iff, ?_⟩
    have hlevel : monitorTrips s 4 mv = decide (4 < 9 ∧ mv * 100 < 1800 * 92) := rfl
    rw [hlevel, decide_eq_true_iff]
    omega
  case aon =>
    intro mv hmv
    have hlow : mv * 100 < 95 * railNominal 9 := by
      show mv * 100 < 95 * 800
      omega
    exact ⟨_, congrArg Host.Outcome.next ((if_pos rfl).trans (if_pos hlow)), rfl, rfl⟩
  case restored =>
    intro l hl
    refine ⟨_, congrArg Host.Outcome.next (if_neg (not_not_intro ?_)), rfl, rfl⟩
    exact List.all_eq_true.mpr fun r hr => decide_eq_true (hl r (List.mem_range.mp hr))
  case thermal =>
    rintro temps t hrun rfl
    refine ⟨thermalRead temps s, rfl, fun hcool => thermalThreshold_running hrun ?_, fun hold h1 h2 => thermalThreshold_running hrun ?_,
      fun hold h1 h2 => thermalThreshold_running hrun ?_⟩
    · rw [if_neg (by omega), if_neg (by omega)]
    · rw [if_neg (by omega), if_pos ⟨hold, h1⟩]
    · rw [if_pos ⟨h1, h2⟩, if_neg (by omega)]

end Sys2Proof.Proofs
end
